-- ==== Sys2Proof/Word.lean ====
section
/-! DEFINITION. The plain words the model is written in: bytes, text, times and the small index types. -/

namespace Sys2Proof

/-- One byte of a payload, a key or a record. -/
abbrev Byte := BitVec 8

/-- Text as the host port carries it: a list of ASCII characters (11 R578). -/
abbrev Text := List Char

/-- A count of the 1 µs tick (13 R694), or a node time in µs (00 Glossary). -/
abbrev Tick := Nat

/-- A channel number CH000–CH127 (00 R3). -/
abbrev Ch := Fin 128

/-- A group number G00–G31 (04 R236). -/
abbrev Grp := Fin 32

/-- A node of a watch, N0–N7 (06 R401). -/
abbrev NodeNo := Fin 8

/-- A front-end die FE0–FE7 (01 R15). -/
abbrev Die := Fin 8

/-- An engineer ENG01–ENG16, counted from 0 (05 R270). -/
abbrev Eng := Fin 16

/-- A call unit CU01–CU64, counted from 0 (05 R271). -/
abbrev Unit64 := Fin 64

/-- A member number of G31 (04 R250). -/
abbrev Member := Fin 19

/-- A loop output LX1–LX8, counted from 0 (07). -/
abbrev Lx := Fin 8

/-- A script S00–S15 (11 R618). -/
abbrev Script := Fin 16

end Sys2Proof
end

