-- ==== Sys2Proof/Syntax.lean ====
section
/-! DEFINITION. The commands of the block: the operand types and the one inductive Instr, one constructor per row of
spec/opcode_table.json in the table's order. No row gives bits, so the operands are those that the rules name. -/

namespace Sys2Proof

/-- The two variants (00 R3). -/
inductive Part where
  | ev128 | ev064
deriving DecidableEq, Repr

/-- The two buses CANA and CANB (06). -/
inductive Bus where
  | canA | canB
deriving DecidableEq, Repr

/-- The conditions in their number order 0–8 (04 R200). -/
inductive Cond where
  | hihi | hi | lo | lolo | fault | dark | dim | stuck | char
deriving DecidableEq, Repr

/-- The five memory banks, numbered 0–4 in this order (14 R738, R770). -/
inductive Bank where
  | engine | interp | link | stage | image
deriving DecidableEq, Repr

/-- The roles in their nesting order (12 R638). -/
inductive Role where
  | observer | operator | engineer | custodian
deriving DecidableEq, Repr

/-- Where a command line comes from: the host port, a remote console, or a running script (09 R481, 11 R621). -/
inductive Sess where
  | host
  | console (k : Fin 16)
  | script (n : Script)
deriving DecidableEq, Repr

/-- The clock domains (13 R696). -/
inductive Domain where
  | engine | link | store | panel
deriving DecidableEq, Repr

/-- Clocks that MEASURE CLOCK names (13 R724). -/
inductive ClkName where
  | xo | irc | lpo | pll
  | ch (c : Ch)
deriving DecidableEq, Repr

/-- Blocks that RESET BLOCK names (15 R786). -/
inductive BlockName where
  | can (b : Bus) | panel | logw
  | lx (n : Lx)
  | ch (c : Ch)
deriving DecidableEq, Repr

/-- Wake sources, bits 0–4 of DEEP.WAKE, and a trip (15 R801, R804). -/
inductive WakeSource where
  | host | canA | canB | cond | timer | trip
deriving DecidableEq, Repr

/-- The two espresso comparators of a channel (02 R110). -/
inductive Side where
  | hi | lo
deriving DecidableEq, Repr

/-- The settings of TRIP_THRESHOLD_WRITE (02 R115). -/
inductive TripSet where
  | hi | lo | span
deriving DecidableEq, Repr

/-- The settings of LAMP_TIMING_WRITE (03 R190). -/
inductive TimingSet where
  | onlate | edgetol | lamptype
deriving DecidableEq, Repr

/-- The settings of CAN_BIT_TIMING_WRITE (06 R328). -/
inductive BitSet where
  | nom | data | nsp | dsp
deriving DecidableEq, Repr

/-- The settings of PANEL_DRIVE_WRITE (08 R473). -/
inductive DriveSet where
  | frame | vlcd | vhv | bchline
deriving DecidableEq, Repr

/-- The keys of KEY_WRITE: a role key or a unit key (12 R655). -/
inductive KeyName where
  | operator | engineer | custodian
  | unit (u : Unit64)
deriving DecidableEq, Repr

/-- Settings of a channel, in the order of the tables R136, R198, R268 and R687. -/
inductive ChSet where
  | mode | range | rate | eol | floor | eng0 | eng1 | unit | tripspan | triphi | triplo | fast
  | char | lampsup | acnom | lamptype | onlate | edgetol | learn | baseset | darkfrac | dimfrac | darkmin | darkmax
  | grp | safe
deriving DecidableEq, Repr

/-- Settings of a condition (04 R268). -/
inductive CondSet where
  | set | hyst | steep | unsteep | en
deriving DecidableEq, Repr

/-- Settings of a group (04 R268). -/
inductive GrpSet where
  | name | class_ | delay | inhib | line | firstout
deriving DecidableEq, Repr

/-- Settings of the caller that stand alone (05 R319). -/
inductive CallSet where
  | tz | t1 | t2 | tmax | repeat_ | attend
deriving DecidableEq, Repr

/-- Settings of the dead-man timer (05 R319). -/
inductive DeadSet where
  | en | period | warn | pmax
deriving DecidableEq, Repr

/-- Settings of a bus (06 R401). -/
inductive CanSet where
  | nom | data | nsp | dsp | brs | listen | busoff | recover
deriving DecidableEq, Repr

/-- Settings of a loop output (07 R437). -/
inductive LxSet where
  | src | low | high | hostval | trim4 | trim20 | force
deriving DecidableEq, Repr

/-- Settings of the panel (08 R478). -/
inductive PanelSet where
  | type | frame | vlcd | vhv | bchline | bl | test
deriving DecidableEq, Repr

/-- Settings of the host port (10 R576). -/
inductive HpSet where
  | echo | crc | attn
deriving DecidableEq, Repr

/-- Clock settings (13 R736). -/
inductive ClockSet where
  | xofreq | src | xoreturn | panel | sscDepth | sscMin | sscRate
deriving DecidableEq, Repr

/-- Power and reset settings (15 R808). -/
inductive PowerSet where
  | mode | deepRate | deepWake | deepPeriod | deepReturn | resetWde | resetWdi
deriving DecidableEq, Repr

/-- Every setting name of the node (11 Setting index). -/
inductive SettingId where
  | ch (c : Ch) (f : ChSet)
  | cond (c : Ch) (k : Cond) (f : CondSet)
  | grp (g : Grp) (f : GrpSet)
  | alMode (n : Fin 16)
  | shelveMax
  | engName (n : Eng)
  | engUnits (n : Eng)
  | cuKind (u : Unit64)
  | duty (k : Fin 42)
  | call (f : CallSet)
  | co (n : Fin 8)
  | deadman (f : DeadSet)
  | watchNode
  | watchNodes
  | can (b : Bus) (f : CanSet)
  | canFilter (b : Bus) (k : Fin 16)
  | lx (n : Lx) (f : LxSet)
  | panel (f : PanelSet)
  | panelSeg (k : Fin 8) (m : Fin 80)
  | logCopy
  | hp (f : HpSet)
  | scriptLine (n : Script) (l : Fin 64)
  | secRemreset
  | secTimeout
  | secDebug
  | key (k : KeyName)
  | clock (f : ClockSet)
  | memPower (b : Bank)
  | memSysmarch
  | power (f : PowerSet)
deriving DecidableEq, Repr

/-- Read-only values of a channel (02 R138, 03 R199). -/
inductive ChRo where
  | value | code | status | live | rss | tj | line | base | tdark | lock | nexton | acfreq
deriving DecidableEq, Repr

/-- Every read-only value of the node. -/
inductive RoId where
  | ch (c : Ch) (f : ChRo)
  | again (c : Ch) (bit : Fin 12)
  | condState (c : Ch) (k : Cond)
  | condShelf (c : Ch) (k : Cond)
  | grpState (g : Grp)
  | grpFirst (g : Grp)
  | grpCall (g : Grp)
  | g31State (m : Member)
  | alLevel (n : Fin 16)
  | callDuty
  | cuState (u : Unit64)
  | deadmanLeft
  | nodePart | nodeFe | nodeSerial
  | canState (b : Bus) | canTec (b : Bus) | canRec (b : Bus) | canTiming (b : Bus) | canWdrop (b : Bus) | canRxlost (b : Bus)
  | watchLead | watchHeard | watchView | watchSkip
  | lxState (n : Lx) | lxOut (n : Lx) | lxTermv (n : Lx)
  | panelState | panelStatus | panelVhvmeas
  | logCount | logCapacity | logRefused (c : Fin 7) | logDropped | logSectors | logClearing
  | hpMode | hpBaud | hpLast | hpEvents
  | scriptState (n : Script) | scriptLast (n : Script)
  | configGen | configSaved
  | secKeysw | secStatus | secLock (r : Fin 3) | secFails (r : Fin 3) | partGen | partUsed
  | domSrc (d : Fin 5) | domEn (d : Fin 5) | sscNow | xoCount | clockStatus
  | memState (b : Bank) | memSbe (b : Bank) | memStatus | memLast
  | rstcause | resetLast | resetIdle (b : BlockName) | powerVsup
  | setcollLast
deriving DecidableEq, Repr

/-- A name that GET resolves: a setting or a read-only value (11 R602). -/
inductive Name where
  | setting (i : SettingId)
  | ro (i : RoId)
deriving DecidableEq, Repr

/-- The flags that CLEAR STATUS names (16 "Flags: set against clear"). -/
inductive FlagName where
  | ch (c : Ch) (bit : Fin 12)
  | panel (bit : Fin 3)
  | logFull | storFault
  | hp (bit : Fin 8)
  | sec (bit : Fin 4)
  | clkFail | swHang | sscPin | lpoFail
  | mem (b : Bank)
  | pwrWarn | rstcause | idClash | setColl
deriving DecidableEq, Repr

/-- Targets of ACK, SHELVE, UNSHELVE, DISABLE and ENABLE (04 R224–R232). -/
inductive Target where
  | cond (c : Ch) (k : Cond)
  | ch (c : Ch)
  | grp (g : Grp)
  | member (m : Member)
  | all
deriving DecidableEq, Repr

/-- The position of LOG READ: a number as written, or LAST (09 R519). -/
inductive LogPos where
  | at_ (digits : Text)
  | last
deriving DecidableEq, Repr

/-- What reaches the interpreter with a command line besides its words: the session, the line's characters up to the space
before a line check, the check's digits as a byte (11 R590), the tag as received (11 R589), whether a character had a framing
error (10 R552), whether the words break the verb's form (11 R631 E01), and whether its latch point falls in the engine cycle
of the command served just before it (04 R225, 16 R812). -/
structure LineHdr where
  sess : Sess
  text : Text := []
  tag : Option Text := none
  check : Option Byte := none
  corrupt : Bool := false
  badForm : Bool := false
  sameCycle : Bool := false
deriving DecidableEq, Repr

/-- Weighted means of what the modulator finds at the terminals over one conversion period (02 R42, R44, R47, R54): the
quantity in terminal units (mA, V, mV), the two RTD voltages in V and the CONT resistance in ohm. -/
structure Means where
  quantity : Rat := 0
  vSense : Rat := 0
  vLead : Rat := 0
  ohm : Rat := 0
deriving DecidableEq, Repr

/-- What the converter finds over a conversion period (02 R54, R73, R79): the means with the weight that falls over the
period, which its own code takes, and those with the weight that rises over it, which the next code takes; whether the
period holds a saturation event, the change of the reading with and without the pull-up in mV, and whether the RTD
excitation flows at its set value; and the slice's junction temperature in °C (02 R99). -/
structure Reading where
  own : Means := {}
  next : Means := own
  saturated : Bool := false
  pullMv : Rat := 0
  excitationOk : Bool := true
  tj : Int := 25
deriving DecidableEq, Repr

/-- What a loop meets at its supply: the compliance it needs at the present current and the supply VSUP, in mV
(02 R89, R90, R98). -/
structure LoopLoad where
  needMv : Nat
  vsupMv : Nat
deriving DecidableEq, Repr

/-- A word of a bank as it stands in the cells: 32 data bits and 7 check bits (14 R742). -/
structure RawWord where
  data : BitVec 32
  check : BitVec 7
deriving DecidableEq, Repr

/-- What the march test reports of its first mismatch (14 R753, R764). -/
structure MarchFail where
  word : Nat
  data : BitVec 32
  check : BitVec 7
deriving DecidableEq, Repr

/-- One logbook record less its CRC, which is computed (09 R480). Bytes 20–27 are `detail`, byte 20 lowest. -/
structure Record where
  time : BitVec 64
  source : BitVec 16
  code : BitVec 16
  value : BitVec 32
  flags : BitVec 16
  seq : BitVec 16
  detail : BitVec 64
deriving DecidableEq, Repr

/-- The parts of a received Pysel frame that decide whether it is taken (06 R329, R332, R337): the bus, the class bits,
the source node, the sequence number and the data length; and its bit-rate-switch and error-state bits (R321). Reserved
bits and bytes are 0, as every sender writes them (R334). -/
structure RxHdr where
  bus : Bus
  cls : Nat
  src : NodeNo
  seq : BitVec 16
  len : Nat
  brs : Bool
  esi : Bool
deriving DecidableEq, Repr

/-- HEARTBEAT bytes 2–15 (06 R334). -/
structure HeartbeatBody where
  part : Part
  ready : Bool
  restart : Bool
  rebuild : Bool
  lead : Bool
  deadmanWarning : Bool
  hears : BitVec 8
  leadSeen : BitVec 8
  serialTail : BitVec 16
  time : Tick
deriving DecidableEq, Repr

/-- CALL detail and bytes 2–31 (06 R332, R334). Engineers are 1–16, 0 for none. -/
structure CallBody where
  node : NodeNo
  grp : Grp
  state : Nat
  cls : Nat
  duty : Nat
  next : Nat
  isRepeat : Bool
  stage : Nat
  refresh : Bool
  resumed : Bool
  ringing : BitVec 64
  start : Tick
  timerEnd : Tick
deriving DecidableEq, Repr

/-- What an ALARM_STATE frame speaks of (06 R333). -/
inductive AlarmKey where
  | cond (c : Ch) (k : Cond)
  | grp (g : Grp)
  | member (m : Member)
  | reserved
deriving DecidableEq, Repr

/-- ALARM_STATE detail and bytes 2–15 (06 R334). -/
structure AlarmBody where
  key : AlarmKey
  state : Nat
  condTrue : Bool
  firstOut : Bool
  ackBit : Bool
  refresh : Bool
  code : Int
  time : Tick
deriving DecidableEq, Repr

/-- ACK detail and bytes 2–15 (06 R334). -/
structure AckBody where
  node : NodeNo
  target : Option Target
  origin : Nat
  originNo : Nat
  latch : Tick
deriving DecidableEq, Repr

/-- TIME bytes 2–15 (06 R334), and how many µs ago this receiver saw the frame's start (R361). -/
structure TimeBody where
  hostSet : Bool
  prevSeq : BitVec 16
  prevTime : Tick
  ageUs : Tick
deriving DecidableEq, Repr

/-- A CALL_UNIT frame (06 R366). Node 0xFF and group 0xFF mean none. -/
structure UnitFrame where
  bus : Bus
  unit : Unit64
  cls : Nat
  len : Nat
  counter : BitVec 32
  key : BitVec 8
  node : BitVec 8
  grp : BitVec 8
  flags : BitVec 8
  mac : BitVec 32
  brs : Bool
  esi : Bool
deriving DecidableEq, Repr

/-- A CONSOLE frame from a console (06 R372, R373). -/
structure ConsoleFrame where
  bus : Bus
  node : NodeNo
  console : Fin 16
  cls : Nat
  len : Nat
  segment : BitVec 8
  counter : BitVec 32
  last : Bool
  mac : BitVec 64
  data : List Byte
  brs : Bool
  esi : Bool
deriving DecidableEq, Repr

/-- A CAN frame as a bus carries it (06 R321, R382): `esi` is the error state indicator of an FD frame, set by a sender that is
error passive. -/
structure RawFrame where
  ext : Bool
  id : Nat
  fd : Bool
  brs : Bool
  esi : Bool
  rtr : Bool
  data : List Byte
deriving DecidableEq, Repr

/-- What else falls in the engine cycle of a command (04 R247, R259, R260, 05 R308): the dies whose valid frames the engine
reads in it, the group delays that end in it, and the accepts of call units in it. -/
structure Mates where
  dies : List Die := []
  delays : List (Ch × Cond) := []
  accepts : List UnitFrame := []
deriving DecidableEq, Repr

/-- What a check pass of the partition finds (12 R674–R676): a word of the working copy, as it stands in its cells, or a CRC
that is not that of the image in force. -/
inductive CheckFinding where
  | clean
  | singleBit (word : BitVec 16) (raw : RawWord)
  | doubleBit (word : BitVec 16) (raw : RawWord)
  | crcMismatch
deriving DecidableEq, Repr

/-- The commands, one constructor per row of the table of operations and events. -/
inductive Instr where
  /-- GET (R602): Returns one data line per named value, all from the snapshot taken at the line's latch point. -/
  | get (h : LineHdr) (names : List (Option Name))
  /-- SET (R603): Writes one setting that has no row of its own, through the settings store, after role, range and order checks. -/
  | set (h : LineHdr) (name : Option Name) (value : Text)
  /-- SHOW (R604): Returns every setting and read-only value whose name begins with the target. -/
  | show (h : LineHdr) (target : Text) (from_ : Option Text)
  /-- SAVE (R609): Snapshots the live settings at the latch point and programs them into the older configuration image slot with the next generation number. -/
  | save (h : LineHdr)
  /-- SAVE_COMPLETE (R611): The image programmed by SAVE has verified, or has failed to verify with E17; the reply follows. -/
  | saveComplete (verified : Bool)
  /-- LOAD (R616): Applies the configuration image in force to the live settings, one write at a time in the stated order, and reports each refusal. -/
  | load (h : LineHdr)
  /-- LOAD_DEFAULTS (R615): Applies the default of every configuration setting, script lines included, without writing the array. -/
  | loadDefaults (h : LineHdr)
  /-- RUN (R621): Starts executing the saved text of script Sxx with the role of the session that sent RUN. -/
  | run (h : LineHdr) (script : Option Script)
  /-- SCRIPT_LINE (R621): The interpreter takes the next non-empty script line at its own latch point; a status other than OK stops the script. -/
  | scriptLine
  /-- STOP (R626): Ends a running script after its line in progress. -/
  | stop (h : LineHdr) (script : Option Script)
  /-- TIME (R605): Returns node time in calendar form and as a count of microseconds. -/
  | time (h : LineHdr)
  /-- TIME_SET (R605): Sets node time, which is refused with E18 at a node that is not lead. -/
  | timeSet (h : LineHdr) (value : Text)
  /-- STATUS (R606): Returns part, serial number, node number, lead, session role and the node-level flags. -/
  | status (h : LineHdr)
  /-- HELP (R607): Lists the verbs, or the forms of one verb. -/
  | help (h : LineHdr) (verb : Option Text)
  /-- ACK (R224): Acknowledges every ACTIVE_UNACK or RETURN_UNACK alarm of the target whose occurrence began before the latch point. -/
  | ack (h : LineHdr) (node : Option NodeNo) (target : Option Target) (m : Mates)
  /-- SHELVE (R227): Shelves every alarm of the target for the given number of minutes. -/
  | shelve (h : LineHdr) (target : Option Target) (minutes : Option Text)
  /-- UNSHELVE (R229): Ends the shelving of every shelved alarm of the target under the exit rule. -/
  | unshelve (h : LineHdr) (target : Option Target)
  /-- DISABLE (R231): Writes EN OFF for every condition of the target in ascending order and stops at the first refusal. -/
  | disable (h : LineHdr) (target : Option Target)
  /-- ENABLE (R231): Writes EN ON for every condition of the target in ascending order and stops at the first refusal. -/
  | enable (h : LineHdr) (target : Option Target)
  /-- CLEAR_STATUS (R120): Clears a flag's latched bit and AGAIN counter, only while its live cause is false. -/
  | clearStatus (h : LineHdr) (flag : Option FlagName) (setNow : Bool)
  /-- ACK_DEADMAN (R302): Confirms the dead-man timer, restarts its period in full and ends any warning. -/
  | ackDeadman (h : LineHdr)
  /-- LOGIN (R639): Returns the session to OBSERVER and issues a fresh 16-byte nonce for the requested role. -/
  | login (h : LineHdr) (role : Option Role)
  /-- PROVE (R641): Checks the HMAC proof over the nonce and serial number, then grants the role or counts a failure. -/
  | prove (h : LineHdr) (groups : List Text)
  /-- LOGOUT (R652): Ends the session; the port or console returns to OBSERVER. -/
  | logout (h : LineHdr)
  /-- LOG_READ (R519): Returns up to 40 log records programmed by the latch point. -/
  | logRead (h : LineHdr) (pos : LogPos) (count : Option Text)
  /-- LOG_CLEAR (R506): Releases the old log, erases sector 0 in the foreground, programs records 1 to 3 and starts the background erase of sectors 1 to 7. -/
  | logClear (h : LineHdr)
  /-- LOG_STATUS (R522): Returns the logbook read-only values. -/
  | logStatus (h : LineHdr)
  /-- CAN_TAKE_TX (R381): Returns a FREE raw transmit entry, now OWNED, or E11. -/
  | canTakeTx (h : LineHdr) (bus : Option Bus)
  /-- CAN_TAKE_RX (R389): Returns the oldest unowned received frame and marks it owned, or reports EMPTY. -/
  | canTakeRx (h : LineHdr) (bus : Option Bus)
  /-- CAN_SEND (R382): Queues a raw frame in an owned entry, which becomes PENDING. -/
  | canSend (h : LineHdr) (bus : Option Bus) (entry : Option (Fin 32)) (args : List Text)
  /-- CAN_DONE_TX (R380): Releases host ownership of a raw transmit entry. -/
  | canDoneTx (h : LineHdr) (bus : Option Bus) (entry : Option (Fin 32))
  /-- CAN_DONE_RX (R389): Frees a raw receive entry. -/
  | canDoneRx (h : LineHdr) (bus : Option Bus) (entry : Option (Fin 64))
  /-- CAN_CANCEL (R386): Cancels a raw transmit entry, or records the cancel, according to its state. -/
  | canCancel (h : LineHdr) (bus : Option Bus) (entry : Option (Fin 32))
  /-- CAN_STATUS (R599): Returns the state of a raw transmit entry. -/
  | canStatus (h : LineHdr) (bus : Option Bus) (entry : Option (Fin 32))
  /-- RESET_CORE (R778): Requests a CORE reset, which starts within 1 ms of the end of the status line. -/
  | resetCore (h : LineHdr)
  /-- RESET_SYSTEM (R778): Requests a SYSTEM reset, which starts within 1 ms of the end of the status line. -/
  | resetSystem (h : LineHdr)
  /-- RESET_BLOCK (R786): Resets one block (CANx, PANEL, LOGW, LXn or CHnnn) alone. -/
  | resetBlock (h : LineHdr) (block : Option BlockName)
  /-- TEST_MARCH_DESTRUCTIVE (R758): Runs March C- over LINK, STAGE or IMAGE with the owner held in block reset. -/
  | testMarchDestructive (h : LineHdr) (bank : Option Bank)
  /-- TEST_MARCH_PRESERVING (R759): Runs March C- over a bank in 64-word segments that are saved, tested and restored. -/
  | testMarchPreserving (h : LineHdr) (bank : Option Bank)
  /-- MARCH_TEST_COMPLETE (R764): A march test on request ends, passes or fails, sets or ends the bank FAULT cause and replies. -/
  | marchTestComplete (fail : Option MarchFail)
  /-- ZEROING_COMPLETE (R750): A bank has been zeroed, and stalled accesses and the owner may proceed. -/
  | zeroingComplete (bank : Bank)
  /-- MEASURE_CLOCK (R724): Counts clock a over a gate of 2^N cycles of clock b. -/
  | measureClock (h : LineHdr) (a : Option ClkName) (b : Option ClkName) (n : Option Text) (aEdges : Nat) (bEdges : Nat)
  /-- MEASUREMENT_GATE_CLOSE (R726): The measuring gate closes and the count and ppm are replied. -/
  | measurementGateClose (count : Nat)
  /-- MODE_WRITE (R49): Changes a channel's mode at the next conversion boundary, resetting the mode defaults and ending conditions that do not exist in the new mode. -/
  | modeWrite (h : LineHdr) (c : Ch) (value : Text)
  /-- RANGE_WRITE (R70): Sets a fixed range or AUTO, which takes effect at the next boundary with the grounds and a lock-out when the range changes. -/
  | rangeWrite (h : LineHdr) (c : Ch) (value : Text)
  /-- RATE_WRITE (R55): Changes the conversion rate at the next boundary and marks the first conversion SETL. -/
  | rateWrite (h : LineHdr) (c : Ch) (value : Text)
  /-- TRIP_THRESHOLD_WRITE (R115): Writes TRIPHI, TRIPLO or TRIPSPAN, holding the affected comparators while the DAC settles; TRIPLO OFF releases a latched contribution. -/
  | tripThresholdWrite (h : LineHdr) (c : Ch) (which : TripSet) (value : Text)
  /-- DAC_SETTLE_END (R115): The 2 microsecond comparator hold after a threshold write ends and the new threshold applies. -/
  | dacSettleEnd (c : Ch) (quantity : Rat)
  /-- CHAR_WRITE (R189): Sets the light character; the lock restarts, the windows close, the trip latch releases and the 2-period clocks restart. -/
  | charWrite (h : LineHdr) (c : Ch) (value : Text)
  /-- LAMP_TIMING_WRITE (R190): Writes ONLATE, EDGETOL or LAMPTYPE, applied from the next predicted on-start in LOCKED and at once otherwise. -/
  | lampTimingWrite (h : LineHdr) (c : Ch) (which : TimingSet) (value : Text)
  /-- LEARN_WRITE (R178): Sets baseline learning; a write of OFF sets BASE to BASESET. -/
  | learnWrite (h : LineHdr) (c : Ch) (value : Text)
  /-- BASESET_WRITE (R177): Writes BASESET, which changes BASE at once only while LEARN is OFF. -/
  | basesetWrite (h : LineHdr) (c : Ch) (value : Text)
  /-- GRP_WRITE (R237): Moves a channel's alarms, with their states, to another group and restarts running group delays. -/
  | grpWrite (h : LineHdr) (c : Ch) (value : Text)
  /-- INHIB_WRITE (R263): Writes a group's inhibit cause, which is evaluated at once. -/
  | inhibWrite (h : LineHdr) (g : Grp) (value : Text)
  /-- FIRSTOUT_WRITE (R248): Writes first-out marking; OFF clears the mark at once. -/
  | firstoutWrite (h : LineHdr) (g : Grp) (value : Text)
  /-- CLASS_WRITE (R311): Writes a group's call class; a write of 0 ends its running call at once, except the G31 dead-man call. -/
  | classWrite (h : LineHdr) (g : Grp) (value : Text)
  /-- DEADMAN_EN_WRITE (R301): Switches the dead-man timer on and starts its period, or switches it off. -/
  | deadmanEnWrite (h : LineHdr) (value : Text)
  /-- CAN_BIT_TIMING_WRITE (R328): Writes a CAN rate or sample point; the controller ends its frame, leaves the bus and rejoins with the new setting. -/
  | canBitTimingWrite (h : LineHdr) (bus : Bus) (which : BitSet) (value : Text)
  /-- CAN_LISTEN_WRITE (R392): Switches a controller into or out of listen-only at the end of the frame in progress. -/
  | canListenWrite (h : LineHdr) (bus : Bus) (value : Text)
  /-- CAN_RECOVER (R393): A write of GO starts manual bus-off recovery. -/
  | canRecover (h : LineHdr) (bus : Bus) (value : Text)
  /-- PANEL_TYPE_WRITE (R472): Changes the panel type after the frame or line in progress, running the old type's power-down and the new type's rise. -/
  | panelTypeWrite (h : LineHdr) (value : Text)
  /-- PANEL_DRIVE_WRITE (R473): Writes FRAME, VLCD, VHV or BCHLINE at the next frame boundary; VHV or VLCD in BCH mode forces a full rewrite. -/
  | panelDriveWrite (h : LineHdr) (which : DriveSet) (value : Text)
  /-- PANEL_TEST (R461): Lights every segment steadily for 10 s. -/
  | panelTest (h : LineHdr) (value : Text)
  /-- PANEL_TEST_EXPIRY (R461): The 10 s lamp test ends and the image returns. -/
  | panelTestExpiry
  /-- CLOCK_SRC_XO (R703): Checks the XO, moves the domains to the IRC, relocks the PLL on the XO and moves the domains back to the PLL taps. -/
  | clockSrcXo (h : LineHdr) (edges : Nat)
  /-- CLOCK_SRC_IRC (R704): Moves the domains to the IRC chain; the links become listen-only and own calls go to stage 3. -/
  | clockSrcIrc (h : LineHdr)
  /-- CLOCK_PANEL_WRITE (R700): Switches the PANEL domain between 1 MHz and the LPO after the target check. -/
  | clockPanelWrite (h : LineHdr) (value : Text)
  /-- PLL_LOCK (R692): The PLL locks on its new reference and the waiting domains move to its taps. -/
  | pllLock
  /-- SWITCH_HANG (R702): A domain has not completed its multiplexer move within 64 IRC cycles; the forced path moves it, SWHANG is set and 0x0623 logged. -/
  | switchHang (dom : Domain)
  /-- SAFE_WRITE (R669): Moves a channel's safety-if-SAFE settings into the safety partition or back to the configuration. -/
  | safeWrite (h : LineHdr) (c : Ch) (value : Text)
  /-- PARTITION_WRITE (R665): Checks a write to the open safety partition and programs a new image into the older slot. -/
  | partitionWrite (h : LineHdr) (name : Option Name) (value : Text)
  /-- PARTITION_PROGRAM_COMPLETE (R665): A new partition image has verified and the value is applied to the working copy and the slice. -/
  | partitionProgramComplete (verified : Bool)
  /-- KEY_WRITE (R657): Programs and verifies a role key or unit key in the key store; a unit key also resets the unit's stored counter. -/
  | keyWrite (h : LineHdr) (key : KeyName) (groups : List Text)
  /-- SEC_DEBUG_LOCKED (R680): Locks the debug port at once. -/
  | secDebugLocked (h : LineHdr)
  /-- SEC_DEBUG_OPEN (R680): Returns all keys to the delivery state and opens the debug port at the next POWER reset. -/
  | secDebugOpen (h : LineHdr)
  /-- POWER_MODE_RUN (R797): Ends SLEEP and returns the node to RUN. -/
  | powerModeRun (h : LineHdr)
  /-- POWER_MODE_SLEEP (R797): Gates the PANEL domain and powers the panel down. -/
  | powerModeSleep (h : LineHdr)
  /-- POWER_MODE_DEEP (R799): Enters DEEP in the stated order within 50 ms, or is refused with E08 or E13. -/
  | powerModeDeep (h : LineHdr)
  /-- WAKE (R802): A trip or an enabled wake source wakes the node to RUN on the IRC chain and the engine rebuilds. -/
  | wake (source : WakeSource)
  /-- DEEP_TIMER_WAKE (R801): DEEP.PERIOD after entry to DEEP expires and wakes the node. -/
  | deepTimerWake
  /-- WAKE_XO_READY (R802): After a wake the XO passes its check; the domains move to the PLL on the XO and the links join with REBUILD. -/
  | wakeXoReady (edges : Nat)
  /-- DEEP_RETURN (R803): DEEP.RETURN after a wake expires and the node re-enters DEEP, or tries again each minute. -/
  | deepReturn
  /-- CONVERSION_END (R206): A slice conversion period ends; the code is formed, marked, tested for ranging and used to judge the conditions. -/
  | conversionEnd (c : Ch) (r : Reading)
  /-- OPEN_TEST_REPEAT (R82): Every 10 s while OPEN is live, the slice schedules a repeated open test. -/
  | openTestRepeat (c : Ch)
  /-- STEEP_DELAY_EXPIRY (R207): A condition raw-true for STEEP becomes true. -/
  | steepDelayExpiry (c : Ch) (k : Cond)
  /-- UNSTEEP_DELAY_EXPIRY (R208): A condition raw-false for UNSTEEP becomes false. -/
  | unsteepDelayExpiry (c : Ch) (k : Cond)
  /-- LIMITER_CLAMP (R85): The PASV sense current magnitude exceeds 30 mA and the limiter clamps it. -/
  | limiterClamp (c : Ch) (mA : Rat)
  /-- FOLD_BACK (R85): 2 ms after the clamp began, a limiter still clamping folds back to 3 mA and sets MISW. -/
  | foldBack (c : Ch) (stillClamping : Bool)
  /-- MISW_RETRY (R85): 250 ms after a fold-back the limiter clamps at 30 mA again. -/
  | miswRetry (c : Ch)
  /-- MISW_RETRY_CHECK (R85): 2 ms into a retry the limiter folds back again or clears the MISW cause. -/
  | miswRetryCheck (c : Ch) (mA : Rat)
  /-- RSS_SELECTION (R90): Every 1 ms the RSS selects the smallest ratio at or above FLOOR that leaves 1.0 V headroom. -/
  | rssSelection (c : Ch) (l : LoopLoad)
  /-- HEADROOM_LOW (R91): The headroom falls below 0.5 V and the RSS steps up one ratio at once. -/
  | headroomLow (c : Ch) (l : LoopLoad)
  /-- RSS_START_STEP (R93): During the stepped start, the RSS steps up one ratio per 1 ms until the headroom rule is met. -/
  | rssStartStep (c : Ch) (l : LoopLoad)
  /-- THERMAL_FOLD_BACK (R99): The slice junction reaches 150 degC; THERM becomes live and a LOOP current folds to zero. -/
  | thermalFoldBack (c : Ch) (tj : Int)
  /-- THERMAL_RECOVERY (R100): The junction cools to 140 degC; THERM clears and a LOOP supply restarts. -/
  | thermalRecovery (c : Ch) (tj : Int)
  /-- COMPARATOR_ACTIVATION (R111): The terminal quantity crosses TRIPHI or TRIPLO; the trip wire drives the FAST lines and a TRIP frame is queued. -/
  | comparatorActivation (c : Ch) (side : Side) (quantity : Rat) (ns : Nat)
  /-- COMPARATOR_RELEASE (R112): The quantity moves 2 steps back inside the threshold; the comparator releases and the FAST lines re-energise. -/
  | comparatorRelease (c : Ch) (side : Side) (quantity : Rat)
  /-- ZERO_CROSSING (R142): A zero crossing of the burden voltage ends an AC half-cycle; its RMS, frequency tracking, ACRANGE and AC TRIPLO test are judged. -/
  | zeroCrossing (c : Ch) (at_ : Tick) (peak : Rat)
  /-- HALF_CYCLE_TIMEOUT (R142): No crossing arrives within 1.25 tracked half-periods and the half-cycle ends at one tracked half-period. -/
  | halfCycleTimeout (c : Ch) (peak : Rat)
  /-- ON_EDGE (R151): The lamp value has stayed above the dark threshold for 2 ms or 2 half-cycles; the edge is judged for lock and re-anchoring. -/
  | onEdge (c : Ch) (at_ : Tick)
  /-- OFF_EDGE (R151): The lamp value has stayed below the dark threshold for 2 ms or 2 half-cycles. -/
  | offEdge (c : Ch) (at_ : Tick)
  /-- ON_BAND_END (R155): An on-band ends without an edge; in CONFIRM the lock returns to SEEK. -/
  | onBandEnd (c : Ch)
  /-- EXPECTED_ON_WINDOW_OPEN (R159): ONLATE after the on-edge, or at the fallback time, the expected-on window opens and the TRIPLO gate opens. -/
  | expectedOnWindowOpen (c : Ch) (quantity : Rat)
  /-- EXPECTED_ON_WINDOW_CLOSE (R159): The expected-on window closes; DARK and DIM are judged, BASE is updated and the TRIPLO latch may release. -/
  | expectedOnWindowClose (c : Ch)
  /-- EXPECTED_OFF_WINDOW_OPEN (R160): The expected-off window opens after the off-band. -/
  | expectedOffWindowOpen (c : Ch)
  /-- EXPECTED_OFF_WINDOW_CLOSE (R160): The expected-off window closes and STUCK is judged. -/
  | expectedOffWindowClose (c : Ch)
  /-- STUCK_ONLATE_EXPIRY (R180): The lamp value has stayed above the dark threshold for longer than ONLATE inside an expected-off window and STUCK becomes raw-true. -/
  | stuckOnlateExpiry (c : Ch)
  /-- TWO_PERIOD_EXPIRY (R183): 2 periods pass without lock, without an on-edge, or with the lamp lit, raising CHAR, DARK or STUCK. -/
  | twoPeriodExpiry (c : Ch)
  /-- BASELINE_UPDATE (R172): For character F, each second the baseline is updated from the mean of the second just ended. -/
  | baselineUpdate (c : Ch)
  /-- DIE_LINK_FRAME (R819): A valid die-link frame carries condition states, history latches and acknowledge bits to the engine, which moves the alarms. -/
  | dieLinkFrame (k : Die) (crcOk : Bool) (m : Mates)
  /-- DIE_LINK_FAULT (R19): A die link delivers no valid frame for 1 ms; FELINKk becomes true and the die's alarm states are held. -/
  | dieLinkFault (k : Die)
  /-- DIE_LINK_RESTORED (R900): Valid frames return after a fault; the engine delivers the kept acknowledge-bit writes and judges the die's alarms. -/
  | dieLinkRestored (k : Die)
  /-- ACK_BIT_WRITE (R221): The slice receives a set or clear of a condition's acknowledge bit and drops a set that names an earlier occurrence. -/
  | ackBitWrite (k : Die) (crcOk : Bool)
  /-- GROUP_DELAY_EXPIRY (R217): A condition's group delay ends with the condition true and the alarm enters ACTIVE_UNACK. -/
  | groupDelayExpiry (c : Ch) (k : Cond) (m : Mates)
  /-- SHELVING_EXPIRY (R260): A shelving time expires and the alarm leaves SHELVED under the exit rule. -/
  | shelvingExpiry (c : Ch) (k : Cond) (m : Mates)
  /-- G31_EVENT_EXPIRY (R250): 1 s after the cause of an event member of G31, the member becomes false. -/
  | g31EventExpiry (m : Member)
  /-- LINE_HOLD_EXPIRY (R25): 2 s after the start of the latest core reset without the engine resuming, the ANNUN lines, CALL lines and call outputs de-energise. -/
  | lineHoldExpiry
  /-- ENGINE_REBUILD (R222): The engine runs again and rebuilds every alarm from the slices, then the caller restarts or resumes calls. -/
  | engineRebuild (sameCycle : Bool)
  /-- STAGE_TIMER_EXPIRY (R282): CALL.T1 or CALL.T2 expires and the call enters the next stage. -/
  | stageTimerExpiry (n : NodeNo) (g : Grp) (m : Mates)
  /-- REPEAT_TIMER_EXPIRY (R288): CALL.REPEAT expires for a class 1 or stage 3 call and the CALL frame is sent again with the repeat bit set. -/
  | repeatTimerExpiry (n : NodeNo) (g : Grp) (m : Mates)
  /-- ATTEND_TIMER_EXPIRY (R293): CALL.ATTEND after an accept expires with the call still running, and calling resumes. -/
  | attendTimerExpiry (n : NodeNo) (g : Grp) (m : Mates)
  /-- DEAD_MAN_WARNING (R303): DEADMAN.WARN before the period ends, the warning sounds and DMWARN outputs de-energise. -/
  | deadManWarning
  /-- DEAD_MAN_MISSED (R304): The dead-man period ends without a confirmation; G31.DEADMAN becomes true and G31 calls. -/
  | deadManMissed
  /-- UNIT_STATUS (R273): An authenticated status frame from a call unit marks the unit present. -/
  | unitStatus (f : UnitFrame)
  /-- ACCEPT (R291): An accept key from a ringing CABIN or MESS unit puts the call in ACCEPTED and stops the ringing. -/
  | accept (f : UnitFrame) (m : Mates)
  /-- ACKNOWLEDGE_KEY (R294): An ENGRM acknowledge key acts as ACK of the named call's group. -/
  | acknowledgeKey (f : UnitFrame)
  /-- DEAD_MAN_CONFIRM (R302): An ENGRM dead-man key confirms the dead-man timer of the named node. -/
  | deadManConfirm (f : UnitFrame)
  /-- DEAD_MAN_START (R301): An ENGRM start key sets DEADMAN.EN ON and starts the period. -/
  | deadManStart (f : UnitFrame)
  /-- DEAD_MAN_STOP (R301): An ENGRM stop key sets DEADMAN.EN OFF. -/
  | deadManStop (f : UnitFrame)
  /-- UNIT_PRESENCE_TIMEOUT (R273): A call unit sends no valid frame for 30 s and is no longer present. -/
  | unitPresenceTimeout (u : Unit64)
  /-- UNIT_COUNTER_STORE (R369): At least once per hour while status frames arrive, the node stores each unit's last counter. -/
  | unitCounterStore
  /-- HEARTBEAT (R342): Every 100 ms the engine queues a heartbeat on both buses. -/
  | heartbeat
  /-- HEARTBEAT_RECEIVED (R343): A heartbeat marks its sender heard; with REBUILD set, the receiver sends the refresh frames. -/
  | heartbeatReceived (r : RxHdr) (b : HeartbeatBody)
  /-- NODE_SILENCE (R343): A node sends no heartbeat for 300 ms and is no longer heard; 0x0223 is logged. -/
  | nodeSilence (n : NodeNo)
  /-- READY_TIMEOUT (R344): 1 s after the first heartbeat after a start, the node sets READY. -/
  | readyTimeout
  /-- LEAD_EVALUATION (R346): Every 10 ms each node re-evaluates the lead. -/
  | leadEvaluation
  /-- CALL (R353): A received CALL frame updates the replicated call state in the LINK bank. -/
  | callFrame (r : RxHdr) (b : CallBody)
  /-- CALL_REFRESH (R352): Every 10 s the lead sends CALL with the refresh bit for each running call. -/
  | callRefresh
  /-- ALARM_STATE (R243): A received ALARM_STATE frame updates remote inhibit causes, remote panel sources and calls of the owning node. -/
  | alarmState (r : RxHdr) (b : AlarmBody)
  /-- ACK_FRAME (R360): The owning node applies a forwarded acknowledgement with the carried latch point. -/
  | ackFrame (r : RxHdr) (b : AckBody)
  /-- TIME_FRAME_SEND (R361): Every 1 s the lead sends TIME on each bus. -/
  | timeFrameSend
  /-- TIME_FRAME (R363): A receiver computes its offset from a TIME frame and slews or steps node time. -/
  | timeFrame (r : RxHdr) (b : TimeBody)
  /-- LOGCOPY (R524): The lead programs a copied record into its own logbook unchanged. -/
  | logcopy (r : RxHdr) (b : Record)
  /-- CONSOLE_OPEN (R375): A console opens a session, answered OK or E08 busy. -/
  | consoleOpen (f : ConsoleFrame)
  /-- CONSOLE_DATA (R378): A console DATA segment; the last segment of a line is its latch point. -/
  | consoleData (f : ConsoleFrame)
  /-- CONSOLE_CLOSE (R378): A console CLOSE ends the session. -/
  | consoleClose (f : ConsoleFrame)
  /-- CONSOLE_ABORT (R652): A console ABORT ends the session. -/
  | consoleAbort (f : ConsoleFrame)
  /-- RAW_FRAME_RECEIVED (R388): A frame passing an acceptance filter enters the raw receive queue, or is dropped and counted when the queue is full. -/
  | rawFrameReceived (bus : Bus) (ok : Bool) (f : RawFrame)
  /-- FRAME_TRANSMITTED (R385): A frame completes on the bus and its entry becomes SENT. -/
  | frameTransmitted (bus : Bus)
  /-- TRANSMIT_FAILURE (R385): An entry loses arbitration or meets an error and returns to PENDING, or becomes LOST or ERROR when one-shot. -/
  | transmitFailure (bus : Bus) (lostArbitration : Bool)
  /-- BUS_OFF (R394): A controller goes bus-off; entries keep their states and 0x0220 is logged. -/
  | busOff (bus : Bus)
  /-- BUS_OFF_RECOVERY (R393): After 128 occurrences of 11 recessive bits the controller rejoins and logs 0x0221. -/
  | busOffRecovery (bus : Bus)
  /-- REJOIN (R328): After 11 recessive bits, a controller that left the bus for a setting or block reset rejoins. -/
  | rejoin (bus : Bus)
  /-- SETPOINT_FRAME (R413): Every 10 ms the link reads the source, scales and trims it, and sends a setpoint frame to an island. -/
  | setpointFrame (n : Lx)
  /-- SETPOINT_ARRIVAL (R417): An island receives a setpoint frame, processing it or buffering it. -/
  | setpointArrival (n : Lx) (checkOk : Bool)
  /-- SETPOINT_PROCESSED (R416): An island finishes processing a setpoint after 4,096 island cycles and drives the new current. -/
  | setpointProcessed (n : Lx)
  /-- STATUS_FRAME (R423): The link receives an island status frame with LOWV, THERM and terminal voltage. -/
  | statusFrame (n : Lx) (checkOk : Bool) (termv : Nat)
  /-- ISLAND_LOST (R423): No valid status frame for 100 ms; the output reads NOLOOP. -/
  | islandLost (n : Lx)
  /-- ISLAND_POWER_UP (R421): An island powered from its loop sets 4.00 mA until its first setpoint. -/
  | islandPowerUp (n : Lx)
  /-- ISLAND_THERMAL_FOLD_BACK (R430): An island junction reaches 150 degC and folds the loop current back to 3.8 mA. -/
  | islandThermalFoldBack (n : Lx) (tj : Int)
  /-- ISLAND_THERMAL_RECOVERY (R430): An island junction cools to 130 degC and returns to the latest stored setpoint. -/
  | islandThermalRecovery (n : Lx) (tj : Int)
  /-- RAIL_START (R448): After the engine has rebuilt, the panel rails start to rise. -/
  | railStart
  /-- VLCD_READY (R450): VLCD is within 2 %; TN starts the clear frame and BCH starts the VHV boost. -/
  | vlcdReady
  /-- VHV_READY (R450): VHV is within 2 % and the BCH clear frame starts. -/
  | vhvReady (tenths : Nat)
  /-- RAIL_TIMEOUT (R451): VLCD is not ready at 5 ms, or VHV at 25 ms; the rise stops and VLCDF or VHVF is set. -/
  | railTimeout
  /-- RAIL_RETRY (R451): 10 s after a rail fault the driver retries the rise. -/
  | railRetry
  /-- FRAME_BOUNDARY (R458): A TN frame starts; the driver reads the image and, after the clear and image frames, asserts BL_EN. -/
  | frameBoundary
  /-- BCH_LINE_WRITE_END (R459): A BCH line write ends and the next changed or dirty line starts. -/
  | bchLineWriteEnd (tenths : Nat)
  /-- DISCHARGE_STEP_END (R462): A step of the TN discharge or the BCH power-down completes and the next step follows. -/
  | dischargeStepEnd
  /-- EVENT_STAGED (R489): An event is stamped and enters STAGE, or is dropped or refused. -/
  | eventStaged
  /-- RECORD_PROGRAMMED (R491): A record has been programmed and verified; a copy may be sent and the next record starts. -/
  | recordProgrammed (verified : Bool)
  /-- ERASE_COMPLETE (R503): A sector erase completes and verifies, and the directory records ERASED. -/
  | eraseComplete (verified : Bool)
  /-- ERASE_SUSPEND (R511): A record is waiting during a background erase and the erase is suspended. -/
  | eraseSuspend
  /-- ERASE_RESUME (R511): Within 50 microseconds of a suspension the erase resumes. -/
  | eraseResume
  /-- LOG_OPEN (R514): After a SYSTEM or POWER reset the writer reads the directory, finds torn slots and continues the sequence numbers. -/
  | logOpen
  /-- REFUSED_COUNTER_APPEND (R497): At most once per 10 s, changed refused counters are appended to the directory. -/
  | refusedCounterAppend
  /-- TRANSACTION_START (R534): HP_CS_N falls and a clocked-mode transaction begins. -/
  | transactionStart
  /-- TRANSACTION_END (R562): HP_CS_N rises; a line past its latch point is abandoned and a partial line is discarded. -/
  | transactionEnd
  /-- CHARACTER_RECEIVED (R550): An asynchronous character is appended, edited, echoed or discarded. -/
  | characterReceived (b : Byte) (framingError : Bool)
  /-- BAUD_MEASUREMENT (R545): A CR is measured to set the asynchronous bit time. -/
  | baudMeasurement (spanNs : Nat)
  /-- BREAK (R548): HP_DI low for 20 ms discards the partial line and awaits a new rate measurement. -/
  | breakReceived (us : Nat)
  /-- PARTIAL_LINE_TIMEOUT (R556): A partial asynchronous line receives no character for 60 s and is discarded. -/
  | partialLineTimeout
  /-- SESSION_TIMEOUT (R653): A session is idle for SEC.TIMEOUT and ends. -/
  | sessionTimeout (who : Sess)
  /-- NONCE_EXPIRY (R640): A nonce not used within 60 s becomes invalid. -/
  | nonceExpiry (who : Sess)
  /-- LOCK_OUT_EXPIRY (R647): A role's lock-out period ends. -/
  | lockOutExpiry (role : Role)
  /-- KEY_SWITCH_ASSERTED (R672): KEY_A low and KEY_B high for 20 ms assert the key switch. -/
  | keySwitchAsserted
  /-- KEY_SWITCH_RELEASED (R672): The reverse levels held for 20 ms release the key switch. -/
  | keySwitchReleased
  /-- KEY_SWITCH_FAULT (R672): Both pads at one level for 100 ms give FAULT and KEYFAULT. -/
  | keySwitchFault (level : Bool)
  /-- PARTITION_CHECK_PASS (R674): Every 100 ms the sequencer reads the partition copy, corrects single-bit errors and compares the CRC, resetting on a double error or mismatch. -/
  | partitionCheckPass (found : CheckFinding)
  /-- XO_MONITOR_WINDOW (R705): Each 256 IRC cycles the monitor judges the XO count and, on failure, runs the forced path. -/
  | xoMonitorWindow (count : Nat) (lockLost : Bool)
  /-- XO_RETURN (R715): The XO is healthy for 10 s and the node returns to it automatically. -/
  | xoReturn
  /-- LPO_MONITOR_WINDOW (R713): Each 16,384 IRC cycles the LPO count is judged and LPOFAIL set or cleared. -/
  | lpoMonitorWindow (count : Nat)
  /-- SSC_COMPLAINT (R719): A PLL phase error or VHV deviation makes the governor lower the spread-spectrum depth. -/
  | sscComplaint
  /-- SSC_RAISE (R719): After 100 ms without a complaint the governor raises the depth by 0.5 %. -/
  | sscRaise
  /-- CONFIG_PARITY_ERROR (R699): A parity error in a clock or reset configuration register causes a SYSTEM reset. -/
  | configParityError
  /-- ECC_ENGINE_ERROR (R744): A double-bit error on a read of the ENGINE bank causes a SYSTEM reset. -/
  | eccEngineError (word : Nat) (raw : RawWord)
  /-- POWER_ON (R776): VSUP rises through 5.6 V and a POWER reset with a full start begins. -/
  | powerOn (mV : Nat) (async : Bool)
  /-- POWER_LOSS (R129): VSUP falls through the POR threshold; all stages stop and the lines de-energise. -/
  | powerLoss (mV : Nat)
  /-- RAIL_FAULT (R849): An internal rail leaves plus or minus 10 % for 5 microseconds and causes a POWER reset. -/
  | railFault (us : Nat)
  /-- RESET_N (R776): RESET_N held low for 10 microseconds causes a SYSTEM reset that holds until the pad rises. -/
  | resetN (us : Nat) (taken : Bool)
  /-- ENGINE_WATCHDOG_EXPIRY (R783): The engine watchdog expires and causes a CORE reset, or a SYSTEM reset under escalation. -/
  | engineWatchdogExpiry
  /-- INTERPRETER_WATCHDOG_EXPIRY (R784): The interpreter watchdog reaches RESET.WDI cycles and causes a CORE reset, or a SYSTEM reset under escalation. -/
  | interpreterWatchdogExpiry (cycles : Nat)
  /-- STARTUP_TEST_COMPLETE (R756): The start-up march test of the banks ends; start-up continues, or stops on an ENGINE or INTERP failure. -/
  | startupTestComplete (results : List (Bank × Option MarchFail))
  /-- MARCH_FAILURE_RESTART (R756): 1 s after a start-up march failure the node starts a SYSTEM reset with the test. -/
  | marchFailureRestart
  /-- CLOCK_SRC_APPLY (R733): At the configuration-load step the node applies CLOCK.SRC, waiting up to 600 ms for the XO before entering the IRC chain. -/
  | clockSrcApply (xoEdges : Nat)
  /-- S00_RUN (R627): S00 runs with the ENGINEER role before the host port opens. -/
  | s00Run
  /-- PORT_OPEN (R569): The host port opens and PORTOPEN is set. -/
  | portOpen
  /-- PWRWARN (R794): VSUP falls through 5.6 V; PWRWARN becomes live, the panel powers down and the counters are appended. -/
  | pwrwarn (mV : Nat)
  /-- PWRWARN_END (R794): VSUP has stayed above 5.8 V for 10 ms; PWRWARN ends and the panel restarts. -/
  | pwrwarnEnd (mV : Nat)
  /-- START_OF_FRAME (R385): A pending transmit entry competes in a start of frame on its bus and becomes SENDING. -/
  | startOfFrame (bus : Bus)
  /-- ECC_SINGLE_BIT_ERROR (R743): A read of any bank by any master finds a single-bit error, which is corrected, written back, counted and logged. -/
  | eccSingleBitError (bank : Bank) (word : Nat) (raw : RawWord)
  /-- ECC_DOUBLE_BIT_ERROR (R745): A read of a bank other than ENGINE finds a double-bit error, returns zero data, makes FAULT live and resets the owner after zeroing. -/
  | eccDoubleBitError (bank : Bank) (word : Nat) (raw : RawWord)
  /-- KEY_WRITE_COMPLETE (R657): The programming and verification of a key in the key store ends and the new key is in force. -/
  | keyWriteComplete (verified : Bool)
  /-- RESET_N_RELEASE (R776): RESET_N rises and the start-up out of the held SYSTEM reset begins. -/
  | resetNRelease
  /-- UNKNOWN_VERB (R631): A command line whose verb the node does not know is refused with E03 and recorded in HP.LAST. -/
  | unknownVerb (h : LineHdr) (verb : Text)
deriving DecidableEq, Repr

end Sys2Proof
end

