-- ==== Sys2Proof/Config.lean ====
section
/-! DEFINITION. What an implementation fixes and the manual leaves open: constants and functions without a body.
Nothing can be proved of their values, so every claim holds whatever they are. -/

namespace Sys2Proof.Config

/-- FREE VALUE (log 4): the 16 random bytes that the hardware random source gives at its n-th use (12 R640). -/
opaque nonce : Nat → BitVec 128

/-- UNINTERPRETED (log 16): how many binary places the RMS of a half-cycle is formed to (03 R141). -/
opaque rmsBits : Nat

/-- FREE VALUE (log 17): the call class that the lead takes for a group of another node whose CALL frame it has not
seen (05 R279, 06 R332). Arguments: the owning node and the group. -/
opaque remoteClass : Nat → Nat → Fin 4

/-- UNINTERPRETED (log 15): how many entries one directory sector of the logbook holds (09 R504). -/
opaque directoryEntries : Nat

/-- FREE VALUE (log 20): the 32-bit form of CALL.TZ in a log record, which the manual does not give (11 R630). -/
opaque tzCode : Int → BitVec 32

/-- FREE VALUE (log 20): the 32-bit form of a value that has none, which the manual does not give (11 R630). -/
opaque noneCode : BitVec 32

/-- FREE VALUE (log 22): the detail field of a caller's record, whose layout the manual does not give (05 R318).
Arguments: the call state code, the duty and next engineers (0 for none) and the unit (0 for none). -/
opaque callDetail : Nat → Nat → Nat → Nat → BitVec 64

/-- FREE VALUE (log 24): whether a comparator takes a crossing of this length in ns, from 0.2 µs, below which it rejects
every crossing, to 0.8 µs, by which it has activated (02 R111). -/
opaque shortCrossing : Nat → Bool

/-- FREE VALUE (log 25): the prescaler that a node derives for a bit rate in 0.1 kbit/s (06 R326). -/
opaque canPrescaler : Nat → Nat

/-- FREE VALUE (log 25): the text of CANx.TIMING, whose layout the manual does not give (06 R402). Argument: the numbers of
the nominal and of the data bit time, each as prescaler, time quanta, phase segments 1 (with propagation) and 2,
resynchronisation jump width and sample point in 0.1 %. -/
opaque canTimingText : List Nat → Text

/-- FREE VALUE (log 25): the text of WATCH.VIEW, whose layout the manual does not give (06 R391). Arguments: the bus, the
identifier and the payload. -/
opaque viewText : Nat → Nat → List Byte → Text

/-- FREE VALUE (log 23): where a receive error counter above 127 comes to stand after a good frame, 119 and this
(ISO 11898-1). -/
opaque recReturn : Fin 9

/-- FREE VALUE (log 79): by how many kHz the clock of an island runs above its least frequency at a loop current in
0.1 µA (07 R415). -/
opaque islandExtraKhz : Nat → Nat

/-- FREE VALUE (log 160): whether flash work that a reset or a power loss cuts short has already left its new content valid
(11 R613, 12 R657, R666). -/
opaque cutWrite : Nat → Bool

end Sys2Proof.Config
end

