-- ==== Sys2Proof/Machine/Types.lean ====
section
/-! DEFINITION. The data the state is made of: setting values, the live settings, and each block's own record, with the
value each holds at reset (INVENTORY.md '## State' lists them with their rules). -/

namespace Sys2Proof.Machine

/-! ## Setting values -/

/-- CHnnn.MODE (02 R136). -/
inductive Mode where
  | pasv | loop | volt | rtd | lamp | cont | off
deriving DecidableEq, Repr

/-- CHnnn.RANGE in the order of 11 R630; `none` reads NONE. -/
inductive Range where
  | ma24 | v1 | v10 | auto | pt100 | pt1000 | mv50 | mv500 | v5 | none
deriving DecidableEq, Repr

/-- CHnnn.EOL (02 R47, R48). -/
inductive Eol where
  | std | none
deriving DecidableEq, Repr

/-- A ratio of the loop supply, smallest first (02 R89). -/
inductive Ratio where
  | quarter | third | half | threeQuarters | one
deriving DecidableEq, Repr

/-- CHnnn.TRIPSPAN (02 R107). -/
inductive TripSpan where
  | mv50 | mv500 | v5
deriving DecidableEq, Repr

/-- CHnnn.CHAR. Periods are in 0.1 s, PAT entries in ms (03 R148). -/
inductive LightChar where
  | f
  | fl (n : Nat) (p : Nat)
  | lfl (n : Nat) (p : Nat)
  | oc (n : Nat) (p : Nat)
  | iso (p : Nat)
  | q | vq
  | pat (entries : List Nat)
deriving DecidableEq, Repr

/-- CHnnn.LAMPSUP (03 R139). -/
inductive LampSup where
  | dc | ac
deriving DecidableEq, Repr

/-- CHnnn.LAMPTYPE (03 R198). -/
inductive LampType where
  | fil | led
deriving DecidableEq, Repr

/-- CHnnn.LEARN (03 R172, R175). -/
inductive Learn where
  | on | hold | off
deriving DecidableEq, Repr

/-- ALn.MODE (04 R253). -/
inductive AlMode where
  | fast | annun | call
deriving DecidableEq, Repr

/-- CUnn.KIND (05 R271). -/
inductive CuKind where
  | none | cabin | mess | engrm
deriving DecidableEq, Repr

/-- DUTY.Sxx: the day 0 MON – 6 SUN, or none for DAILY, the minute of the day and the engineer (05 R274). -/
structure DutySlot where
  day : Option (Fin 7)
  minute : Fin 1440
  eng : Eng
deriving DecidableEq, Repr

/-- COn.SRC (05 R299). -/
inductive CoSrc where
  | off | stage1 | stage2 | stage3
  | eng (e : Eng)
  | dmwarn
deriving DecidableEq, Repr

/-- CANx.BUSOFF (06 R393). -/
inductive BusOffMode where
  | auto | manual
deriving DecidableEq, Repr

/-- The frame format that a receive filter passes (06 R401). -/
inductive FilterKind where
  | base | ext | any
deriving DecidableEq, Repr

/-- CANx.Fkk when it is not OFF (06 R388, R401). -/
structure Filter where
  kind : FilterKind
  id : Nat
  mask : Nat
  rtr : Bool
deriving DecidableEq, Repr

/-- LXn.SRC (07 R408). -/
inductive LxSrc where
  | none
  | ch (c : Ch)
  | grp (g : Grp)
  | host
deriving DecidableEq, Repr

/-- PANEL.TYPE (08 R439). -/
inductive PanelType where
  | tn | bch | off
deriving DecidableEq, Repr

/-- A segment's source (08 R454). A node is given where the written name has an Nk prefix of another node. -/
inductive SegSrc where
  | cond (n : Option NodeNo) (c : Ch) (k : Cond)
  | grp (n : Option NodeNo) (g : Grp)
  | member (n : Option NodeNo) (m : Member)
  | stage1 | stage2 | stage3
  | node (n : NodeNo)
  | lead (n : NodeNo)
  | uany | on | off
deriving DecidableEq, Repr

/-- PANEL.Ck.Smm: a source, with or without the unacknowledged marker `U ` (08 R454). -/
structure Segment where
  marker : Bool
  src : SegSrc
deriving DecidableEq, Repr

/-- SEC.REMRESET (12 R687, 15 R779). -/
inductive RemReset where
  | none | core | all
deriving DecidableEq, Repr

/-- POWER.MODE (15 R796). -/
inductive PowerMode where
  | run | sleep | deep
deriving DecidableEq, Repr

/-! ## Live settings -/

/-- The settings of one condition (04 R268). HYST none is AUTO; STEEP and UNSTEEP are in 10 ms. -/
structure CondCfg where
  set : Rat := 0
  hyst : Option Rat := none
  steep : Nat := 0
  unsteep : Nat := 0
  en : Bool
deriving DecidableEq, Repr

/-- The settings that a mode change resets besides MODE itself (02 R49). -/
structure ModeDefaults where
  range : Range := .none
  eng0 : Rat := 0
  eng1 : Rat := 1
  unit : Text := []
  tripspan : TripSpan := .v5
  triphi : Option Rat := none
  triplo : Option Rat := none
deriving DecidableEq, Repr

/-- The settings of one channel (02 R136, 03 R198, 04 R268). RATE i is 8,000 Hz / 2^i; ONLATE none is AUTO, else ms;
EDGETOL in %, DARKFRAC and DIMFRAC in 0.01; thresholds of the comparators in terminal units, none for OFF.
`staged` holds the values that the pending mode change will apply at the boundary (R49). -/
structure ChCfg where
  mode : Mode := .off
  set : ModeDefaults := {}
  staged : Option ModeDefaults := none
  rate : Fin 11 := 6
  eol : Eol := .std
  floor : Ratio := .quarter
  fast : BitVec 16 := 0
  char : LightChar := .f
  lampsup : LampSup := .dc
  acnom : Nat := 50
  lamptype : LampType := .fil
  onlate : Option Nat := none
  edgetol : Nat := 5
  learn : Learn := .on
  baseset : Rat := 0
  darkfrac : Nat := 50
  dimfrac : Nat := 80
  darkmin : Rat := 100
  darkmax : Rat := 5000
  cond : Vector CondCfg 9 :=
    #v[{ en := false }, { en := false }, { en := false }, { en := false }, { en := true }, { en := true },
       { en := false }, { en := true }, { en := true }]
  grp : Grp := 0
  safe : Bool := false
deriving DecidableEq, Repr

/-- The settings of one group (04 R268). -/
structure GrpCfg where
  name : Text := []
  cls : Fin 4 := 0
  delay : Nat := 0
  inhib : Option (NodeNo × Ch × Cond) := none
  line : BitVec 16 := 0
  firstout : Bool := false
deriving DecidableEq, Repr

/-- The settings of one engineer (05 R319). No units is NONE. -/
structure EngCfg where
  name : Text := []
  units : List Unit64 := []
deriving DecidableEq, Repr

/-- The caller's times: TZ in 15 min steps, the rest in s, ATTEND in min (05 R319). -/
structure CallCfg where
  tz : Int := 0
  t1 : Nat := 120
  t2 : Nat := 120
  tmax : Nat := 300
  rep : Nat := 60
  attend : Nat := 10
deriving DecidableEq, Repr

/-- The dead-man settings: PERIOD and PMAX in min, WARN in s (05 R319). -/
structure DeadCfg where
  en : Bool := false
  period : Nat := 10
  warn : Nat := 60
  pmax : Nat := 30
deriving DecidableEq, Repr

/-- The bit timing of one bus: NOM in 0.1 kbit/s, DATA in 0.1 Mbit/s, sample points in 0.1 % (06 R401). -/
structure BitTiming where
  nom : Nat := 2500
  data : Nat := 20
  nsp : Nat := 800
  dsp : Nat := 750
deriving DecidableEq, Repr

/-- The settings of one bus (06 R401). -/
structure CanCfg where
  timing : BitTiming := {}
  brs : Bool := true
  listen : Bool := false
  busoff : BusOffMode := .auto
  filters : Vector (Option Filter) 16 := .replicate 16 none
deriving DecidableEq, Repr

/-- The saved settings of one loop output: TRIM in 0.1 µA (07 R437). -/
structure LxCfg where
  src : LxSrc := .none
  low : Rat := 0
  high : Rat := 100
  trim4 : Int := 0
  trim20 : Int := 0
deriving DecidableEq, Repr

/-- The panel settings: VLCD in 0.1 V (08 R478). -/
structure PanelCfg where
  type : PanelType := .off
  frame : Nat := 80
  vlcd : Nat := 50
  vhv : Nat := 30
  bchline : Nat := 30
  bl : Nat := 100
  seg : Vector (Vector Segment 80) 8 := .replicate 8 (.replicate 80 ⟨false, .off⟩)
deriving DecidableEq, Repr

/-- The host-port settings (10 R576). ECHO none stands for the default of the mode in use. -/
structure HpCfg where
  echo : Option Bool := none
  crcRequired : Bool := false
  attn : BitVec 16 := 0x000F
deriving DecidableEq, Repr

/-- The clock settings: SSC depths in 0.5 %, RATE in kHz (13 R736). -/
structure ClockCfg where
  xofreq : Nat := 16
  srcIrc : Bool := false
  returnManual : Bool := false
  panelLpo : Bool := false
  sscDepth : Nat := 0
  sscMin : Nat := 0
  sscRate : Nat := 30
deriving DecidableEq, Repr

/-- The power and reset settings: DEEP.RATE as a rate index, PERIOD and RETURN in min, WDE in ms (15 R808). -/
structure PowerCfg where
  deepRate : Fin 11 := 10
  deepWake : BitVec 8 := 0x07
  deepPeriod : Nat := 60
  deepReturn : Nat := 0
  wde : Nat := 100
  wdi : Nat := 65536
deriving DecidableEq, Repr

/-- Every saved setting and every setting of the safety partition (11 R608, 12 R662). -/
structure Settings where
  ch : Vector ChCfg 128 := .replicate 128 {}
  grp : Vector GrpCfg 32 := (.replicate 32 {} : Vector GrpCfg 32).set 31 { cls := 1 }
  al : Vector AlMode 16 := .replicate 16 .fast
  shelveMax : Nat := 480
  eng : Vector EngCfg 16 := .replicate 16 {}
  cu : Vector CuKind 64 := .replicate 64 .none
  duty : Vector (Option DutySlot) 42 := .replicate 42 none
  call : CallCfg := {}
  co : Vector CoSrc 8 := .replicate 8 .off
  dead : DeadCfg := {}
  watchNode : NodeNo := 0
  watchNodes : BitVec 8 := 1
  can : Vector CanCfg 2 := .replicate 2 {}
  lx : Vector LxCfg 8 := .replicate 8 {}
  panel : PanelCfg := {}
  logCopy : Bool := false
  hp : HpCfg := {}
  scripts : Vector (Vector Text 64) 16 := .replicate 16 (.replicate 64 [])
  remReset : RemReset := .none
  secTimeout : Nat := 300
  clock : ClockCfg := {}
  memOff : Vector Bool 5 := .replicate 5 false
  sysmarch : Bool := false
  power : PowerCfg := {}
deriving DecidableEq, Repr

/-! ## Flags -/

/-- A status flag: its live cause, its latched bit and its AGAIN counter (02 R119–R122). -/
structure Flag where
  live : Bool := false
  latched : Bool := false
  again : Nat := 0
deriving DecidableEq, Repr

/-! ## The channel slice -/

/-- The settings of a slice that change only at a conversion boundary (02 R49, R55, R71, R105, 03 R198). -/
structure Active where
  mode : Mode := .off
  range : Range := .none
  rate : Fin 11 := 6
  eol : Eol := .std
  eng0 : Rat := 0
  eng1 : Rat := 1
  lampsup : LampSup := .dc
deriving DecidableEq, Repr

/-- Markers of a code (02 R59, R60, R67, R73). -/
structure Marks where
  ovr : Bool := false
  unr : Bool := false
  setl : Bool := false
  dist : Bool := false
deriving DecidableEq, Repr

/-- The current limiter of PASV mode, with the reference event's time (02 R85). -/
inductive Limiter where
  | idle
  | clamped (since : Tick)
  | folded (since : Tick)
  | retrying (since : Tick)
deriving DecidableEq, Repr

/-- The ratio-switched supply (02 R89–R93), with the time of its last step of the start or of its last selection. -/
inductive Rss where
  | off
  | starting (r : Ratio) (since : Tick)
  | running (r : Ratio) (since : Tick)
deriving DecidableEq, Repr

/-- The use of EXCnnn (02 R42). -/
inductive ExcUse where
  | highZ | loopOut | rtdOut | wettingOut
deriving DecidableEq, Repr

/-- The use of INPnnn (02 R42, R77): `pulled` is the 2 µA pull-up of a reset. -/
inductive InpUse where
  | highZ | currentIn | loopReturn | plusIn | senseA | plusBurden | wettingReturn | pulled
deriving DecidableEq, Repr

/-- The use of INNnnn (02 R42). -/
inductive InnUse where
  | highZ | currentOut | unused | minusIn | returnB | minusBurden
deriving DecidableEq, Repr

/-- How the terminals of a channel stand (02 R42, R77), and whether the 50 Ω sense resistor is in circuit. -/
structure FrontEnd where
  exc : ExcUse := .highZ
  inp : InpUse := .pulled
  inn : InnUse := .highZ
  sense : Bool := false
deriving DecidableEq, Repr

/-- The CONT line state (02 R47). -/
inductive LineState where
  | open | closed | broken | short
deriving DecidableEq, Repr

/-- One condition in the slice (04 R201–R219, 01 R22): the raw state, the condition, the running timer in µs and whether
its delay was complete at the last usable update (R207, R208, R262); the history latch, the acknowledge bit, the event
time, the number of the present occurrence (R221), and the engine cycle in which it became true (01 R41). -/
structure CondState where
  raw : Bool := false
  on : Bool := false
  timer : Nat := 0
  due : Bool := false
  hist : Bool := false
  ack : Bool := true
  since : Tick := 0
  occ : Nat := 0
  roseIn : Nat := 0
deriving DecidableEq, Repr

/-- The espresso comparators (02 R110–R115) and the TRIPLO contribution of a LAMP channel (03 R164–R168). -/
structure Trip where
  hiQ : Bool := false
  loQ : Bool := false
  hiHold : Bool := false
  loHold : Bool := false
  dacHi : Option Rat := none
  dacLo : Option Rat := none
  span : TripSpan := .v5
  latched : Bool := false
  clear : Bool := false
deriving DecidableEq, Repr

/-- CHnnn.LOCK (03 R152). -/
inductive Lock where
  | steady | seek | confirm | locked
deriving DecidableEq, Repr

/-- The flash predicted next: the index of its on-phase in the character, its predicted on-start, the last on-edge met
inside its on-band, whether its expected-on window has opened and its on-band ended, whether its expected-off window is
already fixed, and how many on-starts of the confirmation are still to be met (03 R154–R160, R904). -/
structure Flash where
  idx : Nat := 0
  due : Tick := 0
  edge : Option Tick := none
  opened : Bool := false
  bandOver : Bool := false
  offSet : Bool := false
  toConfirm : Nat := 0
deriving DecidableEq, Repr

/-- What is gathered over an expected-on window, or over one second of character F (03 R172, R173, R180, R905); `halves`
counts the AC half-cycles that ended in it (R167). -/
structure OnWindow where
  opens : Tick := 0
  closes : Tick := 0
  sum : Rat := 0
  usable : Nat := 0
  codes : Nat := 0
  badCodes : Nat := 0
  darkOrDim : Bool := false
  darkHeld : Bool := true
  dimHeld : Bool := true
  halves : Nat := 0
deriving DecidableEq, Repr

/-- What is gathered over an expected-off window (03 R160, R180, R905); `litSince` is a time of the lamp's own clock. -/
structure OffWindow where
  opens : Tick := 0
  closes : Tick := 0
  usable : Nat := 0
  low : Bool := true
  litSince : Option Tick := none
deriving DecidableEq, Repr

/-- The AC half-cycle under way and the tracked half-period (03 R141–R144, R166): its codes, newest first, each with the
time of its conversion's end and its usability. Times in µs. -/
structure HalfCycle where
  codes : List (Tick × Rat × Bool) := []
  began : Option Tick := none
  crossings : List Tick := []
  halfUs : Option Rat := none
deriving DecidableEq, Repr

/-- The timing settings in force for the prediction (03 R190). -/
structure LampTiming where
  onlate : Option Nat := none
  edgetol : Nat := 5
  lamptype : LampType := .fil
deriving DecidableEq, Repr

/-- The threshold settings and the baseline in use since the last lamp-value update (03 R169, R191). -/
structure LampLimits where
  darkfrac : Nat := 50
  dimfrac : Nat := 80
  darkmin : Rat := 100
  darkmax : Rat := 5000
  base : Rat := 0
deriving DecidableEq, Repr

/-- The side of the dark threshold on which the lamp value lies (03 R151): since which update, after which one, over how
many usable updates, and whether the crossing has been judged as an edge or is none. -/
structure LampSide where
  lit : Option Bool := none
  after : Tick := 0
  since : Tick := 0
  count : Nat := 0
  judged : Bool := true
deriving DecidableEq, Repr

/-- Lamp proving of one channel (03). `win` holds the last 8 codes, newest first, each with its usability, in codes of
the highest range allowed, as is `value`; `report` counts the conversions since the last report (R56); `fresh` says that
the last update was usable and `lastUse` when the last usable one was (R145); `clock` counts the time of usable updates
alone, in which `litSince`, `edgeSince` and `unlockedSince` are times (R145, R183, R184); `gateAt` is when the gate last
opened or closed (R164, R166); `acnom` is ACNOM as taken at the last start (R198). -/
structure Lamp where
  win : List (Rat × Bool) := []
  value : Option Rat := none
  report : Nat := 0
  lock : Lock := .steady
  flash : Flash := {}
  timing : LampTiming := {}
  last : LampTiming := {}
  onWin : Option OnWindow := none
  offDue : Option (Tick × Tick) := none
  offWin : Option OffWindow := none
  second : OnWindow := {}
  base : Rat := 0
  half : HalfCycle := {}
  acnom : Nat := 50
  limits : LampLimits := {}
  side : LampSide := {}
  fresh : Bool := false
  lastUse : Tick := 0
  clock : Tick := 0
  gateAt : Tick := 0
  darkSince : Option Tick := none
  litSince : Option Tick := none
  edgeSince : Tick := 0
  unlockedSince : Option Tick := none
deriving DecidableEq, Repr

/-- One channel slice (02, 03, 04). `rangeDue` says that a RANGE write waits for the boundary, `rangeLocked` that one fell
within a lock-out (R70); `prev` and `prevSat` are what the period before found (R54, R73), its quantity as a code of the
range it had; `floorUsed` is the FLOOR of the last selection (R133). -/
structure Slice where
  front : FrontEnd := {}
  act : Active := {}
  range : Range := .none
  rangeDue : Bool := false
  rangeLocked : Bool := false
  prev : Option Means := none
  prevSat : Bool := false
  floorUsed : Ratio := .quarter
  lockout : Nat := 0
  grounds : Bool := false
  openTest : Bool := true
  newRate : Bool := false
  code : Option Int := none
  codeRange : Range := .none
  marks : Marks := {}
  value : Option Rat := none
  flags : Vector Flag 12 := .replicate 12 {}
  openCause : Bool := false
  openTestAt : Tick := 0
  thermCause : Bool := false
  pinCause : Bool := false
  compCause : Bool := false
  acrangeCause : Bool := false
  limiter : Limiter := .idle
  misw : Bool := false
  rss : Rss := .off
  tj : Int := 25
  line : Option LineState := none
  cond : Vector CondState 9 := .replicate 9 {}
  trip : Trip := {}
  lamp : Lamp := {}
deriving DecidableEq, Repr

/-! ## Die links -/

/-- A write of an acknowledge bit on its way to a slice: a set names the occurrence it acknowledges (04 R221). -/
structure AckWrite where
  c : Ch
  k : Cond
  value : Bool
  occ : Nat
deriving DecidableEq, Repr

/-- What stands while a die's link delivers no valid frame (01 R18–R20): the slices as the controller last saw them, the
settings that the slices work from, and the settings written since, oldest first, which wait for the link. -/
structure DieHold where
  seen : Vector Slice 16
  cfgs : Vector ChCfg 16
  todo : List SettingId := []
deriving DecidableEq, Repr

/-- The serial link of one die (01 R18, R19, R900): the acknowledge-bit writes on their way, the time of its last valid
frame, and what is held while it delivers none. -/
structure DieLink where
  queue : List AckWrite := []
  lastFrame : Tick := 0
  held : Option DieHold := none
deriving DecidableEq, Repr

/-- Whether a die link delivers valid frames. -/
def DieLink.valid (d : DieLink) : Bool := d.held.isNone

/-! ## The alarm engine -/

/-- Alarm and group states in code order (04 R213). -/
inductive AlarmState where
  | normal | steeping | activeUnack | activeAck | returnUnack | shelved | inhibited | disabled
deriving DecidableEq, Repr

/-- The alarm of one condition (04 R213–R223): its state, the condition and the steep timer as last read, the end of
its group delay, the end of its shelving as a node time, the cycle in which it entered ACTIVE_UNACK, the slice's event
time and occurrence, the acknowledge bit last sent, and the node time of its latest change (06 R334). -/
structure Alarm where
  st : AlarmState := .normal
  on : Bool := false
  steep : Bool := false
  delayEnd : Option Tick := none
  shelfEnd : Option Tick := none
  entered : Nat := 0
  enteredTime : Tick := 0
  since : Tick := 0
  occ : Nat := 0
  ackBit : Bool := true
  changed : Tick := 0
deriving DecidableEq, Repr

/-- One member of G31 (04 R250): state, live cause, end of an event cause, cycle of entry, node time of its latest change. -/
structure G31Alarm where
  st : AlarmState := .normal
  cause : Bool := false
  eventEnd : Option Tick := none
  entered : Nat := 0
  enteredTime : Tick := 0
  changed : Tick := 0
deriving DecidableEq, Repr

/-- The holder of a first-out mark (04 R246, 09 R487 0x0105). -/
inductive FirstOut where
  | cond (c : Ch) (k : Cond)
  | member (m : Member)
deriving DecidableEq, Repr

/-- Levels held through a core reset or DEEP (01 R25, 04 R265). -/
structure LineHold where
  al : Vector Bool 16
  co : Vector Bool 8
deriving DecidableEq, Repr

/-- The alarm engine. `gchanged` holds the node time of each group's latest change (06 R334). `hold` keeps the ANNUN, CALL and
call-output levels while the engine is absent; `coreAt` is the start of the latest core reset (01 R25), `ranAt` when the engine
began to run (15 R783). -/
structure Engine where
  running : Bool := false
  alarms : Vector (Vector Alarm 9) 128 := .replicate 128 (.replicate 9 {})
  g31 : Vector G31Alarm 19 := .replicate 19 {}
  gstate : Vector AlarmState 32 := .replicate 32 .normal
  gchanged : Vector Tick 32 := .replicate 32 0
  first : Vector (Option FirstOut) 32 := .replicate 32 none
  hold : Option LineHold := none
  coreAt : Option Tick := none
  ranAt : Tick := 0
deriving DecidableEq, Repr

/-! ## The caller -/

/-- Call states in code order (05 R281). -/
inductive CallState where
  | idle | stage1 | stage2 | stage3 | accepted
deriving DecidableEq, Repr

/-- One replicated call state (05 R279–R296, 06 R334, R353). `timerEnd` is the node time at which the
running stage, repeat or attend timer ends (16 R820), `repeatUs` the repeat period that the running stage keeps (R290),
`engs` the engineers of whom the ringing mask holds a unit, as at the latest stage entry or repeat (R310). -/
structure Call where
  st : CallState := .idle
  cls : Fin 4 := 0
  duty : Option Eng := none
  next : Option Eng := none
  stage : Fin 4 := 0
  ringing : BitVec 64 := 0
  engs : BitVec 16 := 0
  start : Tick := 0
  timerEnd : Option Tick := none
  repeatUs : Tick := 0
  refreshAt : Tick := 0
  resumed : Bool := false
deriving DecidableEq, Repr

/-- A call unit as the node knows it (05 R273, 06 R368). -/
structure CallUnit where
  present : Bool := false
  lastHeard : Tick := 0
  counter : Nat := 0
deriving DecidableEq, Repr

/-- The dead-man timer (05 R301–R305). -/
structure Deadman where
  periodEnd : Option Tick := none
  warnUs : Tick := 0
  warning : Bool := false
deriving DecidableEq, Repr

/-- The caller. Calls are held by owning node, then group (06 R353). -/
structure Caller where
  calls : Vector (Vector Call 32) 8 := .replicate 8 (.replicate 32 {})
  units : Vector CallUnit 64 := .replicate 64 {}
  dead : Deadman := {}
deriving DecidableEq, Repr

/-! ## The watch -/

/-- Messages a node sends (06 R332, R334). -/
inductive Msg where
  | trip (c : Ch) (hi lo wire : Bool) (time : Tick)
  | alarm (b : AlarmBody)
  | call (b : CallBody)
  | callAck (u : Unit64) (counter : BitVec 32) (key : BitVec 8) (discarded : Bool)
  | handover (previous : Option NodeNo) (calls : Nat) (time : Tick)
  | ack (b : AckBody)
  | heartbeat (b : HeartbeatBody)
  | time (hostSet : Bool) (prevSeq : BitVec 16) (prevTime : Tick)
  | logcopy (r : Record)
  | console (k : Fin 16) (kind : Nat) (segment : Nat) (counter : Nat) (last : Bool) (mac : BitVec 64) (data : List Byte)
deriving DecidableEq, Repr

/-- A watch frame waiting on a bus: its source, sequence number and message (06 R334–R336, R341). -/
structure WatchFrame where
  src : NodeNo
  seq : BitVec 16
  msg : Msg
deriving DecidableEq, Repr

/-- What a receiver keeps of one node (06 R337, R343): whether it is heard, its last heartbeat, the record of its numbers,
whether it has stopped being heard (R351), and the groups of its refresh received (R344). -/
structure Peer where
  heard : Bool := false
  lastHb : Tick := 0
  ready : Bool := false
  deadmanWarning : Bool := false
  highest : Option Nat := none
  seen : BitVec 64 := 0
  lost : Bool := false
  refreshed : BitVec 32 := 0
deriving DecidableEq, Repr

/-- The captures of TIME frames on one bus (06 R361, R362). -/
structure TimeCaptures where
  byOther : List (Nat × Tick) := []
  sent : Option (BitVec 16 × Tick) := none
deriving DecidableEq, Repr

/-- A watch message as WATCH.VIEW shows it: its bus and the frame (06 R391). -/
structure View where
  bus : Bus
  frame : RawFrame
deriving DecidableEq, Repr

/-- What a refresh speaks of; its message is formed when it is queued (06 R345). -/
inductive RefreshItem where
  | cond (c : Ch) (k : Cond)
  | member (m : Member)
  | grp (g : Grp)
  | call (n : NodeNo) (g : Grp)
deriving DecidableEq, Repr

/-- The watch (06 R336–R364). `remote` holds the last ALARM_STATE of each remote alarm and group, `causesOld` those of them
that are older than the latest core reset (04 R243); `backlog` holds refresh messages not yet queued, and `refreshDue` says that one
was asked for while the engine was being reset (R345). -/
structure Watch where
  node : NodeNo := 0
  joined : Bool := false
  peers : Vector Peer 8 := .replicate 8 {}
  seq : BitVec 16 := 0
  ready : Bool := false
  firstHb : Option Tick := none
  nextHb : Tick := 0
  sendRestart : Bool := true
  sendRebuild : Bool := true
  lead : Option NodeNo := none
  remote : List ((NodeNo × AlarmKey) × AlarmBody) := []
  causesOld : List (NodeNo × AlarmKey) := []
  backlog : List RefreshItem := []
  refreshDue : Bool := false
  nextTime : Tick := 0
  view : Option View := none
  frozen : Bool := false
  shadow : Option View := none
  skip : Nat := 0
  idclashAt : Tick := 0
  captures : Vector TimeCaptures 2 := .replicate 2 {}
  slew : Int := 0
  stepped : Bool := false
  hostSet : Bool := false
  timeSet : Bool := false
deriving DecidableEq, Repr

/-! ## CAN controllers -/

/-- The state of a raw transmit entry (06 R380). -/
inductive TxState where
  | free | owned | pending | sending | sent | lost | error | cancelled
deriving DecidableEq, Repr

/-- A raw transmit entry (06 R380–R386). -/
structure TxEntry where
  st : TxState := .free
  hostOwned : Bool := false
  frame : Option RawFrame := none
  oneShot : Bool := false
  cancel : Bool := false
deriving DecidableEq, Repr

/-- A raw receive entry: the frame, whether the host owns it, and its place in the order of arrival (06 R389). -/
structure RxEntry where
  frame : RawFrame
  owned : Bool
  order : Nat
deriving DecidableEq, Repr

/-- The bus state of a controller (06 R328, R392–R395, R402). `off` is off the bus until a rejoin. -/
inductive BusMode where
  | off | active | passive | busOff | listen | listenXo
deriving DecidableEq, Repr

/-- What a controller is sending (06 R385): a watch message or a raw entry. -/
inductive Sending where
  | watch (f : WatchFrame)
  | raw (n : Fin 32)
deriving DecidableEq, Repr

/-- One CAN controller with its queues (06). `onBus` is the frame being sent as it stands on the bus (R321, R330). -/
structure Can where
  mode : BusMode := .off
  tec : Nat := 0
  recv : Nat := 0
  timing : BitTiming := {}
  rejoinDue : Bool := false
  listenDue : Bool := false
  recovering : Bool := false
  queue : List WatchFrame := []
  wdrop : Nat := 0
  rxlost : Nat := 0
  tx : Vector TxEntry 32 := .replicate 32 {}
  rx : Vector (Option RxEntry) 64 := .replicate 64 none
  rxOrder : Nat := 0
  sending : Option Sending := none
  onBus : Option RawFrame := none
  heldRecessive : Bool := false
  heldStandby : Bool := false
deriving DecidableEq, Repr

/-! ## Loop outputs -/

/-- A setpoint under way in an island: its value in 0.1 µA and the time at which its processing ends (07 R415, R416). -/
structure Processing where
  setpoint : Int
  ends : Tick
deriving DecidableEq, Repr

/-- The isolated island of one output; currents in 0.1 µA (07 R415–R422, R430, R435). -/
structure Island where
  current : Int := 40000
  stored : Int := 40000
  processing : Option Processing := none
  buffer : Option Int := none
  folded : Bool := false
deriving DecidableEq, Repr

/-- A frame on its way across the barrier (07 R412, R422). -/
inductive SetFrame where
  | start
  | setpoint (v : Int)
deriving DecidableEq, Repr

/-- One loop output: the link's side and the island (07). `out` is the scaled current in 0.1 µA. -/
structure LoopOut where
  hostval : Option Rat := none
  force : Option Nat := none
  forceBy : Option Sess := none
  running : Bool := false
  startDue : Bool := true
  last : Int := 40000
  out : Int := 40000
  inFlight : Option SetFrame := none
  nextFrame : Tick := 0
  hold : Bool := false
  lost : Bool := false
  lowv : Bool := false
  therm : Bool := false
  termv : Nat := 0
  lastStatus : Tick := 0
  island : Island := {}
deriving DecidableEq, Repr

/-! ## The panel -/

/-- Where the panel driver stands (08 R447–R451, R462, R463). A rise carries the time of its start; a power-down carries its
step (0 the rest of the slot or line in progress, then the discharge) and the time the step began. -/
inductive PanelPhase where
  | off
  | waiting
  | risingVlcd (since : Tick)
  | risingVhv (since : Tick)
  | clearFrame (line : Fin 8)
  | imageFrame (line : Fin 8)
  | run
  | discharging (step : Nat) (since : Tick)
  | fault (since : Tick)
deriving DecidableEq, Repr

/-- Whether the driver ties every COM and SEG pad to ground (08 R439, R448, R451). -/
def PanelPhase.grounds : PanelPhase → Bool
  | .off | .waiting | .fault _ => true
  | _ => false

/-- Bits of the segments of one common. -/
abbrev Segs := BitVec 80

/-- The panel driver (08). `startAt` is when the frame or the line write in progress began, `writing` whether a line write is in
progress, `rewriteDue` whether the drive that waits for its boundary calls for a full rewrite (R473). `vhvTenths` is the last
VHV measured (R479). `glass` is what the panel shows; a BCH panel keeps it without power (R37). -/
structure Panel where
  phase : PanelPhase := .off
  type : PanelType := .off
  drive : PanelCfg := {}
  parity : Bool := false
  line : Fin 8 := 0
  dirtyLines : BitVec 8 := 0
  typeDue : Bool := false
  driveDue : Bool := false
  rewriteDue : Bool := false
  startAt : Tick := 0
  writing : Bool := false
  bankActive : Vector Segs 8 := .replicate 8 0
  bankUnack : Vector Segs 8 := .replicate 8 0
  glass : Vector Segs 8 := .replicate 8 0
  testEnd : Option Tick := none
  vhvTenths : Nat := 0
  backlight : Bool := false
  flags : Vector Flag 3 := .replicate 3 {}
deriving DecidableEq, Repr

/-! ## The logbook -/

/-- Directory states of a data sector in code order (09 R499). -/
inductive SectorState where
  | free | erasing | erased | filling | full
deriving DecidableEq, Repr

/-- A slot of a data sector: a record, or a slot neither erased nor valid (09 R514). -/
inductive Slot where
  | record (r : Record)
  | torn
deriving DecidableEq, Repr

/-- A data sector: directory state, programmed slots in order, failures, and whether it is out of use (09 R499–R501,
R515). -/
structure Sector where
  st : SectorState := .erased
  slots : List Slot := []
  failures : Nat := 0
  out : Bool := false
deriving DecidableEq, Repr

/-- An erase under way: its attempts so far, and when it last began, was suspended or was resumed; `wrote` says that a record
has been programmed during the suspension (09 R503, R511, R512, R515). -/
structure Erase where
  sector : Fin 8
  foreground : Bool
  attempts : Nat := 0
  suspended : Bool := false
  since : Tick
  resumed : Bool := false
  wrote : Bool := false
deriving DecidableEq, Repr

/-- An event as a block hands it to the writer, stamped (09 R489). -/
structure Event where
  time : Tick
  tunset : Bool
  kind : Nat
  index : Nat
  code : BitVec 16
  value : BitVec 32 := 0
  qual : Nat := 15
  newState : Nat := 0
  prevState : Nat := 0
  firstOut : Bool := false
  ackBit : Bool := false
  condOn : Bool := false
  detail : BitVec 64 := 0
deriving DecidableEq, Repr

/-- A staged record: an own event awaiting its sequence number, or a record copied from another node (09 R485, R524). -/
inductive Staged where
  | own (e : Event)
  | copied (r : Record)
deriving DecidableEq, Repr

/-- A line that waits for its reply: its session, its number among the lines taken, and whether it is a line of the host
port, of a script run there included (10 R543, R554, R566). -/
structure Waiter where
  sess : Sess
  no : Nat
  host : Bool
deriving DecidableEq, Repr

/-- A LOG CLEAR in its steps 1–3: its line, its session's source, the node time of its latch point and the old record
count (09 R506). -/
structure Clearing where
  by_ : Waiter
  src : Nat × Nat
  time : Tick
  tunset : Bool
  oldCount : Nat
deriving DecidableEq, Repr

/-- The logbook writer and its flash (09). The lists run oldest first; `burst` counts the drops not yet staged as 0x0704
(R492). `restore` says that the refused counters are still to be restored from the directory (R497). -/
structure Log where
  incoming : List Staged := []
  stage : List Staged := []
  refused : Vector Nat 7 := .replicate 7 0
  dropped : Nat := 0
  burst : Nat := 0
  opened : Bool := false
  seq : Nat := 3
  sectors : Vector Sector 8 := .replicate 8 {}
  filling : Option (Fin 8) := none
  dirEntries : Nat := 0
  dirSector : Fin 2 := 0
  savedRefused : Vector Nat 7 := .replicate 7 0
  savedAt : Option Tick := none
  erase : Option Erase := none
  toErase : List (Fin 8) := []
  clearing : Option Clearing := none
  clearOn : Bool := false
  full : Bool := false
  copies : Nat := 0
  restore : Bool := true
deriving DecidableEq, Repr

/-! ## The host port and the interpreter -/

/-- The error codes E01–E18 (11 R631). -/
inductive Err where
  | e01 | e02 | e03 | e04 | e05 | e06 | e07 | e08 | e09 | e10 | e11 | e12 | e13 | e14 | e15 | e16 | e17 | e18
deriving DecidableEq, Repr

/-- A reply: its data lines, its status line, and the position before its first line, for MORE (11 R594, R597). -/
structure Reply where
  data : List Text := []
  err : Option Err := none
  base : Nat := 0
deriving DecidableEq, Repr

/-- A nonce awaiting its proof (12 R640). -/
structure Nonce where
  value : BitVec 128
  role : Role
  expires : Tick
deriving DecidableEq, Repr

/-- A session: its role, its nonce, the end of its last reply and the idle time in s then set (12 R651–R653, R687);
and the nonce that a lock-out discarded, with the command it fell in, since a second failing proof of one engine cycle
still counts (12 R648, R650). -/
structure Session where
  role : Role := .observer
  nonce : Option Nonce := none
  dropped : Option (Nonce × Nat) := none
  idleSince : Tick := 0
  timeout : Nat := 300
deriving DecidableEq, Repr

/-- A reply as it stands at a session, with its line's number: `none` where the reply is still held back. -/
structure Answer where
  verb : Text := []
  tag : Option Text := none
  reply : Option Reply := none
  abandoned : Bool := false
  no : Nat := 0
deriving DecidableEq, Repr

/-- A remote console's session (06 R374–R378). Sessions keep the key of their proof and count wrong MACs. `complete` says that
the last segment of a line has come, which waits to run (R378). -/
structure Console where
  k : Fin 16
  sess : Session := {}
  key : Option (BitVec 128) := none
  newKey : Option (BitVec 128) := none
  rxCounter : Nat := 1
  txCounter : Nat := 1
  wrongMacs : Nat := 0
  buf : List Byte := []
  complete : Bool := false
  answer : Answer := {}
deriving DecidableEq, Repr

/-- The host port (10). `echo` holds the characters echoed last in asynchronous mode (R550), `out` the byte that goes out on
HP_DO after the present one in clocked mode: receiving, working or complete; the reply's own bytes stand in `answer` (R538). -/
structure Port where
  async : Bool := true
  opened : Bool := false
  baud : Option Nat := none
  line : Text := []
  tooLong : Bool := false
  corrupt : Bool := false
  badChar : Bool := false
  inLine : Bool := false
  lastCr : Bool := false
  lastCharAt : Tick := 0
  latched : Option Text := none
  echo : List Byte := []
  out : Byte := 0
  transaction : Bool := false
  sess : Session := {}
  answer : Answer := {}
  last : Answer := {}
  events : Vector Flag 8 := .replicate 8 {}
  echoOn : Bool := true
  crcRequired : Bool := false
  attn : BitVec 16 := 0x000F
deriving DecidableEq, Repr

/-- What a line's work in another domain is (10 R543, 14 R763, 13 R728). -/
inductive Work where
  | save (gen : Nat) (cfg : Settings) (by_ : Waiter)
  | key (k : KeyName) (value : Nat) (by_ : Waiter)
  | march (bank : Bank) (destructive : Bool) (since : Tick) (by_ : Waiter)
  | measure (a b : ClkName) (n : Nat) (since : Tick) (by_ : Waiter)
  | clock (toXo : Bool) (by_ : Waiter)
  | panelClock (toLpo : Bool) (since : Tick) (by_ : Waiter)
deriving DecidableEq, Repr

/-- A script being run: its saved lines still to run, the last line run, and the number of a line whose work is in progress
(11 R620–R626). `boot` marks S00 at start-up. -/
structure Running where
  script : Script
  todo : List (Nat × Text)
  last : Nat := 0
  role : Role
  by_ : Waiter
  stop : Bool := false
  boot : Bool := false
  waiting : Option Nat := none
deriving DecidableEq, Repr

/-- How a script's latest run ended (11 R637). -/
structure ScriptEnd where
  line : Nat
  err : Option Err
deriving DecidableEq, Repr

/-- The interpreter: consoles, the running script, the work of lines in progress, the count of lines taken, and the RESET.WDI of
the latest latch point (15 R808). -/
structure Interp where
  running : Bool := false
  consoles : List Console := []
  script : Option Running := none
  ends : Vector (Option ScriptEnd) 16 := .replicate 16 none
  flash : Option Work := none
  march : Option Work := none
  measure : Option Work := none
  clock : Option Work := none
  wdi : Nat := 65536
  panelClock : Option Work := none
  count : Nat := 0
deriving DecidableEq, Repr

/-! ## Non-volatile stores -/

/-- A configuration image (11 R608). -/
structure Image where
  gen : Nat
  valid : Bool
  cfg : Settings
deriving DecidableEq, Repr

/-- The configuration array beside the keys (11 R608, R637, 06 R369). -/
structure Images where
  slot0 : Option Image := some ⟨1, true, {}⟩
  slot1 : Option Image := none
  saved : Tick := 0
  unitCounters : Vector Nat 64 := .replicate 64 0
deriving DecidableEq, Repr

/-- A partition image: the settings of R662, held as the settings whose partition part counts (12 R665). -/
structure PartImage where
  gen : Nat
  valid : Bool
  cfg : Settings
deriving DecidableEq, Repr

/-- What is left of a line that makes several writes in order: those still to make, each with its value as written; for a
LOAD, which goes on past refusals, whether it loads the defaults; and its refusals so far (04 R231, 11 R616, R617). -/
structure WriteLine where
  todo : List (SettingId × Text) := []
  load : Option Bool := none
  refusals : List (SettingId × Err) := []
deriving DecidableEq, Repr

/-- A partition write accepted and waiting for its image (12 R665, 16 R817): the line that waits for it with what is left of
that line, and the session of the first write where it is the second of a collision (16 R814). -/
structure PartWrite where
  id : SettingId
  value : Text
  by_ : Waiter
  src : Nat × Nat
  coll : Option (Nat × Nat)
  line : WriteLine := {}
deriving DecidableEq, Repr

/-- The key switch (12 R672). -/
inductive KeySwitch where
  | asserted | released | fault
deriving DecidableEq, Repr

/-- The safety sequencer (12 R664–R678). -/
structure Partition where
  slot0 : Option PartImage := some ⟨1, true, {}⟩
  slot1 : Option PartImage := none
  writes : List PartWrite := []
  keysw : KeySwitch := .released
  errorDue : Bool := false
  checkAt : Tick := 0
  flags : Vector Flag 4 := .replicate 4 {}
deriving DecidableEq, Repr

/-- The key store (12 R649, R655–R659, R680). Index 0–2 is OPERATOR, ENGINEER, CUSTODIAN. -/
structure Keys where
  role : Vector Nat 3 := .replicate 3 0
  unit : Vector Nat 64 := .replicate 64 0
  fails : Vector Nat 3 := .replicate 3 0
  period : Vector Nat 3 := .replicate 3 0
  lockEnd : Vector (Option Tick) 3 := .replicate 3 none
  debugLocked : Bool := true
  debugOpenDue : Bool := false
deriving DecidableEq, Repr

/-! ## Clocks, memory, reset and power -/

/-- What ENGINE, STORE and LINK run on (13 R696). -/
inductive Chain where
  | irc | ircChain | xo
deriving DecidableEq, Repr

/-- The clock generation (13). `goal` is the reference the PLL is locking on. -/
structure Clocks where
  chain : Chain := .irc
  goal : Option Chain := none
  panelLpo : Bool := false
  xofreq : Nat := 16
  xoCount : Nat := 0
  xoPassed : Bool := false
  healthySince : Option Tick := none
  failures : List Tick := []
  autoStopped : Bool := false
  xoFailed : Bool := false
  xoWaking : Bool := false
  lpoCount : Nat := 0
  sscNow : Nat := 0
  sscAt : Tick := 0
  sscPin : Flag := {}
  lpoFail : Flag := {}
deriving DecidableEq, Repr

/-- The power state of a bank (14 R772). -/
inductive BankState where
  | on | ret | off | clearing | test
deriving DecidableEq, Repr

/-- The last read of a bank that found an error: its word address, the data given to the master, and the word the arbiter
wrote back (14 R743, R745). -/
structure ErrorRead where
  word : Nat
  data : BitVec 32
  back : Option RawWord
deriving DecidableEq, Repr

/-- One memory bank (14 R743–R757, R772). `since` is when its zeroing began. -/
structure BankSt where
  st : BankState := .on
  sbe : Nat := 0
  fault : Flag := {}
  sbeLogged : Option Tick := none
  errorRead : Option ErrorRead := none
  ownerHeld : Bool := false
  since : Tick := 0
deriving DecidableEq, Repr

/-- The memory banks (14). -/
structure Mem where
  banks : Vector BankSt 5 := .replicate 5 {}
  last : Option Text := none
  marchFails : Nat := 0
deriving DecidableEq, Repr

/-- Sources of reset, each with its RSTCAUSE bit (15 R776, R780). WDESC is set beside a watchdog's bit. -/
inductive ResetSource where
  | por | rail | extrst | wde | wdi | wdesc | eccEng | partErr | cfgPar | hostCore | hostSys | remCore | remSys | marchRt
deriving DecidableEq, Repr

/-- Reset levels, highest first (15 R773, R793). -/
inductive ResetLevel where
  | power | system | core
deriving DecidableEq, Repr

/-- Where the node stands in the order out of reset (15 R791, R792): unpowered, held by RESET_N, stopped after march
failures, waiting for the start-up test (step 5), for zeroing (6), for CLOCK.SRC (8), for the rebuild (10), for S00 (12),
for the port (13), or started. -/
inductive Phase where
  | unpowered
  | held
  | stopped
  | marching
  | zeroing
  | clocking
  | rebuilding
  | booting
  | opening
  | up
deriving DecidableEq, Repr

/-- The reset controller (15 R773–R785). `since` is when the start-up began, from step 7 on when the configuration was
loaded. -/
structure Reset where
  phase : Phase := .marching
  full : Bool := true
  level : ResetLevel := .power
  cause : BitVec 16 := 1
  lastLevel : ResetLevel := .power
  lastSource : ResetSource := .por
  logDue : List (ResetLevel × ResetSource × BitVec 16) := [(.power, .por, 1)]
  wdCoreAt : Option Tick := none
  marchStopAt : Option Tick := none
  coreDeep : Bool := false
  since : Tick := 0
deriving DecidableEq, Repr

/-- The power modes (15 R794–R804). The DEEP settings are those of the latest entry, as are the latched PWRWARN and LPOFAIL
(09 R526). -/
structure Power where
  mode : PowerMode := .run
  deepAt : Tick := 0
  deepWake : BitVec 8 := 0x07
  deepPeriod : Nat := 60
  deepRate : Fin 11 := 10
  returnAt : Option Tick := none
  warnAtEntry : Bool := false
  lpoAtEntry : Bool := false
deriving DecidableEq, Repr

/-- The node-level flags of STATUS (11 R606). -/
structure NodeFlags where
  clkFail : Flag := {}
  swHang : Flag := {}
  pwrWarn : Flag := {}
  setColl : Flag := {}
  logFull : Flag := {}
  storFault : Flag := {}
  idClash : Flag := {}
deriving DecidableEq, Repr

/-- Causes of STORFAULT that stand (09 R501, R508, R515, 11 R612, R614, 12 R678). -/
structure StorCauses where
  program : Bool := false
  sectorOut : Bool := false
  config : Bool := false
  partition : Bool := false
deriving DecidableEq, Repr

/-- The settings store's record of the write it accepted last, with its session's source and cycle, and of the latest
collision (16 R811–R815, R833). -/
structure Store where
  lastWrite : Option (SettingId × (Nat × Nat) × Nat) := none
  collision : Option (SettingId × (Nat × Nat) × (Nat × Nat) × Tick) := none
deriving DecidableEq, Repr

/-! ## Pins and pads -/

/-- Input pins and the supply in mV. `vsupLowAt` is when the supply was last seen at or below 5.8 V, or the node was powered
(15 R794). -/
structure Pins where
  vsup : Nat := 24000
  asyncStrap : Bool := true
  keyALow : Bool := false
  keyBLow : Bool := true
  resetLow : Bool := false
  vsupLowAt : Tick := 0
deriving DecidableEq, Repr

/-- Output pads (15 R790). -/
structure Pads where
  al : Vector Bool 16 := .replicate 16 false
  co : Vector Bool 8 := .replicate 8 false
  attnLow : Bool := false
  stbHigh : Vector Bool 2 := .replicate 2 true
  canRecessive : Vector Bool 2 := .replicate 2 true
  blDuty : Nat := 0
  blPulledUp : Bool := false
  panelGrounded : Bool := true
  hpDoDriven : Bool := false
deriving DecidableEq, Repr

/-- The part and its serial number, fixed at manufacture (01 Settings). -/
structure Ident where
  part : Part := .ev128
  serial : BitVec 64 := 0
deriving DecidableEq, Repr

end Sys2Proof.Machine
end

