-- ==== Sys2Proof/Machine/State.lean ====
section
/-! DEFINITION. The state of the block, the reasons a step can stop, and the state right after reset. -/

namespace Sys2Proof.Machine

/-- The whole node. `pending`, `now`, `cycle` and `freeCtr` are the model's own fields (log 1–4); the others are the
spec's (INVENTORY.md '## State'). -/
structure State where
  pending : List Instr := []
  now : Tick := 0
  cycle : Nat := 1
  freeCtr : Nat := 0
  nodeTime : Tick := 0
  ident : Ident := {}
  pins : Pins := {}
  pads : Pads := {}
  live : Settings := {}
  store : Store := {}
  images : Images := {}
  part : Partition := {}
  keys : Keys := {}
  slices : Vector Slice 128 := .replicate 128 {}
  dies : Vector DieLink 8 := .replicate 8 {}
  engine : Engine := {}
  caller : Caller := {}
  watch : Watch := {}
  can : Vector Can 2 := .replicate 2 {}
  lx : Vector LoopOut 8 := .replicate 8 {}
  panel : Panel := {}
  log : Log := {}
  port : Port := {}
  interp : Interp := {}
  clk : Clocks := {}
  mem : Mem := {}
  rst : Reset := {}
  power : Power := {}
  flags : NodeFlags := {}
  stor : StorCauses := {}
deriving DecidableEq, Repr

/-- A record of the delivered log: no time set, source kind and index, code and sequence number (log 7). -/
def State.deliveredRecord (source code : BitVec 16) (seq : BitVec 16) : Slot :=
  .record { time := 0, source := source, code := code, value := 0, flags := 0xF008, seq := seq, detail := 0 }

/-- The log as delivered: cleared once from the host port, sector 0 in use (09 R487, R506; log 7). -/
def State.deliveredSector : Sector :=
  { st := .filling
    slots := [State.deliveredRecord 0x1800 0x0701 1, State.deliveredRecord 0x0C04 0x0702 2,
      State.deliveredRecord 0x0C04 0x0703 3] }

/-- The node just after a POWER reset has begun (15 R773, R791, R792): its start-up test runs, PWRWARN stands (R794), and the
non-volatile stores hold their delivered contents (log 7). -/
def State.reset : State :=
  { slices := .replicate 128 { front := { inp := .highZ } }
    flags := { pwrWarn := { live := true, latched := true } }
    engine := { g31 := (.replicate 19 {} : Vector G31Alarm 19).set 4 { cause := true } }
    mem := { banks := .replicate 5 { st := .test } }
    log := { sectors := (.replicate 8 {} : Vector Sector 8).set 0 State.deliveredSector } }

/-- The manual stops this block in no way: every command it takes has a next state. The one constructor is kept for a
command that no sender can form; nothing raises it (safe). -/
inductive Fault where
  | notACommand
deriving DecidableEq, Repr

/-- Reasons to refuse a command. -/
inductive Refusal where
  /-- Raised by an arm of exec whose row has no meaning yet (safe: no claim can be made of it). -/
  | notModelled (mnemonic : String)
deriving DecidableEq, Repr

/-- What a step answers. -/
abbrev Out := Host.Outcome State Fault Refusal

end Sys2Proof.Machine
end

