-- ==== Sys2Proof/Machine/Text.lean ====
section
/-! DEFINITION. Plain operations on text and numbers: the forms in which Titex writes numbers, masks and lists
(11 R581, R585, R586, R596). -/

namespace Sys2Proof.Machine

/-- Text of a string literal. -/
abbrev txt (s : String) : Text := s.toList

/-- A decimal digit's value. -/
def digitVal (c : Char) : Option Nat :=
  if '0'.toNat ≤ c.toNat ∧ c.toNat ≤ '9'.toNat then some (c.toNat - 48) else none

/-- A hex digit's value, in either case. -/
def hexVal (c : Char) : Option Nat :=
  if '0'.toNat ≤ c.toNat ∧ c.toNat ≤ '9'.toNat then some (c.toNat - 48)
  else if 'A'.toNat ≤ c.toNat ∧ c.toNat ≤ 'F'.toNat then some (c.toNat - 55)
  else if 'a'.toNat ≤ c.toNat ∧ c.toNat ≤ 'f'.toNat then some (c.toNat - 87)
  else none

/-- Upper case of one ASCII letter. -/
def upChar (c : Char) : Char :=
  if 'a'.toNat ≤ c.toNat ∧ c.toNat ≤ 'z'.toNat then Char.ofNat (c.toNat - 32) else c

/-- Keywords and names are case-insensitive (11 R581). -/
def upper (t : Text) : Text := t.map upChar

/-- Decimal digits, at least one, as a number. -/
def readNat : Text → Option Nat
  | [] => none
  | t => t.foldl (fun acc c => match acc, digitVal c with
      | some n, some d => some (n * 10 + d)
      | _, _ => none) (some 0)

/-- Exactly n decimal digits (11 R583). -/
def readDigits (n : Nat) (t : Text) : Option Nat :=
  if t.length = n then readNat t else none

/-- A decimal number without a leading zero (11 R583). -/
def readNoZero (t : Text) : Option Nat :=
  match t with
  | ['0'] => some 0
  | '0' :: _ => none
  | _ => readNat t

/-- Hex digits, at least one, as a number. -/
def readHex : Text → Option Nat
  | [] => none
  | t => t.foldl (fun acc c => match acc, hexVal c with
      | some n, some d => some (n * 16 + d)
      | _, _ => none) (some 0)

/-- A mask: 0x and hex digits (11 R585). -/
def readMask : Text → Option Nat
  | '0' :: x :: t => if x = 'x' ∨ x = 'X' then readHex t else none
  | _ => none

/-- The digits after the decimal point, as a fraction. -/
def readFraction (t : Text) : Option Rat :=
  match t with
  | [] => some 0
  | _ => (readNat t).map fun n => (n : Rat) / ((10 ^ t.length : Nat) : Rat)

/-- Splits at the first character c. -/
def splitFirst (c : Char) : Text → Text × Option Text
  | [] => ([], none)
  | x :: t => if x = c then ([], some t) else
      let (a, b) := splitFirst c t
      (x :: a, b)

/-- Splits at every character c. -/
def splitAll (c : Char) : Text → List Text
  | [] => [[]]
  | x :: t => if x = c then [] :: splitAll c t else
      match splitAll c t with
      | [] => [[x]]
      | a :: r => (x :: a) :: r

/-- An unsigned decimal number with an optional decimal point and at least one digit. -/
def readUnsigned (t : Text) : Option Rat :=
  match splitFirst '.' t with
  | (a, none) => (readNat a).map fun n => (n : Rat)
  | (a, some b) =>
    if a = [] ∧ b = [] then none
    else match (if a = [] then some 0 else readNat a), readFraction b with
      | some n, some f => some ((n : Rat) + f)
      | _, _ => none

/-- A number as 11 R585 writes it. -/
def readNumber : Text → Option Rat
  | '-' :: t => (readUnsigned t).map fun q => -q
  | '+' :: t => readUnsigned t
  | t => readUnsigned t

/-- The tokens of a line: one or more spaces separate them (11 R579). -/
def tokens (t : Text) : List Text := (splitAll ' ' t).filter (· ≠ [])

/-- Joins texts with a separator. -/
def joinWith (sep : Text) : List Text → Text
  | [] => []
  | [a] => a
  | a :: r => a ++ sep ++ joinWith sep r

/-- Tokens joined by single spaces. -/
def unwords (ts : List Text) : Text := joinWith [' '] ts

/-- The characters of a digit. -/
def digitChar (n : Nat) : Char := Char.ofNat (48 + n)

/-- A hex digit, upper case. -/
def hexChar (n : Nat) : Char := if n < 10 then Char.ofNat (48 + n) else Char.ofNat (55 + n)

/-- The n lowest decimal digits of a number. -/
def showPadded : Nat → Nat → Text
  | 0, _ => []
  | k + 1, n => showPadded k (n / 10) ++ [digitChar (n % 10)]

/-- How many decimal digits a number has, within a bound. -/
def decLen : Nat → Nat → Nat
  | 0, _ => 1
  | k + 1, n => if n < 10 then 1 else decLen k (n / 10) + 1

/-- A number in decimal. -/
def showNat (n : Nat) : Text := showPadded (decLen (Nat.log2 n + 1) n) n

/-- An integer in decimal, with the ASCII hyphen-minus (11 R596). -/
def showInt (z : Int) : Text := if z < 0 then '-' :: showNat z.natAbs else showNat z.natAbs

/-- The n lowest hex digits of a number, upper case. -/
def showHexDigits : Nat → Nat → Text
  | 0, _ => []
  | k + 1, n => showHexDigits k (n / 16) ++ [hexChar (n % 16)]

/-- A mask with 0x and n digits (11 R596). -/
def showMask (n : Nat) (v : Nat) : Text := txt "0x" ++ showHexDigits n v

/-- Groups of four hex digits of a number of 16·n bits, highest first (00 Transcripts). -/
def showGroups : Nat → Nat → List Text
  | 0, _ => []
  | k + 1, n => showGroups k (n / 65536) ++ [showHexDigits 4 n]

/-- The absolute value of a rational. -/
def ratAbs (q : Rat) : Rat := if q < 0 then -q else q

/-- The nearest integer, a half rounded away from zero (11 R586). -/
def roundAway (q : Rat) : Int :=
  if 0 ≤ q then (q + 1 / 2).floor else -((-q + 1 / 2).floor)

/-- The least integer at or above a rational. -/
def ceilRat (q : Rat) : Int := -((-q).floor)

/-- A number shown with n decimals. -/
def showFixed (n : Nat) (q : Rat) : Text :=
  let z := roundAway (q * ((10 ^ n : Nat) : Rat))
  let a := z.natAbs
  let body := showNat (a / 10 ^ n) ++ (if n = 0 then [] else '.' :: showPadded n a)
  if z < 0 then '-' :: body else body

/-- How many decimals bring a positive number to at least 10^6, within a bound. -/
def sigDecimals : Nat → Rat → Nat
  | 0, _ => 0
  | k + 1, q => if 1000000 ≤ q then 0 else sigDecimals k (q * 10) + 1

/-- A number rounded to 7 significant digits, of magnitude 10^6 at most as every such setting has (02 R136, 04 R268). -/
def roundSig7 (q : Rat) : Rat :=
  if q = 0 then 0
  else
    let s : Rat := ((10 ^ sigDecimals 300 (ratAbs q) : Nat) : Rat)
    (roundAway (q * s) : Rat) / s

/-- Trailing zeros removed, at least one digit kept after the point. -/
def trimZeros (t : Text) : Text :=
  match (t.reverse.dropWhile (· = '0')) with
  | '.' :: r => ('.' :: r).reverse ++ ['0']
  | r => r.reverse

/-- A number of a setting given in significant digits (11 R596). -/
def showSig7 (q : Rat) : Text :=
  if q = 0 then txt "0.0"
  else
    let n := sigDecimals 300 (ratAbs q)
    if n = 0 then showFixed 1 q else trimZeros (showFixed n q)

/-- Whether a text begins with another. -/
def startsWith : Text → Text → Bool
  | _, [] => true
  | [], _ => false
  | a :: s, b :: t => a = b && startsWith s t

/-- What follows a given beginning. -/
def afterStart : Text → Text → Option Text
  | s, [] => some s
  | [], _ => none
  | a :: s, b :: t => if a = b then afterStart s t else none

/-- The first k places of a list whose items meet a test. -/
def firstIdx {α : Type} (p : α → Bool) : List α → Option Nat
  | [] => none
  | a :: r => if p a then some 0 else (firstIdx p r).map (· + 1)

/-- Printable ASCII, 0x20–0x7E (11 R578). -/
def printable (c : Char) : Bool := decide (32 ≤ c.toNat ∧ c.toNat ≤ 126)

/-- The bytes of an ASCII text. -/
def textBytes (t : Text) : List Byte := t.map fun c => BitVec.ofNat 8 c.toNat

/-- The low n bytes of a number, lowest first (06 R334, 09 R480). -/
def leBytes : Nat → Nat → List Byte
  | 0, _ => []
  | k + 1, n => BitVec.ofNat 8 n :: leBytes k (n / 256)

/-- The low n bytes of a number, highest first (06 R367). -/
def beBytes (n v : Nat) : List Byte := (leBytes n v).reverse

/-- The number that bytes spell, highest first. -/
def ofBytesBe (bs : List Byte) : Nat := bs.foldl (fun n b => n * 256 + b.toNat) 0

/-- Changes one item of a vector. -/
def upd {α : Type} {n : Nat} (v : Vector α n) (i : Fin n) (f : α → α) : Vector α n := v.set i.val (f v[i.val])

/-- The position of an item in a list; its length where it is absent. -/
def posIn {α : Type} [DecidableEq α] (l : List α) (a : α) : Nat := (firstIdx (fun x => decide (x = a)) l).getD l.length

end Sys2Proof.Machine
end

