-- ==== Sys2Proof/Machine/Flags.lean ====
section
/-! DEFINITION. Status flags: the live cause, the latched bit and the AGAIN counter (02 R119–R123). -/

namespace Sys2Proof.Machine

/-- An 8-bit counter that saturates (02 R122). -/
def again8 (n : Nat) : Nat := min 255 (n + 1)

/-- Sets the latched bit; a flag already set counts in AGAIN (02 R119, R122). -/
def Flag.latch (f : Flag) : Flag := if f.latched then { f with again := again8 f.again } else { f with latched := true }

/-- The live cause takes a value: its becoming true sets the flag (02 R119, R122). -/
def Flag.drive (c : Bool) (f : Flag) : Flag :=
  if c && !f.live then { f.latch with live := true } else { f with live := c }

/-- A cause that is true for one cycle only (13 R734, 16 R810). -/
def Flag.pulse (f : Flag) : Flag := { f.latch with live := false }

/-- CLEAR STATUS of a flag (02 R120, R121; log 162); `setNow` says that its cause sets it in the same cycle. -/
def Flag.clear (setNow : Bool) (f : Flag) : Flag :=
  if f.live || setNow then { f with latched := true, again := again8 f.again }
  else { f with latched := false, again := 0 }

/-- A flag after a SYSTEM or POWER reset (02 R128). -/
def Flag.reset : Flag := {}

/-- The latched bits of a row of flags, bit 0 first. -/
def flagBits (l : List Flag) : Nat :=
  l.foldr (fun f n => 2 * n + (if f.latched then 1 else 0)) 0

/-- The live causes of a row of flags, bit 0 first. -/
def liveBits (l : List Flag) : Nat :=
  l.foldr (fun f n => 2 * n + (if f.live then 1 else 0)) 0

/-- The names of the set bits from the highest bit down, each after one space (11 R596). -/
def bitNames (names : List Text) (v : Nat) : Text :=
  (names.zip (List.range names.length)).foldl
    (fun acc p => if v.testBit p.2 then txt " " ++ p.1 ++ acc else acc) []

/-- A status value laid out as a bit field (11 R596). -/
def showBits (names : List Text) (v : Nat) : Text := showMask 4 v ++ bitNames names v

end Sys2Proof.Machine
end

