-- ==== Sys2Proof/Machine/Codes.lean ====
section
/-! DEFINITION. Check codes and keyed hashes: the line check (11 R590), CRC-32 (09 R484), HMAC-SHA-256 (06 R367,
12 R641; the hash is that of FIPS 180-4 and RFC 2104, log 19), and binary32 (11 R630). -/

namespace Sys2Proof.Machine

/-- One bit step of the line check: polynomial 0x07, no reflection (11 R590). -/
def crc8Bit (c : BitVec 8) : BitVec 8 := if c.msb then (c <<< 1) ^^^ 0x07#8 else c <<< 1

/-- The line check over one more byte. -/
def crc8Byte (c b : BitVec 8) : BitVec 8 :=
  crc8Bit (crc8Bit (crc8Bit (crc8Bit (crc8Bit (crc8Bit (crc8Bit (crc8Bit (c ^^^ b))))))))

/-- The line check of a text (11 R590). -/
def crc8 (t : Text) : BitVec 8 := (textBytes t).foldl crc8Byte 0

/-- One bit step of CRC-32: polynomial 0x04C11DB7, reflected (09 R484). -/
def crc32Bit (c : BitVec 32) : BitVec 32 := if c.getLsbD 0 then (c >>> 1) ^^^ 0xEDB88320#32 else c >>> 1

/-- CRC-32 over one more byte. -/
def crc32Byte (c : BitVec 32) (b : Byte) : BitVec 32 :=
  crc32Bit (crc32Bit (crc32Bit (crc32Bit (crc32Bit (crc32Bit (crc32Bit (crc32Bit (c ^^^ b.setWidth 32))))))))

/-- CRC-32 of bytes (09 R484). -/
def crc32 (bs : List Byte) : BitVec 32 := ~~~ (bs.foldl crc32Byte 0xFFFFFFFF#32)

/-- The 64 round constants of SHA-256 (log 19). -/
def shaK : List (BitVec 32) :=
  [0x428a2f98#32, 0x71374491#32, 0xb5c0fbcf#32, 0xe9b5dba5#32, 0x3956c25b#32, 0x59f111f1#32, 0x923f82a4#32, 0xab1c5ed5#32,
   0xd807aa98#32, 0x12835b01#32, 0x243185be#32, 0x550c7dc3#32, 0x72be5d74#32, 0x80deb1fe#32, 0x9bdc06a7#32, 0xc19bf174#32,
   0xe49b69c1#32, 0xefbe4786#32, 0x0fc19dc6#32, 0x240ca1cc#32, 0x2de92c6f#32, 0x4a7484aa#32, 0x5cb0a9dc#32, 0x76f988da#32] ++
  [0x983e5152#32, 0xa831c66d#32, 0xb00327c8#32, 0xbf597fc7#32, 0xc6e00bf3#32, 0xd5a79147#32, 0x06ca6351#32, 0x14292967#32,
   0x27b70a85#32, 0x2e1b2138#32, 0x4d2c6dfc#32, 0x53380d13#32, 0x650a7354#32, 0x766a0abb#32, 0x81c2c92e#32, 0x92722c85#32,
   0xa2bfe8a1#32, 0xa81a664b#32, 0xc24b8b70#32, 0xc76c51a3#32, 0xd192e819#32, 0xd6990624#32, 0xf40e3585#32, 0x106aa070#32] ++
  [0x19a4c116#32, 0x1e376c08#32, 0x2748774c#32, 0x34b0bcb5#32, 0x391c0cb3#32, 0x4ed8aa4a#32, 0x5b9cca4f#32, 0x682e6ff3#32,
   0x748f82ee#32, 0x78a5636f#32, 0x84c87814#32, 0x8cc70208#32, 0x90befffa#32, 0xa4506ceb#32, 0xbef9a3f7#32, 0xc67178f2#32]

/-- The eight working words of SHA-256. -/
structure ShaWords where
  a : BitVec 32
  b : BitVec 32
  c : BitVec 32
  d : BitVec 32
  e : BitVec 32
  f : BitVec 32
  g : BitVec 32
  h : BitVec 32
deriving DecidableEq, Repr

/-- The initial words of SHA-256 (log 19). -/
def shaInit : ShaWords :=
  ⟨0x6a09e667#32, 0xbb67ae85#32, 0x3c6ef372#32, 0xa54ff53a#32, 0x510e527f#32, 0x9b05688c#32, 0x1f83d9ab#32, 0x5be0cd19#32⟩

/-- One round of SHA-256. -/
def shaRound (s : ShaWords) (kw : BitVec 32 × BitVec 32) : ShaWords :=
  let s1 := s.e.rotateRight 6 ^^^ s.e.rotateRight 11 ^^^ s.e.rotateRight 25
  let ch := (s.e &&& s.f) ^^^ (~~~ s.e &&& s.g)
  let t1 := s.h + s1 + ch + kw.1 + kw.2
  let s0 := s.a.rotateRight 2 ^^^ s.a.rotateRight 13 ^^^ s.a.rotateRight 22
  let maj := (s.a &&& s.b) ^^^ (s.a &&& s.c) ^^^ (s.b &&& s.c)
  ⟨t1 + (s0 + maj), s.a, s.b, s.c, s.d + t1, s.e, s.f, s.g⟩

/-- Extends the message schedule, held newest first. -/
def shaExtend : Nat → List (BitVec 32) → List (BitVec 32)
  | 0, w => w
  | k + 1, w =>
    let w15 := w.getD 14 0
    let w2 := w.getD 1 0
    let g0 := w15.rotateRight 7 ^^^ w15.rotateRight 18 ^^^ w15 >>> 3
    let g1 := w2.rotateRight 17 ^^^ w2.rotateRight 19 ^^^ w2 >>> 10
    shaExtend k ((w.getD 15 0 + g0 + w.getD 6 0 + g1) :: w)

/-- Groups bytes into big-endian words. -/
def shaWordsOf : List Byte → List (BitVec 32)
  | a :: b :: c :: d :: r => (a ++ b ++ c ++ d) :: shaWordsOf r
  | _ => []

/-- One block of SHA-256. -/
def shaBlock (s : ShaWords) (w : List (BitVec 32)) : ShaWords :=
  let t := (shaK.zip (shaExtend 48 w.reverse).reverse).foldl shaRound s
  ⟨s.a + t.a, s.b + t.b, s.c + t.c, s.d + t.d, s.e + t.e, s.f + t.f, s.g + t.g, s.h + t.h⟩

/-- The words of the padded message in blocks of 16. -/
def shaBlocks : Nat → ShaWords → List (BitVec 32) → ShaWords
  | 0, s, _ => s
  | k + 1, s, w => shaBlocks k (shaBlock s (w.take 16)) (w.drop 16)

/-- SHA-256 of bytes. -/
def sha256 (m : List Byte) : List Byte :=
  let blocks := (m.length + 9 + 63) / 64
  let padded := m ++ [0x80#8] ++ List.replicate (blocks * 64 - 9 - m.length) 0#8 ++ beBytes 8 (m.length * 8)
  let s := shaBlocks blocks shaInit (shaWordsOf padded)
  [s.a, s.b, s.c, s.d, s.e, s.f, s.g, s.h].flatMap fun w => beBytes 4 w.toNat

/-- HMAC-SHA-256; the keys of this node are no longer than a block (06 R367, 12 R641). -/
def hmac (key m : List Byte) : List Byte :=
  let k := key ++ List.replicate (64 - key.length) 0#8
  sha256 (k.map (· ^^^ 0x5c#8) ++ sha256 (k.map (· ^^^ 0x36#8) ++ m))

/-- The position of the highest set bit of a positive rational: the z with 2^z ≤ q < 2^(z+1). -/
def ratLog2 (q : Rat) : Int :=
  let z := (Nat.log2 q.num.natAbs : Int) - (Nat.log2 q.den : Int)
  let p : Rat := if 0 ≤ z then ((2 ^ z.toNat : Nat) : Rat) else 1 / ((2 ^ (-z).toNat : Nat) : Rat)
  if q < p then z - 1 else z

/-- A nearest integer, ties to even. -/
def roundEven (q : Rat) : Int :=
  let f := q.floor
  let r := q - (f : Rat)
  if r < 1 / 2 then f else if 1 / 2 < r then f + 1 else if f % 2 = 0 then f else f + 1

/-- IEEE 754 binary32 of a number, rounded to nearest even (11 R630). Every setting lies in the normal range or is 0;
smaller magnitudes give subnormals. -/
def binary32 (q : Rat) : BitVec 32 :=
  if q = 0 then 0
  else
    let a := ratAbs q
    let e := max (ratLog2 a) (-126)
    let sc := 23 - e
    let m := roundEven (if 0 ≤ sc then a * ((2 ^ sc.toNat : Nat) : Rat) else a / ((2 ^ (-sc).toNat : Nat) : Rat))
    let mag : Int := (e + 126) * 8388608 + m
    BitVec.ofNat 32 (mag.toNat + (if q < 0 then 2147483648 else 0))

/-- The quiet NaN of a keyword that stands in place of a number, with the keyword's position (11 R630). -/
def keywordNan (pos : Nat) : BitVec 32 := BitVec.ofNat 32 (0x7FC00000 + pos)

end Sys2Proof.Machine
end

