-- ==== Sys2Proof/Machine/Names.lean ====
section
/-! DEFINITION. The written names of settings, read-only values, flags, targets and parts (11 R581–R584, the settings
tables of 01–16), and the order in which SHOW lists them (11 R604). -/

namespace Sys2Proof.Machine

/-! ## Parts of names -/

/-- CHnnn (11 R583). -/
def chText (c : Ch) : Text := txt "CH" ++ showPadded 3 c.val

/-- Gnn (11 R583). -/
def grpText (g : Grp) : Text := txt "G" ++ showPadded 2 g.val

/-- CHnnn.c parts (04 R200). -/
def condText : Cond → Text
  | .hihi => txt "HIHI" | .hi => txt "HI" | .lo => txt "LO" | .lolo => txt "LOLO" | .fault => txt "FAULT"
  | .dark => txt "DARK" | .dim => txt "DIM" | .stuck => txt "STUCK" | .char => txt "CHAR"

/-- The conditions in their number order (04 R200). -/
def allConds : List Cond := [.hihi, .hi, .lo, .lolo, .fault, .dark, .dim, .stuck, .char]

/-- A condition's number (04 R200). -/
def condIdx : Cond → Fin 9
  | .hihi => 0 | .hi => 1 | .lo => 2 | .lolo => 3 | .fault => 4 | .dark => 5 | .dim => 6 | .stuck => 7 | .char => 8

/-- Names of the G31 members (04 R250). -/
def memberTexts : List Text :=
  [txt "LOGFULL", txt "STORFAULT", txt "CLKFAIL", txt "SWHANG", txt "PWRWARN", txt "WATCH", txt "CANA", txt "CANB",
   txt "MEMFAULT", txt "WDOG", txt "DEADMAN", txt "FELINK0", txt "FELINK1", txt "FELINK2", txt "FELINK3", txt "FELINK4",
   txt "FELINK5", txt "FELINK6", txt "FELINK7"]

/-- A member's name (04 R250). -/
def memberText (m : Member) : Text := memberTexts.getD m.val []

/-- The flags of CHnnn.STATUS from bit 0 (02 R124). -/
def chFlagTexts : List Text :=
  [txt "OVR", txt "UNR", txt "OPEN", txt "MISW", txt "THERM", txt "PIN", txt "COMP", txt "BPIN", txt "SETL", txt "DIST",
   txt "TRIP", txt "ACRANGE"]

/-- The flags of PANEL.STATUS from bit 0 (08 R479). -/
def panelFlagTexts : List Text := [txt "VLCDF", txt "VHVF", txt "DIRTY"]

/-- The flags of HP.EVENTS from bit 0 (10 R566). -/
def hpFlagTexts : List Text :=
  [txt "PORTOPEN", txt "WAKE", txt "ALARM", txt "G31", txt "CALL", txt "CANRX", txt "STOREDONE", txt "SESSION"]

/-- The flags of SEC.STATUS from bit 0 (12 R688). -/
def secFlagTexts : List Text := [txt "KEYFAULT", txt "PARTSBE", txt "PARTDEF", txt "LOCKOUT"]

/-- The flags of CLOCK.STATUS from bit 0 (13 R737). -/
def clockFlagTexts : List Text := [txt "CLKFAIL", txt "SWHANG", txt "SSCPIN", txt "LPOFAIL"]

/-- The banks in their number order (14 R738). -/
def allBanks : List Bank := [.engine, .interp, .link, .stage, .image]

/-- A bank's name (14 R738). -/
def bankText : Bank → Text
  | .engine => txt "ENGINE" | .interp => txt "INTERP" | .link => txt "LINK" | .stage => txt "STAGE" | .image => txt "IMAGE"

/-- A bank's number (14 R770). -/
def bankIdx : Bank → Fin 5
  | .engine => 0 | .interp => 1 | .link => 2 | .stage => 3 | .image => 4

/-- CANA or CANB. -/
def busText : Bus → Text
  | .canA => txt "CANA" | .canB => txt "CANB"

/-- A bus's number. -/
def busIdx : Bus → Fin 2
  | .canA => 0 | .canB => 1

/-- A role's name (12 R638). -/
def roleText : Role → Text
  | .observer => txt "OBSERVER" | .operator => txt "OPERATOR" | .engineer => txt "ENGINEER" | .custodian => txt "CUSTODIAN"

/-- A role's rank (12 R638). -/
def roleRank : Role → Nat
  | .observer => 0 | .operator => 1 | .engineer => 2 | .custodian => 3

/-- The roles that hold a key, in order (12 R655). -/
def keyRoles : List Role := [.operator, .engineer, .custodian]

/-- The domains that CLOCK.dom names, in the order of 13 R696. -/
def domTexts : List Text := [txt "ENGINE", txt "LINK", txt "STORE", txt "PANEL", txt "COMMAND"]

/-- LXn (11 R583). -/
def lxText (n : Lx) : Text := txt "LX" ++ showNat (n.val + 1)

/-- ENGnn (11 R583). -/
def engText (e : Eng) : Text := txt "ENG" ++ showPadded 2 (e.val + 1)

/-- CUnn (11 R583). -/
def cuText (u : Unit64) : Text := txt "CU" ++ showPadded 2 (u.val + 1)

/-- Sxx (11 R583). -/
def scriptText (n : Script) : Text := txt "S" ++ showPadded 2 n.val

/-- Nk (11 R583). -/
def nodeText (n : NodeNo) : Text := txt "N" ++ showNat n.val

/-- Block names of RESET BLOCK (15 R786). -/
def blockText : BlockName → Text
  | .can b => busText b
  | .panel => txt "PANEL"
  | .logw => txt "LOGW"
  | .lx n => lxText n
  | .ch c => chText c

/-- The blocks in the order of 15 R786. -/
def allBlocks : List BlockName :=
  [BlockName.can .canA, .can .canB, .panel, .logw] ++ (List.finRange 8).map BlockName.lx ++
    (List.finRange 128).map BlockName.ch

/-! ## Names of settings and read-only values -/

/-- Last parts of channel settings. -/
def chSetText : ChSet → Text
  | .mode => txt "MODE" | .range => txt "RANGE" | .rate => txt "RATE" | .eol => txt "EOL" | .floor => txt "FLOOR"
  | .eng0 => txt "ENG0" | .eng1 => txt "ENG1" | .unit => txt "UNIT" | .tripspan => txt "TRIPSPAN"
  | .triphi => txt "TRIPHI" | .triplo => txt "TRIPLO" | .fast => txt "FAST" | .char => txt "CHAR"
  | .lampsup => txt "LAMPSUP" | .acnom => txt "ACNOM" | .lamptype => txt "LAMPTYPE" | .onlate => txt "ONLATE"
  | .edgetol => txt "EDGETOL" | .learn => txt "LEARN" | .baseset => txt "BASESET" | .darkfrac => txt "DARKFRAC"
  | .dimfrac => txt "DIMFRAC" | .darkmin => txt "DARKMIN" | .darkmax => txt "DARKMAX" | .grp => txt "GRP"
  | .safe => txt "SAFE"

/-- Last parts of condition settings (04 R268). -/
def condSetText : CondSet → Text
  | .set => txt "SET" | .hyst => txt "HYST" | .steep => txt "STEEP" | .unsteep => txt "UNSTEEP" | .en => txt "EN"

/-- Last parts of group settings (04 R268). -/
def grpSetText : GrpSet → Text
  | .name => txt "NAME" | .class_ => txt "CLASS" | .delay => txt "DELAY" | .inhib => txt "INHIB" | .line => txt "LINE"
  | .firstout => txt "FIRSTOUT"

/-- Last parts of the caller's settings (05 R319). -/
def callSetText : CallSet → Text
  | .tz => txt "TZ" | .t1 => txt "T1" | .t2 => txt "T2" | .tmax => txt "TMAX" | .repeat_ => txt "REPEAT"
  | .attend => txt "ATTEND"

/-- Last parts of the dead-man settings (05 R319). -/
def deadSetText : DeadSet → Text
  | .en => txt "EN" | .period => txt "PERIOD" | .warn => txt "WARN" | .pmax => txt "PMAX"

/-- Last parts of the bus settings (06 R401). -/
def canSetText : CanSet → Text
  | .nom => txt "NOM" | .data => txt "DATA" | .nsp => txt "NSP" | .dsp => txt "DSP" | .brs => txt "BRS"
  | .listen => txt "LISTEN" | .busoff => txt "BUSOFF" | .recover => txt "RECOVER"

/-- Last parts of the loop-output settings (07 R437). -/
def lxSetText : LxSet → Text
  | .src => txt "SRC" | .low => txt "LOW" | .high => txt "HIGH" | .hostval => txt "HOSTVAL" | .trim4 => txt "TRIM4"
  | .trim20 => txt "TRIM20" | .force => txt "FORCE"

/-- Last parts of the panel settings (08 R478). -/
def panelSetText : PanelSet → Text
  | .type => txt "TYPE" | .frame => txt "FRAME" | .vlcd => txt "VLCD" | .vhv => txt "VHV" | .bchline => txt "BCHLINE"
  | .bl => txt "BL" | .test => txt "TEST"

/-- Last parts of the host-port settings (10 R576). -/
def hpSetText : HpSet → Text
  | .echo => txt "ECHO" | .crc => txt "CRC" | .attn => txt "ATTN"

/-- Clock setting names (13 R736). -/
def clockSetText : ClockSet → Text
  | .xofreq => txt "XOFREQ" | .src => txt "SRC" | .xoreturn => txt "XORETURN" | .panel => txt "PANEL"
  | .sscDepth => txt "SSC.DEPTH" | .sscMin => txt "SSC.MIN" | .sscRate => txt "SSC.RATE"

/-- Power and reset setting names (15 R808). -/
def powerSetText : PowerSet → Text
  | .mode => txt "POWER.MODE" | .deepRate => txt "DEEP.RATE" | .deepWake => txt "DEEP.WAKE"
  | .deepPeriod => txt "DEEP.PERIOD" | .deepReturn => txt "DEEP.RETURN" | .resetWde => txt "RESET.WDE"
  | .resetWdi => txt "RESET.WDI"

/-- A setting's name (11 Setting index). -/
def settingText : SettingId → Text
  | .ch c f => chText c ++ txt "." ++ chSetText f
  | .cond c k f => chText c ++ txt "." ++ condText k ++ txt "." ++ condSetText f
  | .grp g f => grpText g ++ txt "." ++ grpSetText f
  | .alMode n => txt "AL" ++ showNat (n.val + 1) ++ txt ".MODE"
  | .shelveMax => txt "ALARM.SHELVEMAX"
  | .engName n => engText n ++ txt ".NAME"
  | .engUnits n => engText n ++ txt ".UNITS"
  | .cuKind u => cuText u ++ txt ".KIND"
  | .duty k => txt "DUTY.S" ++ showPadded 2 (k.val + 1)
  | .call f => txt "CALL." ++ callSetText f
  | .co n => txt "CO" ++ showNat (n.val + 1) ++ txt ".SRC"
  | .deadman f => txt "DEADMAN." ++ deadSetText f
  | .watchNode => txt "WATCH.NODE"
  | .watchNodes => txt "WATCH.NODES"
  | .can b f => busText b ++ txt "." ++ canSetText f
  | .canFilter b k => busText b ++ txt ".F" ++ showPadded 2 k.val
  | .lx n f => lxText n ++ txt "." ++ lxSetText f
  | .panel f => txt "PANEL." ++ panelSetText f
  | .panelSeg k m => txt "PANEL.C" ++ showNat k.val ++ txt ".S" ++ showPadded 2 m.val
  | .logCopy => txt "LOG.COPY"
  | .hp f => txt "HP." ++ hpSetText f
  | .scriptLine n l => scriptText n ++ txt ".L" ++ showPadded 2 (l.val + 1)
  | .secRemreset => txt "SEC.REMRESET"
  | .secTimeout => txt "SEC.TIMEOUT"
  | .secDebug => txt "SEC.DEBUG"
  | .key .operator => txt "SEC.KEY.OPERATOR"
  | .key .engineer => txt "SEC.KEY.ENGINEER"
  | .key .custodian => txt "SEC.KEY.CUSTODIAN"
  | .key (.unit u) => cuText u ++ txt ".KEY"
  | .clock f => txt "CLOCK." ++ clockSetText f
  | .memPower b => txt "MEM." ++ bankText b ++ txt ".POWER"
  | .memSysmarch => txt "MEM.SYSMARCH"
  | .power f => powerSetText f

/-- Last parts of a channel's read-only values (02 R138, 03 R199). -/
def chRoText : ChRo → Text
  | .value => txt "VALUE" | .code => txt "CODE" | .status => txt "STATUS" | .live => txt "LIVE" | .rss => txt "RSS"
  | .tj => txt "TJ" | .line => txt "LINE" | .base => txt "BASE" | .tdark => txt "TDARK" | .lock => txt "LOCK"
  | .nexton => txt "NEXTON" | .acfreq => txt "ACFREQ"

/-- The role of an index of SEC.LOCK and SEC.FAILS. -/
def keyRoleText (r : Fin 3) : Text := roleText (keyRoles.getD r.val .observer)

/-- A read-only value's name. -/
def roText : RoId → Text
  | .ch c f => chText c ++ txt "." ++ chRoText f
  | .again c b => chText c ++ txt ".AGAIN." ++ chFlagTexts.getD b.val []
  | .condState c k => chText c ++ txt "." ++ condText k ++ txt ".STATE"
  | .condShelf c k => chText c ++ txt "." ++ condText k ++ txt ".SHELF"
  | .grpState g => grpText g ++ txt ".STATE"
  | .grpFirst g => grpText g ++ txt ".FIRST"
  | .grpCall g => grpText g ++ txt ".CALL"
  | .g31State m => txt "G31." ++ memberText m ++ txt ".STATE"
  | .alLevel n => txt "AL" ++ showNat (n.val + 1) ++ txt ".LEVEL"
  | .callDuty => txt "CALL.DUTY"
  | .cuState u => cuText u ++ txt ".STATE"
  | .deadmanLeft => txt "DEADMAN.LEFT"
  | .nodePart => txt "NODE.PART"
  | .nodeFe => txt "NODE.FE"
  | .nodeSerial => txt "NODE.SERIAL"
  | .canState b => busText b ++ txt ".STATE"
  | .canTec b => busText b ++ txt ".TEC"
  | .canRec b => busText b ++ txt ".REC"
  | .canTiming b => busText b ++ txt ".TIMING"
  | .canWdrop b => busText b ++ txt ".WDROP"
  | .canRxlost b => busText b ++ txt ".RXLOST"
  | .watchLead => txt "WATCH.LEAD"
  | .watchHeard => txt "WATCH.HEARD"
  | .watchView => txt "WATCH.VIEW"
  | .watchSkip => txt "WATCH.SKIP"
  | .lxState n => lxText n ++ txt ".STATE"
  | .lxOut n => lxText n ++ txt ".OUT"
  | .lxTermv n => lxText n ++ txt ".TERMV"
  | .panelState => txt "PANEL.STATE"
  | .panelStatus => txt "PANEL.STATUS"
  | .panelVhvmeas => txt "PANEL.VHVMEAS"
  | .logCount => txt "LOG.COUNT"
  | .logCapacity => txt "LOG.CAPACITY"
  | .logRefused c => txt "LOG.REFUSED." ++ showNat (c.val + 1)
  | .logDropped => txt "LOG.DROPPED"
  | .logSectors => txt "LOG.SECTORS"
  | .logClearing => txt "LOG.CLEARING"
  | .hpMode => txt "HP.MODE"
  | .hpBaud => txt "HP.BAUD"
  | .hpLast => txt "HP.LAST"
  | .hpEvents => txt "HP.EVENTS"
  | .scriptState n => scriptText n ++ txt ".STATE"
  | .scriptLast n => scriptText n ++ txt ".LAST"
  | .configGen => txt "CONFIG.GEN"
  | .configSaved => txt "CONFIG.SAVED"
  | .secKeysw => txt "SEC.KEYSW"
  | .secStatus => txt "SEC.STATUS"
  | .secLock r => txt "SEC.LOCK." ++ keyRoleText r
  | .secFails r => txt "SEC.FAILS." ++ keyRoleText r
  | .partGen => txt "SEC.PART.GEN"
  | .partUsed => txt "SEC.PART.USED"
  | .domSrc d => txt "CLOCK." ++ domTexts.getD d.val [] ++ txt ".SRC"
  | .domEn d => txt "CLOCK." ++ domTexts.getD d.val [] ++ txt ".EN"
  | .sscNow => txt "CLOCK.SSC.NOW"
  | .xoCount => txt "CLOCK.XOCOUNT"
  | .clockStatus => txt "CLOCK.STATUS"
  | .memState b => txt "MEM." ++ bankText b ++ txt ".STATE"
  | .memSbe b => txt "MEM." ++ bankText b ++ txt ".SBE"
  | .memStatus => txt "MEM.STATUS"
  | .memLast => txt "MEM.LAST"
  | .rstcause => txt "RSTCAUSE"
  | .resetLast => txt "RESET.LAST"
  | .resetIdle b => txt "RESET.IDLE." ++ blockText b
  | .powerVsup => txt "POWER.VSUP"
  | .setcollLast => txt "SETCOLL.LAST"

/-- The text of a name. -/
def nameText : Name → Text
  | .setting i => settingText i
  | .ro i => roText i

/-! ## The first parts of names, and the names under each in table order -/

/-- The first part of a name. -/
inductive Head where
  | ch (c : Ch) | grp (g : Grp) | al (n : Fin 16) | alarm | eng (n : Eng) | cu (u : Unit64) | duty | call | co (n : Fin 8)
  | deadman | node | watch | can (b : Bus) | lx (n : Lx) | panel | log | hp | script (n : Script) | config | sec | clock
  | mem | power | deep | reset | rstcause | setcoll
deriving DecidableEq, Repr

/-- The text of a first part. -/
def headText : Head → Text
  | .ch c => chText c
  | .grp g => grpText g
  | .al n => txt "AL" ++ showNat (n.val + 1)
  | .alarm => txt "ALARM"
  | .eng n => engText n
  | .cu u => cuText u
  | .duty => txt "DUTY"
  | .call => txt "CALL"
  | .co n => txt "CO" ++ showNat (n.val + 1)
  | .deadman => txt "DEADMAN"
  | .node => txt "NODE"
  | .watch => txt "WATCH"
  | .can b => busText b
  | .lx n => lxText n
  | .panel => txt "PANEL"
  | .log => txt "LOG"
  | .hp => txt "HP"
  | .script n => scriptText n
  | .config => txt "CONFIG"
  | .sec => txt "SEC"
  | .clock => txt "CLOCK"
  | .mem => txt "MEM"
  | .power => txt "POWER"
  | .deep => txt "DEEP"
  | .reset => txt "RESET"
  | .rstcause => txt "RSTCAUSE"
  | .setcoll => txt "SETCOLL"

/-- Every first part. -/
def allHeads : List Head :=
  [Head.alarm, .duty, .call, .deadman, .node, .watch, .can .canA, .can .canB, .panel, .log, .hp, .config, .sec, .clock, .mem,
   .power, .deep, .reset, .rstcause, .setcoll] ++
  (List.finRange 128).map Head.ch ++ (List.finRange 32).map Head.grp ++ (List.finRange 16).map Head.al ++
  (List.finRange 16).map Head.eng ++ (List.finRange 64).map Head.cu ++ (List.finRange 8).map Head.co ++
  (List.finRange 8).map Head.lx ++ (List.finRange 16).map Head.script

/-- The condition settings that exist (04 R268): SET of the four thresholds, HYST of all but FAULT and CHAR. -/
def condSetExists (k : Cond) : CondSet → Bool
  | .set => match k with
    | .hihi | .hi | .lo | .lolo => true
    | _ => false
  | .hyst => match k with
    | .fault | .char => false
    | _ => true
  | _ => true

/-- The names of a channel in the order of R136, R138, R198, R199, R268, R269 and R687. -/
def chNames (c : Ch) : List Name :=
  ([ChSet.mode, .range, .rate, .eol, .floor, .eng0, .eng1, .unit, .tripspan, .triphi, .triplo, .fast].map
      fun f => Name.setting (.ch c f)) ++
  ([ChRo.value, .code, .status, .live].map fun f => Name.ro (.ch c f)) ++
  ((List.finRange 12).map fun b => Name.ro (.again c b)) ++
  ([ChRo.rss, .tj, .line].map fun f => Name.ro (.ch c f)) ++
  ([ChSet.char, .lampsup, .acnom, .lamptype, .onlate, .edgetol, .learn, .baseset, .darkfrac, .dimfrac, .darkmin,
      .darkmax].map fun f => Name.setting (.ch c f)) ++
  ([ChRo.base, .tdark, .lock, .nexton, .acfreq].map fun f => Name.ro (.ch c f)) ++
  ([CondSet.set, .hyst, .steep, .unsteep, .en].flatMap fun f =>
      (allConds.filter fun k => condSetExists k f).map fun k => Name.setting (.cond c k f)) ++
  [.setting (.ch c .grp)] ++
  (allConds.map fun k => Name.ro (.condState c k)) ++
  (allConds.map fun k => Name.ro (.condShelf c k)) ++
  [.setting (.ch c .safe)]

/-- The names of a group in the order of R268, R269 and R320. -/
def grpNames (g : Grp) : List Name :=
  ([GrpSet.name, .class_, .delay, .inhib, .line, .firstout].map fun f => Name.setting (.grp g f)) ++
  [.ro (.grpState g), .ro (.grpFirst g)] ++
  (if g = 31 then (List.finRange 19).map fun m => Name.ro (.g31State m) else []) ++
  [.ro (.grpCall g)]

/-- The names that begin with a first part, in the order of their tables (11 R604). -/
def headNames : Head → List Name
  | .ch c => chNames c
  | .grp g => grpNames g
  | .al n => [.setting (.alMode n), .ro (.alLevel n)]
  | .alarm => [.setting .shelveMax]
  | .eng n => [.setting (.engName n), .setting (.engUnits n)]
  | .cu u => [.setting (.cuKind u), .ro (.cuState u), .setting (.key (.unit u))]
  | .duty => (List.finRange 42).map fun k => .setting (.duty k)
  | .call => ([CallSet.tz, .t1, .t2, .tmax, .repeat_, .attend].map fun f => Name.setting (.call f)) ++ [.ro .callDuty]
  | .co n => [.setting (.co n)]
  | .deadman => ([DeadSet.en, .period, .warn, .pmax].map fun f => Name.setting (.deadman f)) ++ [.ro .deadmanLeft]
  | .node => [.ro .nodePart, .ro .nodeFe, .ro .nodeSerial]
  | .watch => [.setting .watchNode, .setting .watchNodes, .ro .watchLead, .ro .watchHeard, .ro .watchView, .ro .watchSkip]
  | .can b =>
    ([CanSet.nom, .data, .nsp, .dsp, .brs, .listen, .busoff, .recover].map fun f => Name.setting (.can b f)) ++
    ((List.finRange 16).map fun k => Name.setting (.canFilter b k)) ++
    [.ro (.canState b), .ro (.canTec b), .ro (.canRec b), .ro (.canTiming b), .ro (.canWdrop b), .ro (.canRxlost b)]
  | .lx n =>
    ([LxSet.src, .low, .high, .hostval, .trim4, .trim20, .force].map fun f => Name.setting (.lx n f)) ++
    [.ro (.lxState n), .ro (.lxOut n), .ro (.lxTermv n)]
  | .panel =>
    ([PanelSet.type, .frame, .vlcd, .vhv, .bchline, .bl].map fun f => Name.setting (.panel f)) ++
    ((List.finRange 8).flatMap fun k => (List.finRange 80).map fun m => Name.setting (.panelSeg k m)) ++
    [.setting (.panel .test), .ro .panelState, .ro .panelStatus, .ro .panelVhvmeas]
  | .log =>
    [.setting .logCopy, .ro .logCount, .ro .logCapacity] ++ ((List.finRange 7).map fun c => Name.ro (.logRefused c)) ++
    [.ro .logDropped, .ro .logSectors, .ro .logClearing]
  | .hp =>
    ([HpSet.echo, .crc, .attn].map fun f => Name.setting (.hp f)) ++ [.ro .hpMode, .ro .hpBaud, .ro .hpLast, .ro .hpEvents]
  | .script n =>
    ((List.finRange 64).map fun l => Name.setting (.scriptLine n l)) ++ [.ro (.scriptState n), .ro (.scriptLast n)]
  | .config => [.ro .configGen, .ro .configSaved]
  | .sec =>
    [.setting .secRemreset, .setting .secTimeout, .setting .secDebug, .setting (.key .operator), .setting (.key .engineer),
     .setting (.key .custodian), .ro .secKeysw, .ro .secStatus] ++
    ((List.finRange 3).map fun r => Name.ro (.secLock r)) ++ ((List.finRange 3).map fun r => Name.ro (.secFails r)) ++
    [.ro .partGen, .ro .partUsed]
  | .clock =>
    ([ClockSet.xofreq, .src, .xoreturn, .panel, .sscDepth, .sscMin, .sscRate].map fun f => Name.setting (.clock f)) ++
    ((List.finRange 5).map fun d => Name.ro (.domSrc d)) ++ ((List.finRange 5).map fun d => Name.ro (.domEn d)) ++
    [.ro .sscNow, .ro .xoCount, .ro .clockStatus]
  | .mem =>
    (allBanks.map fun b => Name.setting (.memPower b)) ++ [.setting .memSysmarch] ++
    (allBanks.map fun b => Name.ro (.memState b)) ++ (allBanks.map fun b => Name.ro (.memSbe b)) ++
    [.ro .memStatus, .ro .memLast]
  | .power => [.setting (.power .mode), .ro .powerVsup]
  | .deep => [PowerSet.deepRate, .deepWake, .deepPeriod, .deepReturn].map fun f => Name.setting (.power f)
  | .reset =>
    [.setting (.power .resetWde), .setting (.power .resetWdi), .ro .resetLast] ++
    (allBlocks.map fun b => Name.ro (.resetIdle b))
  | .rstcause => [.ro .rstcause]
  | .setcoll => [.ro .setcollLast]

/-- The first part that a text spells. -/
def readHead (t : Text) : Option Head := allHeads.find? fun h => headText h = t

/-- The name that a text in upper case spells (11 R583). -/
def readName (t : Text) : Option Name :=
  match readHead (splitFirst '.' t).1 with
  | some h => (headNames h).find? fun n => nameText n = t
  | none => none

/-- The channel that a setting belongs to. -/
def settingCh : SettingId → Option Ch
  | .ch c _ => some c
  | .cond c _ _ => some c
  | _ => none

/-- The channel that a name belongs to. -/
def nameCh : Name → Option Ch
  | .setting i => settingCh i
  | .ro (.ch c _) => some c
  | .ro (.again c _) => some c
  | .ro (.condState c _) => some c
  | .ro (.condShelf c _) => some c
  | .ro (.resetIdle (.ch c)) => some c
  | _ => none

/-- Channels that the part has: the EV-064 has CH000–CH063 (00 R5). -/
def chFitted (p : Part) (c : Ch) : Bool :=
  match p with
  | .ev128 => true
  | .ev064 => decide (c.val < 64)

/-- Members that the part has: FELINK4–FELINK7 do not exist on the EV-064 (04 R252). -/
def memberFitted (p : Part) (m : Member) : Bool :=
  match p with
  | .ev128 => true
  | .ev064 => decide (m.val < 15)

/-- Whether the setting exists (04 R268) on this part (00 R5). -/
def settingFitted (p : Part) (i : SettingId) : Bool :=
  (match settingCh i with
    | some c => chFitted p c
    | none => true) &&
  (match i with
    | .cond _ k f => condSetExists k f
    | _ => true)

/-- Whether the name exists on this part (00 R5, 04 R252). -/
def nameFitted (p : Part) : Name → Bool
  | .setting i => settingFitted p i
  | .ro (.g31State m) => memberFitted p m
  | n => match nameCh n with
    | some c => chFitted p c
    | none => true

/-- The names that SHOW lists for a target: those equal to it or going on from it after a dot (11 R604). -/
def namesUnder (p : Part) (target : Text) : List Name :=
  match readHead (splitFirst '.' target).1 with
  | some h => (headNames h).filter fun n =>
      nameFitted p n && (decide (nameText n = target) || startsWith (nameText n) (target ++ txt "."))
  | none => []

/-! ## Flags, targets and the other names that lines carry -/

/-- The name of a flag of CLEAR STATUS (16 "Flags: set against clear"). -/
def flagText : FlagName → Text
  | .ch c b => chText c ++ txt "." ++ chFlagTexts.getD b.val []
  | .panel b => txt "PANEL." ++ panelFlagTexts.getD b.val []
  | .logFull => txt "LOGFULL"
  | .storFault => txt "STORFAULT"
  | .hp b => txt "HP." ++ hpFlagTexts.getD b.val []
  | .sec b => txt "SEC." ++ secFlagTexts.getD b.val []
  | .clkFail => txt "CLKFAIL"
  | .swHang => txt "SWHANG"
  | .sscPin => txt "CLOCK.SSCPIN"
  | .lpoFail => txt "CLOCK.LPOFAIL"
  | .mem b => txt "MEM." ++ bankText b
  | .pwrWarn => txt "PWRWARN"
  | .rstcause => txt "RSTCAUSE"
  | .idClash => txt "IDCLASH"
  | .setColl => txt "SETCOLL"

/-- The flags under a first part. -/
def flagsUnder : Option Head → List FlagName
  | some (.ch c) => (List.finRange 12).map fun b => .ch c b
  | some .panel => (List.finRange 3).map .panel
  | some .hp => (List.finRange 8).map .hp
  | some .sec => (List.finRange 4).map .sec
  | some .mem => allBanks.map .mem
  | some .clock => [.sscPin, .lpoFail]
  | _ => [.logFull, .storFault, .clkFail, .swHang, .pwrWarn, .rstcause, .idClash, .setColl]

/-- The flag that a text in upper case spells. -/
def readFlag (t : Text) : Option FlagName :=
  (flagsUnder (readHead (splitFirst '.' t).1)).find? fun f => flagText f = t

/-- The text of a target. -/
def targetText : Target → Text
  | .cond c k => chText c ++ txt "." ++ condText k
  | .ch c => chText c
  | .grp g => grpText g
  | .member m => txt "G31." ++ memberText m
  | .all => txt "ALL"

/-- The targets under a first part. -/
def targetsUnder : Option Head → List Target
  | some (.ch c) => .ch c :: allConds.map fun k => .cond c k
  | some (.grp g) => .grp g :: (if g = 31 then (List.finRange 19).map .member else [])
  | _ => [.all]

/-- The target that a text in upper case spells (04 R224). -/
def readTarget (t : Text) : Option Target :=
  (targetsUnder (readHead (splitFirst '.' t).1)).find? fun x => targetText x = t

/-- Whether a target exists on this part. -/
def targetFitted (p : Part) : Target → Bool
  | .cond c _ => chFitted p c
  | .ch c => chFitted p c
  | .member m => memberFitted p m
  | _ => true

/-- A channel written in its one form (11 R583). -/
def readCh (t : Text) : Option Ch := (List.finRange 128).find? fun c => chText c = t

/-- A group written in its one form (11 R583). -/
def readGrp (t : Text) : Option Grp := (List.finRange 32).find? fun g => grpText g = t

/-- An engineer written in its one form (11 R583). -/
def readEng (t : Text) : Option Eng := (List.finRange 16).find? fun e => engText e = t

/-- A call unit written in its one form (11 R583). -/
def readUnit (t : Text) : Option Unit64 := (List.finRange 64).find? fun u => cuText u = t

/-- A node written in its one form (11 R583). -/
def readNode (t : Text) : Option NodeNo := (List.finRange 8).find? fun n => nodeText n = t

/-- A condition's name. -/
def readCond (t : Text) : Option Cond := allConds.find? fun k => condText k = t

/-- A G31 member's name. -/
def readMember (t : Text) : Option Member := (List.finRange 19).find? fun m => memberText m = t

/-- A bus's name. -/
def readBus (t : Text) : Option Bus := [Bus.canA, .canB].find? fun b => busText b = t

/-- A bank's name. -/
def readBank (t : Text) : Option Bank := allBanks.find? fun b => bankText b = t

/-- A block's name (15 R786). -/
def readBlock (t : Text) : Option BlockName := allBlocks.find? fun b => blockText b = t

/-- A script's name. -/
def readScript (t : Text) : Option Script := (List.finRange 16).find? fun n => scriptText n = t

/-- A role's name. -/
def readRole (t : Text) : Option Role := [Role.observer, .operator, .engineer, .custodian].find? fun r => roleText r = t

/-- The written form of the clocks of MEASURE (13 R724). -/
def clkText : ClkName → Text
  | .xo => txt "XO" | .irc => txt "IRC" | .lpo => txt "LPO" | .pll => txt "PLL"
  | .ch c => chText c

/-- A clock's name (13 R724). -/
def readClk (t : Text) : Option ClkName :=
  ([ClkName.xo, .irc, .lpo, .pll] ++ (List.finRange 128).map ClkName.ch).find? fun k => clkText k = t

/-- Splits a leading Nk prefix off a name (11 R584). -/
def splitNode (t : Text) : Option NodeNo × Text :=
  match splitFirst '.' t with
  | (a, some r) => match readNode a with
    | some n => (some n, r)
    | none => (none, t)
  | (_, none) => (none, t)

end Sys2Proof.Machine
end

