-- ==== Sys2Proof/Machine/Values.lean ====
section
/-! DEFINITION. The kinds of setting values: how each is read from a line (11 R583–R587), shown (11 R596) and encoded in
32 bits (11 R630). -/

namespace Sys2Proof.Machine

/-- A value of a setting, by kind. -/
inductive Val where
  | num (q : Rat)
  | kw (i : Nat)
  | mask (n : Nat)
  | text (t : Text)
  | none
  | tz (quarters : Int)
  | char (c : LightChar)
  | duty (d : Option DutySlot)
  | inhib (x : Option (NodeNo × Ch × Cond))
  | units (us : List Unit64)
  | filter (f : Option Filter)
  | seg (g : Segment)
deriving DecidableEq, Repr

/-- The kind of a setting's value. Numbers carry their limits, step, decimals and unit. -/
inductive Kind where
  | step (lo hi st : Rat) (dec : Nat) (unit : Text)
  | sig (lo hi : Rat) (unit : Text)
  | listed (vs : List Rat) (unit : Text)
  | kwStep (kws : List Text) (lo hi st : Rat) (dec : Nat) (unit : Text)
  | kwSig (kws : List Text) (lo hi : Rat) (unit : Text)
  | enum (kws : List Text)
  | mask (digits lo hi : Nat)
  | text (max : Nat)
  | line
  | grp
  | lxSrc
  | coSrc
  | tz
  | char
  | duty
  | inhib
  | units
  | filter
  | seg
deriving DecidableEq, Repr

/-! ## Reading -/

/-- A number with a fixed step, rounded to the nearest step, then checked (11 R586). -/
def readStep (lo hi st : Rat) (t : Text) : Except Err Val :=
  match readNumber t with
  | none => .error .e01
  | some q =>
    let r := (roundAway (q / st) : Rat) * st
    if lo ≤ r ∧ r ≤ hi then .ok (.num r) else .error .e04

/-- A number in 7 significant digits, rounded, then checked (11 R586, R596). -/
def readSig (lo hi : Rat) (t : Text) : Except Err Val :=
  match readNumber t with
  | none => .error .e01
  | some q => if lo ≤ roundSig7 q ∧ roundSig7 q ≤ hi then .ok (.num (roundSig7 q)) else .error .e04

/-- A number of a list of values: nothing is rounded (11 R586). -/
def readListed (vs : List Rat) (t : Text) : Except Err Val :=
  match readNumber t with
  | none => .error .e01
  | some q => if vs.contains q then .ok (.num q) else .error .e04

/-- The position of a keyword, in any case of its letters (11 R581). -/
def readKw (kws : List Text) (t : Text) : Option Nat := firstIdx (fun k => k = upper t) kws

/-- Whether a text in upper case is a part's letters followed by digits, so that it names a part (11 R583). -/
def namesPart (letters t : Text) : Bool :=
  match afterStart t letters with
  | some (d :: r) => (d :: r).all fun c => (digitVal c).isSome
  | _ => false

/-- A part that a value names: its value, or E03 where it is written in another form or absent (11 R583). -/
def readPart {α : Type} (letters : Text) (read : Text → Option α) (t : Text) : Except Err α :=
  match read t with
  | some a => .ok a
  | none => if namesPart letters t then .error .e03 else .error .e04

/-- A channel that a value names; absent on the EV-064 it is E03 (00 R5). -/
def readChValue (p : Part) (t : Text) : Except Err Ch :=
  match readPart (txt "CH") readCh t with
  | .ok c => if chFitted p c then .ok c else .error .e03
  | .error e => .error e

/-- A period in s as tenths, a number n, and the check of a light character (03 R148, R149). -/
def readPeriod (t : Text) : Except Err Nat :=
  match readNumber t with
  | none => .error .e04
  | some q => if q < 0 then .error .e04 else .ok (roundAway (q * 10)).natAbs

/-- A count of flashes, rounded to a whole number (03 R149). -/
def readCount (t : Text) : Except Err Nat :=
  match readNumber t with
  | none => .error .e04
  | some q => if q < 0 then .error .e04 else .ok (roundAway q).natAbs

/-- A character with n and P within R148's limits; `least` is the least period in tenths for n flashes. -/
def readNP (mk : Nat → Nat → LightChar) (least : Nat → Nat) (a b : Text) : Except Err Val := do
  let n ← readCount a
  let p ← readPeriod b
  if 1 ≤ n ∧ n ≤ 9 ∧ least n ≤ p ∧ p ≤ 600 then .ok (.char (mk n p)) else .error .e04

/-- The entries of PAT in ms, rounded to 10 ms (03 R148, R149). -/
def readEntries : List Text → Except Err (List Nat)
  | [] => .ok []
  | t :: r => do
    match readNumber t with
    | none => .error .e04
    | some q =>
      if q < 0 then .error .e04
      else
        let rest ← readEntries r
        .ok ((roundAway (q / 10)).natAbs * 10 :: rest)

/-- CHnnn.CHAR (03 R148, R149). -/
def readChar (t : Text) : Except Err Val :=
  match (tokens t).map upper with
  | [k] =>
    if k = txt "F" then .ok (.char .f)
    else if k = txt "Q" then .ok (.char .q)
    else if k = txt "VQ" then .ok (.char .vq)
    else .error .e04
  | [k, a] =>
    if k = txt "ISO" then do
      let p ← readPeriod a
      if 10 ≤ p ∧ p ≤ 600 then .ok (.char (.iso p)) else .error .e04
    else if k = txt "PAT" then do
      let es ← readEntries (splitAll ',' a)
      if 2 ≤ es.length ∧ es.length ≤ 32 ∧ es.length % 2 = 0 ∧ es.all (fun e => decide (10 ≤ e ∧ e ≤ 30000)) ∧
          es.foldl (· + ·) 0 ≤ 60000
        then .ok (.char (.pat es)) else .error .e04
    else .error .e04
  | [k, a, b] =>
    if k = txt "FL" then readNP .fl (fun n => 10 * n + 5) a b
    else if k = txt "LFL" then readNP .lfl (fun n => 30 * n) a b
    else if k = txt "OC" then readNP .oc (fun n => 10 * n + 5) a b
    else .error .e04
  | _ => .error .e04

/-- A time of day HH:MM as minutes; E01 where it is not in that form (11 R585). -/
def readHhMm (t : Text) : Except Err (Nat × Nat) :=
  match splitFirst ':' t with
  | (a, some b) => match readDigits 2 a, readDigits 2 b with
    | some h, some m => .ok (h, m)
    | _, _ => .error .e01
  | (_, none) => .error .e01

/-- The days of a duty slot, Monday first (05 R274). -/
def dayTexts : List Text :=
  [txt "MON", txt "TUE", txt "WED", txt "THU", txt "FRI", txt "SAT", txt "SUN"]

/-- DUTY.Sxx (05 R274). -/
def readDuty (t : Text) : Except Err Val :=
  match (tokens t).map upper with
  | [k] => if k = txt "NONE" then .ok (.duty none) else .error .e04
  | [d, h, e] => do
    let day ← (if d = txt "DAILY" then .ok none
      else match (List.finRange 7).find? fun k => dayTexts.getD k.val [] = d with
        | some k => .ok (some k)
        | none => .error Err.e04 : Except Err (Option (Fin 7)))
    let (hh, mm) ← readHhMm h
    let eng ← readPart (txt "ENG") readEng e
    if h2 : hh * 60 + mm < 1440 ∧ mm < 60 then .ok (.duty (some ⟨day, ⟨hh * 60 + mm, h2.1⟩, eng⟩)) else .error .e04
  | _ => .error .e04

/-- CALL.TZ: a sign and HH:MM, −12:00 to +14:00 in steps of 15 min (05 R319), counted in quarters of an hour. -/
def readTz (t : Text) : Except Err Val :=
  let (neg, body) := match t with
    | '-' :: r => (true, r)
    | '+' :: r => (false, r)
    | r => (false, r)
  match readHhMm body with
  | .error e => .error e
  | .ok (h, m) =>
    if 60 ≤ m then .error .e04
    else
      let q : Int := roundAway (((h * 60 + m : Nat) : Rat) / 15)
      let z := if neg then -q else q
      if -48 ≤ z ∧ z ≤ 56 then .ok (.tz z) else .error .e04

/-- The own node or another, and the rest, of a name in a value; E03 for a node that does not exist (11 R583). -/
def readNodeOf (t : Text) : Except Err (Option NodeNo × Text) :=
  match splitNode t with
  | (some n, r) => .ok (some n, r)
  | (none, _) =>
    if namesPart (txt "N") (splitFirst '.' t).1 then .error .e03 else .ok (none, t)

/-- A condition of a channel, CHnnn.c, as a value names it. A channel of another node is not checked against the part. -/
def readCondValue (p : Part) (other : Bool) (t : Text) : Except Err (Ch × Cond) :=
  match splitFirst '.' t with
  | (a, some b) => do
    let c ← (if other then readPart (txt "CH") readCh a else readChValue p a)
    match readCond b with
    | some k => .ok (c, k)
    | none => .error .e03
  | (a, none) => do
    let _ ← (if other then readPart (txt "CH") readCh a else readChValue p a)
    .error .e04

/-- Gnn.INHIB (04 R240): the own node is filled in where none is written. -/
def readInhib (p : Part) (own : NodeNo) (t : Text) : Except Err Val :=
  let u := upper t
  if u = txt "NONE" then .ok (.inhib none)
  else do
    let (n, r) ← readNodeOf u
    let (c, k) ← readCondValue p (n.isSome && n ≠ some own) r
    .ok (.inhib (some (n.getD own, c, k)))

/-- ENGnn.UNITS: NONE, or 1–4 distinct units in the order written (05 R319). -/
def readUnits (t : Text) : Except Err Val :=
  let u := upper t
  if u = txt "NONE" then .ok (.units [])
  else do
    let us ← (splitAll ',' u).foldr (fun x acc => do
      let a ← readPart (txt "CU") readUnit x
      let r ← acc
      .ok (a :: r)) (.ok [] : Except Err (List Unit64))
    if us.length ≤ 4 ∧ us.Nodup then .ok (.units us) else .error .e04

/-- CANx.Fkk (06 R388, R401). -/
def readFilter (t : Text) : Except Err Val :=
  match (tokens t).map upper with
  | [k] => if k = txt "OFF" then .ok (.filter none) else .error .e04
  | k :: i :: m :: r =>
    match readMask i, readMask m with
    | some id, some mk =>
      let kind := if k = txt "BASE" then some (FilterKind.base, 0x7FF) else if k = txt "EXT" then some (.ext, 0x1FFFFFFF)
        else if k = txt "ANY" then some (.any, 0x1FFFFFFF) else none
      match kind with
      | none => .error .e04
      | some (fk, top) =>
        if id ≤ top ∧ mk ≤ top then
          match r with
          | [] => .ok (.filter (some ⟨fk, id, mk, false⟩))
          | [x] => if x = txt "RTR" then .ok (.filter (some ⟨fk, id, mk, true⟩)) else .error .e04
          | _ => .error .e04
        else .error .e04
    | _, _ => .error .e01
  | _ => .error .e04

/-- A segment's source; a prefix of the own node is dropped (08 R454, 11 R584). -/
def readSegSrc (p : Part) (own : NodeNo) (u : Text) : Except Err SegSrc :=
  if u = txt "STAGE1" then .ok .stage1
  else if u = txt "STAGE2" then .ok .stage2
  else if u = txt "STAGE3" then .ok .stage3
  else if u = txt "UANY" then .ok .uany
  else if u = txt "ON" then .ok .on
  else if u = txt "OFF" then .ok .off
  else match readNode u with
  | some n => .ok (.node n)
  | none =>
    match afterStart u (txt "LEAD.") with
    | some r => match readPart (txt "N") readNode r with
      | .ok n => .ok (.lead n)
      | .error e => .error e
    | none => do
      let (n, r) ← readNodeOf u
      let node := if n = some own then none else n
      match afterStart r (txt "G31.") with
      | some m => match readMember m with
        | some x => if node.isSome || memberFitted p x then .ok (.member node x) else .error .e03
        | none => .error .e04
      | none =>
        match r with
        | 'G' :: _ => match readPart (txt "G") readGrp r with
          | .ok g => .ok (.grp node g)
          | .error e => .error e
        | _ =>
          if namesPart (txt "N") r then .error .e03
          else do
            let (c, k) ← readCondValue p node.isSome r
            .ok (.cond node c k)

/-- PANEL.Ck.Smm, with or without the unacknowledged marker (08 R454). -/
def readSeg (p : Part) (own : NodeNo) (t : Text) : Except Err Val :=
  match (tokens t).map upper with
  | [a] => do
    let x ← readSegSrc p own a
    .ok (.seg ⟨false, x⟩)
  | [m, a] =>
    if m = txt "U" then do
      let x ← readSegSrc p own a
      .ok (.seg ⟨true, x⟩)
    else .error .e04
  | _ => .error .e04

/-- LXn.SRC as a position: NONE, CH000–CH127, G00–G30, HOST (07 R437). -/
def readLxSrc (p : Part) (t : Text) : Except Err Val :=
  let u := upper t
  if u = txt "NONE" then .ok (.kw 0)
  else if u = txt "HOST" then .ok (.kw 160)
  else match u with
    | 'G' :: _ => match readPart (txt "G") readGrp u with
      | .ok g => if g.val < 31 then .ok (.kw (129 + g.val)) else .error .e04
      | .error e => .error e
    | _ => match readChValue p u with
      | .ok c => .ok (.kw (1 + c.val))
      | .error e => .error e

/-- COn.SRC as a position: OFF, STAGE1–STAGE3, ENG01–ENG16, DMWARN (05 R319). -/
def readCoSrc (t : Text) : Except Err Val :=
  match readKw [txt "OFF", txt "STAGE1", txt "STAGE2", txt "STAGE3"] t with
  | some i => .ok (.kw i)
  | none =>
    if upper t = txt "DMWARN" then .ok (.kw 20)
    else match readPart (txt "ENG") readEng (upper t) with
      | .ok e => .ok (.kw (4 + e.val))
      | .error e => .error e

/-- Reads a value of a kind from the text of a SET line: E01, E03 or E04 where it is not one (11 R583–R587). -/
def readVal (p : Part) (own : NodeNo) (k : Kind) (t : Text) : Except Err Val :=
  match k with
  | .step lo hi st _ _ => readStep lo hi st t
  | .sig lo hi _ => readSig lo hi t
  | .listed vs _ => readListed vs t
  | .kwStep kws lo hi st _ _ => match readKw kws t with
    | some i => .ok (.kw i)
    | none => readStep lo hi st t
  | .kwSig kws lo hi _ => match readKw kws t with
    | some i => .ok (.kw i)
    | none => readSig lo hi t
  | .enum kws => match readKw kws t with
    | some i => .ok (.kw i)
    | none => .error .e04
  | .mask _ lo hi => match readMask t with
    | some n => if lo ≤ n ∧ n ≤ hi then .ok (.mask n) else .error .e04
    | none => .error .e01
  | .text max => if t.length ≤ max ∧ t.all printable then .ok (.text t) else .error .e04
  | .line => .ok (.text t)
  | .grp => match readPart (txt "G") readGrp (upper t) with
    | .ok g => if g.val < 31 then .ok (.kw g.val) else .error .e04
    | .error e => .error e
  | .lxSrc => readLxSrc p t
  | .coSrc => readCoSrc t
  | .tz => readTz t
  | .char => readChar t
  | .duty => readDuty t
  | .inhib => readInhib p own t
  | .units => readUnits t
  | .filter => readFilter t
  | .seg => readSeg p own t

/-! ## Showing -/

/-- A number with the fewest decimals, as a listed value is shown. -/
def showPlain (q : Rat) : Text :=
  let t := showFixed 4 q
  match (t.reverse.dropWhile (· = '0')) with
  | '.' :: r => r.reverse
  | r => r.reverse

/-- A value followed by its unit, where it has one. -/
def withUnit (t unit : Text) : Text := if unit = [] then t else t ++ txt " " ++ unit

/-- A period in tenths of a second. -/
def showTenths (n : Nat) : Text := showFixed 1 ((n : Rat) / 10)

/-- The canonical form of a character string (11 R596). -/
def showChar : LightChar → Text
  | .f => txt "F"
  | .fl n p => txt "FL " ++ showNat n ++ txt " " ++ showTenths p
  | .lfl n p => txt "LFL " ++ showNat n ++ txt " " ++ showTenths p
  | .oc n p => txt "OC " ++ showNat n ++ txt " " ++ showTenths p
  | .iso p => txt "ISO " ++ showTenths p
  | .q => txt "Q"
  | .vq => txt "VQ"
  | .pat es => txt "PAT " ++ joinWith [','] (es.map showNat)

/-- A time of day. -/
def showHhMm (minutes : Nat) : Text := showPadded 2 (minutes / 60) ++ txt ":" ++ showPadded 2 (minutes % 60)

/-- The canonical form of a duty slot. -/
def showDuty : Option DutySlot → Text
  | none => txt "NONE"
  | some d =>
    (match d.day with
      | none => txt "DAILY"
      | some k => dayTexts.getD k.val []) ++ txt " " ++ showHhMm d.minute.val ++ txt " " ++ engText d.eng

/-- The canonical form of an inhibit cause: always with its node (04 R240). -/
def showInhib : Option (NodeNo × Ch × Cond) → Text
  | none => txt "NONE"
  | some (n, c, k) => nodeText n ++ txt "." ++ chText c ++ txt "." ++ condText k

/-- The canonical form of a list of units. -/
def showUnits (us : List Unit64) : Text := if us = [] then txt "NONE" else joinWith [','] (us.map cuText)

/-- The canonical form of a filter. -/
def showFilter : Option Filter → Text
  | none => txt "OFF"
  | some f =>
    let (k, n) := match f.kind with
      | .base => (txt "BASE ", 3)
      | .ext => (txt "EXT ", 8)
      | .any => (txt "ANY ", 8)
    k ++ showMask n f.id ++ txt " " ++ showMask n f.mask ++ (if f.rtr then txt " RTR" else [])

/-- A node prefix where another node is named. -/
def nodeDot : Option NodeNo → Text
  | none => []
  | some n => nodeText n ++ txt "."

/-- The canonical form of a segment's source. -/
def showSegSrc : SegSrc → Text
  | .cond n c k => nodeDot n ++ chText c ++ txt "." ++ condText k
  | .grp n g => nodeDot n ++ grpText g
  | .member n m => nodeDot n ++ txt "G31." ++ memberText m
  | .stage1 => txt "STAGE1"
  | .stage2 => txt "STAGE2"
  | .stage3 => txt "STAGE3"
  | .node n => nodeText n
  | .lead n => txt "LEAD." ++ nodeText n
  | .uany => txt "UANY"
  | .on => txt "ON"
  | .off => txt "OFF"

/-- The keyword of a position of LXn.SRC. -/
def lxSrcText (i : Nat) : Text :=
  if i = 0 then txt "NONE"
  else if i ≤ 128 then txt "CH" ++ showPadded 3 (i - 1)
  else if i ≤ 159 then txt "G" ++ showPadded 2 (i - 129)
  else txt "HOST"

/-- The keyword of a position of COn.SRC. -/
def coSrcText (i : Nat) : Text :=
  if i < 4 then [txt "OFF", txt "STAGE1", txt "STAGE2", txt "STAGE3"].getD i []
  else if i < 20 then txt "ENG" ++ showPadded 2 (i - 3)
  else txt "DMWARN"

/-- CALL.TZ as shown, with its sign. -/
def showTz (z : Int) : Text := (if z < 0 then txt "-" else txt "+") ++ showHhMm (z.natAbs * 15)

/-- A value as GET shows it after the name (11 R596). -/
def showVal (k : Kind) (v : Val) : Text :=
  match v with
  | .none => txt "NONE"
  | .tz z => showTz z
  | .char c => showChar c
  | .duty d => showDuty d
  | .inhib x => showInhib x
  | .units us => showUnits us
  | .filter f => showFilter f
  | .seg g => (if g.marker then txt "U " else []) ++ showSegSrc g.src
  | .text t => t
  | .mask n => match k with
    | .mask d _ _ => showMask d n
    | _ => showMask 4 n
  | .kw i => match k with
    | .enum kws => kws.getD i []
    | .kwStep kws _ _ _ _ _ => kws.getD i []
    | .kwSig kws _ _ _ => kws.getD i []
    | .grp => txt "G" ++ showPadded 2 i
    | .lxSrc => lxSrcText i
    | .coSrc => coSrcText i
    | _ => []
  | .num q => match k with
    | .step _ _ _ d u => withUnit (showFixed d q) u
    | .kwStep _ _ _ _ d u => withUnit (showFixed d q) u
    | .sig _ _ u => withUnit (showSig7 q) u
    | .kwSig _ _ _ u => withUnit (showSig7 q) u
    | .listed _ u => withUnit (showPlain q) u
    | _ => showPlain q

/-! ## The 32-bit encoding -/

/-- A value encoded in 32 bits (11 R630). Where the manual gives no encoding the word is a free value (log 20). -/
def encodeVal (k : Kind) (v : Val) : BitVec 32 :=
  match v with
  | .num q => binary32 q
  | .kw i => match k with
    | .kwStep .. => keywordNan i
    | .kwSig .. => keywordNan i
    | _ => BitVec.ofNat 32 i
  | .mask n => BitVec.ofNat 32 n
  | .none => Config.noneCode
  | .tz z => Config.tzCode z
  | v => crc32 (textBytes (showVal k v))

/-- The name key of a setting (11 R630). -/
def nameKey (i : SettingId) : BitVec 32 := crc32 (textBytes (settingText i))

end Sys2Proof.Machine
end

