-- ==== Sys2Proof/Machine/SettingsOf.lean ====
section
/-! DEFINITION. Each setting: its kind and limits, its present value, where it is stored, its partition, the role that may
write it, and the rules between settings (the settings tables of 02–15, 11 R601, 12 R662). -/

namespace Sys2Proof.Machine

/-! ## Lists of keywords and values in the order of 11 R630 -/

/-- Values of MODE in their order (02 R136). -/
def modeList : List Mode := [.pasv, .loop, .volt, .rtd, .lamp, .cont, .off]

/-- Keywords of MODE. -/
def modeTexts : List Text := [txt "PASV", txt "LOOP", txt "VOLT", txt "RTD", txt "LAMP", txt "CONT", txt "OFF"]

/-- Values of RANGE in their order (11 R630). -/
def rangeList : List Range := [.ma24, .v1, .v10, .auto, .pt100, .pt1000, .mv50, .mv500, .v5, .none]

/-- Keywords of RANGE. -/
def rangeTexts : List Text :=
  [txt "24MA", txt "1V", txt "10V", txt "AUTO", txt "PT100", txt "PT1000", txt "50MV", txt "500MV", txt "5V", txt "NONE"]

/-- The conversion rates in Hz (02 R52). -/
def rateList : List Rat :=
  [8000, 4000, 2000, 1000, 500, 250, 125, 125 / 2, 125 / 4, 125 / 8, 125 / 16]

/-- Values of FLOOR (02 R136). -/
def ratioList : List Ratio := [.quarter, .third, .half, .threeQuarters, .one]

/-- Keywords of FLOOR. -/
def ratioTexts : List Text := [txt "1/4", txt "1/3", txt "1/2", txt "3/4", txt "1"]

/-- Values of TRIPSPAN (02 R136). -/
def spanList : List TripSpan := [.mv50, .mv500, .v5]

/-- ON and OFF. -/
def onOffTexts : List Text := [txt "ON", txt "OFF"]

/-- A switch as a position of ON, OFF. -/
def onOff (b : Bool) : Val := .kw (if b then 0 else 1)

/-- Whether a position of ON, OFF is ON. -/
def isOn : Val → Bool
  | .kw 0 => true
  | _ => false

/-- The nominal bit rates in kbit/s (06 R324). -/
def nomList : List Rat := [50, 125 / 2, 100, 125, 250, 500, 800, 1000]

/-- The data bit rates in Mbit/s (06 R324). -/
def dataList : List Rat := [1 / 2, 1, 2, 5 / 2, 4, 5]

/-- The interpreter watchdog's limits (15 R808). -/
def wdiList : List Rat := [16384, 32768, 65536, 131072, 262144, 524288, 1048576]

/-- Values of Learn (03 R198). -/
def learnList : List Learn := [.on, .hold, .off]

/-- Values of ALn.MODE (04 R268). -/
def alModeList : List AlMode := [.fast, .annun, .call]

/-- Values of CUnn.KIND (05 R319). -/
def cuKindList : List CuKind := [.none, .cabin, .mess, .engrm]

/-- Values of PANEL.TYPE (08 R478). -/
def panelTypeList : List PanelType := [.tn, .bch, .off]

/-- Values of SEC.REMRESET (12 R687). -/
def remResetList : List RemReset := [.none, .core, .all]

/-- Values of POWER.MODE (15 R808). -/
def powerModeList : List PowerMode := [.run, .sleep, .deep]

/-! ## Channel settings -/

/-- The defaults that a mode change sets (02 R49, R136). -/
def modeDefaults : Mode → ModeDefaults
  | .pasv => { range := .ma24, eng1 := 24, unit := txt "mA" }
  | .loop => { range := .ma24, eng1 := 24, unit := txt "mA" }
  | .volt => { range := .auto, eng1 := 10, unit := txt "V" }
  | .rtd => { range := .pt100, eng1 := 400, unit := txt "degC" }
  | .lamp => { range := .auto, eng1 := 5000, unit := txt "mV" }
  | .cont => {}
  | .off => {}

/-- The settings against which a write is checked: after a MODE write, those of the mode last written (02 R49). -/
def chCheck (c : ChCfg) : ModeDefaults := c.staged.getD c.set

/-- Writes a setting that a mode change resets; a pending mode change keeps it (02 R49). -/
def chMd (f : ModeDefaults → ModeDefaults) (c : ChCfg) : ChCfg := { c with set := f c.set, staged := c.staged.map f }

/-- Whether a RANGE value is valid for a mode (02 R65, R132, R136). -/
def rangeValid : Mode → Range → Bool
  | .pasv, .ma24 => true
  | .loop, .ma24 => true
  | .volt, .v1 => true
  | .volt, .v10 => true
  | .volt, .auto => true
  | .rtd, .pt100 => true
  | .rtd, .pt1000 => true
  | .lamp, .mv50 => true
  | .lamp, .mv500 => true
  | .lamp, .v5 => true
  | .lamp, .auto => true
  | _, _ => false

/-- Limits, step and decimals of the threshold DACs, with the terminal unit (02 R106, R107). Modes without comparators
have no lawful number. -/
def tripKind (m : Mode) (sp : TripSpan) : Kind :=
  match m, sp with
  | .pasv, _ => .kwStep [txt "OFF"] 0 (25575 / 1000) (1 / 40) 3 (txt "mA")
  | .loop, _ => .kwStep [txt "OFF"] 0 (25575 / 1000) (1 / 40) 3 (txt "mA")
  | .volt, _ => .kwStep [txt "OFF"] (-1024 / 100) (1022 / 100) (1 / 50) 2 (txt "V")
  | .lamp, .mv50 => .kwStep [txt "OFF"] 0 (5115 / 100) (1 / 20) 2 (txt "mV")
  | .lamp, .mv500 => .kwStep [txt "OFF"] 0 (5115 / 10) (1 / 2) 1 (txt "mV")
  | .lamp, .v5 => .kwStep [txt "OFF"] 0 5115 5 0 (txt "mV")
  | _, _ => .kwStep [txt "OFF"] 1 0 1 0 []

/-- The step of the threshold DACs in terminal units (02 R107). -/
def tripStep (m : Mode) (sp : TripSpan) : Rat :=
  match m, sp with
  | .volt, _ => 1 / 50
  | .lamp, .mv50 => 1 / 20
  | .lamp, .mv500 => 1 / 2
  | .lamp, .v5 => 5
  | _, _ => 1 / 40

/-- The kind of a channel setting (02 R136, 03 R198, 04 R268, 12 R687). -/
def chKind (c : ChCfg) : ChSet → Kind
  | .mode => .enum modeTexts
  | .range => .enum rangeTexts
  | .rate => .listed rateList (txt "Hz")
  | .eol => .enum [txt "STD", txt "NONE"]
  | .floor => .enum ratioTexts
  | .eng0 => .sig (-1000000) 1000000 c.set.unit
  | .eng1 => .sig (-1000000) 1000000 c.set.unit
  | .unit => .text 6
  | .tripspan => .enum [txt "50MV", txt "500MV", txt "5V"]
  | .triphi => tripKind c.mode (chCheck c).tripspan
  | .triplo => tripKind c.mode (chCheck c).tripspan
  | .fast => .mask 4 0 0xFFFF
  | .char => .char
  | .lampsup => .enum [txt "DC", txt "AC"]
  | .acnom => .step 16 400 1 0 (txt "Hz")
  | .lamptype => .enum [txt "FIL", txt "LED"]
  | .onlate => .kwStep [txt "AUTO"] 5 500 1 0 (txt "ms")
  | .edgetol => .step 1 20 1 0 (txt "%")
  | .learn => .enum [txt "ON", txt "HOLD", txt "OFF"]
  | .baseset => .sig 0 1000000 c.set.unit
  | .darkfrac => .step (10 / 100) (90 / 100) (1 / 100) 2 []
  | .dimfrac => .step (20 / 100) (99 / 100) (1 / 100) 2 []
  | .darkmin => .sig (-1000000) 1000000 c.set.unit
  | .darkmax => .sig (-1000000) 1000000 c.set.unit
  | .grp => .grp
  | .safe => .step 0 1 1 0 []

/-- The value of a channel setting. -/
def chVal (c : ChCfg) : ChSet → Val
  | .mode => .kw (posIn modeList c.mode)
  | .range => .kw (posIn rangeList c.set.range)
  | .rate => .num (rateList.getD c.rate.val 125)
  | .eol => .kw (if c.eol = .std then 0 else 1)
  | .floor => .kw (posIn ratioList c.floor)
  | .eng0 => .num c.set.eng0
  | .eng1 => .num c.set.eng1
  | .unit => .text c.set.unit
  | .tripspan => .kw (posIn spanList c.set.tripspan)
  | .triphi => match c.set.triphi with
    | some q => .num q
    | none => .kw 0
  | .triplo => match c.set.triplo with
    | some q => .num q
    | none => .kw 0
  | .fast => .mask c.fast.toNat
  | .char => .char c.char
  | .lampsup => .kw (if c.lampsup = .dc then 0 else 1)
  | .acnom => .num c.acnom
  | .lamptype => .kw (if c.lamptype = .fil then 0 else 1)
  | .onlate => match c.onlate with
    | some n => .num n
    | none => .kw 0
  | .edgetol => .num c.edgetol
  | .learn => .kw (posIn learnList c.learn)
  | .baseset => .num c.baseset
  | .darkfrac => .num ((c.darkfrac : Rat) / 100)
  | .dimfrac => .num ((c.dimfrac : Rat) / 100)
  | .darkmin => .num c.darkmin
  | .darkmax => .num c.darkmax
  | .grp => .kw c.grp.val
  | .safe => .num (if c.safe then 1 else 0)

/-- The number of a value. -/
def numOf : Val → Rat
  | .num q => q
  | _ => 0

/-- A value's number times a scale, as a natural number. -/
def natOf (v : Val) (scale : Rat := 1) : Nat := (roundAway (numOf v * scale)).natAbs

/-- A value's number times a scale, as an integer. -/
def intOf (v : Val) (scale : Rat := 1) : Int := roundAway (numOf v * scale)

/-- The position of a keyword. -/
def kwOf : Val → Nat
  | .kw i => i
  | _ => 0

/-- The mask of a value. -/
def maskOf : Val → Nat
  | .mask n => n
  | _ => 0

/-- The text of a value. -/
def textOf : Val → Text
  | .text t => t
  | _ => []

/-- A number, or none where a keyword stands. -/
def numOrKw : Val → Option Rat
  | .num q => some q
  | _ => none

/-- The index of a listed value. -/
def rateIdx (q : Rat) : Fin 11 := Fin.ofNat 11 (posIn rateList q)

/-- Stores a value of a channel setting. A MODE of another mode stages its defaults (02 R49). -/
def putCh (f : ChSet) (v : Val) (c : ChCfg) : ChCfg :=
  match f with
  | .mode =>
    let m := modeList.getD (kwOf v) .off
    if m = c.mode then c else { c with mode := m, staged := some (modeDefaults m) }
  | .range => chMd (fun d => { d with range := rangeList.getD (kwOf v) .none }) c
  | .rate => { c with rate := rateIdx (numOf v) }
  | .eol => { c with eol := if kwOf v = 0 then .std else .none }
  | .floor => { c with floor := ratioList.getD (kwOf v) .quarter }
  | .eng0 => chMd (fun d => { d with eng0 := numOf v }) c
  | .eng1 => chMd (fun d => { d with eng1 := numOf v }) c
  | .unit => chMd (fun d => { d with unit := textOf v }) c
  | .tripspan => chMd (fun d => { d with tripspan := spanList.getD (kwOf v) .v5 }) c
  | .triphi => chMd (fun d => { d with triphi := numOrKw v }) c
  | .triplo => chMd (fun d => { d with triplo := numOrKw v }) c
  | .fast => { c with fast := BitVec.ofNat 16 (maskOf v) }
  | .char => match v with
    | .char x => { c with char := x }
    | _ => c
  | .lampsup => { c with lampsup := if kwOf v = 0 then .dc else .ac }
  | .acnom => { c with acnom := natOf v }
  | .lamptype => { c with lamptype := if kwOf v = 0 then .fil else .led }
  | .onlate => { c with onlate := (numOrKw v).map fun q => (roundAway q).natAbs }
  | .edgetol => { c with edgetol := natOf v }
  | .learn => { c with learn := learnList.getD (kwOf v) .on }
  | .baseset => { c with baseset := numOf v }
  | .darkfrac => { c with darkfrac := natOf v 100 }
  | .dimfrac => { c with dimfrac := natOf v 100 }
  | .darkmin => { c with darkmin := numOf v }
  | .darkmax => { c with darkmax := numOf v }
  | .grp => { c with grp := Fin.ofNat 32 (kwOf v) }
  | .safe => { c with safe := decide (numOf v = 1) }

/-- |ENG1 − ENG0| of a channel as set at the time (04 Settings). -/
def chSpan (c : ChCfg) : Rat := ratAbs ((chCheck c).eng1 - (chCheck c).eng0)

/-- The kind of a condition setting (04 R268). -/
def condKind (c : ChCfg) : CondSet → Kind
  | .set => .sig (-1000000) 1000000 c.set.unit
  | .hyst => .kwSig [txt "AUTO"] 0 (chSpan c) c.set.unit
  | .steep => .step 0 3600 (1 / 100) 2 (txt "s")
  | .unsteep => .step 0 60 (1 / 100) 2 (txt "s")
  | .en => .enum onOffTexts

/-- The value of a condition setting. -/
def condVal (x : CondCfg) : CondSet → Val
  | .set => .num x.set
  | .hyst => match x.hyst with
    | some q => .num q
    | none => .kw 0
  | .steep => .num ((x.steep : Rat) / 100)
  | .unsteep => .num ((x.unsteep : Rat) / 100)
  | .en => onOff x.en

/-- Stores a condition setting. -/
def putCond (f : CondSet) (v : Val) (x : CondCfg) : CondCfg :=
  match f with
  | .set => { x with set := numOf v }
  | .hyst => { x with hyst := numOrKw v }
  | .steep => { x with steep := natOf v 100 }
  | .unsteep => { x with unsteep := natOf v 100 }
  | .en => { x with en := isOn v }

/-! ## All settings -/

/-- LXn.SRC as a position (07 R437). -/
def lxSrcPos : LxSrc → Nat
  | .none => 0
  | .ch c => 1 + c.val
  | .grp g => 129 + g.val
  | .host => 160

/-- The source of a position of LXn.SRC. -/
def lxSrcOf (i : Nat) : LxSrc :=
  if i = 0 then .none
  else if i ≤ 128 then .ch (Fin.ofNat 128 (i - 1))
  else if i ≤ 159 then .grp (Fin.ofNat 32 (i - 129))
  else .host

/-- COn.SRC as a position (05 R319). -/
def coSrcPos : CoSrc → Nat
  | .off => 0
  | .stage1 => 1
  | .stage2 => 2
  | .stage3 => 3
  | .eng e => 4 + e.val
  | .dmwarn => 20

/-- The source of a position of COn.SRC. -/
def coSrcOf (i : Nat) : CoSrc :=
  if i = 0 then .off
  else if i = 1 then .stage1
  else if i = 2 then .stage2
  else if i = 3 then .stage3
  else if i < 20 then .eng (Fin.ofNat 16 (i - 4))
  else .dmwarn

/-- The kind of a setting, with the limits and units of this moment. Keys have rows of their own (12 R655). -/
def kindOf (cfg : Settings) : SettingId → Kind
  | .ch c f => chKind cfg.ch[c.val] f
  | .cond c _ f => condKind cfg.ch[c.val] f
  | .grp _ .name => .text 16
  | .grp _ .class_ => .step 0 3 1 0 []
  | .grp _ .delay => .step 0 3600 1 0 (txt "s")
  | .grp _ .inhib => .inhib
  | .grp _ .line => .mask 4 0 0xFFFF
  | .grp _ .firstout => .enum onOffTexts
  | .alMode _ => .enum [txt "FAST", txt "ANNUN", txt "CALL"]
  | .shelveMax => .step 1 1440 1 0 (txt "min")
  | .engName _ => .text 16
  | .engUnits _ => .units
  | .cuKind _ => .enum [txt "NONE", txt "CABIN", txt "MESS", txt "ENGRM"]
  | .duty _ => .duty
  | .call .tz => .tz
  | .call .t1 => .step 10 300 1 0 (txt "s")
  | .call .t2 => .step 10 300 1 0 (txt "s")
  | .call .tmax => .step 20 300 1 0 (txt "s")
  | .call .repeat_ => .step 10 600 1 0 (txt "s")
  | .call .attend => .step 0 30 1 0 (txt "min")
  | .co _ => .coSrc
  | .deadman .en => .enum onOffTexts
  | .deadman .period => .step 3 30 1 0 (txt "min")
  | .deadman .warn => .step 10 120 1 0 (txt "s")
  | .deadman .pmax => .step 3 30 1 0 (txt "min")
  | .watchNode => .step 0 7 1 0 []
  | .watchNodes => .mask 2 1 0xFF
  | .can _ .nom => .listed nomList (txt "kbit/s")
  | .can _ .data => .listed dataList (txt "Mbit/s")
  | .can _ .nsp => .step 60 90 (5 / 2) 1 (txt "%")
  | .can _ .dsp => .step 60 90 (5 / 2) 1 (txt "%")
  | .can _ .brs => .enum onOffTexts
  | .can _ .listen => .enum onOffTexts
  | .can _ .busoff => .enum [txt "AUTO", txt "MANUAL"]
  | .can _ .recover => .enum [txt "GO"]
  | .canFilter _ _ => .filter
  | .lx _ .src => .lxSrc
  | .lx _ .low => .sig (-1000000) 1000000 []
  | .lx _ .high => .sig (-1000000) 1000000 []
  | .lx _ .hostval => .sig (-1000000) 1000000 []
  | .lx _ .trim4 => .step (-200) 200 (1 / 10) 1 (txt "uA")
  | .lx _ .trim20 => .step (-200) 200 (1 / 10) 1 (txt "uA")
  | .lx _ .force => .kwStep [txt "OFF"] 4 (205 / 10) (1 / 1000) 3 (txt "mA")
  | .panel .type => .enum [txt "TN", txt "BCH", txt "OFF"]
  | .panel .frame => .step 50 200 1 0 (txt "Hz")
  | .panel .vlcd => .step 3 12 (1 / 10) 1 (txt "V")
  | .panel .vhv => .step 20 40 1 0 (txt "V")
  | .panel .bchline => .step 10 60 1 0 (txt "ms")
  | .panel .bl => .step 0 100 1 0 (txt "%")
  | .panel .test => .enum [txt "ON"]
  | .panelSeg _ _ => .seg
  | .logCopy => .enum onOffTexts
  | .hp .echo => .enum onOffTexts
  | .hp .crc => .enum [txt "OPTIONAL", txt "REQUIRED"]
  | .hp .attn => .mask 4 0 0x00FF
  | .scriptLine _ _ => .line
  | .secRemreset => .enum [txt "NONE", txt "CORE", txt "ALL"]
  | .secTimeout => .step 60 3600 10 0 (txt "s")
  | .secDebug => .enum [txt "OPEN", txt "LOCKED"]
  | .key _ => .text 128
  | .clock .xofreq => .step 8 25 1 0 (txt "MHz")
  | .clock .src => .enum [txt "XO", txt "IRC"]
  | .clock .xoreturn => .enum [txt "AUTO", txt "MANUAL"]
  | .clock .panel => .enum [txt "1MHZ", txt "LPO"]
  | .clock .sscDepth => .step 0 4 (1 / 2) 1 (txt "%")
  | .clock .sscMin => .step 0 4 (1 / 2) 1 (txt "%")
  | .clock .sscRate => .step 10 60 1 0 (txt "kHz")
  | .memPower .stage => .enum [txt "RET"]
  | .memPower _ => .enum [txt "RET", txt "OFF"]
  | .memSysmarch => .enum onOffTexts
  | .power .mode => .enum [txt "RUN", txt "SLEEP", txt "DEEP"]
  | .power .deepRate => .listed (rateList.drop 6) (txt "Hz")
  | .power .deepWake => .mask 2 0 0x1F
  | .power .deepPeriod => .step 1 1440 1 0 (txt "min")
  | .power .deepReturn => .step 0 60 1 0 (txt "min")
  | .power .resetWde => .step 10 1000 10 0 (txt "ms")
  | .power .resetWdi => .listed wdiList (txt "cycles")

/-- The check value of a key, or DELIVERY (12 R656). -/
def keyShown (bytes key : Nat) : Text :=
  if key = 0 then txt "DELIVERY"
  else txt "SET " ++ showHexDigits 4 (ofBytesBe ((hmac (beBytes bytes key) (textBytes (txt "KCV"))).take 2))

/-- The host echo in force, with its default by mode (10 R576). -/
def echoOf (async : Bool) (h : HpCfg) : Bool := h.echo.getD async

/-- The value of a setting that the live settings hold. -/
def cfgVal (cfg : Settings) : SettingId → Val
  | .ch c f => chVal cfg.ch[c.val] f
  | .cond c k f => condVal (cfg.ch[c.val].cond[(condIdx k).val]) f
  | .grp g .name => .text cfg.grp[g.val].name
  | .grp g .class_ => .num cfg.grp[g.val].cls.val
  | .grp g .delay => .num cfg.grp[g.val].delay
  | .grp g .inhib => .inhib cfg.grp[g.val].inhib
  | .grp g .line => .mask cfg.grp[g.val].line.toNat
  | .grp g .firstout => onOff cfg.grp[g.val].firstout
  | .alMode n => .kw (posIn alModeList cfg.al[n.val])
  | .shelveMax => .num cfg.shelveMax
  | .engName e => .text cfg.eng[e.val].name
  | .engUnits e => .units cfg.eng[e.val].units
  | .cuKind u => .kw (posIn cuKindList cfg.cu[u.val])
  | .duty k => .duty cfg.duty[k.val]
  | .call .tz => .tz cfg.call.tz
  | .call .t1 => .num cfg.call.t1
  | .call .t2 => .num cfg.call.t2
  | .call .tmax => .num cfg.call.tmax
  | .call .repeat_ => .num cfg.call.rep
  | .call .attend => .num cfg.call.attend
  | .co n => .kw (coSrcPos cfg.co[n.val])
  | .deadman .en => onOff cfg.dead.en
  | .deadman .period => .num cfg.dead.period
  | .deadman .warn => .num cfg.dead.warn
  | .deadman .pmax => .num cfg.dead.pmax
  | .watchNode => .num cfg.watchNode.val
  | .watchNodes => .mask cfg.watchNodes.toNat
  | .can b .nom => .num ((cfg.can[(busIdx b).val].timing.nom : Rat) / 10)
  | .can b .data => .num ((cfg.can[(busIdx b).val].timing.data : Rat) / 10)
  | .can b .nsp => .num ((cfg.can[(busIdx b).val].timing.nsp : Rat) / 10)
  | .can b .dsp => .num ((cfg.can[(busIdx b).val].timing.dsp : Rat) / 10)
  | .can b .brs => onOff cfg.can[(busIdx b).val].brs
  | .can b .listen => onOff cfg.can[(busIdx b).val].listen
  | .can b .busoff => .kw (if cfg.can[(busIdx b).val].busoff = .auto then 0 else 1)
  | .can _ .recover => .num 0
  | .canFilter b k => .filter cfg.can[(busIdx b).val].filters[k.val]
  | .lx n .src => .kw (lxSrcPos cfg.lx[n.val].src)
  | .lx n .low => .num cfg.lx[n.val].low
  | .lx n .high => .num cfg.lx[n.val].high
  | .lx _ .hostval => .none
  | .lx n .trim4 => .num ((cfg.lx[n.val].trim4 : Rat) / 10)
  | .lx n .trim20 => .num ((cfg.lx[n.val].trim20 : Rat) / 10)
  | .lx _ .force => .kw 0
  | .panel .type => .kw (posIn panelTypeList cfg.panel.type)
  | .panel .frame => .num cfg.panel.frame
  | .panel .vlcd => .num ((cfg.panel.vlcd : Rat) / 10)
  | .panel .vhv => .num cfg.panel.vhv
  | .panel .bchline => .num cfg.panel.bchline
  | .panel .bl => .num cfg.panel.bl
  | .panel .test => .kw 1
  | .panelSeg k m => .seg cfg.panel.seg[k.val][m.val]
  | .logCopy => onOff cfg.logCopy
  | .hp .echo => onOff (cfg.hp.echo.getD true)
  | .hp .crc => .kw (if cfg.hp.crcRequired then 1 else 0)
  | .hp .attn => .mask cfg.hp.attn.toNat
  | .scriptLine n l => .text cfg.scripts[n.val][l.val]
  | .secRemreset => .kw (posIn remResetList cfg.remReset)
  | .secTimeout => .num cfg.secTimeout
  | .secDebug => .kw 1
  | .key _ => .text []
  | .clock .xofreq => .num cfg.clock.xofreq
  | .clock .src => .kw (if cfg.clock.srcIrc then 1 else 0)
  | .clock .xoreturn => .kw (if cfg.clock.returnManual then 1 else 0)
  | .clock .panel => .kw (if cfg.clock.panelLpo then 1 else 0)
  | .clock .sscDepth => .num ((cfg.clock.sscDepth : Rat) / 2)
  | .clock .sscMin => .num ((cfg.clock.sscMin : Rat) / 2)
  | .clock .sscRate => .num cfg.clock.sscRate
  | .memPower b => .kw (if cfg.memOff[(bankIdx b).val] then 1 else 0)
  | .memSysmarch => onOff cfg.sysmarch
  | .power .mode => .kw 0
  | .power .deepRate => .num (rateList.getD cfg.power.deepRate.val 125)
  | .power .deepWake => .mask cfg.power.deepWake.toNat
  | .power .deepPeriod => .num cfg.power.deepPeriod
  | .power .deepReturn => .num cfg.power.deepReturn
  | .power .resetWde => .num cfg.power.wde
  | .power .resetWdi => .num cfg.power.wdi

/-- The present value of a setting: those that are not saved stand with their block. -/
def valueOf (s : State) : SettingId → Val
  | .lx n .hostval => match s.lx[n.val].hostval with
    | some q => .num q
    | none => .none
  | .lx n .force => match s.lx[n.val].force with
    | some k => .num ((k : Rat) / 1000)
    | none => .kw 0
  | .hp .echo => onOff (echoOf s.port.async s.live.hp)
  | .power .mode => .kw (posIn powerModeList s.power.mode)
  | .secDebug => .kw (if s.keys.debugLocked then 1 else 0)
  | .key .operator => .text (keyShown 32 s.keys.role[0])
  | .key .engineer => .text (keyShown 32 s.keys.role[1])
  | .key .custodian => .text (keyShown 32 s.keys.role[2])
  | .key (.unit u) => .text (keyShown 16 s.keys.unit[u.val])
  | i => cfgVal s.live i

/-- What GET shows of a setting after its name (11 R596). CANx.RECOVER reads 0, and PANEL.TEST OFF but during the test (08
R461). -/
def settingShown (s : State) (i : SettingId) : Text :=
  match i with
  | .panel .test => if s.panel.testEnd.isSome then txt "ON" else txt "OFF"
  | .can _ .recover => txt "0"
  | _ => showVal (kindOf s.live i) (valueOf s i)

/-- Stores a setting in the live settings. The ones that are not saved stand with their block. -/
def putCfg (i : SettingId) (v : Val) (cfg : Settings) : Settings :=
  match i with
  | .ch c f => { cfg with ch := upd cfg.ch c (putCh f v) }
  | .cond c k f => { cfg with ch := upd cfg.ch c fun x => { x with cond := upd x.cond (condIdx k) (putCond f v) } }
  | .grp g .name => { cfg with grp := upd cfg.grp g fun x => { x with name := textOf v } }
  | .grp g .class_ => { cfg with grp := upd cfg.grp g fun x => { x with cls := Fin.ofNat 4 (natOf v) } }
  | .grp g .delay => { cfg with grp := upd cfg.grp g fun x => { x with delay := natOf v } }
  | .grp g .inhib => { cfg with grp := upd cfg.grp g fun x => { x with inhib := match v with
      | .inhib y => y
      | _ => none } }
  | .grp g .line => { cfg with grp := upd cfg.grp g fun x => { x with line := BitVec.ofNat 16 (maskOf v) } }
  | .grp g .firstout => { cfg with grp := upd cfg.grp g fun x => { x with firstout := isOn v } }
  | .alMode n => { cfg with al := upd cfg.al n fun _ => alModeList.getD (kwOf v) .fast }
  | .shelveMax => { cfg with shelveMax := natOf v }
  | .engName e => { cfg with eng := upd cfg.eng e fun x => { x with name := textOf v } }
  | .engUnits e => { cfg with eng := upd cfg.eng e fun x => { x with units := match v with
      | .units us => us
      | _ => [] } }
  | .cuKind u => { cfg with cu := upd cfg.cu u fun _ => cuKindList.getD (kwOf v) .none }
  | .duty k => { cfg with duty := upd cfg.duty k fun _ => match v with
      | .duty d => d
      | _ => none }
  | .call .tz => { cfg with call := { cfg.call with tz := match v with
      | .tz z => z
      | _ => 0 } }
  | .call .t1 => { cfg with call := { cfg.call with t1 := natOf v } }
  | .call .t2 => { cfg with call := { cfg.call with t2 := natOf v } }
  | .call .tmax => { cfg with call := { cfg.call with tmax := natOf v } }
  | .call .repeat_ => { cfg with call := { cfg.call with rep := natOf v } }
  | .call .attend => { cfg with call := { cfg.call with attend := natOf v } }
  | .co n => { cfg with co := upd cfg.co n fun _ => coSrcOf (kwOf v) }
  | .deadman .en => { cfg with dead := { cfg.dead with en := isOn v } }
  | .deadman .period => { cfg with dead := { cfg.dead with period := natOf v } }
  | .deadman .warn => { cfg with dead := { cfg.dead with warn := natOf v } }
  | .deadman .pmax => { cfg with dead := { cfg.dead with pmax := natOf v } }
  | .watchNode => { cfg with watchNode := Fin.ofNat 8 (natOf v) }
  | .watchNodes => { cfg with watchNodes := BitVec.ofNat 8 (maskOf v) }
  | .can b .nom => { cfg with can := upd cfg.can (busIdx b) fun x => { x with timing := { x.timing with nom := natOf v 10 } } }
  | .can b .data => { cfg with can := upd cfg.can (busIdx b) fun x => { x with timing := { x.timing with data := natOf v 10 } } }
  | .can b .nsp => { cfg with can := upd cfg.can (busIdx b) fun x => { x with timing := { x.timing with nsp := natOf v 10 } } }
  | .can b .dsp => { cfg with can := upd cfg.can (busIdx b) fun x => { x with timing := { x.timing with dsp := natOf v 10 } } }
  | .can b .brs => { cfg with can := upd cfg.can (busIdx b) fun x => { x with brs := isOn v } }
  | .can b .listen => { cfg with can := upd cfg.can (busIdx b) fun x => { x with listen := isOn v } }
  | .can b .busoff => { cfg with can := upd cfg.can (busIdx b) fun x => { x with busoff := if kwOf v = 0 then .auto else .manual } }
  | .can _ .recover => cfg
  | .canFilter b k => { cfg with can := upd cfg.can (busIdx b) fun x => { x with filters := upd x.filters k fun _ => match v with
      | .filter f => f
      | _ => none } }
  | .lx n .src => { cfg with lx := upd cfg.lx n fun x => { x with src := lxSrcOf (kwOf v) } }
  | .lx n .low => { cfg with lx := upd cfg.lx n fun x => { x with low := numOf v } }
  | .lx n .high => { cfg with lx := upd cfg.lx n fun x => { x with high := numOf v } }
  | .lx _ .hostval => cfg
  | .lx n .trim4 => { cfg with lx := upd cfg.lx n fun x => { x with trim4 := intOf v 10 } }
  | .lx n .trim20 => { cfg with lx := upd cfg.lx n fun x => { x with trim20 := intOf v 10 } }
  | .lx _ .force => cfg
  | .panel .type => { cfg with panel := { cfg.panel with type := panelTypeList.getD (kwOf v) .off } }
  | .panel .frame => { cfg with panel := { cfg.panel with frame := natOf v } }
  | .panel .vlcd => { cfg with panel := { cfg.panel with vlcd := natOf v 10 } }
  | .panel .vhv => { cfg with panel := { cfg.panel with vhv := natOf v } }
  | .panel .bchline => { cfg with panel := { cfg.panel with bchline := natOf v } }
  | .panel .bl => { cfg with panel := { cfg.panel with bl := natOf v } }
  | .panel .test => cfg
  | .panelSeg k m => { cfg with panel := { cfg.panel with seg := upd cfg.panel.seg k fun row => upd row m fun x => match v with
      | .seg y => y
      | _ => x } }
  | .logCopy => { cfg with logCopy := isOn v }
  | .hp .echo => { cfg with hp := { cfg.hp with echo := some (isOn v) } }
  | .hp .crc => { cfg with hp := { cfg.hp with crcRequired := decide (kwOf v = 1) } }
  | .hp .attn => { cfg with hp := { cfg.hp with attn := BitVec.ofNat 16 (maskOf v) } }
  | .scriptLine n l => { cfg with scripts := upd cfg.scripts n fun x => upd x l fun _ => textOf v }
  | .secRemreset => { cfg with remReset := remResetList.getD (kwOf v) .none }
  | .secTimeout => { cfg with secTimeout := natOf v }
  | .secDebug => cfg
  | .key _ => cfg
  | .clock .xofreq => { cfg with clock := { cfg.clock with xofreq := natOf v } }
  | .clock .src => { cfg with clock := { cfg.clock with srcIrc := decide (kwOf v = 1) } }
  | .clock .xoreturn => { cfg with clock := { cfg.clock with returnManual := decide (kwOf v = 1) } }
  | .clock .panel => { cfg with clock := { cfg.clock with panelLpo := decide (kwOf v = 1) } }
  | .clock .sscDepth => { cfg with clock := { cfg.clock with sscDepth := natOf v 2 } }
  | .clock .sscMin => { cfg with clock := { cfg.clock with sscMin := natOf v 2 } }
  | .clock .sscRate => { cfg with clock := { cfg.clock with sscRate := natOf v } }
  | .memPower b => { cfg with memOff := upd cfg.memOff (bankIdx b) fun _ => decide (kwOf v = 1) }
  | .memSysmarch => { cfg with sysmarch := isOn v }
  | .power .mode => cfg
  | .power .deepRate => { cfg with power := { cfg.power with deepRate := rateIdx (numOf v) } }
  | .power .deepWake => { cfg with power := { cfg.power with deepWake := BitVec.ofNat 8 (maskOf v) } }
  | .power .deepPeriod => { cfg with power := { cfg.power with deepPeriod := natOf v } }
  | .power .deepReturn => { cfg with power := { cfg.power with deepReturn := natOf v } }
  | .power .resetWde => { cfg with power := { cfg.power with wde := natOf v } }
  | .power .resetWdi => { cfg with power := { cfg.power with wdi := natOf v } }

/-! ## Partition and role -/

/-- The settings marked "safety if SAFE" (02 R136, 03 R198, 04 R268, 12 R662). -/
def safetyIfSafe : SettingId → Bool
  | .ch _ f => match f with
    | .mode | .range | .tripspan | .triphi | .triplo | .fast | .char | .lampsup | .acnom | .lamptype | .onlate | .edgetol
    | .learn | .baseset | .darkfrac | .dimfrac | .darkmin | .darkmax => true
    | _ => false
  | .cond _ k f => match k, f with
    | .dark, .hyst => true
    | .dim, .hyst => true
    | .stuck, .hyst => true
    | .dark, .steep | .dark, .unsteep | .dark, .en => true
    | .dim, .steep | .dim, .unsteep | .dim, .en => true
    | .stuck, .steep | .stuck, .unsteep | .stuck, .en => true
    | .char, .steep | .char, .unsteep | .char, .en => true
    | _, _ => false
  | _ => false

/-- Whether a setting belongs to the safety partition at this moment (12 R662). -/
def inPartition (cfg : Settings) (i : SettingId) : Bool :=
  match i with
  | .ch _ .safe => true
  | .call .tmax => true
  | .deadman .pmax => true
  | .power .resetWde => true
  | .power .resetWdi => true
  | .secRemreset => true
  | _ => safetyIfSafe i && (match settingCh i with
    | some c => cfg.ch[c.val].safe
    | none => false)

/-- A write that takes an alarm line out of FAST mode under a SAFE channel (04 R256). -/
def takesFastLine (cfg : Settings) (i : SettingId) (v : Val) : Bool :=
  match i with
  | .alMode n =>
    decide (cfg.al[n.val] = .fast) && decide (kwOf v ≠ 0) &&
      cfg.ch.toList.any fun c => c.safe && c.fast.getLsbD n.val
  | _ => false

/-- The role that may write a setting (the "Role to write" columns). -/
def roleToWrite (cfg : Settings) (i : SettingId) : Role :=
  if inPartition cfg i then .custodian
  else match i with
  | .deadman .en => .operator
  | .lx _ .hostval => .operator
  | .panel .test => .operator
  | .secTimeout => .custodian
  | .secDebug => .custodian
  | .key _ => .custodian
  | _ => .engineer

/-- Whether a role may do what needs another (12 R638). -/
def roleOk (have_ need : Role) : Bool := decide (roleRank need ≤ roleRank have_)

/-! ## Rules between settings -/

/-- The non-empty lines of a script, with one byte for each terminator (11 R618). -/
def scriptBytes (x : Vector Text 64) : Nat :=
  x.toList.foldl (fun n t => if t = [] then n else n + t.length + 1) 0

/-- The bytes of a partition image in use (12 R668). -/
def partitionBytes (cfg : Settings) : Nat :=
  cfg.ch.toList.foldl (fun n c =>
    if c.safe then n + 48 + (match c.char with
      | .pat es => 2 * es.length
      | _ => 0)
    else n) 0

/-- Whether HIHI, HI, LO and LOLO with EN ON stand in strictly falling order (04 R233). -/
def thresholdsOrdered (c : ChCfg) : Bool :=
  let on := [c.cond[0], c.cond[1], c.cond[2], c.cond[3]].filter fun x => x.en
  (on.zip (on.drop 1)).all fun p => decide (p.2.set < p.1.set)

/-- Rules of a new value against its own range or state that are refused with E04: 02 R104, R132; 04 R245, R251; 05 R289,
R306; 06 R325; 07 R411; 11 R618; 12 R668. -/
def rangeRule (i : SettingId) (v : Val) (old new : Settings) : Bool :=
  match i with
  | .ch c .range => rangeValid old.ch[c.val].mode (rangeList.getD (kwOf v) .none)
  | .ch c .eng0 => decide ((chCheck new.ch[c.val]).eng0 ≠ (chCheck new.ch[c.val]).eng1)
  | .ch c .eng1 => decide ((chCheck new.ch[c.val]).eng0 ≠ (chCheck new.ch[c.val]).eng1)
  | .ch _ .safe => decide (partitionBytes new ≤ 8192)
  | .ch _ .char => decide (partitionBytes new ≤ 8192)
  | .grp g .delay => decide (g ≠ 31) || decide (natOf v = 0)
  | .grp g .inhib => decide (g ≠ 31) || decide (v = .inhib none)
  | .call .t1 => decide (new.call.t1 + new.call.t2 ≤ new.call.tmax)
  | .call .t2 => decide (new.call.t1 + new.call.t2 ≤ new.call.tmax)
  | .call .tmax => decide (new.call.t1 + new.call.t2 ≤ new.call.tmax)
  | .deadman .period => decide (new.dead.period ≤ new.dead.pmax)
  | .deadman .pmax => decide (new.dead.period ≤ new.dead.pmax)
  | .can b .nom => decide (new.can[(busIdx b).val].timing.nom ≤ new.can[(busIdx b).val].timing.data * 1000)
  | .can b .data => decide (new.can[(busIdx b).val].timing.nom ≤ new.can[(busIdx b).val].timing.data * 1000)
  | .lx n .low => decide (new.lx[n.val].low ≠ new.lx[n.val].high)
  | .lx n .high => decide (new.lx[n.val].low ≠ new.lx[n.val].high)
  | .scriptLine n _ => decide (scriptBytes new.scripts[n.val] ≤ 2048)
  | _ => true

/-- Order rules between settings that are refused with E05: 03 R186; 04 R233; 06 R906; 13 R722. -/
def orderRule (i : SettingId) (new : Settings) : Bool :=
  match i with
  | .cond c _ .set => thresholdsOrdered new.ch[c.val]
  | .cond c k .en => match k with
    | .hihi | .hi | .lo | .lolo => thresholdsOrdered new.ch[c.val]
    | _ => true
  | .ch c .darkfrac => decide (new.ch[c.val].darkfrac < new.ch[c.val].dimfrac)
  | .ch c .dimfrac => decide (new.ch[c.val].darkfrac < new.ch[c.val].dimfrac)
  | .ch c .darkmin => decide (new.ch[c.val].darkmin < new.ch[c.val].darkmax)
  | .ch c .darkmax => decide (new.ch[c.val].darkmin < new.ch[c.val].darkmax)
  | .watchNode => new.watchNodes.getLsbD new.watchNode.val
  | .watchNodes => new.watchNodes.getLsbD new.watchNode.val
  | .clock .sscDepth => decide (new.clock.sscMin ≤ new.clock.sscDepth)
  | .clock .sscMin => decide (new.clock.sscMin ≤ new.clock.sscDepth)
  | _ => true

end Sys2Proof.Machine
end

