-- ==== Sys2Proof/Machine/Ops.lean ====
section
/-! DEFINITION. The named operations that every family uses: changing one part of the state, stamping events for the
logbook, queueing watch frames, and the pads as they follow from the state. -/

namespace Sys2Proof.Machine

/-! ## Changing one part -/

/-- Changes one channel slice. -/
def onSlice (c : Ch) (f : Slice → Slice) (s : State) : State := { s with slices := upd s.slices c f }

/-- Changes one flag of a slice. -/
def onChFlag (c : Ch) (b : Fin 12) (f : Flag → Flag) (s : State) : State :=
  onSlice c (fun x => { x with flags := upd x.flags b f }) s

/-- Changes one condition of a slice. -/
def onCond (c : Ch) (k : Cond) (f : CondState → CondState) (s : State) : State :=
  onSlice c (fun x => { x with cond := upd x.cond (condIdx k) f }) s

/-- Changes the lamp proving of a channel. -/
def onLamp (c : Ch) (f : Lamp → Lamp) (s : State) : State := onSlice c (fun x => { x with lamp := f x.lamp }) s

/-- Changes one alarm. -/
def onAlarm (c : Ch) (k : Cond) (f : Alarm → Alarm) (s : State) : State :=
  { s with engine := { s.engine with alarms := upd s.engine.alarms c fun row => upd row (condIdx k) f } }

/-- Changes one G31 member. -/
def onMember (m : Member) (f : G31Alarm → G31Alarm) (s : State) : State :=
  { s with engine := { s.engine with g31 := upd s.engine.g31 m f } }

/-- Changes one call of the replicated copy. -/
def onCall (n : NodeNo) (g : Grp) (f : Call → Call) (s : State) : State :=
  { s with caller := { s.caller with calls := upd s.caller.calls n fun row => upd row g f } }

/-- Changes one CAN controller. -/
def onCan (b : Bus) (f : Can → Can) (s : State) : State := { s with can := upd s.can (busIdx b) f }

/-- Changes one loop output. -/
def onLx (n : Lx) (f : LoopOut → LoopOut) (s : State) : State := { s with lx := upd s.lx n f }

/-- Changes one node's entry of the heartbeat table. -/
def onPeer (n : NodeNo) (f : Peer → Peer) (s : State) : State :=
  { s with watch := { s.watch with peers := upd s.watch.peers n f } }

/-- Changes one memory bank. -/
def onBank (b : Bank) (f : BankSt → BankSt) (s : State) : State :=
  { s with mem := { s.mem with banks := upd s.mem.banks (bankIdx b) f } }

/-- Changes one flag of HP.EVENTS. -/
def onHpEvent (b : Fin 8) (f : Flag → Flag) (s : State) : State :=
  { s with port := { s.port with events := upd s.port.events b f } }

/-- The slice of a channel. -/
def State.slice (s : State) (c : Ch) : Slice := s.slices[c.val]

/-- The settings of a channel. -/
def State.chCfg (s : State) (c : Ch) : ChCfg := s.live.ch[c.val]

/-- A condition in its slice. -/
def State.cond (s : State) (c : Ch) (k : Cond) : CondState := (s.slice c).cond[(condIdx k).val]

/-- The settings of a condition. -/
def State.condCfg (s : State) (c : Ch) (k : Cond) : CondCfg := (s.chCfg c).cond[(condIdx k).val]

/-- An alarm in the engine. -/
def State.alarm (s : State) (c : Ch) (k : Cond) : Alarm := (s.engine.alarms[c.val])[(condIdx k).val]

/-- A G31 member. -/
def State.member (s : State) (m : Member) : G31Alarm := s.engine.g31[m.val]

/-- A call of the replicated copy. -/
def State.call (s : State) (n : NodeNo) (g : Grp) : Call := (s.caller.calls[n.val])[g.val]

/-- A CAN controller. -/
def State.canOf (s : State) (b : Bus) : Can := s.can[(busIdx b).val]

/-- A loop output. -/
def State.lxOf (s : State) (n : Lx) : LoopOut := s.lx[n.val]

/-- The settings of a group. -/
def State.grpCfg (s : State) (g : Grp) : GrpCfg := s.live.grp[g.val]

/-- A memory bank. -/
def State.bank (s : State) (b : Bank) : BankSt := s.mem.banks[(bankIdx b).val]

/-- The die that holds a channel (01 R15). -/
def dieOf (c : Ch) : Die := ⟨c.val / 16, by omega⟩

/-- The place of a channel on its die (01 R15). -/
def slotOf (c : Ch) : Fin 16 := ⟨c.val % 16, Nat.mod_lt _ (by decide)⟩

/-- The link of a channel's die. -/
def State.linkOf (s : State) (c : Ch) : DieLink := s.dies[(dieOf c).val]

/-- The settings that a channel's slice works from: those it received last (01 R18, R20). -/
def State.sliceCfg (s : State) (c : Ch) : ChCfg :=
  match (s.linkOf c).held with
  | some h => h.cfgs[(slotOf c).val]
  | none => s.chCfg c

/-- The settings of a condition that its slice works from. -/
def State.sliceCondCfg (s : State) (c : Ch) (k : Cond) : CondCfg := (s.sliceCfg c).cond[(condIdx k).val]

/-- A slice as the controller last received it (01 R18, R19; log 169). -/
def State.sliceSeen (s : State) (c : Ch) : Slice :=
  match (s.linkOf c).held with
  | some h => h.seen[(slotOf c).val]
  | none => s.slice c

/-- Changes what is held of a die. -/
def onHold (k : Die) (f : DieHold → DieHold) (s : State) : State :=
  { s with dies := upd s.dies k fun d => { d with held := d.held.map f } }

/-- Changes the settings that a channel's slice works from, as its boundary does (02 R49). -/
def onSliceCfg (c : Ch) (f : ChCfg → ChCfg) (s : State) : State :=
  match (s.linkOf c).held with
  | some _ => onHold (dieOf c) (fun h => { h with cfgs := upd h.cfgs (slotOf c) f }) s
  | none => { s with live := { s.live with ch := upd s.live.ch c f } }

/-- The channels of a die (01 R15). -/
def dieChannels (k : Die) : List Ch := (List.finRange 16).map fun i => ⟨k.val * 16 + i.val, by omega⟩

/-- The channels that the part has. -/
def channels (p : Part) : List Ch := (List.finRange 128).filter fun c => chFitted p c

/-- The FELINK member of a die (04 R250). -/
def felink (k : Die) : Member := ⟨11 + k.val, by omega⟩

/-! ## Events for the logbook -/

/-- A detail field from its bytes, byte 20 first (09 R480). -/
def detail (bytes : List Nat) : BitVec 64 :=
  BitVec.ofNat 64 (bytes.foldr (fun b n => b % 256 + 256 * n) 0)

/-- The low and high byte of a 16-bit count. -/
def two16 (n : Nat) : List Nat := [n % 256, n / 256 % 256]

/-- The bytes of a 32-bit word, lowest first. -/
def four32 (w : BitVec 32) : List Nat := [w.toNat % 256, w.toNat / 256 % 256, w.toNat / 65536 % 256, w.toNat / 16777216]

/-- An integer as a 32-bit value of a record. -/
def val32 (z : Int) : BitVec 32 := BitVec.ofInt 32 z

/-- Hands an event to the logbook writer with its stamp (09 R483, R489); in DEEP none is staged (09 R526). -/
def emit (e : Event) (s : State) : State :=
  if s.power.mode = .deep then s
  else { s with log := { s.log with incoming :=
    s.log.incoming ++ [.own { e with time := s.nodeTime, tunset := !s.watch.timeSet }] } }

/-- An event of a node block (09 R481 kind 3). -/
def emitBlock (index : Nat) (code : BitVec 16) (value : BitVec 32) (bytes : List Nat) (s : State) : State :=
  emit { time := 0, tunset := false, kind := 3, index := index, code := code, value := value, detail := detail bytes } s

/-- The source kind and index of a session; S00 at start-up has kind 3 index 0 (09 R481, 11 R629). -/
def sessSource (s : State) : Sess → Nat × Nat
  | .host => (6, 0)
  | .console k => (6, k.val + 1)
  | .script _ => match s.interp.script with
    | some r => if r.boot then (3, 0) else match r.by_.sess with
      | .console k => (6, k.val + 1)
      | _ => (6, 0)
    | none => (3, 0)

/-- An event of a session (09 R481 kind 6). -/
def emitSess (who : Sess) (code : BitVec 16) (value : BitVec 32) (bytes : List Nat) (s : State) : State :=
  let src := sessSource s who
  emit { time := 0, tunset := false, kind := src.1, index := src.2, code := code, value := value, detail := detail bytes } s

/-- Sign-extension of a channel's last code for a record (09 R480); 0 before the first code. -/
def lastCode (s : State) (c : Ch) : Int := (s.sliceSeen c).code.getD 0

/-- An event of a whole channel: qualifier 0xF (09 R482). -/
def emitCh (c : Ch) (code : BitVec 16) (bytes : List Nat) (s : State) : State :=
  emit { time := 0, tunset := false, kind := 0, index := c.val, code := code, value := val32 (lastCode s c),
         detail := detail bytes } s

/-! ## Watch frames -/

/-- The priority class of a message (06 R332). -/
def msgClass : Msg → Nat
  | .trip .. => 0
  | .alarm _ => 1
  | .call _ => 1
  | .callAck .. => 2
  | .handover .. => 1
  | .ack _ => 2
  | .heartbeat _ => 4
  | .time .. => 4
  | .logcopy _ => 5
  | .console .. => 3

/-- The message type (06 R332). -/
def msgType : Msg → Nat
  | .trip .. => 0x01
  | .alarm _ => 0x02
  | .call _ => 0x10
  | .callAck .. => 0x11
  | .handover .. => 0x12
  | .ack _ => 0x20
  | .heartbeat _ => 0x30
  | .time .. => 0x31
  | .logcopy _ => 0x40
  | .console .. => 0x50

/-- The detail of ALARM_STATE (06 R333). -/
def alarmDetail : AlarmKey → Nat
  | .cond c k => c.val * 16 + (condIdx k).val
  | .grp g => 8192 + g.val
  | .member m => 16384 + m.val
  | .reserved => 24576

/-- The detail of a CONSOLE frame (06 R372). -/
def consoleDetail (toConsole : Bool) (k : Fin 16) (kind segment : Nat) : Nat :=
  (if toConsole then 16384 else 0) + k.val * 1024 + kind * 256 + segment

/-- The detail field of a message (06 R332, R333). -/
def msgDetail : Msg → Nat
  | .trip c _ _ _ _ => c.val
  | .alarm b => alarmDetail b.key
  | .call b => b.node.val * 4096 + b.grp.val
  | .callAck u _ _ _ => u.val
  | .handover .. => 0
  | .ack b => b.node.val * 4096
  | .heartbeat _ => 0
  | .time .. => 0
  | .logcopy r => r.seq.toNat % 32768
  | .console k kind seg _ _ _ _ => consoleDetail true k kind seg

/-- A 29-bit Pysel identifier (06 R329). -/
def pyselId (cls type src det : Nat) : Nat := cls * 67108864 + type * 262144 + src * 32768 + det

/-- The identifier of a watch frame. -/
def frameId (f : WatchFrame) : Nat := pyselId (msgClass f.msg) (msgType f.msg) f.src.val (msgDetail f.msg)

/-- A 16-bit counter that saturates. -/
def sat16 (n : Nat) : Nat := min 65535 (n + 1)

/-- The place of the last frame of the highest class in a queue (06 R341, log 21). -/
def worstFrame (q : List WatchFrame) : Option (Nat × Nat) :=
  (q.zip (List.range q.length)).foldl (fun acc p => match acc with
    | none => some (p.2, msgClass p.1.msg)
    | some (i, c) => if c ≤ msgClass p.1.msg then some (p.2, msgClass p.1.msg) else some (i, c)) none

/-- Whether a bus gets copies of messages (06 R335). -/
def Can.sends (c : Can) : Bool :=
  match c.mode with
  | .busOff | .listen | .listenXo => false
  | _ => true

/-- The place in the watch queue that a frame keeps while it is being sent (06 R341, R385). -/
def Can.watchOnBus (c : Can) : Nat :=
  match c.sending with
  | some (.watch _) => 1
  | _ => 0

/-- Queues a frame on one bus (06 R335, R341): a bus that is off, bus-off or only listens gets no copy. -/
def Can.push (f : WatchFrame) (c : Can) : Can :=
  if c.sends = false then c
  else
    if c.queue.length + c.watchOnBus < 64 then { c with queue := c.queue ++ [f] }
    else match worstFrame c.queue with
      | some (i, cls) =>
        if msgClass f.msg < cls then { c with queue := c.queue.eraseIdx i ++ [f], wdrop := sat16 c.wdrop }
        else { c with wdrop := sat16 c.wdrop }
      | none => c

/-- Whether a message can go out: the links have joined, the node is not in DEEP (15 R799, R800), the controllers are not held
in block reset (14 R758) and a bus takes copies (06 R335). -/
def canSendMsg (s : State) : Bool :=
  s.watch.joined && decide (s.power.mode ≠ .deep) && !(s.bank .link).ownerHeld && s.can.toList.any Can.sends

/-- Sends a message on both buses under one sequence number (06 R335, R336). -/
def send (m : Msg) (s : State) : State :=
  if canSendMsg s then
    let f : WatchFrame := ⟨s.watch.node, s.watch.seq, m⟩
    { s with watch := { s.watch with seq := s.watch.seq + 1 }, can := s.can.map (Can.push f) }
  else s

/-! ## Node-level questions -/

/-- Whether the node is in a watch: another node is heard (05 R312). -/
def inWatch (s : State) : Bool :=
  (List.finRange 8).any fun n => decide (n ≠ s.watch.node) && (s.watch.peers[n.val]).heard

/-- Whether this node is lead (06 R346, R365). -/
def isLead (s : State) : Bool := decide (s.watch.lead = some s.watch.node)

/-- Whether the links only listen, so that this node counts itself as no lead (06 R346). -/
def linksListen (s : State) : Bool :=
  s.can.toList.all fun c => decide (c.mode = .listen) || decide (c.mode = .listenXo)

/-- Whether both controllers only listen after XO failure (06 R395). -/
def linksListenXo (s : State) : Bool := s.can.toList.any fun c => decide (c.mode = .listenXo)

/-- Whether G31.DEADMAN is ACTIVE_UNACK or RETURN_UNACK (05 R304). -/
def deadmanUnack (s : State) : Bool :=
  decide ((s.member 10).st = .activeUnack) || decide ((s.member 10).st = .returnUnack)

/-- Whether a call rings: at a stage and neither idle nor accepted (05 R281). -/
def Call.rings (c : Call) : Bool :=
  match c.st with
  | .stage1 | .stage2 | .stage3 => true
  | _ => false

/-- Every call of the replicated copy. -/
def allCalls (s : State) : List Call := s.caller.calls.toList.flatMap fun row => row.toList

/-- Whether any call is at stage 3 and not accepted (05 R297). -/
def stage3On (s : State) : Bool := (allCalls s).any fun c => decide (c.st = .stage3)

/-- Whether a group is active (04 R239). -/
def grpActive (s : State) (g : Grp) : Bool :=
  decide (s.engine.gstate[g.val] = .activeUnack) || decide (s.engine.gstate[g.val] = .activeAck)

/-- Whether a source of a call output is active (05 R299). -/
def coSrcActive (s : State) : CoSrc → Bool
  | .off => false
  | .stage1 => (allCalls s).any Call.rings
  | .stage2 => (allCalls s).any fun c => decide (c.st = .stage2) || decide (c.st = .stage3)
  | .stage3 => stage3On s
  | .eng e => (allCalls s).any fun c => c.rings && c.engs.getLsbD e.val
  | .dmwarn => s.caller.dead.warning || (s.member 10).cause

/-! ## Trip wires -/

/-- Whether a mode has the espresso comparators (02 R106). -/
def hasComparators : Mode → Bool
  | .pasv | .loop | .volt | .lamp => true
  | _ => false

/-- Whether a slice's trip wire is active (02 R113): for a LAMP channel the TRIPLO part is the latched contribution
(03 R164–R168), which for character F and DC follows the comparator. -/
def Slice.wire (x : Slice) : Bool :=
  hasComparators x.act.mode &&
    (x.trip.hiQ || (if x.act.mode = .lamp then x.trip.latched else x.trip.loQ))

/-! ## Pads -/

/-- Whether the node has reached step 7 of the order out of reset (15 R792): the configuration is loaded. -/
def configLoaded : Phase → Bool
  | .clocking | .rebuilding | .booting | .opening | .up => true
  | _ => false

/-- Whether the front-end dies are released: step 4 (15 R792). -/
def diesReleased : Phase → Bool
  | .unpowered | .held => false
  | _ => true

/-- Whether any trip wire routed to line n is active (04 R253). -/
def fastTripped (s : State) (n : Fin 16) : Bool :=
  (channels s.ident.part).any fun c => (s.chCfg c).fast.getLsbD n.val && (s.slice c).wire

/-- Whether a SAFE channel has line n in its FAST mask (15 R792 step 4). -/
def safeFast (s : State) (n : Fin 16) : Bool :=
  (channels s.ident.part).any fun c => (s.chCfg c).safe && (s.chCfg c).fast.getLsbD n.val

/-- The level of an ANNUN or CALL line that the engine or the caller drives (04 R253). -/
def drivenLine (s : State) (n : Fin 16) : Bool :=
  match s.live.al[n.val] with
  | .annun => !((List.finRange 32).any fun g => (s.grpCfg g).line.getLsbD n.val && grpActive s g)
  | .call => !stage3On s
  | .fast => true

/-- Whether an alarm line is energised (01 R24, R25; 04 R253, R254, R265, R266; 15 R792). -/
def alLevel (s : State) (n : Fin 16) : Bool :=
  match s.live.al[n.val] with
  | .fast =>
    if configLoaded s.rst.phase then !fastTripped s n
    else diesReleased s.rst.phase && safeFast s n && !fastTripped s n
  | _ => match s.engine.hold with
    | some h => h.al[n.val]
    | none => s.engine.running && drivenLine s n

/-- Whether a call output is energised (01 R24, R25; 05 R298). -/
def coLevel (s : State) (n : Fin 8) : Bool :=
  match s.engine.hold with
  | some h => h.co[n.val]
  | none => s.engine.running && !coSrcActive s s.live.co[n.val]

/-- The supply takes a value in mV (15 R794; log 172). -/
def setVsup (mV : Nat) (s : State) : State :=
  { s with pins := { s.pins with vsup := mV, vsupLowAt := if mV ≤ 5800 then s.now else s.pins.vsupLowAt } }

/-- A bank begins to be zeroed (14 R750). -/
def clearBank (b : Bank) (s : State) : State := onBank b (fun x => { x with st := .clearing, since := s.now }) s

/-- The pads as they follow from the state. -/
def padsOf (s : State) : Pads :=
  { al := Vector.ofFn (alLevel s)
    co := Vector.ofFn (coLevel s)
    attnLow := s.port.opened && decide (flagBits s.port.events.toList &&& s.port.attn.toNat ≠ 0)
    stbHigh := s.can.map fun c => !s.watch.joined || c.heldStandby
    canRecessive := s.can.map fun c =>
      !s.watch.joined || c.heldRecessive || !(decide (c.mode = .active) || decide (c.mode = .passive))
    blDuty := if s.panel.backlight then s.live.panel.bl else 0
    blPulledUp := decide (s.rst.phase = .held)
    panelGrounded := s.panel.phase.grounds
    hpDoDriven := s.port.opened && (s.port.async || s.port.transaction) }

/-- Whether a raw receive queue holds an unowned frame (10 R566). -/
def rawWaiting (s : State) : Bool :=
  s.can.toList.any fun c => c.rx.toList.any fun e => match e with
    | some x => !x.owned
    | none => false

/-- The end of every command: the CANRX cause, the pads and the cycle stamp (log 3). -/
def settle (s : State) : State :=
  let s := onHpEvent 5 (Flag.drive (rawWaiting s)) s
  { s with pads := padsOf s, cycle := s.cycle + 1 }

/-- A command's next state. -/
def finish (s : State) : Out := .next (settle s)

end Sys2Proof.Machine
end

