-- ==== Sys2Proof/Machine/Frames.lean ====
section
/-! DEFINITION. Watch frames as bytes: the payload of every message, its length, and frames as they stand on a bus (06 R321,
R329–R334, R366, R373; 09 R480). -/

namespace Sys2Proof.Machine

/-! ## Payloads -/

/-- A byte of flags, bit 0 first. -/
def flagByte (bs : List Bool) : Byte := BitVec.ofNat 8 (bs.foldr (fun b n => (if b then 1 else 0) + 2 * n) 0)

/-- A byte of a number. -/
abbrev byteOf (n : Nat) : Byte := BitVec.ofNat 8 n

/-- The 32 bytes of a record (09 R480, R484). -/
def recordBytes (r : Record) : List Byte :=
  let b := leBytes 8 r.time.toNat ++ leBytes 2 r.source.toNat ++ leBytes 2 r.code.toNat ++ leBytes 4 r.value.toNat ++
    leBytes 2 r.flags.toNat ++ leBytes 2 r.seq.toNat ++ leBytes 8 r.detail.toNat
  b ++ leBytes 4 (crc32 b).toNat

/-- The target of an ACK in bytes 2–4: kind, channel and number (06 R334). -/
def targetBytes : Option Target → List Byte
  | some (.cond c k) => [0, byteOf c.val, byteOf (condIdx k).val]
  | some (.ch c) => [1, byteOf c.val, 0]
  | some (.grp g) => [2, 0, byteOf g.val]
  | some (.member m) => [3, 0, byteOf m.val]
  | some .all => [4, 0, 0]
  | none => [255, 0, 0]

/-- ALARM_STATE bytes 2–15. -/
def alarmBytes (b : AlarmBody) : List Byte :=
  [byteOf b.state, flagByte [b.condTrue, b.firstOut, b.ackBit, b.refresh]] ++
    leBytes 4 (BitVec.ofInt 32 b.code).toNat ++ leBytes 8 b.time

/-- CALL bytes 2–31. -/
def callBytes (b : CallBody) : List Byte :=
  [byteOf b.state, byteOf b.cls, byteOf b.duty, byteOf b.next,
   flagByte [b.isRepeat, b.stage.testBit 0, b.stage.testBit 1, b.refresh, b.resumed], 0] ++
    leBytes 8 b.ringing.toNat ++ leBytes 8 b.start ++ leBytes 8 b.timerEnd

/-- HEARTBEAT bytes 2–15. -/
def heartbeatBytes (b : HeartbeatBody) : List Byte :=
  [(match b.part with
    | .ev128 => 0
    | .ev064 => 1), flagByte [b.ready, b.restart, b.rebuild, b.lead, b.deadmanWarning], b.hears, b.leadSeen] ++
    leBytes 2 b.serialTail.toNat ++ leBytes 8 b.time

/-- The payload of a message after its sequence number; a CONSOLE frame has none (06 R334, R373). Fields of several bytes are
little-endian, reserved bits and bytes 0; a MAC stands in the order of the HMAC. -/
def bodyBytes : Msg → List Byte
  | .trip _ hi lo wire t => [flagByte [hi, lo, wire], 0] ++ leBytes 4 t
  | .alarm b => alarmBytes b
  | .call b => callBytes b
  | .callAck _ counter key discarded => leBytes 4 counter.toNat ++ [key, flagByte [discarded]]
  | .handover previous n t => [(match previous with
      | some p => byteOf p.val
      | none => 0xFF), byteOf n] ++ leBytes 8 t
  | .ack b => targetBytes b.target ++ [byteOf b.origin, byteOf b.originNo, 0] ++ leBytes 8 b.latch
  | .heartbeat b => heartbeatBytes b
  | .time hostSet prevSeq prevTime => [flagByte [hostSet], 0] ++ leBytes 2 prevSeq.toNat ++ [0, 0] ++ leBytes 8 prevTime
  | .logcopy r => [0, 0] ++ recordBytes r ++ List.replicate 12 0
  | .console _ _ _ counter last mac data =>
    leBytes 4 counter ++ [byteOf data.length, flagByte [last], 0, 0] ++ beBytes 8 mac.toNat ++ data

/-- Whether a message carries a sequence number in bytes 0–1: all but CONSOLE (06 R334, R373). -/
def numbered : Msg → Bool
  | .console .. => false
  | _ => true

/-- The payload of a message with its number. -/
def msgBytes (seq : BitVec 16) (m : Msg) : List Byte := (if numbered m then leBytes 2 seq.toNat else []) ++ bodyBytes m

/-- The data lengths of an FD frame (06 R383). -/
def fdLengths : List Nat := [0, 1, 2, 3, 4, 5, 6, 7, 8, 12, 16, 20, 24, 32, 48, 64]

/-- The smallest FD length that holds so many bytes. -/
def fdLength (n : Nat) : Nat := (fdLengths.find? fun k => decide (n ≤ k)).getD 64

/-- The data length of a message (06 R332, R373). -/
def msgLen : Msg → Nat
  | .trip .. => 8
  | .alarm _ => 16
  | .call _ => 32
  | .callAck .. => 8
  | .handover .. => 12
  | .ack _ => 16
  | .heartbeat _ => 16
  | .time .. => 16
  | .logcopy _ => 48
  | .console _ _ _ _ _ _ data => fdLength (16 + data.length)

/-- Bytes filled up with 0 to a length, or cut to it. -/
def padTo (n : Nat) (bs : List Byte) : List Byte := (bs ++ List.replicate n 0).take n

/-! ## Frames -/

/-- A Pysel frame as it stands on a bus: an FD frame with an extended identifier (06 R329). -/
def pyselFrame (id : Nat) (brs esi : Bool) (data : List Byte) : RawFrame :=
  { ext := true, id := id, fd := true, brs := brs, esi := esi, rtr := false, data := data }

/-- A watch frame on a bus (06 R329–R334, R373). -/
def wireFrame (f : WatchFrame) (brs esi : Bool) : RawFrame :=
  pyselFrame (frameId f) brs esi (padTo (msgLen f.msg) (msgBytes f.seq f.msg))

/-- A received message as it stood on its bus. -/
def rxFrame (r : RxHdr) (m : Msg) : RawFrame :=
  pyselFrame (pyselId r.cls (msgType m) r.src.val (msgDetail m)) r.brs r.esi (padTo r.len (msgBytes r.seq m))

/-- The identifier of a unit frame (06 R329, R332). -/
def unitId (f : UnitFrame) : Nat := pyselId f.cls 0x60 0 f.unit.val

/-- The payload bytes 0–7 of a unit frame (06 R366). -/
def unitPayload (f : UnitFrame) : List Byte := leBytes 4 f.counter.toNat ++ [f.key, f.node, f.grp, f.flags]

/-- A unit frame as it stood on its bus (06 R366). -/
def unitRaw (f : UnitFrame) : RawFrame :=
  pyselFrame (unitId f) f.brs f.esi (padTo f.len (unitPayload f ++ leBytes 4 f.mac.toNat))

/-- A frame from a console as it stood on its bus (06 R372, R373). -/
def consoleRaw (f : ConsoleFrame) (kind : Nat) : RawFrame :=
  pyselFrame (pyselId f.cls 0x50 f.node.val (consoleDetail false f.console kind f.segment.toNat)) f.brs f.esi
    (padTo f.len (bodyBytes (.console f.console kind f.segment.toNat f.counter.toNat f.last f.mac f.data)))

/-! ## Fields of an identifier -/

/-- The priority class of an identifier (06 R329). -/
def idClass (id : Nat) : Nat := id / 67108864 % 8

/-- The message type of an identifier. -/
def idType (id : Nat) : Nat := id / 262144 % 256

/-- The source node of an identifier. -/
def idSource (id : Nat) : NodeNo := ⟨id / 32768 % 8, Nat.mod_lt _ (by decide)⟩

/-- Whether a frame is of Pysel's form (06 R329). -/
def isPysel (f : RawFrame) : Bool := f.ext && f.fd && !f.rtr

/-- The sequence number in bytes 0–1 of a payload (06 R334). -/
def payloadSeq (f : RawFrame) : Nat := (f.data.getD 0 0).toNat + 256 * (f.data.getD 1 0).toNat

/-! ## Receiving -/

/-- Whether a controller receives frames. -/
def Can.receives (c : Can) : Bool :=
  match c.mode with
  | .off | .busOff => false
  | _ => true

/-- Whether a filter passes a frame (06 R388, R401): a remote frame passes only a filter that includes RTR. -/
def filterPasses (f : RawFrame) (x : Filter) : Bool :=
  (match x.kind with
   | .base => !f.ext
   | .ext => f.ext
   | .any => true) && decide (f.id &&& x.mask = x.id &&& x.mask) && (!f.rtr || x.rtr)

/-- Whether any filter of a bus passes a frame. -/
def filtersPass (s : State) (b : Bus) (f : RawFrame) : Bool :=
  (s.live.can[(busIdx b).val]).filters.toList.any fun o => match o with
    | some x => filterPasses f x
    | none => false

/-- Puts a frame into the first free receive entry, or counts it as lost (06 R389, R390). -/
def Can.store (f : RawFrame) (c : Can) : Can :=
  match (List.finRange 64).find? fun i => c.rx[i.val].isNone with
  | some i => { c with rx := upd c.rx i fun _ => some ⟨f, false, c.rxOrder⟩, rxOrder := c.rxOrder + 1 }
  | none => { c with rxlost := sat16 c.rxlost }

/-- An error counter's effect on the bus state (PRESUMED from ISO 11898-1, log 23). -/
def Can.confine (c : Can) : Can :=
  match c.mode with
  | .active | .passive => { c with mode := if 127 < c.tec ∨ 127 < c.recv then .passive else .active }
  | _ => c

/-- The receive error counter after a frame (06 R402; PRESUMED from ISO 11898-1, log 23): an error counts 1, a good frame
takes 1 away. -/
def Can.countRx (ok : Bool) (c : Can) : Can :=
  Can.confine { c with recv :=
    if ok = false then min 255 (c.recv + 1) else if 127 < c.recv then 119 + Config.recReturn.val else c.recv - 1 }

/-- Whether a bus brings this node frames. -/
def busHears (s : State) (b : Bus) : Bool := s.watch.joined && (s.canOf b).receives

/-- A good frame arrives on a bus: it counts, and enters the receive queue where a filter passes it, a Pysel frame too, besides
its normal handling (06 R388, R389, R402). -/
def noteReceived (b : Bus) (f : RawFrame) (s : State) : State :=
  if busHears s b then
    onCan b (fun c => (if filtersPass s b f then Can.store f else id) (Can.countRx true c)) s
  else s

end Sys2Proof.Machine
end

