-- ==== Sys2Proof/Machine/CallerOps.lean ====
section
/-! DEFINITION. The caller's operations: the duty engineer, the units of a stage, and the moves of a call (05). -/

namespace Sys2Proof.Machine

/-- One second in ticks. -/
abbrev usSec : Nat := 1000000

/-- One minute in ticks. -/
abbrev usMin : Nat := 60000000

/-! ## The roster and the duty table -/

/-- Whether an engineer is on the roster (05 R270). -/
def onRoster (s : State) (e : Eng) : Bool := decide ((s.live.eng[e.val]).units ≠ [])

/-- Whether an engineer is reachable (05 R273). -/
def reachable (s : State) (e : Eng) : Bool :=
  (s.live.eng[e.val]).units.any fun u => (s.caller.units[u.val]).present

/-- Local time in µs, from a Monday 00:00: node time 0 is Saturday 2000-01-01 (05 R274, 13 R695). -/
def localUs (s : State) : Int := (s.nodeTime : Int) + s.live.call.tz * 15 * usMin + 5 * 86400000000

/-- How long ago a slot last started, in µs (05 R275). -/
def slotAge (now : Int) (d : DutySlot) : Int :=
  match d.day with
  | none => (now - d.minute.val * usMin) % 86400000000
  | some k => (now - (k.val * 1440 + d.minute.val) * usMin) % 604800000000

/-- The duty engineer at the present local time (05 R275, R276). -/
def dutyEngineer (s : State) : Option Eng :=
  let slots := s.live.duty.toList.filterMap id
  match slots with
  | [] => (List.finRange 16).find? (onRoster s)
  | _ =>
    (slots.foldl (fun acc d =>
      let a := slotAge (localUs s) d
      match acc with
      | none => some (a, d.eng)
      | some (b, e) => if a < b then some (a, d.eng) else some (b, e)) (none : Option (Int × Eng))).map (·.2)

/-- The next engineer after the duty engineer (05 R277). -/
def nextEngineer (s : State) (duty : Option Eng) : Option Eng :=
  let order : List Eng := match duty with
    | some d => (List.finRange 15).map fun i => d + ⟨i.val + 1, by omega⟩
    | none => List.finRange 16
  order.find? fun e => onRoster s e && reachable s e

/-- The mask of a list of units. -/
def unitMask (us : List Unit64) : BitVec 64 :=
  us.foldl (fun m u => m ||| BitVec.ofNat 64 (2 ^ u.val)) 0

/-- The units of an engineer. -/
def unitsOf (s : State) : Option Eng → List Unit64
  | some e => (s.live.eng[e.val]).units
  | none => []

/-- The units that a stage calls (05 R282). -/
def stageMask (s : State) (duty next : Option Eng) (stage : Nat) : BitVec 64 :=
  if stage = 1 then unitMask (unitsOf s duty)
  else if stage = 2 then unitMask (unitsOf s duty ++ unitsOf s next)
  else unitMask ((List.finRange 16).flatMap (fun e => unitsOf s (some e)) ++
    (List.finRange 64).filter fun u => decide (s.live.cu[u.val] = .mess) || decide (s.live.cu[u.val] = .engrm))

/-- The engineers of whom a ringing mask holds a unit (05 R299, R310). -/
def engsRung (s : State) (mask : BitVec 64) : BitVec 16 :=
  (List.finRange 16).foldl (fun m (e : Eng) =>
    if (s.live.eng[e.val]).units.any fun u => mask.getLsbD u.val then m ||| BitVec.ofNat 16 (2 ^ e.val) else m) 0

/-- A call that rings a mask of units, from a stage entry or a repeat on (05 R282, R310). -/
def Call.ring (s : State) (mask : BitVec 64) (c : Call) : Call := { c with ringing := mask, engs := engsRung s mask }

/-! ## The moves of a call -/

/-- A call state's code (05 R281). -/
def callCode : CallState → Nat
  | .idle => 0 | .stage1 => 1 | .stage2 => 2 | .stage3 => 3 | .accepted => 4

/-- An engineer's number, 0 for none. -/
def engNo : Option Eng → Nat
  | some e => e.val + 1
  | none => 0

/-- The CALL message of a call (06 R334). -/
def callBody (n : NodeNo) (g : Grp) (c : Call) (isRepeat refresh : Bool) : CallBody :=
  { node := n, grp := g, state := callCode c.st, cls := c.cls.val, duty := engNo c.duty, next := engNo c.next,
    isRepeat := isRepeat, stage := c.stage.val, refresh := refresh, resumed := c.resumed, ringing := c.ringing,
    start := c.start, timerEnd := c.timerEnd.getD 0 }

/-- Sends the CALL frame of a call; on an XO failure the links carry none (05 R316). -/
def sendCall (n : NodeNo) (g : Grp) (isRepeat refresh : Bool) (s : State) : State :=
  send (.call (callBody n g (s.call n g) isRepeat refresh)) s

/-- Logs a caller's event (05 R318). -/
def emitCall (g : Grp) (code : BitVec 16) (c : Call) (unit : Nat) (s : State) : State :=
  emit { time := 0, tunset := false, kind := 1, index := g.val, code := code,
         detail := Config.callDetail (callCode c.st) (engNo c.duty) (engNo c.next) unit } s

/-- The state of a call of the watch has changed: HP.EVENTS CALL (10 R566). -/
def callChanged (s : State) : State := onHpEvent 4 Flag.pulse s

/-- The state of a stage number. -/
def stageState (k : Nat) : CallState := if k ≤ 1 then .stage1 else if k = 2 then .stage2 else .stage3

/-- The stage that a call comes to rest at when it is to begin one (05 R284), with its next engineer (05 R278). -/
def restStage (s : State) (cls : Nat) (duty next : Option Eng) (target : Nat) : Nat × Option Eng :=
  let two : Nat × Option Eng :=
    let nx := nextEngineer s duty
    if (duty.any (reachable s)) || (nx.any (reachable s)) then (2, nx) else (3, nx)
  if target ≤ 1 then
    if duty.any (reachable s) then (1, next) else if cls = 1 then (3, next) else two
  else if target = 2 then two
  else (3, next)

/-- The end of the timer that a stage runs: its repeat timer for class 1 and at stage 3, else its stage timer (05 R282,
R288, 16 R820). -/
def timerOf (s : State) (cls : Fin 4) (k : Nat) : Tick :=
  s.nodeTime + (if cls = 1 ∨ k = 3 then s.live.call.rep else if k = 1 then s.live.call.t1 else s.live.call.t2) * usSec

/-- Whether the running timer of a call is its repeat timer (05 R288). -/
def Call.repeats (c : Call) : Bool := c.rings && (decide (c.cls = 1) || decide (c.st = .stage3))

/-- A call as it stands when a stage begins (05 R282–R288). -/
def stageCall (s : State) (c : Call) (target : Nat) : Call :=
  let (k, nx) := restStage s c.cls.val c.duty c.next target
  Call.ring s (stageMask s c.duty nx k) { c with
    st := stageState k
    stage := Fin.ofNat 4 k
    next := nx
    timerEnd := some (timerOf s c.cls k)
    repeatUs := s.live.call.rep * usSec
    refreshAt := s.now + 10 * usSec
    resumed := false }

/-- Begins a stage of a call, sends CALL and logs the event (05 R282, 06 R352). -/
def beginStage (n : NodeNo) (g : Grp) (target : Nat) (code : BitVec 16) (s : State) : State :=
  let c := stageCall s (s.call n g) target
  callChanged (emitCall g code c 0 (sendCall n g false false (onCall n g (fun _ => c) s)))

/-- The class with which a call of a group runs (05 R283, R304; log 17). -/
def callClass (s : State) (n : NodeNo) (g : Grp) (deadman : Bool) : Fin 4 :=
  let cls := if n = s.watch.node then (s.grpCfg g).cls
    else if (s.call n g).start ≠ 0 then (s.call n g).cls else Config.remoteClass n.val g.val
  if g = 31 ∧ deadman then (if cls = 3 then 3 else 2) else cls

/-- Starts a call: the duty engineer is fixed now (05 R278, R279); on an XO failure it begins at stage 3 (05 R316). -/
def startCall (n : NodeNo) (g : Grp) (cls : Fin 4) (s : State) : State :=
  let c : Call := { st := .stage1, cls := cls, duty := dutyEngineer s, start := s.nodeTime }
  beginStage n g (if cls = 3 ∨ linksListenXo s then 3 else 1) 0x0301 (onCall n g (fun _ => c) s)

/-- Restarts an ACCEPTED call on a new alarm (05 R296); its duty engineer stays (R278). -/
def restartCall (n : NodeNo) (g : Grp) (s : State) : State :=
  beginStage n g (if (s.call n g).cls = 3 then 3 else 1) 0x0302
    (onCall n g (fun c => { c with next := none }) s)

/-- Ends a call: CALL is sent once more with state IDLE (06 R352). -/
def endCall (n : NodeNo) (g : Grp) (s : State) : State :=
  let c := { s.call n g with st := .idle, ringing := 0, engs := 0, timerEnd := none, resumed := false }
  callChanged (emitCall g 0x0306 c 0 (sendCall n g false false (onCall n g (fun _ => c) s)))

/-- Whether this node runs the calls of a node's groups: as lead, or its own when the links only listen (05 R316). -/
def runsCalls (s : State) (n : NodeNo) : Bool :=
  isLead s || (linksListenXo s && decide (n = s.watch.node))

/-- The running G31 call takes the class that a miss of the dead-man gives it: its timer follows, and CALL is sent (05 R304,
06 R352). -/
def reclassCall (n : NodeNo) (g : Grp) (cls : Fin 4) (s : State) : State :=
  let c := s.call n g
  let t := if c.st = .stage1 then some (timerOf s cls 1) else c.timerEnd
  sendCall n g false false (onCall n g (fun c => { c with cls := cls, timerEnd := t }) s)

/-- What a group's state does to its call (05 R279, R280, R296, R304, R305). `old` is the state before, `entered` says that an
alarm of the group entered ACTIVE_UNACK, `deadman` that the G31.DEADMAN of the node is unacknowledged and `missed` that
it entered ACTIVE_UNACK now. -/
def groupCall (n : NodeNo) (g : Grp) (old new : AlarmState) (entered deadman missed : Bool) (s : State) : State :=
  if runsCalls s n = false then s
  else
    let c := s.call n g
    let cls := callClass s n g deadman
    if c.st = .idle then
      if ((new = .activeUnack ∧ old ≠ .activeUnack) ∨ (g = 31 ∧ missed)) ∧ cls ≠ 0 then startCall n g cls s else s
    else
      let ends := match new with
        | .activeAck | .steeping | .normal => !(g = 31 && deadman)
        | _ => false
      if ends then endCall n g s
      else
        let s := if g = 31 ∧ missed ∧ c.cls ≠ cls then reclassCall n g cls s else s
        if entered ∧ c.st = .accepted then restartCall n g s else s

/-- A time left, rounded up to the next whole second (06 R354). -/
def roundSec (now end_ : Tick) : Tick := now + (end_ - now + (usSec - 1)) / usSec * usSec

/-- Takes a call of the copy at its state and stage, with its timer rounded up (05 R313, 06 R354). -/
def takeCall (n : NodeNo) (g : Grp) (s : State) : State :=
  let c := s.call n g
  if c.st = .idle then s
  else
    let c' := { c with
      timerEnd := c.timerEnd.map (roundSec s.nodeTime)
      repeatUs := s.live.call.rep * usSec
      refreshAt := s.now + 10 * usSec
      resumed := true }
    onCall n g (fun c => { c with resumed := false })
      (emitCall g 0x0307 c' 0 (sendCall n g false false (onCall n g (fun _ => c') s)))

/-- Every node and group of the copy. -/
def callKeys : List (NodeNo × Grp) :=
  (List.finRange 8).flatMap fun n => (List.finRange 32).map fun g => (n, g)

/-- Calls own groups at stage 3 at once when the links come to listen only, an accepted call too (05 R316). -/
def stage3Own (s : State) : State :=
  (List.finRange 32).foldl (fun s g =>
    if decide ((s.call s.watch.node g).st ≠ .idle) && !decide ((s.call s.watch.node g).st = .stage3) then
      beginStage s.watch.node g 3 0x0302 s else s) s

/-! ## The dead-man timer -/

/-- Logs a dead-man event: its source is G31 (05 R318). -/
def emitDead (code : BitVec 16) (unit : Nat) (s : State) : State := emitCall 31 code {} unit s

/-- Starts a period in full, with the lengths set now (05 R301, R302, R319). -/
def startPeriod (s : State) : State :=
  { s with caller := { s.caller with dead :=
    { periodEnd := some (s.now + s.live.dead.period * usMin), warnUs := s.live.dead.warn * usSec, warning := false } } }

/-- Stops the dead-man timer. -/
def stopPeriod (s : State) : State := { s with caller := { s.caller with dead := {} } }

end Sys2Proof.Machine
end

