-- ==== Sys2Proof/Machine/EngineOps.lean ====
section
/-! DEFINITION. The alarm engine's operations: moves of alarms with their acknowledge bits, inhibit causes, first-out marks,
group states, G31 members, and what each change records and sends (04). -/

namespace Sys2Proof.Machine

/-- An alarm state's code (04 R213). -/
def alarmCode : AlarmState → Nat
  | .normal => 0 | .steeping => 1 | .activeUnack => 2 | .activeAck => 3 | .returnUnack => 4 | .shelved => 5
  | .inhibited => 6 | .disabled => 7

/-- An alarm state's name (04 R213). -/
def alarmStateText : AlarmState → Text
  | .normal => txt "NORMAL" | .steeping => txt "STEEPING" | .activeUnack => txt "ACTIVE_UNACK"
  | .activeAck => txt "ACTIVE_ACK" | .returnUnack => txt "RETURN_UNACK" | .shelved => txt "SHELVED"
  | .inhibited => txt "INHIBITED" | .disabled => txt "DISABLED"

/-- Codes 0–4 (04 R215). -/
def AlarmState.plain (a : AlarmState) : Bool := decide (alarmCode a ≤ 4)

/-- What an alarm change is of. -/
inductive AlarmOf where
  | cond (c : Ch) (k : Cond)
  | member (m : Member)
deriving DecidableEq, Repr

/-- One move of an alarm. -/
structure Change where
  of : AlarmOf
  old : AlarmState
  new : AlarmState
deriving DecidableEq, Repr

/-- A state with the moves made so far, oldest first. -/
abbrev Moving := State × List Change

/-! ## Acknowledge bits -/

/-- Sends a write of an acknowledge bit to the slice; while the die link is down the latest write of each condition is
kept (01 R900, 04 R221). -/
def pushAck (c : Ch) (k : Cond) (value : Bool) (s : State) : State :=
  let w : AckWrite := ⟨c, k, value, (s.alarm c k).occ⟩
  let s := onAlarm c k (fun a => { a with ackBit := value }) s
  { s with dies := upd s.dies (dieOf c) fun d =>
      let kept := if d.valid then d.queue else d.queue.filter fun x => !(decide (x.c = c) && decide (x.k = k))
      { d with queue := kept ++ [w] } }

/-- Whether a move sets the acknowledge bit (04 R220). -/
def setsAck (old new : AlarmState) : Bool :=
  match new with
  | .activeAck | .shelved | .inhibited | .disabled => true
  | .normal => match old with
    | .steeping | .shelved | .inhibited | .returnUnack => true
    | _ => false
  | .steeping => decide (old = .returnUnack)
  | _ => false

/-! ## Moves of one alarm -/

/-- Moves an alarm to a state, with its acknowledge-bit write (04 R220, R221). -/
def move (c : Ch) (k : Cond) (new : AlarmState) (w : Moving) : Moving :=
  let old := (w.1.alarm c k).st
  if old = new then w
  else
    let s := onAlarm c k (fun a => { a with
      st := new
      delayEnd := if new = .steeping then a.delayEnd else none
      shelfEnd := if new = .shelved then a.shelfEnd else none
      entered := if new = .activeUnack then w.1.cycle else a.entered
      enteredTime := if new = .activeUnack then w.1.nodeTime else a.enteredTime
      changed := w.1.nodeTime }) w.1
    let s := if new = .activeUnack then pushAck c k false s
      else if setsAck old new then pushAck c k true s else s
    (s, w.2 ++ [⟨.cond c k, old, new⟩])

/-- The group delay of a channel's group, in ticks (04 R217). -/
def groupDelay (s : State) (c : Ch) : Tick := (s.grpCfg (s.chCfg c).grp).delay * usSec

/-- Starts a group delay, or goes on at once where it is 0 s (04 R215, R217). -/
def startDelay (c : Ch) (k : Cond) (w : Moving) : Moving :=
  if groupDelay w.1 c = 0 then move c k .activeUnack w
  else
    let w := move c k .steeping w
    (onAlarm c k (fun a => { a with delayEnd := some (w.1.now + groupDelay w.1 c) }) w.1, w.2)

/-- The condition becomes true (04 R215). -/
def becameTrue (c : Ch) (k : Cond) (w : Moving) : Moving :=
  match (w.1.alarm c k).st with
  | .normal | .steeping => startDelay c k w
  | .returnUnack => move c k .activeUnack w
  | _ => w

/-- The condition becomes false (04 R215). -/
def becameFalse (c : Ch) (k : Cond) (w : Moving) : Moving :=
  match (w.1.alarm c k).st with
  | .activeUnack => move c k .returnUnack w
  | .activeAck => move c k .normal w
  | .steeping => if (w.1.alarm c k).delayEnd.isSome then move c k .normal w else w
  | _ => w

/-- The slice's steep timer starts (04 R215). -/
def steepStarted (c : Ch) (k : Cond) (w : Moving) : Moving :=
  match (w.1.alarm c k).st with
  | .normal => move c k .steeping w
  | _ => w

/-- The steep timer ends before the condition becomes true (04 R209, R215). -/
def steepEnded (c : Ch) (k : Cond) (w : Moving) : Moving :=
  match (w.1.alarm c k).st with
  | .steeping => if (w.1.alarm c k).delayEnd.isSome then w else move c k .normal w
  | _ => w

/-! ## Inhibit -/

/-- A remote state kept from ALARM_STATE frames (04 R243, 08 R455). -/
def remoteState (s : State) (n : NodeNo) (key : AlarmKey) : Option AlarmBody :=
  (s.watch.remote.find? fun p => decide (p.1 = (n, key))).map (·.2)

/-- Whether a group's inhibit cause is true (04 R241, R243): one with EN OFF is not, and one on another node is false until
its first message after a reset. -/
def causeTrue (s : State) (g : Grp) : Bool :=
  match (s.grpCfg g).inhib with
  | none => false
  | some (n, c, k) =>
    if n = s.watch.node then (s.alarm c k).on && (s.condCfg c k).en
    else (s.watch.peers[n.val]).heard && !s.watch.causesOld.contains (n, .cond c k) &&
      (match remoteState s n (.cond c k) with
      | some b => b.condTrue
      | none => false)

/-- Whether an alarm's group is inhibited, the cause condition itself apart (04 R242). -/
def inhibitedBy (s : State) (c : Ch) (k : Cond) : Bool :=
  let g := (s.chCfg c).grp
  match (s.grpCfg g).inhib with
  | none => false
  | some x => decide (x ≠ (s.watch.node, c, k)) && causeTrue s g

/-- An alarm leaves SHELVED or INHIBITED (04 R216). -/
def leave (fromShelved : Bool) (c : Ch) (k : Cond) (w : Moving) : Moving :=
  let a := w.1.alarm c k
  if inhibitedBy w.1 c k then move c k .inhibited w
  else if a.on then (if fromShelved then move c k .activeUnack w else startDelay c k w)
  else if a.steep then move c k .steeping w
  else move c k .normal w

/-- Whether a channel's die link delivers valid frames; while it does not, the engine holds the states of its alarms
(01 R19). -/
def linkUp (s : State) (c : Ch) : Bool := (s.linkOf c).valid

/-- Evaluates the inhibit of one alarm (04 R215, R242); the states of a die without a link are held (01 R19, log 151). -/
def evalInhibit1 (c : Ch) (k : Cond) (w : Moving) : Moving :=
  let a := w.1.alarm c k
  if linkUp w.1 c = false then w
  else if inhibitedBy w.1 c k then (if a.st.plain then move c k .inhibited w else w)
  else if a.st = .inhibited then leave false c k w else w

/-- Whether a channel's alarms can be touched by an inhibit. -/
def inhibitMatters (s : State) (c : Ch) : Bool :=
  (s.grpCfg (s.chCfg c).grp).inhib.isSome ||
    (s.engine.alarms[c.val]).toList.any fun a => decide (a.st = .inhibited)

/-- Evaluates the inhibit of every alarm. -/
def evalInhibit (w : Moving) : Moving :=
  ((channels w.1.ident.part).filter (inhibitMatters w.1)).foldl
    (fun w c => allConds.foldl (fun w k => evalInhibit1 c k w) w) w

/-! ## What changes record and send -/

/-- The ALARM_STATE message of a condition (06 R334). -/
def condBody (s : State) (c : Ch) (k : Cond) (st : AlarmState) (refresh : Bool) : AlarmBody :=
  let a := s.alarm c k
  { key := .cond c k, state := alarmCode st, condTrue := a.on,
    firstOut := decide (s.engine.first[(s.chCfg c).grp.val] = some (.cond c k)), ackBit := a.ackBit, refresh := refresh,
    code := lastCode s c, time := a.changed }

/-- The ALARM_STATE message of a group. -/
def grpBody (s : State) (g : Grp) (refresh : Bool) : AlarmBody :=
  { key := .grp g, state := alarmCode s.engine.gstate[g.val], condTrue := false, firstOut := false, ackBit := false,
    refresh := refresh, code := 0, time := s.engine.gchanged[g.val] }

/-- The ALARM_STATE message of a G31 member. -/
def memberBody (s : State) (m : Member) (st : AlarmState) (refresh : Bool) : AlarmBody :=
  { key := .member m, state := alarmCode st, condTrue := (s.member m).cause,
    firstOut := decide (s.engine.first[31] = some (.member m)), ackBit := false, refresh := refresh, code := 0,
    time := (s.member m).changed }

/-- A record about one condition's alarm (09 R482, R487). -/
def alarmEvent (s : State) (c : Ch) (k : Cond) (code : BitVec 16) (new old : AlarmState) : Event :=
  { time := 0, tunset := false, kind := 0, index := c.val, code := code, value := val32 (lastCode s c),
    qual := (condIdx k).val, newState := alarmCode new, prevState := alarmCode old,
    firstOut := decide (s.engine.first[(s.chCfg c).grp.val] = some (.cond c k)), ackBit := (s.alarm c k).ackBit,
    condOn := (s.alarm c k).on }

/-- A record about a G31 member (09 R482, R487). -/
def memberEvent (s : State) (m : Member) (code : BitVec 16) (new old : AlarmState) : Event :=
  { time := 0, tunset := false, kind := 2, index := m.val, code := code, newState := alarmCode new,
    prevState := alarmCode old, firstOut := decide (s.engine.first[31] = some (.member m)),
    condOn := (s.member m).cause }

/-- Records and sends one move (04 R215, 06 R332, 09 R487), and sets HP.EVENTS ALARM (10 R566). -/
def publish (ch : Change) (s : State) : State :=
  let s := if ch.new = .activeUnack then onHpEvent 2 Flag.pulse s else s
  match ch.of with
  | .cond c k =>
    send (.alarm (condBody s c k ch.new false)) (emit (alarmEvent s c k 0x0101 ch.new ch.old) s)
  | .member m =>
    send (.alarm (memberBody s m ch.new false)) (emit (memberEvent s m 0x0103 ch.new ch.old) s)

/-- The group of a change. -/
def changeGrp (s : State) (ch : Change) : Grp :=
  match ch.of with
  | .cond c _ => (s.chCfg c).grp
  | .member _ => 31

/-- Whether one of two alarms of a group comes first for the first-out mark (04 R247). -/
def firstKey (s : State) : AlarmOf → Nat × Nat × Nat
  | .cond c k => ((s.alarm c k).since, c.val, (condIdx k).val)
  | .member m => (0, m.val, 0)

/-- Lexicographic order of first-out keys. -/
def keyBefore (a b : Nat × Nat × Nat) : Bool :=
  decide (a.1 < b.1) || (decide (a.1 = b.1) && (decide (a.2.1 < b.2.1) ||
    (decide (a.2.1 = b.2.1) && decide (a.2.2 < b.2.2))))

/-- Gives a group its first-out mark (04 R246, R247) and logs it. -/
def markFirst (chs : List Change) (g : Grp) (s : State) : State :=
  if (s.grpCfg g).firstout = false ∨ s.engine.first[g.val] ≠ none then s
  else
    let ins := (chs.filter fun x => decide (x.new = .activeUnack) && decide (changeGrp s x = g)).map (·.of)
    match ins.foldl (fun acc o => match acc with
        | none => some o
        | some b => if keyBefore (firstKey s o) (firstKey s b) then some o else some b) none with
    | none => s
    | some o =>
      let mark : FirstOut := match o with
        | .cond c k => .cond c k
        | .member m => .member m
      let e : Event := match o with
        | .cond c k => { alarmEvent s c k 0x0105 .activeUnack .activeUnack with firstOut := true, detail := detail [g.val] }
        | .member m => { memberEvent s m 0x0105 .activeUnack .activeUnack with firstOut := true, detail := detail [g.val] }
      emit e
        { s with engine := { s.engine with first := upd s.engine.first g fun _ => some mark } }

/-- The states of a group's member alarms (04 R236). -/
def memberStates (s : State) (g : Grp) : List AlarmState :=
  if g = 31 then s.engine.g31.toList.map (·.st)
  else ((channels s.ident.part).filter fun c => decide ((s.chCfg c).grp = g)).flatMap fun c =>
    (s.engine.alarms[c.val]).toList.map (·.st)

/-- The group state (04 R238). -/
def groupStateOf (l : List AlarmState) : AlarmState :=
  if l.contains .activeUnack then .activeUnack
  else if l.contains .activeAck then .activeAck
  else if l.contains .returnUnack then .returnUnack
  else if l.contains .steeping then .steeping
  else .normal

/-- Whether every member alarm lets the first-out mark go (04 R248). -/
def firstClears (l : List AlarmState) : Bool :=
  l.all fun a => match a with
    | .normal | .shelved | .inhibited | .disabled => true
    | _ => false

/-- Brings a group's state and mark up to date, with its record and frame (04 R238, R248, 09 R487). -/
def updateGroup (g : Grp) (s : State) : State :=
  let l := memberStates s g
  let old := s.engine.gstate[g.val]
  let new := groupStateOf l
  let s := if firstClears l ∧ s.engine.first[g.val] ≠ none then
      { s with engine := { s.engine with first := upd s.engine.first g fun _ => none } } else s
  if old = new then s
  else
    let s := { s with engine := { s.engine with
      gstate := upd s.engine.gstate g fun _ => new, gchanged := upd s.engine.gchanged g fun _ => s.nodeTime } }
    send (.alarm (grpBody s g false))
      (emit { time := 0, tunset := false, kind := 1, index := g.val, code := 0x0102, newState := alarmCode new,
              prevState := alarmCode old } s)

/-- The groups that a list of changes touches, with further ones, each once. -/
def touched (s : State) (chs : List Change) (more : List Grp) : List Grp :=
  ((chs.map (changeGrp s)) ++ more).foldl (fun acc g => if acc.contains g then acc else acc ++ [g]) []

/-- Records of the moves, then first-out marks, then group states (04, 19 worked example). -/
def publishAll (gs : List Grp) (w : Moving) : State :=
  let s := w.2.foldl (fun s x => publish x s) w.1
  let s := gs.foldl (fun s g => markFirst w.2 g s) s
  gs.foldl (fun s g => updateGroup g s) s

/-- Whether an alarm of a group enters ACTIVE_UNACK among some moves. -/
def enters (s : State) (chs : List Change) (g : Grp) : Bool :=
  chs.any fun x => decide (x.new = .activeUnack) && decide (changeGrp s x = g)

/-- Ends an engine step: records, marks, group states, then calls (04, 05, 19 worked example). A further alarm that enters
ACTIVE_UNACK in a group that stands there already sends the group's ALARM_STATE again, from which a lead elsewhere learns it
(05 R296; log 155). -/
def commit (more : List Grp) (w : Moving) : State :=
  let chs := w.2
  let gs := touched w.1 chs more
  let olds := gs.map fun g => (g, w.1.engine.gstate[g.val])
  let s := publishAll gs w
  olds.foldl (fun s p =>
    let entered := enters s chs p.1
    let s := if entered ∧ p.2 = .activeUnack ∧ s.engine.gstate[p.1.val] = .activeUnack then
        send (.alarm (grpBody s p.1 false)) s else s
    groupCall s.watch.node p.1 p.2 s.engine.gstate[p.1.val] entered (deadmanUnack s)
      (chs.any fun x => decide (x.of = .member 10) && decide (x.new = .activeUnack)) s) s

/-! ## Acknowledge, shelve -/

/-- Acknowledges one alarm whose occurrence began before the latch point (04 R224, R225). -/
def ackCond (before : Alarm → Bool) (c : Ch) (k : Cond) (w : Moving) : Moving :=
  let a := w.1.alarm c k
  match a.st with
  | .activeUnack => if before a then move c k .activeAck w else w
  | .returnUnack => if before a then move c k (if a.steep then .steeping else .normal) w else w
  | _ => w

/-- Moves a G31 member to a state. -/
def moveMember (m : Member) (new : AlarmState) (w : Moving) : Moving :=
  let old := (w.1.member m).st
  if old = new then w
  else
    (onMember m (fun a => { a with
      st := new
      entered := if new = .activeUnack then w.1.cycle else a.entered
      enteredTime := if new = .activeUnack then w.1.nodeTime else a.enteredTime
      changed := w.1.nodeTime }) w.1,
     w.2 ++ [⟨.member m, old, new⟩])

/-- Acknowledges one G31 member (04 R224, R225). -/
def ackMember (before : G31Alarm → Bool) (m : Member) (w : Moving) : Moving :=
  let a := w.1.member m
  match a.st with
  | .activeUnack => if before a then moveMember m .activeAck w else w
  | .returnUnack => if before a then moveMember m .normal w else w
  | _ => w

/-- The channel conditions of a target (04 R224, R227, R231). -/
def targetConds (s : State) : Target → List (Ch × Cond)
  | .cond c k => [(c, k)]
  | .ch c => allConds.map fun k => (c, k)
  | .grp g =>
    if g = 31 then []
    else ((channels s.ident.part).filter fun c => decide ((s.chCfg c).grp = g)).flatMap fun c => allConds.map fun k => (c, k)
  | .member _ => []
  | .all => (channels s.ident.part).flatMap fun c => allConds.map fun k => (c, k)

/-- The G31 members of a target. -/
def targetMembers (s : State) : Target → List Member
  | .grp g => if g = 31 then (List.finRange 19).filter (memberFitted s.ident.part) else []
  | .member m => [m]
  | .all => (List.finRange 19).filter (memberFitted s.ident.part)
  | _ => []

/-- Acknowledges a target: `beforeA` and `beforeM` judge whether an occurrence began before the latch point. -/
def ackTarget (beforeA : Alarm → Bool) (beforeM : G31Alarm → Bool) (t : Target) (s : State) : State :=
  let w := (targetConds s t).foldl (fun w p => ackCond beforeA p.1 p.2 w) (s, [])
  let w := (targetMembers s t).foldl (fun w m => ackMember beforeM m w) w
  commit [] w

/-- The target kind of 06 R334 ACK byte 2. -/
def targetKind : Target → Nat
  | .cond .. => 0 | .ch _ => 1 | .grp _ => 2 | .member _ => 3 | .all => 4

/-- The source of an operator action's record (09 R487): kind, index, qualifier and value. -/
def targetSource (s : State) : Target → Nat × Nat × Nat × Int
  | .cond c k => (0, c.val, (condIdx k).val, lastCode s c)
  | .ch c => (0, c.val, 15, lastCode s c)
  | .grp g => (1, g.val, 15, 0)
  | .member m => (2, m.val, 15, 0)
  | .all => (3, 0, 15, 0)

/-- Records an operator action (09 R487). Actions: 1 ACK, 2 SHELVE, 3 UNSHELVE, 4 DISABLE, 5 ENABLE. -/
def emitAction (action : Nat) (t : Target) (origin originNo minutes : Nat) (s : State) : State :=
  let src := targetSource s t
  emit { time := 0, tunset := false, kind := src.1, index := src.2.1, qual := src.2.2.1, value := val32 src.2.2.2,
         code := 0x0104, detail := detail ([action, targetKind t, origin, originNo] ++ two16 minutes) } s

/-! ## G31 members -/

/-- The cause of a G31 member takes a value (04 R250, R251); its becoming true sets HP.EVENTS G31 (10 R566). -/
def setCause (m : Member) (v : Bool) (s : State) : State :=
  let a := s.member m
  if a.cause = v ∨ s.engine.running = false then onMember m (fun a => { a with cause := v }) s
  else
    let s := onMember m (fun a => { a with cause := v }) s
    if v then
      let s := onHpEvent 3 Flag.pulse s
      commit [] (match a.st with
        | .normal | .returnUnack => moveMember m .activeUnack (s, [])
        | _ => (s, []))
    else
      commit [] (match a.st with
        | .activeUnack => moveMember m .returnUnack (s, [])
        | .activeAck => moveMember m .normal (s, [])
        | _ => (s, []))

/-- An event member becomes true for 1 s (04 R250). -/
def eventCause (m : Member) (s : State) : State :=
  setCause m true (onMember m (fun a => { a with eventEnd := some (s.now + usSec) }) s)

/-! ## Reading the slices -/

/-- What the engine reads of one condition. -/
structure CondRead where
  c : Ch
  k : Cond
  wasOn : Bool
  on : Bool
  hist : Bool
  wasSteep : Bool
  steep : Bool

/-- Whether the slice's steep timer runs: raw-true and not yet true; a timer that a write of STEEP has overtaken runs on to
its completion (04 R207, R211, R262). -/
def steepRuns (s : State) (c : Ch) (k : Cond) : Bool := (s.cond c k).raw && !(s.cond c k).on

/-- Reads one condition over the die link: the history latch clears (01 R22, 16 R819). -/
def readCond1 (c : Ch) (k : Cond) (s : State) : State × CondRead :=
  let x := s.cond c k
  let a := s.alarm c k
  let r : CondRead := ⟨c, k, a.on, x.on, x.hist, a.steep, steepRuns s c k⟩
  let s := onCond c k (fun y => { y with hist := false }) s
  (onAlarm c k (fun y => { y with
    on := x.on
    steep := r.steep
    since := if x.hist then x.since else y.since
    occ := x.occ
    ackBit := if x.hist then false else y.ackBit }) s, r)

/-- Whether a reading changes anything for the engine. -/
def CondRead.news (r : CondRead) : Bool := r.hist || decide (r.wasOn ≠ r.on) || decide (r.wasSteep ≠ r.steep)

/-- The moves that a reading causes (04 R215); under a true inhibit cause the alarm goes to INHIBITED (04 R261). -/
def applyRead (r : CondRead) (w : Moving) : Moving :=
  if inhibitedBy w.1 r.c r.k ∧ (w.1.alarm r.c r.k).st.plain then move r.c r.k .inhibited w
  else
    let w := if r.hist ∧ r.wasOn then becameFalse r.c r.k w else w
    let w := if r.hist ∨ (r.on ∧ ¬ r.wasOn) then becameTrue r.c r.k w else w
    let w := if ¬ r.on ∧ (r.hist ∨ r.wasOn) then becameFalse r.c r.k w else w
    if r.steep ∧ ¬ r.wasSteep then steepStarted r.c r.k w
    else if r.wasSteep ∧ ¬ r.steep ∧ ¬ r.on then steepEnded r.c r.k w else w

/-- The conditions of a die whose state the engine does not yet know. -/
def dieNews (s : State) (d : Die) : List (Ch × Cond) :=
  ((dieChannels d).filter (chFitted s.ident.part)).flatMap fun c =>
    (allConds.filter fun k => (readCond1 c k s).2.news).map fun k => (c, k)

/-- Whether a die is fitted (00 R3, 01 R14). -/
def dieFitted (p : Part) (k : Die) : Bool := decide (p = .ev128) || decide (k.val < 4)

/-- Whether a die sends frames: it is fitted and released. -/
def dieSends (s : State) (k : Die) : Bool := dieFitted s.ident.part k && diesReleased s.rst.phase

/-- Whether the engine is at work on the frames of a die: its link delivers valid ones and the engine runs. -/
def dieHeard (s : State) (k : Die) : Bool := dieSends s k && s.engine.running && (s.dies[k.val]).valid

/-- A valid frame of a die reaches the engine (04 R257, 16 R819). -/
def readDie (w : Moving) (d : Die) : Moving :=
  let x := (dieNews w.1 d).foldl (fun (acc : State × List CondRead) p =>
    let (s, r) := readCond1 p.1 p.2 acc.1
    (s, acc.2 ++ [r])) (w.1, [])
  x.2.foldl (fun w r => applyRead r w) (x.1, w.2)

/-- A group delay that has ended with its condition true (04 R215, R217). -/
def delayEnds (w : Moving) (p : Ch × Cond) : Moving :=
  let a := w.1.alarm p.1 p.2
  match a.st, a.delayEnd with
  | .steeping, some t =>
    if w.1.engine.running && linkUp w.1 p.1 && decide (t ≤ w.1.now) && a.on then move p.1 p.2 .activeUnack w else w
  | _, _ => w

/-- Notes a valid frame of a die (01 R19). -/
def noteFrame (k : Die) (s : State) : State := { s with dies := upd s.dies k fun d => { d with lastFrame := s.now } }

/-- The condition changes of one engine cycle (04 R247, R259–R261, 05 R308): the valid frames of the dies that the engine
hears, then the group delays that end, with the marks, groups and calls that follow. -/
def condChanges (dies : List Die) (delays : List (Ch × Cond)) (s : State) : State :=
  let ds := (dies.filter fun k => dieSends s k && (s.dies[k.val]).valid).eraseDups
  let s := ds.foldl (fun s k => noteFrame k s) s
  let ds := ds.filter (dieHeard s)
  if ds = [] ∧ delays = [] then s
  else commit [] (evalInhibit (delays.foldl delayEnds (ds.foldl readDie (s, []))))

/-- The condition changes that fall in the engine cycle of a command that the rules apply after them. -/
def matesChange (m : Mates) (s : State) : State := condChanges m.dies m.delays s

/-- The state that the last five lines of the rebuild table give (04 R222, 01 R900). -/
def rebuiltPlain (on ack steep : Bool) : AlarmState :=
  if on then (if ack then .activeAck else .activeUnack)
  else if !ack then .returnUnack
  else if steep then .steeping
  else .normal

/-- Judges every alarm of a die after a link fault (01 R900). -/
def judgeDie (d : Die) (s : State) : State :=
  let ps := ((dieChannels d).filter (chFitted s.ident.part)).flatMap fun c => allConds.map fun k => (c, k)
  let s := ps.foldl (fun s p => (readCond1 p.1 p.2 s).1) s
  let w : Moving := ps.foldl (fun (w : Moving) p =>
    let x := w.1.cond p.1 p.2
    if (w.1.alarm p.1 p.2).st.plain then
      move p.1 p.2 (rebuiltPlain x.on x.ack (steepRuns w.1 p.1 p.2)) w else w) (s, [])
  commit [] (evalInhibit w)

/-- A slice takes a write of an acknowledge bit; a set that names an earlier occurrence is dropped (04 R221). -/
def takeAck (w : AckWrite) (s : State) : State :=
  onCond w.c w.k (fun x => if w.value ∧ x.occ ≠ w.occ then x else { x with ack := w.value }) s

/-! ## Rebuild -/

/-- A condition's place in its number order. -/
def condAt (i : Fin 9) : Cond := allConds.getD i.val .hihi

/-- An alarm as the rebuild reads it from the slice (04 R222): `keep` says that the ENGINE bank was kept (04 R223). -/
def rebuiltBase (s : State) (keep : Bool) (c : Ch) (i : Fin 9) : Alarm :=
  let k := condAt i
  let x := s.cond c k
  let a := s.alarm c k
  let shelved := keep && decide (a.st = .shelved) && (match a.shelfEnd with
    | some t => decide (s.nodeTime < t)
    | none => false)
  { a with
    st := if (s.condCfg c k).en = false then .disabled else if keep ∧ a.st ≠ .disabled then a.st else .normal
    on := x.on
    steep := steepRuns s c k
    delayEnd := none
    shelfEnd := if shelved then a.shelfEnd else none
    since := x.since
    occ := x.occ
    ackBit := x.ack }

/-- The state that the first line of the rebuild table gives (04 R222, R223). -/
def rebuiltState (s : State) (c : Ch) (k : Cond) : AlarmState :=
  let a := s.alarm c k
  if (s.condCfg c k).en = false then .disabled
  else if a.st = .shelved ∧ a.shelfEnd.isSome then .shelved
  else if inhibitedBy s c k then .inhibited
  else rebuiltPlain a.on a.ackBit a.steep

/-- Whether the rebuild's read clears a history latch: one that was set in the engine cycle of the read stays (01 R22, R41). -/
def histStays (sameCycle : Bool) (s : State) (x : CondState) : Bool := sameCycle && decide (x.roseIn + 1 = s.cycle)

/-- A slice whose history latches the rebuild has read. -/
def readHists (sameCycle : Bool) (s : State) (x : Slice) : Slice :=
  { x with cond := x.cond.map fun y => { y with hist := y.hist && histStays sameCycle s y } }

/-- An alarm that the rebuild disables sets its acknowledge bit (04 R220). -/
def disableBits (s : State) : State :=
  ((channels s.ident.part).flatMap fun c => (allConds.filter fun k =>
      decide ((s.alarm c k).st = .disabled) && !(s.alarm c k).ackBit).map fun k => (c, k)).foldl
    (fun s p => pushAck p.1 p.2 true s) s

/-- Rebuilds every alarm from the slices (04 R222, R223): the histories are read, then each alarm moves to its state. Of a
die whose link is down nothing can be read: its alarms keep what the reset left of them until its frames return (01 R19,
R22, R900; log 151). -/
def rebuildAlarms (keep sameCycle : Bool) (s : State) : Moving :=
  let s := { s with
    slices := Vector.ofFn fun (c : Ch) => (if linkUp s c then readHists sameCycle s (s.slice c) else s.slice c)
    engine := { s.engine with alarms := Vector.ofFn fun (c : Ch) =>
      (if linkUp s c then Vector.ofFn fun i => rebuiltBase s keep c i else s.engine.alarms[c.val]) } }
  let s := disableBits s
  (((channels s.ident.part).filter (linkUp s)).flatMap fun c =>
      (allConds.filter fun k => decide (rebuiltState s c k ≠ (s.alarm c k).st)).map fun k => (c, k)).foldl
    (fun w p => move p.1 p.2 (rebuiltState w.1 p.1 p.2) w) (s, [])

/-- A G31 member at the rebuild (04 R222, R250): a standing cause is ACTIVE_UNACK unless a kept state stands. -/
def rebuildMember (keep : Bool) (m : Member) (w : Moving) : Moving :=
  let a := w.1.member m
  let base : AlarmState := if keep then a.st else .normal
  let s := onMember m (fun a => { a with st := base }) w.1
  if a.cause then
    (match base with
      | .activeAck => (s, w.2)
      | _ => moveMember m .activeUnack (s, w.2))
  else (match base with
      | .activeUnack => moveMember m .returnUnack (s, w.2)
      | .activeAck => moveMember m .normal (s, w.2)
      | _ => (s, w.2))

/-- Rebuilds the engine's states with their records, marks and groups; calls are taken up apart (04 R222, R249). -/
def rebuild (keep sameCycle : Bool) (s : State) : State :=
  let s := { s with engine := { s.engine with
    running := true, hold := none, coreAt := none, ranAt := s.now
    first := if keep then s.engine.first else .replicate 32 none
    gstate := if keep then s.engine.gstate else .replicate 32 .normal
    gchanged := if keep then s.engine.gchanged else .replicate 32 0 } }
  let w := (List.finRange 19).foldl (fun w m => rebuildMember keep m w) (rebuildAlarms keep sameCycle s)
  publishAll (List.finRange 32) w

end Sys2Proof.Machine
end

