-- ==== Sys2Proof/Machine/WatchOps.lean ====
section
/-! DEFINITION. The watch's operations: taking frames, heartbeats, the lead, the refresh and node time (06). -/

namespace Sys2Proof.Machine

/-! ## Taking a frame -/

/-- The bit of a number below the highest in the record of 64 (06 R337). -/
def seenBit (i : Nat) : BitVec 64 := BitVec.ofNat 64 (2 ^ i)

/-- Judges a sequence number: the record after it is taken, none where it is discarded; and whether a discard is of a
number already recorded (06 R337, R338). -/
def judgeSeq (p : Peer) (n : Nat) : Option Peer × Bool :=
  match p.highest with
  | none => (some { p with highest := some n, seen := 0 }, false)
  | some h =>
    let d := (n + 65536 - h) % 65536
    let e := (h + 65536 - n) % 65536
    if 1 ≤ d ∧ d ≤ 32768 then
      (some { p with highest := some n, seen := (p.seen <<< d) ||| (if d ≤ 64 then seenBit (d - 1) else 0) }, false)
    else if d = 0 then (none, true)
    else if 1 ≤ e ∧ e ≤ 64 then
      if p.seen.getLsbD (e - 1) then (none, true) else (some { p with seen := p.seen ||| seenBit (e - 1) }, false)
    else (none, false)

/-- A message taken shows in WATCH.VIEW; while a reply is sent it goes to the shadow (06 R391). -/
def showView (v : View) (s : State) : State :=
  if s.watch.frozen then
    { s with watch := { s.watch with
      shadow := some v
      skip := if s.watch.shadow.isSome then s.watch.skip + 1 else s.watch.skip } }
  else { s with watch := { s.watch with view := some v } }

/-- The end of a reply that froze the view (06 R391). -/
def thawView (s : State) : State :=
  if s.watch.frozen then
    { s with watch := { s.watch with
      frozen := false
      view := match s.watch.shadow with
        | some v => some v
        | none => s.watch.view
      shadow := none } }
  else s

/-- A frame with the own number as its source (06 R349). -/
def idClash (s : State) : State :=
  emitBlock 0 0x0225 0 []
    { s with watch := { s.watch with idclashAt := s.now }, flags := { s.flags with idClash := s.flags.idClash.latch } }

/-- Judges a frame of a node by its source and its number (06 R337, R338, R349): the state after, and whether it is taken.
`restart` is the RESTART bit of a HEARTBEAT. -/
def judgeFrame (b : Bus) (src : NodeNo) (seq : Nat) (f : RawFrame) (restart : Bool) (s : State) : State × Bool :=
  if src = s.watch.node then (idClash s, false)
  else
    let p := s.watch.peers[src.val]
    match judgeSeq p seq with
    | (some p', _) => (showView ⟨b, f⟩ (onPeer src (fun _ => p') s), true)
    | (none, dup) =>
      if restart ∧ dup = false then
        (showView ⟨b, f⟩ (onPeer src (fun q => { q with highest := some seq, seen := 0 }) s), true)
      else (s, false)

/-- Takes a Pysel frame of a message with its fixed class and length (06 R329, R332, R337, R349, R388). -/
def takeFrame (r : RxHdr) (m : Msg) (restart : Bool) (s : State) : State × Bool :=
  if busHears s r.bus = false then (s, false)
  else
    let f := rxFrame r m
    let s := noteReceived r.bus f s
    if r.cls ≠ msgClass m ∨ r.len < msgLen m then (s, false)
    else judgeFrame r.bus r.src r.seq.toNat f restart s

/-! ## Heartbeat, refresh and lead -/

/-- The mask of the nodes heard (06 R402). -/
def heardMask (s : State) : Nat :=
  (List.finRange 8).foldl (fun m n => if decide (n ≠ s.watch.node) && (s.watch.peers[n.val]).heard then m + 2 ^ n.val else m) 0

/-- Whether G31.WATCH is true (06 R350). -/
def watchCause (s : State) : Bool :=
  let named := (List.finRange 8).filter fun n => decide (n ≠ s.watch.node) && s.live.watchNodes.getLsbD n.val
  decide (named ≠ []) && !(named.any fun n => (s.watch.peers[n.val]).heard)

/-- Evaluates G31.WATCH. -/
def evalWatchCause (s : State) : State := setCause 5 (watchCause s) s

/-- The HEARTBEAT message (06 R334). -/
def heartbeatBody (s : State) : HeartbeatBody :=
  { part := s.ident.part, ready := s.watch.ready, restart := s.watch.sendRestart, rebuild := s.watch.sendRebuild,
    lead := isLead s, deadmanWarning := s.caller.dead.warning, hears := BitVec.ofNat 8 (heardMask s),
    leadSeen := match s.watch.lead with
      | some n => BitVec.ofNat 8 n.val
      | none => 0xFF
    serialTail := s.ident.serial.extractLsb' 0 16, time := s.nodeTime }

/-- The message of one part of a refresh as it is now (06 R345); a CALL comes from the lead alone (R348). -/
def itemMsg (s : State) : RefreshItem → Option Msg
  | .cond c k => some (.alarm (condBody s c k (s.alarm c k).st true))
  | .member m => some (.alarm (memberBody s m (s.member m).st true))
  | .grp g => some (.alarm (grpBody s g true))
  | .call n g =>
    if isLead s ∧ (s.call n g).st ≠ .idle then some (.call (callBody n g (s.call n g) false true)) else none

/-- Queues refresh messages while a bus that takes copies has half its queue free (06 R341, R345; log 21). -/
def feed : Nat → State → State
  | 0, s => s
  | k + 1, s =>
    match s.watch.backlog with
    | [] => s
    | x :: r =>
      if s.can.toList.any fun c => c.sends && decide (c.queue.length < 32) then
        let s := { s with watch := { s.watch with backlog := r } }
        feed k (match itemMsg s x with
          | some m => send m s
          | none => s)
      else s

/-- The parts of a refresh (06 R345): conditions, G31 members, groups, and from the lead the calls it runs. -/
def refreshItems (s : State) : List RefreshItem :=
  let calls := if isLead s then
      (callKeys.filter fun p => decide ((s.call p.1 p.2).st ≠ .idle)).map fun p => RefreshItem.call p.1 p.2
    else []
  let members := ((List.finRange 19).filter fun m =>
      memberFitted s.ident.part m && (decide ((s.member m).st ≠ .normal) || (s.member m).cause)).map RefreshItem.member
  let conds := (channels s.ident.part).flatMap fun c => (allConds.filter fun k =>
      decide ((s.alarm c k).st ≠ .normal) || (s.alarm c k).on).map fun k => RefreshItem.cond c k
  conds ++ members ++ (List.finRange 32).map RefreshItem.grp ++ calls

/-- Answers a heartbeat with REBUILD (06 R345): the frames stand in the queue as it empties (log 21). -/
def sendRefresh (s : State) : State :=
  let xs := refreshItems s
  feed (xs.length + s.watch.backlog.length)
    { s with watch := { s.watch with backlog := s.watch.backlog ++ xs, refreshDue := false } }

/-- The lead as this node works it out (06 R346, R365, R395): a node that names no other is its own lead, and one whose links
only listen counts itself as none. -/
def leadOf (s : State) : Option NodeNo :=
  if linksListenXo s then none
  else
    let alone := decide (s.live.watchNodes &&& ~~~(BitVec.ofNat 8 (2 ^ s.watch.node.val)) = 0)
    (List.finRange 8).find? fun n =>
      if n = s.watch.node then !linksListen s && (s.watch.ready || (alone && !inWatch s))
      else (s.watch.peers[n.val]).heard && (s.watch.peers[n.val]).ready

/-- The state of a node's group: the own engine's, or what its ALARM_STATE frames say. -/
def groupStateAt (s : State) (n : NodeNo) (g : Grp) : Nat :=
  if n = s.watch.node then alarmCode s.engine.gstate[g.val]
  else match remoteState s n (.grp g) with
    | some b => b.state
    | none => 0

/-- Whether the G31.DEADMAN of a node is unacknowledged. -/
def deadmanAt (s : State) (n : NodeNo) : Bool :=
  if n = s.watch.node then deadmanUnack s
  else match remoteState s n (.member 10) with
    | some b => decide (b.state = 2) || decide (b.state = 4)
    | none => false

/-- Starts the call of a group found in ACTIVE_UNACK or RETURN_UNACK without one, or that of an unacknowledged dead-man
(05 R279, R304, R312). -/
def startMissing (n : NodeNo) (g : Grp) (s : State) : State :=
  let st := groupStateAt s n g
  let cls := callClass s n g (deadmanAt s n)
  if (s.call n g).st = .idle ∧ (st = 2 ∨ st = 4 ∨ (g = 31 ∧ deadmanAt s n)) ∧ cls ≠ 0 then startCall n g cls s else s

/-- Ends a call whose group has come to a state that ends it (05 R280, R305, 06 R355). -/
def endFinished (n : NodeNo) (g : Grp) (s : State) : State :=
  let st := groupStateAt s n g
  let known := decide (n = s.watch.node) || ((s.watch.peers[n.val]).heard && (remoteState s n (.grp g)).isSome)
  if (s.call n g).st ≠ .idle ∧ known ∧ (st = 0 ∨ st = 1 ∨ st = 3) ∧ ¬ (g = 31 ∧ deadmanAt s n) then endCall n g s else s

/-- Takes up every call of the copy and starts those that are missing (05 R313, 06 R347, R354). -/
def takeAllCalls (s : State) : State :=
  let s := callKeys.foldl (fun s p => takeCall p.1 p.2 s) s
  let s := callKeys.foldl (fun s p => endFinished p.1 p.2 s) s
  callKeys.foldl (fun s p => startMissing p.1 p.2 s) s

/-- Re-evaluates the lead (06 R346–R348). -/
def evalLead (s : State) : State :=
  let new := leadOf s
  let old := s.watch.lead
  if new = old then s
  else
    let s := { s with watch := { s.watch with lead := new } }
    if new = some s.watch.node then
      let n := (callKeys.filter fun p => decide ((s.call p.1 p.2).st ≠ .idle)).length
      let s := { s with watch := { s.watch with hostSet := false, nextTime := s.now } }
      takeAllCalls (send (.handover old n s.nodeTime) s)
    else s

/-! ## The links -/

/-- The mode in which a controller stands on the bus: LISTEN-XO while LINK does not run on the XO (06 R395), LISTEN where
set (06 R392), else ACTIVE. -/
def onBusMode (s : State) (b : Bus) : BusMode :=
  if s.clk.chain ≠ .xo then .listenXo
  else if (s.live.can[(busIdx b).val]).listen then .listen
  else .active

/-- Puts a controller on the bus with the settings written (06 R328). -/
def joinBus (b : Bus) (s : State) : State :=
  let m := onBusMode s b
  let t := (s.live.can[(busIdx b).val]).timing
  onCan b (fun c => { c with
    mode := m, timing := t, rejoinDue := false, recovering := false, heldRecessive := false, heldStandby := false,
    tec := 0, recv := 0, listenDue := false }) s

/-- The links join (15 R792 step 11). -/
def joinLinks (s : State) : State :=
  let s := joinBus .canB (joinBus .canA { s with watch := { s.watch with joined := true, nextHb := s.now } })
  if linksListenXo s then stage3Own { s with watch := { s.watch with lead := none } } else s

/-- An entry that has ended and that the host does not own is free again (06 R380). -/
def TxEntry.rest (e : TxEntry) : TxEntry :=
  if e.hostOwned then e
  else match e.st with
    | .pending | .sending => e
    | _ => {}

/-- The entry being sent when its transmission is cut short (06 R385, R386, R394, 13 R710). -/
def cutEntry (e : TxEntry) : TxEntry :=
  if e.st = .sending then
    { e with st := if e.cancel then .cancelled else if e.oneShot then .error else .pending, cancel := false }.rest
  else e

/-- A controller stops sending: a watch frame returns to the head of its queue. -/
def Can.cut (c : Can) : Can :=
  match c.sending with
  | some (.watch f) => { c with sending := none, onBus := none, queue := f :: c.queue }
  | some (.raw n) => { c with sending := none, onBus := none, tx := upd c.tx n cutEntry }
  | none => c

/-- Leaves the bus to apply a setting; pending entries stay pending (06 R328). -/
def leaveBus (b : Bus) (s : State) : State := onCan b (fun c => { c with mode := .off, rejoinDue := true }) s

/-- Sends every controller to listen-only on the IRC (06 R395); own calls go to stage 3 (05 R316). -/
def linksToIrc (s : State) : State :=
  if s.watch.joined = false ∨ (s.bank .link).ownerHeld then s
  else
    let s := { s with
      can := s.can.map fun c => { c.cut with mode := .listenXo, rejoinDue := false, recovering := false }
      watch := { s.watch with lead := none } }
    stage3Own (setCause 7 false (setCause 6 false s))

/-- LINK runs on the XO again: each controller leaves listen-only to rejoin, and a heartbeat with REBUILD follows
(06 R396). -/
def linksToXo (s : State) : State :=
  if s.watch.joined = false then s
  else { s with
    can := s.can.map fun c => if c.mode = .listenXo then { c with mode := .off, rejoinDue := true } else c
    watch := { s.watch with sendRebuild := true, nextHb := s.now } }

/-! ## Node time -/

/-- Steps node time: captures move with the scale (06 R362, R363). -/
def stepTime (delta : Int) (s : State) : State :=
  let sh : Tick → Tick := fun t => ((t : Int) + delta).toNat
  { s with
    nodeTime := ((s.nodeTime : Int) + delta).toNat % 2 ^ 64
    watch := { s.watch with
      slew := 0
      captures := s.watch.captures.map fun c => { c with byOther := c.byOther.map fun p => (p.1, sh p.2) } } }

/-- Sets node time to a value. -/
def setTime (t : Tick) (s : State) : State := stepTime ((t : Int) - s.nodeTime) s

/-- A receiver's capture of a TIME frame on a bus (06 R361); the last few are kept. -/
def capture (b : Bus) (seq : Nat) (at_ : Tick) (s : State) : State :=
  { s with watch := { s.watch with captures := upd s.watch.captures (busIdx b) fun c =>
    { c with byOther := ((seq, at_) :: c.byOther.filter fun p => decide (p.1 ≠ seq)).take 8 } } }

end Sys2Proof.Machine
end

