-- ==== Sys2Proof/Machine/Bus.lean ====
section
/-! DEFINITION. The buses' events: frames received raw, the sending of frames, bus-off and rejoining (06). -/

namespace Sys2Proof.Machine

/-! ## Receiving -/

/-- What a message that has no row of its own is once taken: TRIP, CALL_ACK and CALL_HANDOVER (06 R332). -/
def otherLen : Nat → Option (Nat × Nat)
  | 0x01 => some (0, 8)
  | 0x11 => some (2, 8)
  | 0x12 => some (1, 12)
  | _ => none

/-- The normal handling of a Pysel frame that has no row of its own (06 R332, R337, R349): TRIP, CALL_ACK and CALL_HANDOVER are
taken by their number; a CONSOLE frame of a node is not for a node, but may show its number in use. -/
def takeOther (b : Bus) (f : RawFrame) (s : State) : State :=
  if isPysel f = false then s
  else match otherLen (idType f.id) with
    | some (cls, len) =>
      if idClass f.id = cls ∧ len ≤ f.data.length then (judgeFrame b (idSource f.id) (payloadSeq f) f false s).1 else s
    | none =>
      if idType f.id = 0x50 ∧ f.id.testBit 14 = true ∧ idSource f.id = s.watch.node then idClash s else s

/-- Effect of RAW_FRAME_RECEIVED (06 R332, R349, R388–R390, R402): `ok` false is a frame that broke off in an error. A frame of
a message that has its own row comes by that row. -/
def rawFrameReceived (b : Bus) (ok : Bool) (f : RawFrame) (s : State) : State :=
  if busHears s b = false then s
  else if ok then takeOther b f (noteReceived b f s)
  else onCan b (Can.countRx false) s

/-- RAW_FRAME_RECEIVED. -/
def execRawFrameReceived (bus : Bus) (ok : Bool) (f : RawFrame) (s : State) : Out := finish (rawFrameReceived bus ok f s)

/-! ## Sending -/

/-- The key by which frames compete: a base identifier meets the first 11 bits of an extended one and wins a tie, a data
frame wins over a remote frame (06 R340; PRESUMED from ISO 11898-1, log 23). -/
def arbKey (ext : Bool) (id : Nat) (rtr : Bool) : Nat :=
  ((if ext then id else id * 262144) * 2 + (if ext then 1 else 0)) * 2 + (if rtr then 1 else 0)

/-- What competes on a bus, each with its key, its frame or entry; watch frames in the order queued, then entries. -/
def Can.waiting (c : Can) : List (Nat × Sending) :=
  (c.queue.map fun f => (arbKey true (frameId f) false, Sending.watch f)) ++
  ((List.finRange 32).filterMap fun i =>
    let e := c.tx[i.val]
    match e.st, e.frame with
    | .pending, some f => some (arbKey f.ext f.id f.rtr, Sending.raw i)
    | _, _ => none)

/-- The frame with the lowest identifier (06 R340). -/
def Can.best (c : Can) : Option Sending :=
  (c.waiting.foldl (fun acc p => match acc with
    | none => some p
    | some q => if p.1 < q.1 then some p else some q) none).map (·.2)

/-- Whether a controller can drive the bus. -/
def Can.drives (c : Can) : Bool := (decide (c.mode = .active) || decide (c.mode = .passive)) && !c.heldRecessive

/-- A frame as it stands on the bus (06 R321, R330): a watch frame takes its BRS bit from CANx.BRS at its start, and an FD frame
its ESI bit from the controller's error state. -/
def Can.frameOf (brs : Bool) (x : Sending) (c : Can) : Option RawFrame :=
  let passive := decide (c.mode = .passive)
  match x with
  | .watch f => some (wireFrame f brs passive)
  | .raw n => (c.tx[n.val]).frame.map fun f => { f with esi := f.fd && passive }

/-- A controller starts to send a frame (06 R385). -/
def Can.start (brs : Bool) (x : Sending) (c : Can) : Can :=
  let c := { c with sending := some x, onBus := c.frameOf brs x }
  match x with
  | .watch f => { c with queue := c.queue.erase f }
  | .raw n => { c with tx := upd c.tx n fun e => { e with st := .sending } }

/-- Effect of START_OF_FRAME (06 R340, R361, R385): a sent TIME frame's start is captured. -/
def startOfFrame (b : Bus) (s : State) : State :=
  let c := s.canOf b
  if c.drives && c.sending.isNone then
    match c.best with
    | none => s
    | some x =>
      let s := onCan b (Can.start (s.live.can[(busIdx b).val]).brs x) s
      match x with
      | .watch ⟨_, q, .time _ _ _⟩ =>
        { s with watch := { s.watch with
          captures := upd s.watch.captures (busIdx b) fun t => { t with sent := some (q, s.nodeTime) } } }
      | _ => s
  else s

/-- START_OF_FRAME. -/
def execStartOfFrame (bus : Bus) (s : State) : Out := finish (startOfFrame bus s)

/-- What waits for the end of a frame: listen-only (06 R392), or leaving the bus for a setting (06 R328). -/
def frameEnd (b : Bus) (s : State) : State :=
  let c := s.canOf b
  let s := if c.listenDue then onCan b (fun c => { c with mode := onBusMode s b, listenDue := false }) s else s
  if c.rejoinDue then leaveBus b s else s

/-- Effect of FRAME_TRANSMITTED (06 R385–R387): completion gives SENT even after a cancel; refresh messages that wait for
room follow (06 R345). -/
def frameTransmitted (b : Bus) (s : State) : State :=
  match (s.canOf b).sending with
  | none => s
  | some x =>
    feed s.watch.backlog.length <| frameEnd b (onCan b (fun c => Can.confine { c with
      sending := none
      onBus := none
      tec := c.tec - 1
      tx := match x with
        | .raw n => upd c.tx n fun e => { e with st := .sent, cancel := false }.rest
        | .watch _ => c.tx }) s)

/-- FRAME_TRANSMITTED. -/
def execFrameTransmitted (bus : Bus) (s : State) : Out := finish (frameTransmitted bus s)

/-- An entry whose attempt failed (06 R385, R386). -/
def failEntry (lost : Bool) (e : TxEntry) : TxEntry :=
  { e with
    st := if e.cancel then .cancelled else if e.oneShot then (if lost then .lost else .error) else .pending
    cancel := false }.rest

/-- Effect of TRANSMIT_FAILURE (06 R385, R386). -/
def transmitFailure (b : Bus) (lostArbitration : Bool) (s : State) : State :=
  match (s.canOf b).sending with
  | none => s
  | some x =>
    frameEnd b (onCan b (fun c => Can.confine { c with
      sending := none
      onBus := none
      tec := if lostArbitration then c.tec else min 255 (c.tec + 8)
      queue := match x with
        | .watch f => f :: c.queue
        | .raw _ => c.queue
      tx := match x with
        | .raw n => upd c.tx n (failEntry lostArbitration)
        | .watch _ => c.tx }) s)

/-- TRANSMIT_FAILURE. -/
def execTransmitFailure (bus : Bus) (lostArbitration : Bool) (s : State) : Out :=
  finish (transmitFailure bus lostArbitration s)

/-! ## Bus-off and rejoining -/

/-- The source index of a bus (09 R481). -/
def busSource : Bus → Nat
  | .canA => 1
  | .canB => 2

/-- The G31 member of a bus (04 R250). -/
def busMember : Bus → Member
  | .canA => 6
  | .canB => 7

/-- Effect of BUS_OFF (06 R393, R394). -/
def busOff (b : Bus) (s : State) : State :=
  if (s.canOf b).drives then
    let auto := decide ((s.live.can[(busIdx b).val]).busoff = .auto)
    setCause (busMember b) true (emitBlock (busSource b) 0x0220 0 []
      (onCan b (fun c => { c.cut with mode := .busOff, recovering := auto }) s))
  else s

/-- BUS_OFF. -/
def execBusOff (bus : Bus) (s : State) : Out := finish (busOff bus s)

/-- Effect of BUS_OFF_RECOVERY (06 R393, R394). -/
def busOffRecovery (b : Bus) (s : State) : State :=
  let c := s.canOf b
  if decide (c.mode = .busOff) && c.recovering then
    setCause (busMember b) false (emitBlock (busSource b) 0x0221 0 [] (joinBus b s))
  else s

/-- BUS_OFF_RECOVERY. -/
def execBusOffRecovery (bus : Bus) (s : State) : Out := finish (busOffRecovery bus s)

/-- Effect of REJOIN (06 R328, R396, 15 R787). -/
def rejoin (b : Bus) (s : State) : State :=
  let c := s.canOf b
  if s.watch.joined && decide (c.mode = .off) && c.rejoinDue then joinBus b s else s

/-- REJOIN. -/
def execRejoin (bus : Bus) (s : State) : Out := finish (rejoin bus s)

end Sys2Proof.Machine
end

