-- ==== Sys2Proof/Machine/Caller.lean ====
section
/-! DEFINITION. The caller's events: the timers of a call, the dead-man timer, and the frames of call units (05, 06).
A timer's event acts only once its time has come (log 2). -/

namespace Sys2Proof.Machine

/-! ## Timers of a call -/

/-- Whether this node's caller is at work on a node's calls. -/
def callerRuns (s : State) (n : NodeNo) : Bool := s.engine.running && runsCalls s n

/-- The stage number of a call that rings. -/
def stageNo (c : Call) : Nat := callCode c.st

/-- The end of a stage timer (05 R282, R283). -/
def endStage (n : NodeNo) (g : Grp) (s : State) : State :=
  let c := s.call n g
  match c.timerEnd with
  | some t =>
    if callerRuns s n && decide (t ≤ s.nodeTime) && c.rings && !c.repeats then
      beginStage n g (stageNo c + 1) 0x0302 s
    else s
  | none => s

/-- The end of a repeat timer (05 R288, R310): the frame goes out again with the repeat bit. -/
def endRepeat (n : NodeNo) (g : Grp) (s : State) : State :=
  let c := s.call n g
  match c.timerEnd with
  | some t =>
    if callerRuns s n && decide (t ≤ s.nodeTime) && c.repeats then
      let c' := Call.ring s (stageMask s c.duty c.next (stageNo c)) { c with timerEnd := some (t + c.repeatUs) }
      emitCall g 0x0303 c' 0 (sendCall n g true false (onCall n g (fun _ => c') s))
    else s
  | none => s

/-- A call as it resumes at the stage that it had reached, with a fresh timer (05 R293). -/
def resumedCall (s : State) (c : Call) : Call :=
  let k := c.stage.val
  Call.ring s (stageMask s c.duty c.next k) { c with
    st := stageState k
    timerEnd := some (timerOf s c.cls k)
    repeatUs := s.live.call.rep * usSec
    refreshAt := s.now + 10 * usSec }

/-- The end of an attend timer (05 R293). -/
def endAttend (n : NodeNo) (g : Grp) (s : State) : State :=
  let c := s.call n g
  match c.st, c.timerEnd with
  | .accepted, some t =>
    if callerRuns s n && decide (t ≤ s.nodeTime) then
      let c' := resumedCall s c
      callChanged (emitCall g 0x0305 c' 0 (sendCall n g false false (onCall n g (fun _ => c') s)))
    else s
  | _, _ => s

/-! ## The dead-man timer -/

/-- Effect of DEAD_MAN_WARNING (05 R303). -/
def deadManWarning (s : State) : State :=
  match s.caller.dead.periodEnd with
  | some t =>
    if s.engine.running && decide (t ≤ s.now + s.caller.dead.warnUs) && !s.caller.dead.warning then
      emitDead 0x0312 0 { s with caller := { s.caller with dead := { s.caller.dead with warning := true } } }
    else s
  | none => s

/-- DEAD_MAN_WARNING. -/
def execDeadManWarning (s : State) : Out := finish (deadManWarning s)

/-- Effect of DEAD_MAN_MISSED (05 R304): only a confirmation ends the warning. -/
def deadManMissed (s : State) : State :=
  match s.caller.dead.periodEnd with
  | some t =>
    if s.engine.running && decide (t ≤ s.now) then
      setCause 10 true
        (emitDead 0x0313 0 { s with caller := { s.caller with dead := { s.caller.dead with periodEnd := none } } })
    else s
  | none => s

/-- DEAD_MAN_MISSED. -/
def execDeadManMissed (s : State) : Out := finish (deadManMissed s)

/-- A confirmation, by a unit or by 0 for a session (05 R302, R305); with DEADMAN.EN OFF there is none to give. -/
def deadConfirm (unit : Nat) (s : State) : State :=
  if s.live.dead.en && s.engine.running then setCause 10 false (startPeriod (emitDead 0x0311 unit s)) else s

/-- DEADMAN.EN becomes ON or OFF (05 R301). -/
def setDeadEn (on : Bool) (unit : Nat) (s : State) : State :=
  let s := { s with live := { s.live with dead := { s.live.dead with en := on } } }
  if s.engine.running then setCause 10 false ((if on then startPeriod else stopPeriod) (emitDead 0x0310 unit s)) else s

/-! ## Frames of call units -/

/-- The MAC that a unit frame must carry; its bytes 8–11 are little-endian (06 R334, R367). -/
def unitMac (key : Nat) (f : UnitFrame) : List Byte :=
  (hmac (beBytes 16 key) (beBytes 4 (unitId f) ++ unitPayload f)).take 4

/-- An event of a call unit (09 R481 kind 5). -/
def emitUnit (u : Unit64) (code : BitVec 16) (bytes : List Nat) (s : State) : State :=
  emit { time := 0, tunset := false, kind := 5, index := u.val + 1, code := code, detail := detail bytes } s

/-- Changes what is known of a unit. -/
def onUnit (u : Unit64) (f : CallUnit → CallUnit) (s : State) : State :=
  { s with caller := { s.caller with units := upd s.caller.units u f } }

/-- What a receiver makes of a unit frame. -/
inductive UnitTaken where
  | ignored
  | taken
deriving DecidableEq, Repr

/-- Judges a unit frame (05 R271, 06 R332, R366–R369): class and length, MAC, kind, then the counter. A frame taken marks the
unit present (05 R273), and a key frame stores its counter. -/
def takeUnit (f : UnitFrame) (s : State) : State × UnitTaken :=
  let s := noteReceived f.bus (unitRaw f) s
  if busHears s f.bus = false ∨ f.cls ≠ 2 ∨ f.len < 16 then (s, .ignored)
  else if leBytes 4 f.mac.toNat ≠ unitMac s.keys.unit[f.unit.val] f then (emitUnit f.unit 0x0520 [] s, .ignored)
  else if s.live.cu[f.unit.val] = .none then (emitUnit f.unit 0x0522 [] s, .ignored)
  else if f.counter.toNat ≤ (s.caller.units[f.unit.val]).counter then (s, .ignored)
  else
    let s := onUnit f.unit (fun _ => { present := true, lastHeard := s.now, counter := f.counter.toNat }) s
    (if f.key = 0 then s
     else { s with images := { s.images with unitCounters := upd s.images.unitCounters f.unit fun _ => f.counter.toNat } },
     .taken)

/-- Whether a kind of unit may send a key (06 R357). -/
def keyAllowed (k : CuKind) (key : Nat) : Bool :=
  match k with
  | .none => false
  | .cabin | .mess => decide (key ≤ 1)
  | .engrm => decide (key = 0) || (decide (2 ≤ key) && decide (key ≤ 5))

/-- The answer to a key frame (06 R357). -/
def callAck (f : UnitFrame) (discarded : Bool) (s : State) : State := send (.callAck f.unit f.counter f.key discarded) s

/-- Handles a key frame with its key code: the frame is judged, a kind not allowed is logged (06 R358), and the handling
node acts and answers. `act` says whether it took the key. -/
def unitKey (key : Nat) (handles : State → Bool) (act : State → State × Bool) (f : UnitFrame) (s : State) : State :=
  if f.key.toNat ≠ key then s
  else
    match takeUnit f s with
    | (s, .ignored) => s
    | (s, .taken) =>
      if keyAllowed s.live.cu[f.unit.val] key = false then
        let s := emitUnit f.unit 0x0523 [key] s
        if handles s then callAck f true s else s
      else if handles s then
        let (s, ok) := act s
        callAck f (!ok) s
      else s

/-- Effect of UNIT_STATUS (05 R273, 06 R357, R358, R366): a frame with a key code that no key has is judged too, and no kind may
send it. -/
def unitStatus (f : UnitFrame) (s : State) : State :=
  if f.key = 0 then (takeUnit f s).1
  else if f.key.toNat ≤ 5 then s
  else match takeUnit f s with
    | (s, .taken) => emitUnit f.unit 0x0523 [f.key.toNat] s
    | (s, .ignored) => s

/-- UNIT_STATUS. -/
def execUnitStatus (f : UnitFrame) (s : State) : Out := finish (unitStatus f s)

/-- The call that a unit frame names (06 R366). -/
def namedCall (f : UnitFrame) : Option (NodeNo × Grp) :=
  if h : f.node.toNat < 8 ∧ f.grp.toNat < 32 then some (⟨f.node.toNat, h.1⟩, ⟨f.grp.toNat, h.2⟩) else none

/-- Takes an accept (05 R291, R292). -/
def acceptCall (f : UnitFrame) (s : State) : State × Bool :=
  let refused := fun (g : Grp) (c : Call) => (emitCall g 0x0308 c (f.unit.val + 1) s, false)
  match namedCall f with
  | none => refused (Fin.ofNat 32 f.grp.toNat) {}
  | some (n, g) =>
    let c := s.call n g
    if c.rings && c.ringing.getLsbD f.unit.val then
      let c' : Call := { c with
        st := .accepted, ringing := 0, engs := 0
        timerEnd := if s.live.call.attend = 0 then none else some (s.nodeTime + s.live.call.attend * usMin) }
      (callChanged (emitCall g 0x0304 c' (f.unit.val + 1) (sendCall n g false false (onCall n g (fun _ => c') s))), true)
    else refused g c

/-- An accept (05 R291, R292, 06 R357): the lead handles it. -/
def takeAccept (f : UnitFrame) (s : State) : State :=
  unitKey 1 (fun s => isLead s && s.engine.running) (acceptCall f) f s

/-- Effect of ACCEPT: the condition changes of its engine cycle go first (05 R308). -/
def accept (f : UnitFrame) (m : Mates) (s : State) : State := takeAccept f (matesChange m s)

/-- ACCEPT. -/
def execAccept (f : UnitFrame) (m : Mates) (s : State) : Out := finish (accept f m s)

/-! ## The expiry of a call's timers -/

/-- What goes before the expiry of a call's timer in its engine cycle: condition changes, then accepts (05 R308). -/
def beforeExpiry (m : Mates) (s : State) : State := m.accepts.foldl (fun s f => takeAccept f s) (matesChange m s)

/-- Effect of STAGE_TIMER_EXPIRY (05 R282, R283, R308). -/
def stageTimerExpiry (n : NodeNo) (g : Grp) (m : Mates) (s : State) : State := endStage n g (beforeExpiry m s)

/-- STAGE_TIMER_EXPIRY. -/
def execStageTimerExpiry (n : NodeNo) (g : Grp) (m : Mates) (s : State) : Out := finish (stageTimerExpiry n g m s)

/-- Effect of REPEAT_TIMER_EXPIRY (05 R288, R308). -/
def repeatTimerExpiry (n : NodeNo) (g : Grp) (m : Mates) (s : State) : State := endRepeat n g (beforeExpiry m s)

/-- REPEAT_TIMER_EXPIRY. -/
def execRepeatTimerExpiry (n : NodeNo) (g : Grp) (m : Mates) (s : State) : Out := finish (repeatTimerExpiry n g m s)

/-- Effect of ATTEND_TIMER_EXPIRY (05 R293, R308). -/
def attendTimerExpiry (n : NodeNo) (g : Grp) (m : Mates) (s : State) : State := endAttend n g (beforeExpiry m s)

/-- ATTEND_TIMER_EXPIRY. -/
def execAttendTimerExpiry (n : NodeNo) (g : Grp) (m : Mates) (s : State) : Out := finish (attendTimerExpiry n g m s)

/-! ## Keys of call units -/

/-- Whether the node that a frame names is this one and its engine runs. -/
def namesThis (f : UnitFrame) (s : State) : Bool := decide (f.node.toNat = s.watch.node.val) && s.engine.running

/-- Takes an acknowledge key as ACK of the group, with the latch point now (05 R294, 04 R224, R225). -/
def ackKey (f : UnitFrame) (s : State) : State × Bool :=
  if h : f.grp.toNat < 32 then
    let g : Grp := ⟨f.grp.toNat, h⟩
    (ackTarget (fun a => decide (a.entered < s.cycle)) (fun a => decide (a.entered < s.cycle)) (.grp g)
      (emitAction 1 (.grp g) 2 (f.unit.val + 1) 0 s), true)
  else (s, false)

/-- Effect of ACKNOWLEDGE_KEY (05 R294, R295, 06 R357): the owning node handles it. -/
def acknowledgeKey (f : UnitFrame) (s : State) : State := unitKey 2 (namesThis f) (ackKey f) f s

/-- ACKNOWLEDGE_KEY. -/
def execAcknowledgeKey (f : UnitFrame) (s : State) : Out := finish (acknowledgeKey f s)

/-- Effect of DEAD_MAN_CONFIRM (05 R302, R305). -/
def deadManConfirm (f : UnitFrame) (s : State) : State :=
  unitKey 3 (namesThis f) (fun s => (deadConfirm (f.unit.val + 1) s, s.live.dead.en)) f s

/-- DEAD_MAN_CONFIRM. -/
def execDeadManConfirm (f : UnitFrame) (s : State) : Out := finish (deadManConfirm f s)

/-- Effect of DEAD_MAN_START (05 R301). -/
def deadManStart (f : UnitFrame) (s : State) : State :=
  unitKey 4 (namesThis f) (fun s => (setDeadEn true (f.unit.val + 1) s, true)) f s

/-- DEAD_MAN_START. -/
def execDeadManStart (f : UnitFrame) (s : State) : Out := finish (deadManStart f s)

/-- Effect of DEAD_MAN_STOP (05 R301). -/
def deadManStop (f : UnitFrame) (s : State) : State :=
  unitKey 5 (namesThis f) (fun s => (setDeadEn false (f.unit.val + 1) s, true)) f s

/-- DEAD_MAN_STOP. -/
def execDeadManStop (f : UnitFrame) (s : State) : Out := finish (deadManStop f s)

/-- Effect of UNIT_PRESENCE_TIMEOUT (05 R273). -/
def unitPresenceTimeout (u : Unit64) (s : State) : State :=
  if (s.caller.units[u.val]).present && decide ((s.caller.units[u.val]).lastHeard + 30 * usSec ≤ s.now) then
    onUnit u (fun x => { x with present := false }) s
  else s

/-- UNIT_PRESENCE_TIMEOUT. -/
def execUnitPresenceTimeout (u : Unit64) (s : State) : Out := finish (unitPresenceTimeout u s)

/-- Effect of UNIT_COUNTER_STORE (06 R369): the last counter of each unit is stored. -/
def unitCounterStore (s : State) : State :=
  { s with images := { s.images with unitCounters := s.caller.units.map fun x => x.counter } }

/-- UNIT_COUNTER_STORE. -/
def execUnitCounterStore (s : State) : Out := finish (unitCounterStore s)

end Sys2Proof.Machine
end

