-- ==== Sys2Proof/Machine/SliceOps.lean ====
section
/-! DEFINITION. The channel slice's operations: codes and ranges, the judging of conditions, the trip wire, the loop supply's
headroom, and a slice's start (02, 04). -/

namespace Sys2Proof.Machine

/-! ## Ranges and codes -/

/-- The code of the nominal full scale (02 R57). -/
abbrev fullScale : Rat := 122880

/-- The ranges of a mode that has AUTO, lowest first (02 R57, R65). -/
def autoRanges : Mode → List Range
  | .volt => [.v1, .v10]
  | .lamp => [.mv50, .mv500, .v5]
  | _ => []

/-- The range in which a channel starts (02 R901). -/
def startRange (m : Mode) : Range → Range
  | .auto => (autoRanges m).getLastD .none
  | r => r

/-- One range up, where there is one. -/
def rangeUp (m : Mode) (r : Range) : Option Range := ((autoRanges m).dropWhile (· ≠ r)).tail.head?

/-- One range down, where there is one. -/
def rangeDown (m : Mode) (r : Range) : Option Range := ((autoRanges m).reverse.dropWhile (· ≠ r)).tail.head?

/-- The nominal full scale of a range in terminal units (02 R57). -/
def nominal : Range → Rat
  | .ma24 => 24
  | .v1 => 1
  | .v10 => 10
  | .pt100 => 400
  | .pt1000 => 400
  | .mv50 => 50
  | .mv500 => 500
  | .v5 => 5000
  | _ => 1

/-- The decade ranges between a range and the highest range allowed (02 R103). -/
def decades (a : Active) (r : Range) : Nat :=
  if a.range = .auto then ((autoRanges a.mode).dropWhile (· ≠ r)).length - 1 else 0

/-- A power of ten. -/
def tenPow (k : Nat) : Rat := ((10 ^ k : Nat) : Rat)

/-- The engineering value of a code (02 R103). -/
def engOf (a : Active) (r : Range) (code : Rat) : Rat :=
  a.eng0 + (a.eng1 - a.eng0) * code / fullScale / tenPow (decades a r)

/-- The code equivalent of an engineering value in a range, rounded to the nearest code (02 R105). -/
def codeOf (a : Active) (r : Range) (v : Rat) : Int :=
  if a.eng1 = a.eng0 then 0
  else roundAway ((v - a.eng0) * fullScale * tenPow (decades a r) / (a.eng1 - a.eng0))

/-- A code formed from a quantity: the code with its OVR and UNR markers (02 R57, R59, R60). -/
def clampCode (z : Int) : Int × Bool × Bool :=
  if 131071 < z then (131071, true, false)
  else if z < -131072 then (-131072, false, true)
  else (z, false, false)

/-- The line state of a resistance (02 R47, R48). -/
def lineOf (eol : Eol) (ohm : Rat) : LineState :=
  match eol with
  | .none => if ohm < 600 then .closed else .open
  | .std =>
    if ohm < 100 then .short
    else if ohm < 600 then .closed
    else if ohm ≤ 3000 then .open
    else .broken

/-- The resistance of an RTD at t °C over its resistance at 0 °C, as IEC 60751 gives it for α = 0.00385 /°C (02 R46;
log 14). -/
def iecRatio (t : Rat) : Rat :=
  let a : Rat := 39083 / 10000000
  let b : Rat := 5775 / 10000000000
  let c : Rat := 4183 / 1000000000000000
  if t < 0 then 1 + a * t - b * t * t - c * (t - 100) * t * t * t else 1 + a * t - b * t * t

/-- Whether a resistance ratio lies at or beyond the upper half-step of the code below z, so that its code is z or more; a
tie goes away from zero (02 R57, R58). -/
def iecReaches (x : Rat) (z : Int) : Bool :=
  let edge := iecRatio (((z : Rat) - 1 / 2) * 400 / fullScale)
  if 0 < z then decide (edge ≤ x) else decide (edge < x)

/-- The greatest code from `lo` to below `lo + 2^n` that a ratio reaches, where it reaches `lo`. -/
def iecSearch (x : Rat) : Nat → Int → Int
  | 0, lo => lo
  | n + 1, lo => let mid := lo + ((2 ^ n : Nat) : Int)
    iecSearch x n (if iecReaches x mid then mid else lo)

/-- The resistance ratio that an RTD reading gives (02 R44). -/
def rtdRatio (r : Range) (x : Means) : Rat :=
  let i : Rat := if r = .pt1000 then 1 / 10000 else 1 / 1000
  let r0 : Rat := if r = .pt1000 then 1000 else 100
  (x.vSense / i - x.vLead / i) / r0

/-- The code of an RTD reading before the code range is applied, from −200 °C on; none below it (02 R46, R58, R61). -/
def rtdCode (r : Range) (x : Means) : Option Int :=
  let q := rtdRatio r x
  if q < iecRatio (-200) then none else some (iecSearch q 18 (-61440))

/-! ## The filter -/

/-- A quantity as a code of a range, not rounded (02 R57). -/
def asCode (r : Range) (q : Rat) : Rat := q * fullScale / nominal r

/-- The means of a period, the quantity as a code of the range it was taken in. -/
def codedMeans (r : Range) (m : Means) : Means := { m with quantity := asCode r m.quantity }

/-- The triangular filter over two periods of equal weight (02 R54): the earlier one with its rising, a code's own with its
falling weight. The first conversion of a start has no earlier one (log 146). -/
def filtered (prev : Option Means) (own : Means) : Means :=
  match prev with
  | none => own
  | some p => {
      quantity := (p.quantity + own.quantity) / 2
      vSense := (p.vSense + own.vSense) / 2
      vLead := (p.vLead + own.vLead) / 2
      ohm := (p.ohm + own.ohm) / 2 }

/-- What the filter gives at the end of a conversion, the quantity as a code. -/
def window (x : Slice) (r : Reading) : Means := filtered x.prev (codedMeans x.range r.own)

/-- The code of a conversion, with OVR and UNR; none where no valid code has been formed yet (02 R47, R57–R61, R81, R86). -/
def formCode (x : Slice) (r : Reading) : Option Int × Bool × Bool :=
  let w := window x r
  let top : Option Int × Bool × Bool := (some 131071, true, false)
  let low : Option Int × Bool × Bool := (some (-131072), false, true)
  let plain := fun (z : Int) =>
    let c := clampCode z
    (some c.1, c.2.1, c.2.2)
  match x.act.mode with
  | .off => (none, false, false)
  | .cont => match lineOf x.act.eol w.ohm with
    | .closed => (some 122880, false, false)
    | .open => (some 0, false, false)
    | _ => (x.code, false, false)
  | .rtd =>
    if r.excitationOk = false then top
    else match rtdCode x.range w with
      | none => low
      | some z => plain z
  | .pasv => if x.misw then top else plain (roundAway w.quantity)
  | .loop => plain (roundAway w.quantity)
  | .volt => plain (roundAway w.quantity)
  | .lamp => plain (roundAway w.quantity)

/-- Whether a code may be used (02 R63, 04 R206). -/
def Marks.usable (m : Marks) : Bool := !m.setl && !m.dist

/-! ## Conversion periods -/

/-- The period of a rate index in µs (02 R52). -/
def ratePeriod (i : Fin 11) : Nat := 125 * 2 ^ i.val

/-- The rate in force: in DEEP the lower of RATE and DEEP.RATE (15 R800). -/
def rateInForce (s : State) (c : Ch) : Fin 11 :=
  let r := (s.sliceCfg c).rate
  if s.power.mode = .deep then max r s.power.deepRate else r

/-- The conversion period of a slice in µs (02 R52, R56). -/
def Slice.period (x : Slice) : Nat := if x.act.mode = .lamp then 125 else ratePeriod x.act.rate

/-! ## Conditions -/

/-- Whether a condition exists in a mode (04 R200). -/
def condExists (k : Cond) (m : Mode) : Bool :=
  match k, m with
  | _, .off => false
  | .dark, .lamp => true
  | .dim, .lamp => true
  | .stuck, .lamp => true
  | .char, .lamp => true
  | .dark, _ => false
  | .dim, _ => false
  | .stuck, _ => false
  | .char, _ => false
  | _, _ => true

/-- A condition becomes true in an engine cycle: its history latch sets and its acknowledge bit clears (01 R22, R41,
04 R219). -/
def CondState.rise (now : Tick) (cycle : Nat) (x : CondState) : CondState :=
  { x with on := true, timer := 0, due := false, hist := true, ack := false, since := now, occ := x.occ + 1,
           roseIn := cycle }

/-- A condition becomes false. -/
def CondState.fall (x : CondState) : CondState := { x with on := false, timer := 0, due := false }

/-- A condition is held false with its timers at zero (04 R212, 02 R902). -/
def CondState.hold (x : CondState) : CondState := { x with raw := false, on := false, timer := 0, due := false }

/-- The delay that runs while a condition's raw state differs from it, in µs (04 R207, R208). -/
def CondCfg.delayUs (cfg : CondCfg) (raw : Bool) : Nat := (if raw then cfg.steep else cfg.unsteep) * 10000

/-- Judges a condition at a usable update (04 R206–R212, R262): `raw` is its raw state now and `dt` the time since the last
update in µs. With a delay of 0 s it changes at once; otherwise the update marks a delay that is complete, and its timer's
event changes the condition. -/
def CondState.judge (cfg : CondCfg) (raw : Bool) (dt : Nat) (now : Tick) (cycle : Nat) (x : CondState) : CondState :=
  if cfg.en = false then x.hold
  else
    let t := if raw ≠ x.raw ∨ raw = x.on then 0 else x.timer + dt
    let y := { x with raw := raw, timer := t, due := decide (raw ≠ x.on) && decide (cfg.delayUs raw ≤ t) }
    if y.due && decide (cfg.delayUs raw = 0) then (if raw then y.rise now cycle else y.fall) else y

/-- Judges one condition of a channel. -/
def judgeCond (c : Ch) (k : Cond) (raw : Bool) (dt : Nat) (s : State) : State :=
  onCond c k (CondState.judge (s.sliceCondCfg c k) raw dt s.now s.cycle) s

/-- The hysteresis of a condition (04 R268): AUTO is 1 % of the span. -/
def hystOf (s : State) (c : Ch) (k : Cond) : Rat :=
  match (s.sliceCondCfg c k).hyst with
  | some h => h
  | none => ratAbs ((s.slice c).act.eng1 - (s.slice c).act.eng0) / 100

/-- The raw state of HIHI or HI from an order on values (04 R201, R203). -/
def rawHigh {α : Type} (lt : α → α → Bool) (v set back : α) (raw : Bool) : Bool :=
  if lt set v then true else if lt v back then false else raw

/-- The raw state of LO or LOLO (04 R202, R203). -/
def rawLow {α : Type} (lt : α → α → Bool) (v set back : α) (raw : Bool) : Bool :=
  if lt v set then true else if lt back v then false else raw

/-- The raw state of a threshold condition on a code: thresholds stand as code equivalents (02 R105, 04 R201–R203). -/
def rawOnCode (s : State) (c : Ch) (k : Cond) (code : Int) : Bool :=
  let x := s.slice c
  let set := (s.sliceCondCfg c k).set
  let h := hystOf s c k
  let up := decide (x.act.eng0 < x.act.eng1)
  let lt : Int → Int → Bool := fun a b => if up then decide (a < b) else decide (b < a)
  let eq := codeOf x.act x.codeRange
  match k with
  | .hihi | .hi => rawHigh lt code (eq set) (eq (set - h)) (s.cond c k).raw
  | _ => rawLow lt code (eq set) (eq (set + h)) (s.cond c k).raw

/-- The raw state of a threshold condition on a lamp value, unrounded (02 R105, 04 R204). -/
def rawOnValue (s : State) (c : Ch) (k : Cond) (v : Rat) : Bool :=
  let set := (s.sliceCondCfg c k).set
  let h := hystOf s c k
  let lt : Rat → Rat → Bool := fun a b => decide (a < b)
  match k with
  | .hihi | .hi => rawHigh lt v set (set - h) (s.cond c k).raw
  | _ => rawLow lt v set (set + h) (s.cond c k).raw

/-- The threshold conditions. -/
def thresholdConds : List Cond := [.hihi, .hi, .lo, .lolo]

/-- Whether the FAULT condition is true raw (02 R64). -/
def Slice.faultRaw (x : Slice) : Bool :=
  (x.flags[0]).live || (x.flags[1]).live || (x.flags[2]).live || (x.flags[3]).live || (x.flags[4]).live ||
    (x.flags[6]).live || (x.flags[11]).live || decide (x.line = some .short)

/-- The slice takes a new mode: conditions that do not exist in it become false (02 R51, R902). -/
def holdMissing (m : Mode) (x : Slice) : Slice :=
  { x with cond := Vector.ofFn fun i => if condExists (condAt i) m then x.cond[i.val] else (x.cond[i.val]).hold }

/-! ## The trip wire -/

/-- Whether a lamp channel is AC. -/
def Slice.ac (x : Slice) : Bool := decide (x.act.mode = .lamp) && decide (x.act.lampsup = .ac)

/-- Whether the gate of the espresso path is open: for F always (03 R162, R164). -/
def Slice.gateOpen (x : Slice) : Bool := decide (x.lamp.lock = .steady) || x.lamp.onWin.isSome

/-- Whether the gate was open at a time not long past: it has moved at most once since (03 R164, R166). -/
def Slice.gateOpenAt (x : Slice) (t : Tick) : Bool :=
  if x.lamp.gateAt ≤ t then x.gateOpen else decide (x.lamp.lock = .steady) || !x.gateOpen

/-- Changes a slice, then brings the TRIP flag up to date and queues a TRIP frame where the wire has changed
(02 R113, R124, 06 R332). -/
def wireStep (c : Ch) (f : Slice → Slice) (s : State) : State :=
  let before := (s.slice c).wire
  let s := onSlice c f s
  let x := s.slice c
  let s := onChFlag c 10 (Flag.drive x.wire) s
  if before = x.wire then s
  else send (.trip c x.trip.hiQ (if x.act.mode = .lamp then x.trip.latched else x.trip.loQ) x.wire s.nodeTime) s

/-- The TRIPLO contribution of a LAMP channel follows its comparator: for F it goes with the comparator, else a DC lamp's
activates inside an open gate; an AC lamp's is activated by a half-cycle's end (03 R164–R168). -/
def contribute (x : Slice) : Slice :=
  if x.act.mode = .lamp then
    { x with trip := { x.trip with latched :=
      if x.lamp.lock = .steady then x.trip.loQ else x.trip.latched || (!x.ac && x.gateOpen && x.trip.loQ) } }
  else x

/-- Changes the comparators of a channel. -/
def onTrip (c : Ch) (f : Trip → Trip) (s : State) : State :=
  wireStep c (fun x => contribute { x with trip := f x.trip }) s

/-! ## The loop supply -/

/-- A ratio as a number (02 R89). -/
def ratioVal : Ratio → Rat
  | .quarter => 1 / 4
  | .third => 1 / 3
  | .half => 1 / 2
  | .threeQuarters => 3 / 4
  | .one => 1

/-- The next ratio up. -/
def ratioUp : Ratio → Option Ratio
  | .quarter => some .third
  | .third => some .half
  | .half => some .threeQuarters
  | .threeQuarters => some .one
  | .one => none

/-- The switch loss in mV: 02 R89 gives its maximum and R98 takes it in full (log 147). -/
abbrev switchLoss : Rat := 500

/-- The voltage across the pass element at a ratio, in mV (02 R89, R90). -/
def headroom (l : LoopLoad) (r : Ratio) : Rat := (l.vsupMv : Rat) * ratioVal r - switchLoss - (l.needMv : Rat)

/-- The place of a ratio, smallest first. -/
def ratioIdx (r : Ratio) : Nat := posIn ratioList r

/-- The smallest ratio that leaves 1.0 V, of those at or above one (02 R90). -/
def pickRatio (l : LoopLoad) (least : Nat) : Option Ratio :=
  ratioList.find? fun r => decide (least ≤ ratioIdx r) && decide (1000 ≤ headroom l r)

/-- The COMP cause takes a value (02 R97, R98, R124). -/
def setComp (c : Ch) (v : Bool) (s : State) : State :=
  onChFlag c 6 (Flag.drive v) (onSlice c (fun x => { x with compCause := v }) s)

/-- The PIN cause takes a value (02 R96, R124). -/
def setPin (c : Ch) (v : Bool) (s : State) : State :=
  onChFlag c 5 (Flag.drive v) (onSlice c (fun x => { x with pinCause := v }) s)

/-- Whether the ratio that 02 R90 would select lies below the floor in use (02 R96, R133). -/
def pinned (l : LoopLoad) (floor : Ratio) : Bool :=
  match pickRatio l 0 with
  | some r => decide (ratioIdx r < ratioIdx floor)
  | none => false

/-- Brings the COMP cause up to date with what the loop meets (02 R97, R98, R130). -/
def judgeComp (c : Ch) (l : LoopLoad) (s : State) : State := setComp c (decide (headroom l .one < 1000)) s

/-- The supply as a loop finds it is the node's supply (01 Terminals, 02 R89). -/
def takeVsup (l : LoopLoad) (s : State) : State := setVsup l.vsupMv s

/-! ## The start of a slice -/

/-- Settings with a pending mode change carried out (02 R49). -/
def ChCfg.settled (c : ChCfg) : ChCfg := { c with set := chCheck c, staged := none }

/-- The slice's settings as they take effect at a boundary. -/
def activeOf (c : ChCfg) (rate : Fin 11) : Active :=
  { mode := c.mode, range := c.set.range, rate := rate, eol := c.eol, eng0 := c.set.eng0, eng1 := c.set.eng1,
    lampsup := c.lampsup }

/-- AC tracking as it starts, at an ACNOM in Hz (03 R143). -/
def startHalf (acnom : Nat) (now : Tick) : HalfCycle := { began := some now, halfUs := some (500000 / (acnom : Rat)) }

/-- The threshold settings as written, with a baseline (03 R169, R191). -/
def limitsOf (c : ChCfg) (base : Rat) : LampLimits :=
  { darkfrac := c.darkfrac, dimfrac := c.dimfrac, darkmin := c.darkmin, darkmax := c.darkmax, base := base }

/-- Lamp proving as it starts (03 R143, R184, R194). -/
def startLamp (c : ChCfg) (now : Tick) : Lamp :=
  { lock := if c.char = .f then .steady else .seek
    timing := { onlate := c.onlate, edgetol := c.edgetol, lamptype := c.lamptype }
    base := c.baseset
    limits := limitsOf c c.baseset
    acnom := c.acnom
    half := startHalf c.acnom now
    second := { opens := now }
    gateAt := now
    unlockedSince := if c.char = .f then none else some 0 }

/-- The comparators with their thresholds as set (02 R115; log 174). -/
def startTrip (d : ModeDefaults) : Trip := { dacHi := d.triphi, dacLo := d.triplo, span := d.tripspan }

/-- The use of the terminals in each mode (02 R42). -/
def frontOf : Mode → FrontEnd
  | .pasv => { inp := .currentIn, inn := .currentOut, sense := true }
  | .loop => { exc := .loopOut, inp := .loopReturn, inn := .unused, sense := true }
  | .volt => { inp := .plusIn, inn := .minusIn }
  | .rtd => { exc := .rtdOut, inp := .senseA, inn := .returnB }
  | .lamp => { inp := .plusBurden, inn := .minusBurden }
  | .cont => { exc := .wettingOut, inp := .wettingReturn, inn := .unused }
  | .off => { inp := .highZ }

/-- A slice as it starts after a reset, with the settings in force (02 R42, R78, R117, R128, 04 R218). -/
def freshSlice (c : ChCfg) (rate : Fin 11) (now : Tick) : Slice :=
  { front := frontOf c.mode
    act := activeOf c rate
    range := startRange c.mode c.set.range
    openTest := decide (c.mode ≠ .off)
    trip := startTrip c.set
    lamp := startLamp c now }

/-- Starts the slice of a channel. -/
def startSlice (c : Ch) (s : State) : State :=
  let cfg := (s.sliceCfg c).settled
  onSlice c (fun _ => freshSlice cfg (rateInForce s c) s.now) (onSliceCfg c (fun _ => cfg) s)

end Sys2Proof.Machine
end

