-- ==== Sys2Proof/Machine/LampOps.lean ====
section
/-! DEFINITION. Lamp proving's operations: characters and their phases, the bands, the dark threshold, the judging of a lamp
value, the prediction and its windows (03). Times are in µs. -/

namespace Sys2Proof.Machine

/-! ## Characters -/

/-- The on and off phases of one period in ms, on-phase first (03 R148). -/
def phases : LightChar → List Nat
  | .f => []
  | .fl n p => (List.replicate (n - 1) [500, 500]).flatten ++ [500, p * 100 - (n - 1) * 1000 - 500]
  | .lfl n p => (List.replicate (n - 1) [2000, 1000]).flatten ++ [2000, p * 100 - (n - 1) * 3000 - 2000]
  | .oc n p => [p * 100 - n * 1000 + 500, 500] ++ (List.replicate (n - 1) [500, 500]).flatten
  | .iso p => [p * 50, p * 50]
  | .q => [300, 700]
  | .vq => [200, 300]
  | .pat es => es

/-- How many on-phases a period has. -/
def flashes (ch : LightChar) : Nat := (phases ch).length / 2

/-- The length of on-phase i, in µs. -/
def onLen (ch : LightChar) (i : Nat) : Nat := (phases ch).getD (2 * (i % max 1 (flashes ch))) 0 * 1000

/-- The length of the off-phase after on-phase i, in µs. -/
def offLen (ch : LightChar) (i : Nat) : Nat := (phases ch).getD (2 * (i % max 1 (flashes ch)) + 1) 0 * 1000

/-- One period in µs. -/
def periodLen (ch : LightChar) : Nat := (phases ch).sum * 1000

/-- The on-phase before on-phase i, around the period. -/
def prevFlash (ch : LightChar) (i : Nat) : Nat := (i + flashes ch - 1) % max 1 (flashes ch)

/-- The on-phase after on-phase i, around the period. -/
def nextFlash (ch : LightChar) (i : Nat) : Nat := (i + 1) % max 1 (flashes ch)

/-- The on-band of on-phase i (03 R153). -/
def onBand (ch : LightChar) (tol : Nat) (i : Nat) : Nat :=
  max 20000 (tol * (onLen ch (prevFlash ch i) + offLen ch (prevFlash ch i)) / 100)

/-- The off-band of on-phase i (03 R153). -/
def offBand (ch : LightChar) (tol : Nat) (i : Nat) : Nat := max 20000 (tol * onLen ch i / 100)

/-- The on-phase whose off-phase is the longest, the first of equals. -/
def longestOff (ch : LightChar) : Nat :=
  (List.range (flashes ch)).foldl (fun b i => if offLen ch b < offLen ch i then i else b) 0

/-- The on-phase at which a candidate is placed: the one after the longest off-phase (03 R154). -/
def candidateAt (ch : LightChar) : Nat := nextFlash ch (longestOff ch)

/-- The dark time that a candidate needs (03 R154). -/
def candidateDark (ch : LightChar) (tol : Nat) : Nat := offLen ch (longestOff ch) - onBand ch tol (candidateAt ch)

/-- ONLATE in µs as set: AUTO is 40 ms for FIL and 5 ms for LED (03 R198). -/
def onlateUs (t : LampTiming) : Nat :=
  match t.onlate with
  | some n => n * 1000
  | none => match t.lamptype with
    | .fil => 40000
    | .led => 5000

/-! ## Thresholds -/

/-- The tracked half-period in µs (03 R142, R143). -/
def Lamp.trackedHalf (l : Lamp) : Rat := l.half.halfUs.getD 10000

/-- The effective ONLATE under given timing settings (03 R161). -/
def effOnlateOf (t : LampTiming) (x : Slice) : Nat :=
  let o := onlateUs t
  if x.ac then max o (ceilRat (3 * x.lamp.trackedHalf)).toNat else o

/-- The effective ONLATE of the flash predicted (03 R161). -/
def effOnlate (x : Slice) : Nat := effOnlateOf x.lamp.timing x

/-- The effective ONLATE before the next predicted on-start, against which STUCK is judged (03 R161, R180, R190). -/
def stuckOnlate (x : Slice) : Nat := effOnlateOf x.lamp.last x

/-- The dark threshold in engineering units (03 R169). -/
def tDark (l : LampLimits) : Rat :=
  let p := l.base * ((l.darkfrac : Rat) / 100)
  if p < l.darkmin then l.darkmin else if l.darkmax < p then l.darkmax else p

/-- Whether the BPIN cause is live (03 R170). -/
def bpinCause (l : LampLimits) : Bool :=
  let p := l.base * ((l.darkfrac : Rat) / 100)
  decide (p < l.darkmin) || decide (l.darkmax < p)

/-- The DIM threshold (03 R171). -/
def tDim (l : LampLimits) : Rat := max (l.base * ((l.dimfrac : Rat) / 100)) (tDark l)

/-- The lamp value in engineering units (03 R146); the codes are those of the highest range allowed. -/
def lampEng (x : Slice) : Option Rat :=
  x.lamp.value.map fun v => x.act.eng0 + (x.act.eng1 - x.act.eng0) * v / fullScale

/-! ## The mean and the RMS -/

/-- A code in codes of the highest range allowed (02 R103). -/
def topCode (x : Slice) (code : Int) : Rat := (code : Rat) / tenPow (decades x.act x.codeRange)

/-- The mean of the usable codes among the last 8; none where there is none (03 R140). -/
def meanOf (win : List (Rat × Bool)) : Option Rat :=
  let us := win.filter (·.2)
  if us = [] then none else some ((us.map (·.1)).sum / (us.length : Rat))

/-- The RMS of a half-cycle, formed to the implementation's binary places (03 R141; log 16). -/
def rmsOf (sumSq : Rat) (n : Nat) : Rat :=
  let k := Config.rmsBits
  let scale : Rat := ((4 ^ k : Nat) : Rat)
  (Nat.sqrt ((sumSq / (n : Rat) * scale).floor.toNat) : Rat) / ((2 ^ k : Nat) : Rat)

/-! ## Judging a lamp value -/

/-- Whether DARK or DIM is true. -/
def darkOrDim (s : State) (c : Ch) : Bool := (s.cond c .dark).on || (s.cond c .dim).on

/-- What an update adds to what is gathered over an on-window or a second (03 R172, R173, R180). -/
def gather (v dark dim hDark hDim : Rat) (dod : Bool) (w : OnWindow) : OnWindow :=
  { w with
    sum := w.sum + v
    usable := w.usable + 1
    darkOrDim := w.darkOrDim || dod
    darkHeld := w.darkHeld && decide (dark + hDark ≤ v)
    dimHeld := w.dimHeld && decide (dim + hDim ≤ v) }

/-- What an update adds to what is gathered over an off-window (03 R180). -/
def gatherOff (v dark hyst : Rat) (now : Tick) (w : OffWindow) : OffWindow :=
  { w with
    usable := w.usable + 1
    low := w.low && decide (v < dark - hyst)
    litSince := if dark < v then (match w.litSince with
      | some t => some t
      | none => some now) else none }

/-- The side of the dark threshold after a usable update at `now` (03 R151): a first value, and one on a threshold reached from
neither side, is no edge. -/
def LampSide.take (above below : Bool) (before now : Tick) (x : LampSide) : LampSide :=
  let go := fun (b : Bool) =>
    if x.lit = some b then { x with count := x.count + 1 }
    else { lit := some b, after := before, since := now, count := 1, judged := decide (x.lit = none) }
  if above then go true else if below then go false else { x with count := x.count + 1 }

/-- Whether a crossing at a time onto a side has become an edge (03 R151): it lies between the two updates that show it, the
value has stayed 2 ms (DC) or 2 half-cycles (AC), and it has not been judged. -/
def Lamp.crossed (l : Lamp) (ac side : Bool) (at_ : Tick) : Bool :=
  decide (l.side.lit = some side) && !l.side.judged && decide (l.side.after ≤ at_) && decide (at_ ≤ l.side.since) &&
    (if ac then decide (3 ≤ l.side.count) else decide (at_ + 2000 ≤ l.lastUse))

/-- Whether a rise that began by a time is still to be judged (03 R151, R155). -/
def Lamp.risePending (l : Lamp) (by_ : Tick) : Bool :=
  decide (l.side.lit = some true) && !l.side.judged && decide (l.side.after ≤ by_)

/-- The lamp's own clock, which counts usable updates alone (03 R145), at a time not later than the last one. -/
def Lamp.clockAt (l : Lamp) (t : Tick) : Tick := l.clock - (l.lastUse - t)

/-- Tracks the lamp value against the dark threshold at a usable update that ends `dt` after the last one; the first value
below it starts the dark time (03 R151, R154, R183). -/
def trackLit (v dark : Rat) (dt : Nat) (now : Tick) (l : Lamp) : Lamp :=
  { l with
    side := l.side.take (decide (dark < v)) (decide (v < dark)) l.lastUse now
    clock := l.clock + dt
    lastUse := now
    darkSince := if l.side.lit = none ∧ v < dark then some now else l.darkSince
    litSince := if dark < v then (match l.litSince with
      | some t => some t
      | none => some (l.clock + dt)) else none }

/-- The conditions whose timers count at an update, with their raw states (03 R180–R185; log 168). -/
def lampRaws (s : State) (c : Ch) (v : Rat) : List (Cond × Bool) :=
  let x := s.slice c
  let dark := tDark x.lamp.limits
  let dim := tDim x.lamp.limits
  let inDim := decide (v < dim) && decide (dark ≤ v)
  let thr := thresholdConds.map fun k => (k, rawOnValue s c k v)
  match x.lamp.lock with
  | .steady =>
    thr ++ [(.dark, if v < dark then true else if dark + hystOf s c .dark ≤ v then false else (s.cond c .dark).raw),
            (.dim, if inDim then true else if dim + hystOf s c .dim ≤ v then false else (s.cond c .dim).raw),
            (.stuck, false), (.char, false)]
  | .locked =>
    thr ++ (if x.lamp.onWin.isSome then
        [(.dark, decide (v < dark) || (s.cond c .dark).raw), (.dim, inDim || (s.cond c .dim).raw)] else []) ++
      (if x.lamp.offWin.isSome then [(.stuck, (s.cond c .stuck).raw)] else []) ++ [(.char, (s.cond c .char).raw)]
  | _ =>
    thr ++ [(.dark, (s.cond c .dark).raw), (.stuck, (s.cond c .stuck).raw), (.char, (s.cond c .char).raw)]

/-- The threshold settings and the baseline come into use at a lamp-value update, and BPIN follows them (03 R170, R191). -/
def takeLimits (c : Ch) (s : State) : State :=
  let s := onLamp c (fun l => { l with limits := limitsOf (s.sliceCfg c) l.base }) s
  onChFlag c 7 (Flag.drive (bpinCause (s.slice c).lamp.limits)) s

/-- Conditions with EN OFF are held false at a usable update, those of closed windows among them (04 R212, R235). -/
def holdOff (c : Ch) (s : State) : State :=
  onSlice c (fun x => { x with cond := Vector.ofFn fun i =>
    if ((s.sliceCfg c).cond[i.val]).en then x.cond[i.val] else (x.cond[i.val]).hold }) s

/-- Judges a usable lamp-value update at a time, `dt` after the one before (03 R145, R180–R185). -/
def judgeLamp (c : Ch) (dt : Nat) (at_ : Tick) (s : State) : State :=
  match lampEng (s.slice c) with
  | none => s
  | some v =>
    let lim := (s.slice c).lamp.limits
    let dark := tDark lim
    let s := (lampRaws s c v).foldl (fun s p => judgeCond c p.1 p.2 dt s) (holdOff c s)
    let g := gather v dark (tDim lim) (hystOf s c .dark) (hystOf s c .dim) (darkOrDim s c)
    onLamp c (fun l =>
      let l := trackLit v dark dt at_ l
      { l with
        onWin := l.onWin.map g
        second := g l.second
        offWin := l.offWin.map (gatherOff v dark (hystOf s c .stuck) l.clock) }) s

/-- A lamp-value update at a time (03 R145, R191): `usable` says whether the slice can use it. -/
def lampUpdate (c : Ch) (usable : Bool) (dt : Nat) (at_ : Tick) (s : State) : State :=
  let s := takeLimits c (onLamp c (fun l => { l with fresh := usable }) s)
  if usable then judgeLamp c dt at_ s else s

/-- Counts a code, used or not, in what is gathered (03 R173). -/
def countCode (usable : Bool) (l : Lamp) : Lamp :=
  let f := fun (w : OnWindow) => { w with codes := w.codes + 1, badCodes := w.badCodes + (if usable then 0 else 1) }
  { l with onWin := l.onWin.map f, second := f l.second }

/-! ## The baseline -/

/-- Learns from a window or a second of a length in µs (03 R172, R173, R175, R176, R905). -/
def learnFrom (cfg : ChCfg) (w : OnWindow) (len : Nat) (base : Rat) : Rat :=
  if cfg.learn ≠ .on ∨ w.usable = 0 ∨ w.darkOrDim = true ∨ w.codes < 2 * w.badCodes then base
  else
    let m := w.sum / (w.usable : Rat)
    if base = 0 then m else base + (m - base) * ((len : Rat) / 1000000) / 3600

/-! ## The prediction -/

/-- Whether a time lies in the on-band of a predicted flash; band limits are inclusive (03 R153). -/
def inBand (ch : LightChar) (tol : Nat) (f : Flash) (t : Tick) : Bool :=
  decide (f.due ≤ t + onBand ch tol f.idx) && decide (t ≤ f.due + onBand ch tol f.idx)

/-- The anchor of a flash: its on-edge, else its predicted on-start (03 R156, R158). -/
def Flash.anchor (f : Flash) : Tick := f.edge.getD f.due

/-- The flash predicted after one. -/
def Flash.after (ch : LightChar) (f : Flash) : Flash :=
  { idx := nextFlash ch f.idx, due := f.anchor + onLen ch f.idx + offLen ch f.idx, toConfirm := f.toConfirm - 1 }

/-- The timing settings as written. -/
def timingOf (cfg : ChCfg) : LampTiming := { onlate := cfg.onlate, edgetol := cfg.edgetol, lamptype := cfg.lamptype }

/-- The expected-off window after a flash, from e + c to the next s − b under timing settings for the next on-start; none where
that span is empty (03 R160). -/
def offSpan (ch : LightChar) (tol : Nat) (t : LampTiming) (f : Flash) : Option (Tick × Tick) :=
  let n := f.after ch
  let a := f.anchor + onLen ch f.idx + offBand ch tol f.idx
  let b := n.due - onBand ch t.edgetol n.idx
  if a < b then some (a, b) else none

/-- An on-edge meets the flash predicted: it re-anchors the prediction, and the expected-off window after it is fixed
(03 R156, R160, R904). -/
def meet (cfg : ChCfg) (at_ : Tick) (l : Lamp) : Lamp :=
  let f := { l.flash with edge := some at_, offSet := true }
  { l with flash := f, offDue := offSpan cfg.char l.timing.edgetol (timingOf cfg) f }

/-- In LOCKED, goes on to the next flash: its expected-off window falls between, and timing settings written meanwhile apply
from it (03 R160, R190). -/
def advance (cfg : ChCfg) (l : Lamp) : Lamp :=
  let t := timingOf cfg
  let span := offSpan cfg.char l.timing.edgetol t l.flash
  { l with
    flash := l.flash.after cfg.char, timing := t, last := l.timing
    offDue := if l.flash.offSet then l.offDue.bind (fun _ => span) else span }

/-- Takes up timing settings as written (03 R190): in LOCKED from the next predicted on-start, so for the flash predicted
while its on-start lies ahead and no edge has met it (a window already open keeps its edges, one still to open ends before
the new on-band); a flash that has begun keeps its own. Out of LOCKED, at once. -/
def retime (cfg : ChCfg) (now : Tick) (l : Lamp) : Lamp :=
  let t := timingOf cfg
  if l.lock = .locked then
    if l.flash.edge = none ∧ now < l.flash.due then
      let b := l.flash.due - onBand cfg.char t.edgetol l.flash.idx
      { l with timing := t, offDue := l.offDue.bind fun x => if x.1 < b then some (x.1, b) else none }
    else l
  else { l with timing := t }

/-- The time at which the expected-on window of the flash opens (03 R159). -/
def openTime (cfg : ChCfg) (x : Slice) : Tick :=
  let f := x.lamp.flash
  match f.edge with
  | some t => t + effOnlate x
  | none => f.due + onBand cfg.char x.lamp.timing.edgetol f.idx + effOnlate x

/-- The windows end when LOCK leaves LOCKED, and the 2-period clocks start (03 R184, R903). -/
def unlock (now : Tick) (l : Lamp) : Lamp :=
  { l with
    lock := .seek, onWin := none, offWin := none, offDue := none, edgeSince := l.clock, unlockedSince := some l.clock
    gateAt := if l.onWin.isSome then now else l.gateAt
    litSince := l.litSince.map fun _ => l.clock }

/-- Judges an on-edge as a candidate in SEEK (03 R154, R155). -/
def tryCandidate (cfg : ChCfg) (at_ : Tick) (l : Lamp) : Lamp :=
  let l := { l with lock := .seek, timing := timingOf cfg }
  match l.darkSince with
  | some t =>
    if t + candidateDark cfg.char l.timing.edgetol ≤ at_ then
      let i := candidateAt cfg.char
      { l with
        lock := .confirm
        flash := { idx := nextFlash cfg.char i, due := at_ + onLen cfg.char i + offLen cfg.char i,
                   toConfirm := flashes cfg.char } }
    else l
  | none => l

/-- The lamp proving after an on-edge (03 R154–R158, R904). -/
def lampOnEdge (cfg : ChCfg) (at_ now : Tick) (l : Lamp) : Lamp :=
  let tol := l.timing.edgetol
  let done : Lamp → Lamp := fun x => { x with
    darkSince := none, edgeSince := l.clockAt at_, side := { x.side with judged := true } }
  match l.lock with
  | .steady => done l
  | .seek => done (tryCandidate cfg at_ l)
  | .confirm =>
    if inBand cfg.char tol l.flash at_ then
      if l.flash.toConfirm ≤ 1 then
        done { meet cfg at_ l with lock := .locked, unlockedSince := none }
      else done { l with flash := { l.flash with edge := some at_ } }
    else done (tryCandidate cfg at_ l)
  | .locked =>
    if inBand cfg.char tol l.flash at_ then done (meet cfg at_ l)
    else
      let l' := advance cfg l
      if inBand cfg.char l'.timing.edgetol l'.flash at_ then
        done (meet cfg at_ l')
      else done (tryCandidate cfg at_ (unlock now l))

/-- Sets a condition's raw state apart from an update, as an edge, a window's close or a clock decides it (03 R180, R183);
while no update is usable the condition itself holds (03 R145). -/
def setRaw (c : Ch) (k : Cond) (raw : Bool) (s : State) : State :=
  if (s.slice c).lamp.fresh then judgeCond c k raw 0 s
  else if (s.sliceCondCfg c k).en then
    onCond c k (fun x => if raw = x.raw then x else { x with raw := raw, timer := 0, due := false }) s
  else s

/-- A terminal quantity of a DC lamp that is not 2 steps above TRIPLO: an open window is then not one throughout which it
stayed there (03 R167). -/
def noteDip (quantity : Rat) (x : Slice) : Slice :=
  match x.trip.dacLo with
  | some t =>
    if x.act.mode = .lamp ∧ x.ac = false ∧ quantity < t + 2 * tripStep .lamp x.trip.span then
      { x with trip := { x.trip with clear := false } }
    else x
  | none => x

end Sys2Proof.Machine
end

