-- ==== Sys2Proof/Machine/SliceWrites.lean ====
section
/-! DEFINITION. What a write of a setting does in its slice at once, and its way there over the die link (01 R18, R20, 02, 03). -/

namespace Sys2Proof.Machine

/-- A RANGE write waits for the boundary; one that falls within a lock-out is marked (02 R70). -/
def applyRange (c : Ch) (s : State) : State :=
  onSlice c (fun x => { x with rangeDue := true, rangeLocked := x.rangeLocked || decide (0 < x.lockout) }) s

/-- The DAC code of a threshold (02 R107). A threshold that a later TRIPSPAN puts between two steps or beyond the DAC's range
stands at its own value (log 152). -/
def dacCode (m : Mode) (sp : TripSpan) (t : Option Rat) : Option Int := t.map fun q => roundAway (q / tripStep m sp)

/-- A threshold write (02 R115): a comparator whose DAC code changes is held; a pending mode change takes it later. -/
def applyTrip (c : Ch) (s : State) : State :=
  let cfg := s.sliceCfg c
  let x := s.slice c
  if cfg.staged.isSome || !hasComparators x.act.mode then s
  else
    let m := x.act.mode
    let p := x.trip
    let hi := decide (dacCode m p.span p.dacHi ≠ dacCode m cfg.set.tripspan cfg.set.triphi)
    let lo := decide (dacCode m p.span p.dacLo ≠ dacCode m cfg.set.tripspan cfg.set.triplo)
    onSlice c (fun x => { x with trip := { x.trip with
      dacHi := cfg.set.triphi, dacLo := cfg.set.triplo, span := cfg.set.tripspan
      hiHold := x.trip.hiHold || hi, loHold := x.trip.loHold || lo } }) s

/-- A CHAR write (03 R154, R184, R189): the lock restarts, the windows close, the latch releases, the 2-period clocks restart,
and the side of the dark threshold is found anew; STUCK and CHAR do not exist for F (03 R180; log 167). -/
def applyChar (c : Ch) (s : State) : State :=
  let cfg := s.sliceCfg c
  if (s.slice c).act.mode ≠ .lamp then s
  else
    let f := decide (cfg.char = .f)
    let s := wireStep c (fun x => { x with
      lamp := { x.lamp with
        lock := if f then .steady else .seek, flash := {}, timing := timingOf cfg, onWin := none, offWin := none
        offDue := none, second := { opens := s.now }, gateAt := s.now, side := {}, darkSince := none
        edgeSince := x.lamp.clock, unlockedSince := if f then none else some x.lamp.clock
        litSince := x.lamp.litSince.map fun _ => x.lamp.clock }
      trip := { x.trip with latched := f && x.trip.loQ, clear := false } }) s
    if f then onCond c .char CondState.hold (onCond c .stuck CondState.hold s) else s

/-- A write of ONLATE, EDGETOL or LAMPTYPE (03 R190): in LOCKED from the next predicted on-start, else at once. -/
def applyTiming (c : Ch) (s : State) : State := onLamp c (retime (s.sliceCfg c) s.now) s

/-- A write of LEARN or BASESET (03 R177, R178): BASE follows BASESET while LEARN is OFF. -/
def applyBase (c : Ch) (s : State) : State :=
  let cfg := s.sliceCfg c
  if cfg.learn = .off ∧ (s.slice c).act.mode = .lamp then onLamp c (fun l => { l with base := cfg.baseset }) s else s

/-- A slice takes a written setting: what it does before its next boundary, conversion or selection. -/
def sliceTakes (i : SettingId) (s : State) : State :=
  match i with
  | .ch c .range => applyRange c s
  | .ch c .tripspan => applyTrip c s
  | .ch c .triphi => applyTrip c s
  | .ch c .triplo => applyTrip c s
  | .ch c .char => applyChar c s
  | .ch c .onlate => applyTiming c s
  | .ch c .edgetol => applyTiming c s
  | .ch c .lamptype => applyTiming c s
  | .ch c .learn => applyBase c s
  | .ch c .baseset => applyBase c s
  | _ => s

/-- Sends a written setting to its slice (01 R18); while the die link delivers no valid frame, it waits (01 R19, R20). -/
def sendSetting (c : Ch) (i : SettingId) (s : State) : State :=
  match (s.linkOf c).held with
  | some _ => onHold (dieOf c) (fun h => { h with todo := h.todo ++ [i] }) s
  | none => sliceTakes i s

end Sys2Proof.Machine
end

