-- ==== Sys2Proof/Machine/Engine.lean ====
section
/-! DEFINITION. The alarm engine's events: the die links, acknowledge-bit writes, and the expiry of its timers (01, 04).
A timer's event acts only once its time has come; before that it changes nothing (log 2). -/

namespace Sys2Proof.Machine

/-- Effect of DIE_LINK_FRAME (01 R18, R19, 04 R247, 16 R819): a frame whose CRC fails is discarded; other frames and group
delays of the same engine cycle move their alarms with it. -/
def dieLinkFrame (k : Die) (crcOk : Bool) (m : Mates) (s : State) : State :=
  condChanges ((if crcOk then [k] else []) ++ m.dies) m.delays s

/-- DIE_LINK_FRAME. -/
def execDieLinkFrame (k : Die) (crcOk : Bool) (m : Mates) (s : State) : Out := finish (dieLinkFrame k crcOk m s)

/-- The latest write of each condition, in the order made (01 R900). -/
def latestWrites : List AckWrite → List AckWrite
  | [] => []
  | w :: r => if r.any fun x => decide (x.c = w.c) && decide (x.k = w.k) then latestWrites r else w :: latestWrites r

/-- What is held of a die from now on (01 R19, R20): what the controller last saw, and the settings its slices have. -/
def holdOf (k : Die) (s : State) : DieHold :=
  { seen := Vector.ofFn (fun (i : Fin 16) => s.slices[k.val * 16 + i.val])
    cfgs := Vector.ofFn (fun (i : Fin 16) => s.live.ch[k.val * 16 + i.val]) }

/-- Effect of DIE_LINK_FAULT (01 R19, R900): no valid frame for 1 ms. In DEEP the links rest (15 R800). -/
def dieLinkFault (k : Die) (s : State) : State :=
  let d := s.dies[k.val]
  if dieSends s k && d.valid && decide (d.lastFrame + 1000 ≤ s.now) && decide (s.power.mode ≠ .deep) then
    setCause (felink k) true
      { s with dies := upd s.dies k fun d => { d with held := some (holdOf k s), queue := latestWrites d.queue } }
  else s

/-- DIE_LINK_FAULT. -/
def execDieLinkFault (k : Die) (s : State) : Out := finish (dieLinkFault k s)

/-- The settings of a channel when its link returns: as written meanwhile; a mode change that the slice has carried out and
that was not written anew is carried out (02 R49). -/
def returnedCfg (mine slices : ChCfg) (rewritten : Bool) : ChCfg :=
  if slices.staged.isNone && !rewritten then mine.settled else mine

/-- The slices of a die receive the settings written while its link was down, oldest first (01 R18, R20). -/
def deliverSettings (k : Die) (s : State) : State :=
  match (s.dies[k.val]).held with
  | none => s
  | some h =>
    let s := (List.finRange 16).foldl (fun s i =>
      let c : Ch := ⟨k.val * 16 + i.val, by omega⟩
      let f := fun x => returnedCfg x (h.cfgs[i.val]) (h.todo.contains (SettingId.ch c .mode))
      { s with live := { s.live with ch := upd s.live.ch c f } }) s
    h.todo.foldl (fun s i => sliceTakes i s) { s with dies := upd s.dies k fun d => { d with held := none } }

/-- Delivers every kept acknowledge-bit write of a die to its slices (01 R900). -/
def deliverAll (k : Die) (s : State) : State :=
  let ws := (s.dies[k.val]).queue
  ws.foldl (fun s w => takeAck w s) { s with dies := upd s.dies k fun d => { d with queue := [] } }

/-- Effect of DIE_LINK_RESTORED (01 R19, R900). -/
def dieLinkRestored (k : Die) (s : State) : State :=
  if dieSends s k && !(s.dies[k.val]).valid then
    let s := noteFrame k (deliverAll k (deliverSettings k s))
    let s := if s.engine.running then judgeDie k s else s
    setCause (felink k) false s
  else s

/-- DIE_LINK_RESTORED. -/
def execDieLinkRestored (k : Die) (s : State) : Out := finish (dieLinkRestored k s)

/-- Effect of ACK_BIT_WRITE (01 R18, 04 R221): the slice takes the write that the engine made first; a frame whose CRC fails
is discarded, and the write is sent again. -/
def ackBitWrite (k : Die) (crcOk : Bool) (s : State) : State :=
  let d := s.dies[k.val]
  match crcOk && d.valid, d.queue with
  | true, w :: r => takeAck w { s with dies := upd s.dies k fun d => { d with queue := r } }
  | _, _ => s

/-- ACK_BIT_WRITE. -/
def execAckBitWrite (k : Die) (crcOk : Bool) (s : State) : Out := finish (ackBitWrite k crcOk s)

/-- Effect of GROUP_DELAY_EXPIRY (04 R215, R217, R247). -/
def groupDelayExpiry (c : Ch) (k : Cond) (m : Mates) (s : State) : State := condChanges m.dies ((c, k) :: m.delays) s

/-- GROUP_DELAY_EXPIRY. -/
def execGroupDelayExpiry (c : Ch) (k : Cond) (m : Mates) (s : State) : Out := finish (groupDelayExpiry c k m s)

/-- The end of a shelving (04 R215, R216, 09 R487): 0x0106, then the exit rule. While the die link is down the alarm stays
SHELVED (01 R19). -/
def endShelving (c : Ch) (k : Cond) (s : State) : State :=
  let a := s.alarm c k
  match a.st, a.shelfEnd with
  | .shelved, some t =>
    if s.engine.running && linkUp s c && decide (t ≤ s.nodeTime) then
      let s := emit (alarmEvent s c k 0x0106 .shelved .shelved) s
      commit [] (leave true c k (s, []))
    else s
  | _, _ => s

/-- Effect of SHELVING_EXPIRY (04 R260): the condition changes of its engine cycle go first. -/
def shelvingExpiry (c : Ch) (k : Cond) (m : Mates) (s : State) : State := endShelving c k (matesChange m s)

/-- SHELVING_EXPIRY. -/
def execShelvingExpiry (c : Ch) (k : Cond) (m : Mates) (s : State) : Out := finish (shelvingExpiry c k m s)

/-- Effect of G31_EVENT_EXPIRY (04 R250). -/
def g31EventExpiry (m : Member) (s : State) : State :=
  match (s.member m).eventEnd with
  | some t => if t ≤ s.now then setCause m false (onMember m (fun a => { a with eventEnd := none }) s) else s
  | none => s

/-- G31_EVENT_EXPIRY. -/
def execG31EventExpiry (m : Member) (s : State) : Out := finish (g31EventExpiry m s)

/-- Effect of LINE_HOLD_EXPIRY (01 R25): the hold ends and the lines are de-energised until the engine drives them. -/
def lineHoldExpiry (s : State) : State :=
  match s.engine.coreAt, s.engine.hold with
  | some t, some _ =>
    if s.engine.running = false ∧ t + 2 * usSec ≤ s.now ∧ s.power.mode ≠ .deep then
      { s with engine := { s.engine with hold := none } }
    else s
  | _, _ => s

/-- LINE_HOLD_EXPIRY. -/
def execLineHoldExpiry (s : State) : Out := finish (lineHoldExpiry s)

end Sys2Proof.Machine
end

