-- ==== Sys2Proof/Machine/LoopOut.lean ====
section
/-! DEFINITION. The loop outputs: the link's side and the islands (07). Currents are in 0.1 µA. A timer's event acts only once
its time has come (log 2). -/

namespace Sys2Proof.Machine

/-! ## Sources -/

/-- Whether a channel is available as a source, with its value (07 R408): a channel without a value yet is not (log 40). -/
def chSource (s : State) (c : Ch) : Option Rat :=
  if decide ((s.slice c).act.mode ≠ .off) && (s.linkOf c).valid then (s.slice c).value else none

/-- A channel's value in percent of its scaling (07 R409). -/
def percentOf (s : State) (c : Ch) : Option Rat :=
  let a := (s.slice c).act
  (chSource s c).map fun v => 100 * (v - a.eng0) / (a.eng1 - a.eng0)

/-- The worst percent of a group (07 R409). -/
def worstPercent (s : State) (g : Grp) : Option Rat :=
  (((channels s.ident.part).filter fun c => decide ((s.chCfg c).grp = g)).filterMap (percentOf s)).foldl
    (fun acc v => match acc with
      | none => some v
      | some w => some (max w v)) none

/-- The value of a source; none while it is not available (07 R408). -/
def lxSource (s : State) (n : Lx) : LxSrc → Option Rat
  | .none => none
  | .ch c => chSource s c
  | .grp g => worstPercent s g
  | .host => (s.lxOf n).hostval

/-- The scaled current of a value (07 R410). -/
def scaled (cfg : LxCfg) (v : Rat) : Rat :=
  max 40000 (min 205000 (40000 + 160000 * (v - cfg.low) / (cfg.high - cfg.low)))

/-- The setpoint of a scaled current (07 R412). -/
def trimmed (cfg : LxCfg) (i : Rat) : Int :=
  roundAway (i + (cfg.trim4 : Rat) + ((cfg.trim20 - cfg.trim4 : Int) : Rat) * (i - 40000) / 160000)

/-- What the link builds: the scaled current and the setpoint; none while the source is not available (07 R408, R425). -/
def buildSetpoint (s : State) (n : Lx) : Option (Int × Int) :=
  let cfg := s.live.lx[n.val]
  match (s.lxOf n).force with
  | some f => let i : Rat := (f : Rat) * 10
    some (roundAway i, trimmed cfg i)
  | none => match cfg.src with
    | .none => some (40000, 40000)
    | src => (lxSource s n src).map fun v => (roundAway (scaled cfg v), trimmed cfg (scaled cfg v))

/-! ## The link -/

/-- Logs a change of output state (07 R424). -/
def emitLx (n : Lx) (code : BitVec 16) (s : State) : State :=
  emit { time := 0, tunset := false, kind := 4, index := n.val + 1, code := code } s

/-- Whether the link sends frames: it stops in DEEP and, from a core reset, until the engine runs (07 R433). -/
def linkSends (s : State) (n : Lx) : Bool :=
  (s.lxOf n).running && decide (s.power.mode ≠ .deep) && s.engine.coreAt.isNone

/-- HOLD begins or ends (07 R414, R424). -/
def setHold (n : Lx) (v : Bool) (s : State) : State :=
  if (s.lxOf n).hold = v then s
  else emitLx n (if v then 0x0245 else 0x0246) (onLx n (fun x => { x with hold := v }) s)

/-- Effect of SETPOINT_FRAME (07 R412–R414, R422): the first frame after a POWER reset is START. -/
def setpointFrame (n : Lx) (s : State) : State :=
  let x := s.lxOf n
  if linkSends s n && decide (x.nextFrame ≤ s.now) then
    let s := onLx n (fun x => { x with nextFrame := s.now + 10000 }) s
    if x.startDue then onLx n (fun x => { x with startDue := false, inFlight := some .start }) s
    else match buildSetpoint s n with
      | some (i, v) => setHold n false (onLx n (fun x => { x with out := i, last := v, inFlight := some (.setpoint v) }) s)
      | none => setHold n true (onLx n (fun x => { x with inFlight := some (.setpoint x.last) }) s)
  else s

/-- SETPOINT_FRAME. -/
def execSetpointFrame (n : Lx) (s : State) : Out := finish (setpointFrame n s)

/-! ## The island -/

/-- The least frequency of the island clock at a loop current, in kHz (07 R415). -/
def islandLeastKhz (current : Int) : Rat :=
  if 80000 ≤ current then 2000 else 250 + 1750 * (max 0 ((current : Rat) - 38000)) / 42000

/-- The processing time at the loop current that flows, in µs: 4,096 cycles of the island clock, which runs at its least
frequency or above it (07 R415, R416; log 79). -/
def processingUs (current : Int) : Nat :=
  (ceilRat (4096000 / (islandLeastKhz current + (Config.islandExtraKhz current.toNat : Rat)))).toNat

/-- The island begins to process a setpoint (07 R416). -/
def Island.process (now : Tick) (v : Int) (i : Island) : Island :=
  { i with processing := some ⟨v, now + processingUs i.current⟩ }

/-- A frame arrives whole (07 R416, R417, R422, R435). -/
def Island.arrive (now : Tick) (f : SetFrame) (i : Island) : Island :=
  match f with
  | .start => { i with current := if i.folded then i.current else 40000, stored := 40000, processing := none, buffer := none }
  | .setpoint v =>
    if i.folded then { i with stored := v }
    else if i.processing.isSome then { i with buffer := some v }
    else i.process now v

/-- Effect of SETPOINT_ARRIVAL (07 R417, 16 R821): a frame whose check fails is discarded. -/
def setpointArrival (n : Lx) (checkOk : Bool) (s : State) : State :=
  match (s.lxOf n).inFlight with
  | none => s
  | some f => onLx n (fun x => { x with
      inFlight := none, island := if checkOk then x.island.arrive s.now f else x.island }) s

/-- SETPOINT_ARRIVAL. -/
def execSetpointArrival (n : Lx) (checkOk : Bool) (s : State) : Out := finish (setpointArrival n checkOk s)

/-- The processing of a setpoint ends (07 R416, R417). -/
def Island.finish (now : Tick) (i : Island) : Island :=
  match i.processing with
  | none => i
  | some p =>
    let i := { i with current := p.setpoint, stored := p.setpoint, processing := none }
    match i.buffer with
    | some v => Island.process now v { i with buffer := none }
    | none => i

/-- Effect of SETPOINT_PROCESSED (01 R38, 07 R416, R417): once its cycles have been counted. -/
def setpointProcessed (n : Lx) (s : State) : State :=
  match (s.lxOf n).island.processing with
  | some p => if p.ends ≤ s.now then onLx n (fun x => { x with island := x.island.finish s.now }) s else s
  | none => s

/-- SETPOINT_PROCESSED. -/
def execSetpointProcessed (n : Lx) (s : State) : Out := finish (setpointProcessed n s)

/-- Effect of STATUS_FRAME (07 R406, R423, R424, R430, R436, 16 R821): `termv` is the voltage at the pads in 0.1 V. The island
reports LOWV below 8 V, and THERM while it folds back. -/
def statusFrame (n : Lx) (checkOk : Bool) (termv : Nat) (s : State) : State :=
  let x := s.lxOf n
  let lowv := decide (termv < 80)
  let therm := x.island.folded
  if checkOk && x.running && decide (s.power.mode ≠ .deep) then
    let s := onLx n (fun x => { x with lost := false, lowv := lowv, therm := therm, termv := termv, lastStatus := s.now }) s
    let s := if x.lost then emitLx n 0x0241 s else s
    let s := if lowv && !x.lowv then emitLx n 0x0242 s else s
    if therm && !x.therm then emitLx n 0x0243 s
    else if x.therm && !therm then emitLx n 0x0244 s
    else s
  else s

/-- STATUS_FRAME. -/
def execStatusFrame (n : Lx) (checkOk : Bool) (termv : Nat) (s : State) : Out := finish (statusFrame n checkOk termv s)

/-- Effect of ISLAND_LOST (07 R423, R424). -/
def islandLost (n : Lx) (s : State) : State :=
  let x := s.lxOf n
  if x.running && decide (s.power.mode ≠ .deep) && !x.lost && decide (x.lastStatus + 100000 ≤ s.now) then
    emitLx n 0x0240 (onLx n (fun x => { x with lost := true }) s)
  else s

/-- ISLAND_LOST. -/
def execIslandLost (n : Lx) (s : State) : Out := finish (islandLost n s)

/-- Effect of ISLAND_POWER_UP (07 R421): 4.00 mA until its first setpoint. -/
def islandPowerUp (n : Lx) (s : State) : State := onLx n (fun x => { x with island := {} }) s

/-- ISLAND_POWER_UP. -/
def execIslandPowerUp (n : Lx) (s : State) : Out := finish (islandPowerUp n s)

/-- An island folds back (07 R430, R435): the latest setpoint it was sent is stored. -/
def Island.fold (i : Island) : Island :=
  { current := 38000, folded := true
    stored := match i.buffer, i.processing with
      | some v, _ => v
      | none, some p => p.setpoint
      | none, none => i.stored }

/-- Effect of ISLAND_THERMAL_FOLD_BACK (07 R430). -/
def islandThermalFoldBack (n : Lx) (tj : Int) (s : State) : State :=
  if 150 ≤ tj ∧ (s.lxOf n).island.folded = false then onLx n (fun x => { x with island := x.island.fold }) s else s

/-- ISLAND_THERMAL_FOLD_BACK. -/
def execIslandThermalFoldBack (n : Lx) (tj : Int) (s : State) : Out := finish (islandThermalFoldBack n tj s)

/-- Effect of ISLAND_THERMAL_RECOVERY (07 R430, R435): back to the latest stored setpoint. -/
def islandThermalRecovery (n : Lx) (tj : Int) (s : State) : State :=
  if tj ≤ 130 ∧ (s.lxOf n).island.folded = true then
    onLx n (fun x => { x with island := { x.island with folded := false, current := x.island.stored } }) s
  else s

/-- ISLAND_THERMAL_RECOVERY. -/
def execIslandThermalRecovery (n : Lx) (tj : Int) (s : State) : Out := finish (islandThermalRecovery n tj s)

end Sys2Proof.Machine
end

