-- ==== Sys2Proof/Machine/Panel.lean ====
section
/-! DEFINITION. The annunciator panel: segment sources and their image, the rails, frames and line writes, and powering down
(08). The engine's bit pairs are brought up to date when the driver reads them (log 41). -/

namespace Sys2Proof.Machine

/-- Changes the panel driver. -/
def onPanel (f : Panel → Panel) (s : State) : State := { s with panel := f s.panel }

/-- Changes one panel flag: 0 VLCDF, 1 VHVF, 2 DIRTY (08 R479). -/
def onPanelFlag (b : Fin 3) (f : Flag → Flag) (s : State) : State :=
  onPanel (fun p => { p with flags := upd p.flags b f }) s

/-! ## Sources -/

/-- Active and unacknowledged of an alarm state (08 R454). -/
def alarmShows (a : AlarmState) : Bool × Bool :=
  (decide (a = .activeUnack) || decide (a = .activeAck), decide (a = .activeUnack) || decide (a = .returnUnack))

/-- Active and unacknowledged of a remote alarm: the last state received (08 R455). -/
def remoteShows (s : State) (n : NodeNo) (key : AlarmKey) : Bool × Bool :=
  match remoteState s n key with
  | some b => (decide (b.state = 2) || decide (b.state = 3), decide (b.state = 2) || decide (b.state = 4))
  | none => (false, false)

/-- Whether a node is ready as the panel shows it (08 R454). -/
def nodeShows (s : State) (n : NodeNo) : Bool :=
  if n = s.watch.node then s.engine.running else (s.watch.peers[n.val]).heard && (s.watch.peers[n.val]).ready

/-- Active and unacknowledged of a source other than UANY (08 R454). -/
def srcShows (s : State) : SegSrc → Bool × Bool
  | .cond none c k => alarmShows (s.alarm c k).st
  | .cond (some n) c k => if n = s.watch.node then alarmShows (s.alarm c k).st else remoteShows s n (.cond c k)
  | .grp none g => alarmShows s.engine.gstate[g.val]
  | .grp (some n) g => if n = s.watch.node then alarmShows s.engine.gstate[g.val] else remoteShows s n (.grp g)
  | .member none m => alarmShows (s.member m).st
  | .member (some n) m => if n = s.watch.node then alarmShows (s.member m).st else remoteShows s n (.member m)
  | .stage1 => (coSrcActive s .stage1, false)
  | .stage2 => (coSrcActive s .stage2, false)
  | .stage3 => (coSrcActive s .stage3, false)
  | .node n => (nodeShows s n, false)
  | .lead n => (decide (s.watch.lead = some n), false)
  | .uany => (false, false)
  | .on => (true, false)
  | .off => (false, false)

/-- Whether any source mapped on the panel is unacknowledged (08 R454). -/
def anyUnack (s : State) : Bool :=
  s.live.panel.seg.toList.any fun row => row.toList.any fun x => (srcShows s x.src).2

/-- Active and unacknowledged of a segment's source. -/
def segShows (s : State) (x : Segment) : Bool × Bool :=
  match x.src with
  | .uany => (anyUnack s, false)
  | src => srcShows s src

/-- The bits of a row of 80. -/
def rowBits (l : List Bool) : Segs := BitVec.ofNat 80 (l.foldr (fun b n => 2 * n + (if b then 1 else 0)) 0)

/-- The engine writes the bit pairs of one common line; without the engine they keep what they hold, but for the segment of
the own node, which goes off when the hold of a core reset has ended (08 R469, R470). -/
def refreshLine (k : Fin 8) (s : State) : State :=
  let row := (s.live.panel.seg[k.val]).toList
  if s.engine.running then
    onPanel (fun p => { p with
      bankActive := upd p.bankActive k fun _ => rowBits (row.map fun x => (segShows s x).1)
      bankUnack := upd p.bankUnack k fun _ => rowBits (row.map fun x => (segShows s x).2) }) s
  else if s.engine.hold.isNone && s.engine.coreAt.isSome then
    let own := rowBits (row.map fun x => decide (x.src = .node s.watch.node))
    onPanel (fun p => { p with bankActive := upd p.bankActive k fun b => b &&& ~~~own }) s
  else s

/-- The engine writes every bit pair. -/
def refreshBank (s : State) : State := (List.finRange 8).foldl (fun s k => refreshLine k s) s

/-! ## The image -/

/-- Which segments of a line carry the unacknowledged marker. -/
def markers (s : State) (k : Fin 8) : Segs := rowBits ((s.live.panel.seg[k.val]).toList.map fun x => x.marker)

/-- The part of the second in which a segment of a TN panel that blinks is on (08 R456, R457). -/
def blinkOn (nodeTime len : Nat) : Bool := decide (nodeTime % usSec < len)

/-- All segments of a line on, or none. -/
def allSegs (b : Bool) : Segs := if b then BitVec.allOnes 80 else 0

/-- The image of one line (08 R456, R461). -/
def imageLine (s : State) (k : Fin 8) : Segs :=
  let p := s.panel
  if p.testEnd.isSome then BitVec.allOnes 80
  else
    let a := p.bankActive[k.val]
    let u := p.bankUnack[k.val]
    let m := markers s k
    let plain := if p.type = .bch then a
      else (a &&& ~~~u) ||| (a &&& u &&& allSegs (blinkOn s.nodeTime 500000)) |||
        (~~~a &&& u &&& allSegs (blinkOn s.nodeTime 250000))
    (m &&& u) ||| (~~~m &&& plain)

/-- The driver reads the whole image (08 R458). -/
def drawAll (s : State) : State :=
  let s := refreshBank s
  onPanel (fun p => { p with glass := Vector.ofFn fun k => imageLine s k }) s

/-- The driver reads one line at the start of its write (08 R459). -/
def drawLine (k : Fin 8) (s : State) : State :=
  let s := refreshLine k s
  onPanel (fun p => { p with
    line := k, startAt := s.now, writing := true, glass := upd p.glass k (fun _ => imageLine s k)
    dirtyLines := p.dirtyLines &&& ~~~(BitVec.ofNat 8 (2 ^ k.val)) }) s

/-- The DIRTY cause takes a value. -/
def setDirty (v : Bool) (s : State) : State := onPanelFlag 2 (Flag.drive v) s

/-! ## Rails -/

/-- Logs a panel event (09 R481). -/
def emitPanel (code : BitVec 16) (s : State) : State := emitBlock 3 code 0 [] s

/-- What the driver waits for after it has powered down or restarted (08 R439, R448). -/
def restPhase (t : PanelType) : PanelPhase := if t = .off then .off else .waiting

/-- Takes the settings written as the settings in force. -/
def takeDrive (s : State) : State :=
  onPanel (fun p => { p with
    type := s.live.panel.type, drive := s.live.panel, typeDue := false, driveDue := false, rewriteDue := false }) s

/-- The causes of VLCDF and VHVF end (08 R477, log 80). -/
def railsForgiven (s : State) : State := onPanelFlag 0 (Flag.drive false) (onPanelFlag 1 (Flag.drive false) s)

/-- The driver is off or waits, after its sequence or at once (08 R439, R462, R463): a TN picture is gone, a BCH line keeps
its picture. -/
def atRest (s : State) : State :=
  let s := takeDrive (railsForgiven (onPanel (fun p => { p with
    glass := if p.type = .tn then .replicate 8 0 else p.glass, vhvTenths := 0, backlight := false, writing := false }) s))
  onPanel (fun p => { p with phase := restPhase p.type }) s

/-- The discharge begins (08 R462, R463): with every electrode equipotential a TN panel shows nothing. -/
def discharge (s : State) : State :=
  onPanel (fun p => { p with
    backlight := false, writing := false, phase := .discharging 1 s.now
    glass := if p.type = .tn then .replicate 8 0 else p.glass }) s

/-- Whether a frame, or a line write, is in progress (08 R462, R463, R472). -/
def drawing (p : Panel) : Bool :=
  match p.phase with
  | .clearFrame _ | .imageFrame _ | .run => decide (p.type = .tn) || p.writing
  | _ => false

/-- Powers the driver down (08 R462, R463, R475): BL_EN low, the slot or line in progress to its end, then the discharge. -/
def powerDown (s : State) : State :=
  match s.panel.phase with
  | .off | .waiting | .discharging _ _ => onPanel (fun p => { p with backlight := false }) s
  | .fault _ => atRest s
  | _ =>
    if drawing s.panel then onPanel (fun p => { p with backlight := false, phase := .discharging 0 s.now }) s
    else discharge s

/-- Whether the rails may rise (08 R448, R467, R471, 14 R757, 15 R794). -/
def railsMayRise (s : State) : Bool :=
  s.engine.running && configLoaded s.rst.phase && !s.flags.pwrWarn.live && decide (s.power.mode = .run) &&
    !(s.bank .image).ownerHeld

/-- Effect of RAIL_START (08 R448, R450, R468). -/
def railStart (s : State) : State :=
  if decide (s.panel.phase = .waiting) && railsMayRise s then
    setDirty true (onPanel (fun p => { p with phase := .risingVlcd s.now, backlight := false }) s)
  else s

/-- RAIL_START. -/
def execRailStart (s : State) : Out := finish (railStart s)

/-- The clear frame starts (08 R441, R449): in BCH mode its first line write. -/
def startClear (s : State) : State :=
  onPanel (fun p => { p with
    phase := .clearFrame 0, parity := false, line := 0, startAt := s.now, writing := decide (p.type = .bch)
    glass := if p.type = .bch then upd p.glass 0 (fun _ => 0) else .replicate 8 0 }) s

/-- Effect of VLCD_READY (08 R450). -/
def vlcdReady (s : State) : State :=
  match s.panel.phase with
  | .risingVlcd t =>
    if s.panel.type = .bch then onPanel (fun p => { p with phase := .risingVhv t }) s else startClear s
  | _ => s

/-- VLCD_READY. -/
def execVlcdReady (s : State) : Out := finish (vlcdReady s)

/-- Whether a VHV measured, in 0.1 V, is within 2 % of the set value in force (08 R447, 16 R822). -/
def vhvInBand (drive : PanelCfg) (tenths : Nat) : Bool :=
  decide (drive.vhv * 10 * 98 ≤ tenths * 100) && decide (tenths * 100 ≤ drive.vhv * 10 * 102)

/-- The driver of a BCH panel measures VHV (08 R479). -/
def vhvRead (tenths : Nat) (s : State) : State :=
  onPanel (fun p => { p with vhvTenths := if p.type = .bch then tenths else 0 }) s

/-- Effect of VHV_READY (08 R447, R450, R479): the boost measures VHV; within 2 % the clear frame starts. -/
def vhvReady (tenths : Nat) (s : State) : State :=
  match s.panel.phase with
  | .risingVhv _ =>
    let s := vhvRead tenths s
    if vhvInBand s.panel.drive tenths then startClear s else s
  | _ => s

/-- VHV_READY. -/
def execVhvReady (tenths : Nat) (s : State) : Out := finish (vhvReady tenths s)

/-- Effect of RAIL_TIMEOUT (08 R451). -/
def railTimeout (s : State) : State :=
  let fail := fun (b : Fin 3) (code : BitVec 16) =>
    emitPanel code (onPanelFlag b (Flag.drive true) (onPanel (fun p => { p with phase := .fault s.now }) s))
  match s.panel.phase with
  | .risingVlcd t => if t + 5000 ≤ s.now then fail 0 0x0250 else s
  | .risingVhv t => if t + 25000 ≤ s.now then fail 1 0x0251 else s
  | _ => s

/-- RAIL_TIMEOUT. -/
def execRailTimeout (s : State) : Out := finish (railTimeout s)

/-- Effect of RAIL_RETRY (08 R451, R468). -/
def railRetry (s : State) : State :=
  match s.panel.phase with
  | .fault t =>
    if t + 10 * usSec ≤ s.now ∧ railsMayRise s = true then
      setDirty true (railsForgiven (onPanel (fun p => { p with phase := .risingVlcd s.now, vhvTenths := 0 }) s))
    else s
  | _ => s

/-- RAIL_RETRY. -/
def execRailRetry (s : State) : Out := finish (railRetry s)

/-! ## Frames and lines -/

/-- Takes the drive settings that wait for a boundary; a new VHV or VLCD of a BCH panel leaves every line to be written anew
(08 R473). -/
def boundaryDrive (s : State) : State :=
  if s.panel.driveDue then onPanel (fun p => { p with
    drive := s.live.panel, driveDue := false, rewriteDue := false
    dirtyLines := if p.rewriteDue then BitVec.allOnes 8 else p.dirtyLines }) s
  else s

/-- The image frame is complete: the light comes on (08 R449). -/
def lightOn (s : State) : State := onPanel (fun p => { p with phase := .run, backlight := true }) s

/-- Whether the frame in progress has lasted its period, 1 / PANEL.FRAME (08 R450). -/
def frameOver (s : State) : Bool := decide (usSec ≤ (s.now - s.panel.startAt) * s.panel.drive.frame)

/-- The next TN frame: with a new type the power-down, else the image as it is now (08 R441, R458, R472, R473). -/
def nextFrame (s : State) : State :=
  if s.panel.typeDue then discharge s
  else drawAll (boundaryDrive (onPanel (fun p => { p with parity := !p.parity, startAt := s.now }) s))

/-- Effect of FRAME_BOUNDARY (08 R440, R449, R458): after the image frame the image is current (R467). -/
def frameBoundary (s : State) : State :=
  if s.panel.type = .tn ∧ frameOver s = true then
    match s.panel.phase with
    | .clearFrame _ => nextFrame (onPanel (fun p => { p with phase := .imageFrame 0 }) s)
    | .imageFrame _ => nextFrame (setDirty false (lightOn s))
    | .run => nextFrame s
    | _ => s
  else s

/-- FRAME_BOUNDARY. -/
def execFrameBoundary (s : State) : Out := finish (frameBoundary s)

/-- The next line in order after one that has changed or is dirty (08 R445, R459). -/
def nextLine (s : State) : Option (Fin 8) :=
  ((List.finRange 8).map fun i => s.panel.line + 1 + i).find? fun k =>
    s.panel.dirtyLines.getLsbD k.val || decide (imageLine s k ≠ s.panel.glass[k.val])

/-- Goes on in `run`: with every dirty line written the image is current, and the next line that has changed is written (08
R445, R468, R473, 16 R822). -/
def runLines (s : State) : State :=
  let s := refreshBank (boundaryDrive s)
  let s := if s.panel.dirtyLines = 0 ∧ s.flags.pwrWarn.live = false then setDirty false s else s
  match nextLine s with
  | some k => drawLine k s
  | none => onPanel (fun p => { p with writing := false }) s

/-- Whether the line write in progress, if any, has lasted PANEL.BCHLINE (08 R443). -/
def lineOver (s : State) : Bool := !s.panel.writing || decide (s.panel.startAt + s.panel.drive.bchline * 1000 ≤ s.now)

/-- The line written is judged by the VHV measured meanwhile: out of its band it is dirty (08 R479, 16 R822). -/
def judgeLine (tenths : Nat) (s : State) : State :=
  let s := vhvRead tenths s
  if !s.panel.writing || vhvInBand s.panel.drive tenths then s
  else setDirty true (onPanel (fun p => { p with dirtyLines := p.dirtyLines ||| BitVec.ofNat 8 (2 ^ p.line.val) }) s)

/-- The line after line `k` of the clear frame, or the first of the image frame (08 R449, R473). -/
def clearNext (k : Fin 8) (s : State) : State :=
  if k = 7 then drawLine 0 (boundaryDrive (onPanel (fun p => { p with phase := .imageFrame 0 }) s))
  else onPanel (fun p => { p with
    phase := .clearFrame (k + 1), line := k + 1, startAt := s.now, writing := true
    glass := upd p.glass (k + 1) (fun _ => 0) }) s

/-- The line after line `k` of the image frame; after the last the light comes on and the driver goes on in `run` (08 R449,
R468). -/
def imageNext (k : Fin 8) (s : State) : State :=
  if k = 7 then runLines (lightOn s)
  else drawLine (k + 1) (onPanel (fun p => { p with phase := .imageFrame (k + 1) }) s)

/-- Effect of BCH_LINE_WRITE_END (08 R443, R445, R449, R459, R472, 16 R822). With no write in progress it is the driver's next
look at the image (log 41). -/
def bchLineWriteEnd (tenths : Nat) (s : State) : State :=
  if s.panel.type = .bch ∧ lineOver s = true then
    match s.panel.phase with
    | .clearFrame k =>
      let s := vhvRead tenths s
      if s.panel.typeDue then discharge s else clearNext k s
    | .imageFrame k =>
      let s := judgeLine tenths s
      if s.panel.typeDue then discharge s else imageNext k s
    | .run =>
      let s := judgeLine tenths s
      if s.panel.typeDue then discharge s else runLines s
    | _ => s
  else s

/-- BCH_LINE_WRITE_END. -/
def execBchLineWriteEnd (tenths : Nat) (s : State) : Out := finish (bchLineWriteEnd tenths s)

/-- Whether a common slot of the TN frame has ended since a time (08 R440, R462). -/
def slotEnded (p : Panel) (since now : Tick) : Bool :=
  let slots := fun (t : Tick) => (t - p.startAt) * 8 * p.drive.frame / usSec
  decide (slots since < slots now)

/-- Effect of DISCHARGE_STEP_END (08 R462, R463): the slot or line in progress ends; then for a TN panel 2 frames at 200 Hz and
the ladder shorted for 20 ms; for a BCH panel VHV collapses. -/
def dischargeStepEnd (s : State) : State :=
  let tn := decide (s.panel.type = .tn)
  match s.panel.phase with
  | .discharging 0 t =>
    if (if tn then slotEnded s.panel t s.now else lineOver s) then discharge s else s
  | .discharging 1 t =>
    if tn then
      (if t + 10000 ≤ s.now then onPanel (fun p => { p with phase := .discharging 2 s.now }) s else s)
    else atRest s
  | .discharging _ t => if t + 20000 ≤ s.now then atRest s else s
  | _ => s

/-- DISCHARGE_STEP_END. -/
def execDischargeStepEnd (s : State) : Out := finish (dischargeStepEnd s)

/-- Effect of PANEL_TEST_EXPIRY (08 R461). -/
def panelTestExpiry (s : State) : State :=
  match s.panel.testEnd with
  | some t => if t ≤ s.now then onPanel (fun p => { p with testEnd := none }) s else s
  | none => s

/-- PANEL_TEST_EXPIRY. -/
def execPanelTestExpiry (s : State) : Out := finish (panelTestExpiry s)

/-! ## What other families do to the panel -/

/-- PWRWARN reaches the panel (08 R462–R464, R475). -/
def panelWarn (s : State) : State := powerDown (emitPanel 0x0252 (setDirty true s))

/-- A write of PANEL.TYPE takes effect, one of the present value like any other (08 R472, 11 R603): at the end of the frame or
line in progress, or at once where none is. -/
def takeType (s : State) : State :=
  match s.panel.phase with
  | .off | .waiting | .fault _ => atRest s
  | _ =>
    let s := onPanel (fun p => { p with typeDue := true }) s
    if drawing s.panel then s else powerDown s

/-- The driver after a SYSTEM or POWER reset, or a block reset: pads to ground (08 R448, R466, 15 R787); a BCH panel keeps
its picture. The flags stand apart. -/
def freshPanel (type : PanelType) (cfg : PanelCfg) (p : Panel) : Panel :=
  { phase := restPhase type, type := type, drive := cfg
    glass := if p.type = .tn then .replicate 8 0 else p.glass, flags := p.flags }

end Sys2Proof.Machine
end

