-- ==== Sys2Proof/Machine/LineOps.lean ====
section
/-! DEFINITION. Command lines: how a line is taken, the order of its refusals, its reply and the sessions (10, 11, 12). -/

namespace Sys2Proof.Machine

/-! ## Replies -/

/-- The text of an error code (11 R631). -/
def errText : Err → Text
  | .e01 => txt "E01 synta" ++ txt "x" | .e02 => txt "E02 line check failed" | .e03 => txt "E03 unknown name"
  | .e04 => txt "E04 out of range" | .e05 => txt "E05 order conflict" | .e06 => txt "E06 role insufficient"
  | .e07 => txt "E07 safety partition closed" | .e08 => txt "E08 busy" | .e09 => txt "E09 array in use by script"
  | .e10 => txt "E10 cancel too late" | .e11 => txt "E11 queue full" | .e12 => txt "E12 entry not owned"
  | .e13 => txt "E13 clock target not running" | .e14 => txt "E14 proof failed" | .e15 => txt "E15 locked out"
  | .e16 => txt "E16 log clear in progress" | .e17 => txt "E17 storage fault" | .e18 => txt "E18 not lead"

/-- An error code's number, 0 for OK (11 R629). -/
def errNo : Option Err → Nat
  | none => 0
  | some e => posIn [Err.e01, .e02, .e03, .e04, .e05, .e06, .e07, .e08, .e09, .e10, .e11, .e12, .e13, .e14, .e15, .e16,
      .e17, .e18] e + 1

/-- The status of a reply without a tag (11 R594). -/
def statusOf : Option Err → Text
  | none => txt "OK"
  | some e => errText e

/-- The status line (11 R589, R591, R594). -/
def statusLine (tag : Option Text) (e : Option Err) : Text :=
  statusOf e ++ (match tag with
    | some t => if e = some .e02 then [] else txt " #" ++ t
    | none => [])

/-- The data lines that fit beside a MORE line, and the place at which they end (11 R597). -/
def fitting (eol room base : Nat) : List Text → Nat → List Text
  | [], _ => []
  | l :: r, k =>
    let more := (txt "= MORE " ++ showNat (base + k + 2)).length + eol
    if l.length + eol + more ≤ room then l :: fitting eol (room - (l.length + eol)) base r (k + 1) else []

/-- The bytes of a row of lines with their ends. -/
def linesBytes (eol : Nat) (ls : List Text) : Nat := ls.foldl (fun n l => n + l.length + eol) 0

/-- The data lines of a reply, each of 250 characters at most, within 4,095 bytes (11 R594, R595, R597). -/
def fitReply (eol : Nat) (tag : Option Text) (r : Reply) : Reply :=
  let ls := r.data.map fun l => l.take 250
  let st := (statusLine tag r.err).length + eol
  if linesBytes eol ls + st ≤ 4095 then { r with data := ls }
  else
    let kept := fitting eol (4095 - st) r.base ls 0
    { r with data := kept ++ [txt "= MORE " ++ showNat (r.base + kept.length + 1)] }

/-- A data line of a name and its value (11 R596). -/
def dataLine (name value : Text) : Text :=
  txt "= " ++ name ++ (if value = [] then [] else txt " " ++ value)

/-- A reply without data lines. -/
def plainReply (e : Option Err) : Reply := { err := e }

/-- A refusal. -/
def refused (e : Err) (s : State) : State × Option Reply := (s, some (plainReply (some e)))

/-- OK without data lines. -/
def ok (s : State) : State × Option Reply := (s, some (plainReply none))

/-- OK with data lines. -/
def okLines (ls : List Text) (s : State) : State × Option Reply := (s, some { data := ls })

/-- A reply held back until work in another domain ends (10 R543, R554). -/
def held (s : State) : State × Option Reply := (s, none)

/-! ## Sessions -/

/-- A console's session. -/
def consoleOf (s : State) (k : Fin 16) : Option Console := s.interp.consoles.find? fun c => decide (c.k = k)

/-- Changes a console's session. -/
def onConsole (k : Fin 16) (f : Console → Console) (s : State) : State :=
  { s with interp := { s.interp with consoles := s.interp.consoles.map fun c => if c.k = k then f c else c } }

/-- The session of a line. -/
def sessOf (s : State) : Sess → Session
  | .host => s.port.sess
  | .console k => ((consoleOf s k).map (·.sess)).getD {}
  | .script _ => {}

/-- Changes a session. -/
def onSess (who : Sess) (f : Session → Session) (s : State) : State :=
  match who with
  | .host => { s with port := { s.port with sess := f s.port.sess } }
  | .console k => onConsole k (fun c => { c with sess := f c.sess }) s
  | .script _ => s

/-- The role with which a line runs (11 R600, R621, R627). -/
def roleOf (s : State) (who : Sess) : Role :=
  match who with
  | .script _ => (s.interp.script.map (·.role)).getD .observer
  | w => (sessOf s w).role

/-- Whether a line's role is a role or higher (12 R638). -/
def may (s : State) (h : LineHdr) (need : Role) : Bool := roleOk (roleOf s h.sess) need

/-- HP.CRC and HP.ATTN as written take effect (10 R574). -/
def portTakes (s : State) : State :=
  { s with port := { s.port with crcRequired := s.live.hp.crcRequired, attn := s.live.hp.attn } }

/-- The end of a reply: the idle time counts from it, and settings that take effect then do (10 R561, R574, 12 R653, R687). -/
def replyEnds (who : Sess) (s : State) : State :=
  portTakes (onSess who (fun x => { x with idleSince := s.now, timeout := s.live.secTimeout }) s)

/-- Whether a session is in progress: a console's while it has one, the host port's while it holds a role above OBSERVER, a
pending nonce or a FORCE setting (07 R426, 12 R651, R652; log 50). -/
def inProgress (s : State) : Sess → Bool
  | .host => decide (s.port.sess.role ≠ .observer) || s.port.sess.nonce.isSome ||
      s.lx.toList.any fun o => decide (o.forceBy = some .host)
  | .console k => (consoleOf s k).isSome
  | .script _ => false

/-- The end of a session, with its record (12 R652); its FORCE settings end with it (07 R426). -/
def endSession (who : Sess) (cause : Nat) (s : State) : State :=
  if inProgress s who then
    let s := emitSess who 0x0503 0 [cause] s
    let s := { s with lx := s.lx.map fun o => if o.forceBy = some who then { o with force := none, forceBy := none } else o }
    match who with
    | .console k => { s with interp := { s.interp with consoles := s.interp.consoles.filter fun c => decide (c.k ≠ k) } }
    | w => onSess w (fun y => { y with role := .observer, nonce := none }) s
  else s

/-- A timeout that has come goes before the latch point of a line (12 R653). -/
def timeoutFirst (who : Sess) (s : State) : State :=
  let x := sessOf s who
  match who with
  | .script _ => s
  | .host =>
    if inProgress s .host ∧ x.idleSince + x.timeout * usSec ≤ s.now then
      onHpEvent 7 Flag.pulse (endSession who 1 s) else s
  | .console _ => s

/-! ## Frames to a console -/

/-- The bytes over which a console MAC is formed: identifier, payload bytes 0–7 and data (06 R370). -/
def consoleMacBytes (id counter len : Nat) (last : Bool) (data : List Byte) : List Byte :=
  beBytes 4 id ++ leBytes 4 counter ++ [BitVec.ofNat 8 len, if last then 1 else 0, 0, 0] ++ data

/-- A console MAC: the first 8 bytes of the HMAC (06 R370); 0 before a proof (06 R376). -/
def consoleMac (key : Option (BitVec 128)) (bytes : List Byte) : BitVec 64 :=
  match key with
  | none => 0
  | some k => BitVec.ofNat 64 (ofBytesBe ((hmac (beBytes 16 k.toNat) bytes).take 8))

/-- Sends one frame to a console (06 R372–R374): kind 0 DATA, 1 OPEN, 2 CLOSE, 3 ABORT. -/
def sendConsole (k : Fin 16) (kind segment : Nat) (last : Bool) (data : List Byte) (s : State) : State :=
  let c := (consoleOf s k).getD { k := k }
  let id := pyselId 3 0x50 s.watch.node.val (consoleDetail true k kind segment)
  let mac := consoleMac c.key (consoleMacBytes id c.txCounter data.length last data)
  onConsole k (fun c => { c with txCounter := c.txCounter + 1 })
    (send (.console k kind segment c.txCounter last mac data) s)

/-- Cuts bytes into segments of 48 (06 R373), within a bound. -/
def segments : Nat → List Byte → List (List Byte)
  | 0, _ => []
  | n + 1, bs => if bs.length ≤ 48 then [bs] else bs.take 48 :: segments n (bs.drop 48)

/-- Sends one line to a console in its segments (06 R372, R373). -/
def sendConsoleLine (k : Fin 16) (line : Text) (s : State) : State :=
  let segs := segments 90 (textBytes line)
  (segs.zip (List.range segs.length)).foldl
    (fun s p => sendConsole k 0 p.2 (decide (p.2 + 1 = segs.length)) p.1 s) s

/-! ## Scripts -/

/-- Sxx.Lnn of a line number counted from 1 (11 R583). -/
def lineText (n : Script) (l : Nat) : Text := scriptText n ++ txt ".L" ++ showPadded 2 l

/-- Sends a reply to a host or console line that waits for it. -/
def answer (w : Waiter) (r : Reply) (s : State) : State :=
  match w.sess with
  | .host =>
    if w.no ≠ 0 ∧ s.port.answer.no = w.no ∧ s.port.answer.reply = none then
      let eol := if s.port.async then 2 else 1
      replyEnds .host
        { s with port := { s.port with
          answer := { s.port.answer with reply := some (fitReply eol s.port.answer.tag r) }
          out := if s.port.async then 0 else 0x04 } }
    else s
  | .console k =>
    match consoleOf s k with
    | some c =>
      if w.no ≠ 0 ∧ c.answer.no = w.no ∧ c.answer.reply = none then
        let r := fitReply 1 c.answer.tag r
        let s := onConsole k (fun c => { c with
          answer := { c.answer with reply := some r }
          key := match c.newKey with
            | some x => some x
            | none => c.key
          newKey := none }) s
        replyEnds (.console k)
          ((r.data ++ [statusLine c.answer.tag r.err]).foldl (fun s l => sendConsoleLine k l s) s)
      else s
    | none => s
  | .script _ => s

/-- The end of a script: cause 0 end, 1 refused line, 2 STOP (11 R625, R626, R629). -/
def endScript (run : Running) (err : Option Err) (cause : Nat) (s : State) : State :=
  let n := run.script
  let data :=
    (match err with
      | some e => [txt "= " ++ lineText n run.last ++ txt " " ++ errText e]
      | none => []) ++
    [txt "= " ++ scriptText n ++ (if cause = 2 then txt " STOPPED L" else txt " END L") ++ showPadded 2 run.last]
  let s := emitSess (.script n) 0x0407 0 [n.val, run.last, errNo err, cause] s
  let s := { s with
    interp := { s.interp with script := none, ends := upd s.interp.ends n fun _ => some ⟨run.last, err⟩ }
    rst := if run.boot then { s.rst with phase := .opening } else s.rst }
  if run.boot then s else answer run.by_ { data := data, err := err } s

/-- The status of a script line: the next line follows, or the script ends (11 R622, R626). -/
def scriptStatus (r : Reply) (s : State) : State :=
  match s.interp.script with
  | none => s
  | some run =>
    let run := { run with waiting := none }
    match r.err with
    | some e => endScript run (some e) 1 s
    | none =>
      if run.stop then endScript run none 2 s
      else if run.todo = [] then endScript run none 0 s
      else { s with interp := { s.interp with script := some run } }

/-- Sends a reply to the line that waits for it: none where the line was abandoned (10 R562). -/
def deliver (w : Waiter) (r : Reply) (s : State) : State :=
  match w.sess with
  | .script _ => match s.interp.script with
    | some run => if run.waiting = some w.no then scriptStatus r (portTakes s) else s
    | none => s
  | _ => answer w r s

/-- The end of flash work begun by a line: STOREDONE for a line of the host port (10 R566). -/
def storeDone (w : Waiter) (s : State) : State := if w.host then onHpEvent 6 Flag.pulse s else s

/-! ## Taking a line -/

/-- Whether a session takes a line now: the host port is open, its rate is known or its transaction runs, and no reply is
awaited (10 R537, R545, R553, R569); a console has a session and has sent its line's last segment (06 R378). -/
def lineHeard (s : State) : Sess → Bool
  | .host =>
    s.port.opened && s.interp.running && (if s.port.async then s.port.baud.isSome else s.port.transaction) &&
      (s.port.answer.no = 0 || s.port.answer.reply.isSome)
  | .console k => s.interp.running && (match consoleOf s k with
    | some c => c.complete && (c.answer.no = 0 || c.answer.reply.isSome)
    | none => false)
  | .script _ => false

/-- Whether a line carries a check that does not match its characters (11 R590, R591). -/
def checkFails (h : LineHdr) : Bool :=
  match h.check with
  | some c => decide (crc8 h.text ≠ c)
  | none => false

/-- The characters of a line, its check included (11 R578, R582). -/
def lineLength (h : LineHdr) : Nat := h.text.length + (if h.check.isSome then 4 else 0)

/-- Whether a line breaks the rules of a line's characters, or its verb's form (11 R578, R631, 10 R552). -/
def malformed (h : LineHdr) : Bool := h.badForm || decide (255 < lineLength h) || h.text.any fun c => !printable c

/-- What is refused of a line before its words are looked at (11 R601): E02, then E01; then, at a console without a
proof, every line but LOGIN and PROVE (06 R376). -/
def lineCheck (h : LineHdr) (verb : Text) (s : State) : Option Err :=
  if h.corrupt || checkFails h || (h.check = none && h.sess = .host && s.port.crcRequired) then some .e02
  else if malformed h then some .e01
  else match h.sess with
    | .console k =>
      if (consoleOf s k).any (fun c => c.key.isSome) || verb = txt "LOGIN" || verb = txt "PROVE" then none else some .e06
    | _ => none

/-- The number and kind of the line taken last. -/
def waiter (h : LineHdr) (s : State) : Waiter :=
  { sess := h.sess, no := s.interp.count, host := match h.sess with
      | .host => true
      | .console _ => false
      | .script _ => s.interp.script.any fun r => !r.boot && decide (r.by_.sess = .host) }

/-- Numbers a line and makes it the session's present line (10 R577). -/
def takeLine (h : LineHdr) (verb : Text) (s : State) : State :=
  let n := s.interp.count + 1
  let s := { s with interp := { s.interp with count := n, wdi := s.live.power.wdi } }
  let a : Answer := { verb := verb, tag := h.tag, no := n }
  match h.sess with
  | .host => { s with port := { s.port with
      last := s.port.answer, answer := a, line := [], inLine := false, latched := none
      out := if s.port.async then 0 else 0x16 } }
  | .console k => onConsole k (fun c => { c with answer := a, buf := [], complete := false }) s
  | .script _ => s

/-- Runs a line: its checks, its work, and its reply unless that is held back (10 R557, 11 R601). -/
def runLine (h : LineHdr) (verb : Text) (body : State → State × Option Reply) (s : State) : State :=
  if lineHeard s h.sess then
    let s := thawView (timeoutFirst h.sess s)
    let e := lineCheck h verb s
    let s := takeLine h verb s
    match e with
    | some x => deliver (waiter h s) (plainReply (some x)) s
    | none =>
      let w := waiter h s
      match body s with
      | (s, some r) => deliver w r s
      | (s, none) => s
  else s

end Sys2Proof.Machine
end

