-- ==== Sys2Proof/Machine/Slice.lean ====
section
/-! DEFINITION. The channel slice's events: conversions with the changes made at their boundary, open tests, delays, the
limiter, the loop supply, heat and the espresso comparators (02, 04). A timer's event acts only once its time has come
(log 2). -/

namespace Sys2Proof.Machine

/-- Whether a channel is fitted and its die released. -/
def sliceRuns (s : State) (c : Ch) : Bool := chFitted s.ident.part c && diesReleased s.rst.phase

/-! ## The boundary -/

/-- A mode change takes effect (02 R49, R78, R81, R85, R87, R134, R901, R902, 03 R143, R184, R194): the slice starts in the
new mode with its temperature, its flags' latched bits and the conditions that exist in both modes. -/
def enterMode (cfg : ChCfg) (rate : Fin 11) (now : Tick) (x : Slice) : Slice :=
  let a := activeOf cfg rate
  holdMissing cfg.mode { x with
    front := frontOf cfg.mode
    act := a
    range := startRange cfg.mode cfg.set.range
    rangeDue := false
    rangeLocked := false
    prev := none
    prevSat := false
    lockout := 0
    grounds := false
    openTest := decide (cfg.mode ≠ .off)
    newRate := false
    code := none
    codeRange := .none
    marks := {}
    value := none
    openCause := false
    pinCause := false
    compCause := false
    acrangeCause := false
    limiter := .idle
    misw := false
    rss := .off
    line := none
    trip := startTrip cfg.set
    lamp := startLamp cfg now }

/-- The flags whose causes end with the old mode (02 R124): all but THERM and TRIP. -/
def clearCauses (c : Ch) (s : State) : State :=
  ([0, 1, 2, 3, 5, 6, 7, 8, 9, 11] : List (Fin 12)).foldl (fun s b => onChFlag c b (Flag.drive false) s) s

/-- A pending mode change takes effect (02 R49). -/
def boundaryMode (c : Ch) (s : State) : State :=
  let cfg := (s.sliceCfg c).settled
  let s := onSliceCfg c (fun _ => cfg) s
  clearCauses c (wireStep c (enterMode cfg (rateInForce s c) s.now) s)

/-- A pending RANGE write takes effect (02 R70, R71, R901): one that fell within a lock-out starts a new one, one of AUTO
among them (log 148). -/
def takeRange (new : Range) (x : Slice) : Slice :=
  let again := x.rangeLocked
  let x := { x with rangeDue := false, rangeLocked := false, act := { x.act with range := new } }
  let x := if again then { x with lockout := 4 } else x
  if new ≠ .auto ∧ x.range ≠ new then { x with range := new, grounds := true, lockout := 4 } else x

/-- An automatic switch (02 R67, R68). -/
def switchTo (r : Range) (x : Slice) : Slice := { x with range := r, grounds := true, lockout := 4 }

/-- The other settings that change at a boundary (02 R55, R105, R136, 03 R198): the first conversion at a new rate is marked,
but not in LAMP mode, whose converter keeps its rate (R56; log 164). -/
def takeRest (cfg : ChCfg) (rate : Fin 11) (now : Tick) (x : Slice) : Slice :=
  { x with
    newRate := decide (x.act.rate ≠ rate) && decide (x.act.mode ≠ .lamp)
    lamp := if x.act.lampsup = cfg.lampsup then x.lamp
      else { x.lamp with win := [], half := startHalf x.lamp.acnom now }
    act := { x.act with rate := rate, eol := cfg.eol, eng0 := cfg.set.eng0, eng1 := cfg.set.eng1, lampsup := cfg.lampsup } }

/-- A lamp supply that is no longer AC has no ACRANGE cause (02 R124, 03 R144). -/
def endAcrange (c : Ch) (s : State) : State :=
  if (s.slice c).ac then s
  else onChFlag c 11 (Flag.drive false) (onSlice c (fun x => { x with acrangeCause := false }) s)

/-- The conversion boundary: what was written takes effect, then an automatic switch decided here (02 R49, R67, R70). -/
def boundary (c : Ch) (auto : Option Range) (s : State) : State :=
  let cfg := s.sliceCfg c
  let x := s.slice c
  if cfg.staged.isSome || decide (cfg.mode ≠ x.act.mode) then boundaryMode c s
  else
    let s := if x.rangeDue then onSlice c (takeRange cfg.set.range) s
      else match auto with
        | some r => onSlice c (switchTo r) s
        | none => s
    endAcrange c (onSlice c (takeRest cfg (rateInForce s c) s.now) s)

/-! ## A conversion -/

/-- The open test of a conversion marked for it (02 R79, R82). -/
def openJudged (m : Mode) (test : Bool) (r : Reading) (ln : Option LineState) (was : Bool) : Bool :=
  match m with
  | .rtd => !r.excitationOk
  | .cont => decide (ln = some .broken)
  | .off => false
  | _ => if test then decide (100 < r.pullMv) else was

/-- The converter's part: the code with its markers and the causes that follow from it (02 R47, R57–R61, R73, R74, R79–R82). -/
def convert (r : Reading) (now : Tick) (x : Slice) : Slice :=
  let f := formCode x r
  let ln := if x.act.mode = .cont then some (lineOf x.act.eol (window x r).ohm) else none
  let test := x.openTest
  { x with
    code := f.1
    codeRange := x.range
    marks := { ovr := f.2.1, unr := f.2.2, setl := x.grounds || x.openTest || x.newRate,
               dist := (r.saturated || x.prevSat) && !f.2.1 && !f.2.2 }
    prev := some (codedMeans x.range r.next)
    prevSat := r.saturated
    line := ln
    openCause := openJudged x.act.mode test r ln x.openCause
    openTestAt := if test then now else x.openTestAt
    openTest := false
    grounds := false
    newRate := false
    tj := r.tj
    lockout := x.lockout - 1 }

/-- The flags that a conversion's end drives (02 R124). -/
def convFlags (c : Ch) (s : State) : State :=
  let x := s.slice c
  ([(0, x.marks.ovr), (1, x.marks.unr), (2, x.openCause), (8, x.marks.setl), (9, x.marks.dist)] : List (Fin 12 × Bool)).foldl
    (fun s p => onChFlag c p.1 (Flag.drive p.2) s) s

/-- The range test of AUTO (02 R66, R68, 03 R147). -/
def rangeTest (x : Slice) : Option Range :=
  match x.code with
  | none => none
  | some z =>
    if x.act.range ≠ .auto ∨ x.marks.setl = true ∨ x.lockout ≠ 0 then none
    else if 116736 ≤ z.natAbs then rangeUp x.act.mode x.range
    else if z.natAbs ≤ 9830 then
      (if x.act.mode = .lamp ∧ engOf x.act x.codeRange z < tDark x.lamp.limits then none
       else rangeDown x.act.mode x.range)
    else none

/-- Judges FAULT and, outside LAMP mode, the thresholds on a usable code (04 R206). A CONT line in SHORT or BREAK has FAULT
judged before any code is valid (02 R47, R64). -/
def judgeCode (c : Ch) (s : State) : State :=
  let x := s.slice c
  if x.marks.usable = false ∨ x.act.mode = .off then s
  else
    let s := judgeCond c .fault x.faultRaw x.period s
    match x.code with
    | none => s
    | some z =>
      if x.act.mode = .lamp then s
      else
        let s := thresholdConds.foldl (fun s k => judgeCond c k (rawOnCode s c k z) x.period s) s
        onSlice c (fun y => { y with value := some (engOf x.act x.codeRange (z : Rat)) }) s

/-- A LAMP channel reports its lamp value at its RATE (02 R56, 03 R146). -/
def reportLamp (x : Slice) : Slice :=
  if 2 ^ x.act.rate.val ≤ x.lamp.report + 1 then
    { x with lamp := { x.lamp with report := 0 }, value := match lampEng x with
        | some v => some v
        | none => x.value }
  else { x with lamp := { x.lamp with report := x.lamp.report + 1 } }

/-- A LAMP channel takes a code (03 R140, R141, R145, R173). The 1 ms window and the half-cycle keep codes as they were
taken, across a write of RANGE too (log 149). -/
def lampCode (c : Ch) (r : Reading) (s : State) : State :=
  let x := s.slice c
  match x.act.mode, x.code with
  | .lamp, some z =>
    let ok := x.marks.usable
    let q := topCode x z
    let s := onLamp c (countCode ok) s
    let s :=
      if x.ac then
        onLamp c (fun l => { l with half := { l.half with codes := (s.now, q, ok) :: l.half.codes } }) s
      else
        let s := onSlice c (fun x => noteDip r.next.quantity (noteDip r.own.quantity x)) s
        lampUpdate c ok 125 s.now (onLamp c (fun l =>
          let win := ((q, ok) :: l.win).take 8
          { l with win := win, value := match meanOf win with
              | some v => some v
              | none => l.value }) s)
    onSlice c reportLamp s
  | _, _ => s

/-- The loop supply starts after the open test (02 R80, R93, R133). -/
def startRss (c : Ch) (s : State) : State :=
  let x := s.slice c
  if x.act.mode = .loop ∧ x.rss = .off ∧ x.thermCause = false ∧ x.openTest = false then
    let floor := (s.sliceCfg c).floor
    onSlice c (fun x => { x with floorUsed := floor, rss := .starting floor s.now }) s
  else s

/-- Effect of CONVERSION_END (02, 03, 04 R206): the code is formed, marked, tested for ranging and judged; then what was
written takes effect. In OFF mode only the boundary is left (02 R51). -/
def conversionEnd (c : Ch) (r : Reading) (s : State) : State :=
  if sliceRuns s c = false then s
  else if (s.slice c).act.mode = .off then boundary c none (onSlice c (fun x => { x with tj := r.tj }) s)
  else
    let s := convFlags c (onSlice c (convert r s.now) s)
    let auto := rangeTest (s.slice c)
    boundary c auto (startRss c (lampCode c r (judgeCode c s)))

/-- CONVERSION_END. -/
def execConversionEnd (c : Ch) (r : Reading) (s : State) : Out := finish (conversionEnd c r s)

/-- Effect of OPEN_TEST_REPEAT (02 R82): the next conversion is the test. -/
def openTestRepeat (c : Ch) (s : State) : State :=
  let x := s.slice c
  let m := x.act.mode
  if sliceRuns s c && x.openCause && decide (m ≠ .off) && decide (m ≠ .rtd) && decide (m ≠ .cont) &&
      decide (x.openTestAt + 10 * usSec ≤ s.now) then
    onSlice c (fun x => { x with openTest := true }) s
  else s

/-- OPEN_TEST_REPEAT. -/
def execOpenTestRepeat (c : Ch) (s : State) : Out := finish (openTestRepeat c s)

/-! ## Delays -/

/-- Whether the latest update could be used to judge a condition: a code, or for the lamp value an update of it (02 R75,
03 R145, 04 R206). -/
def Slice.judges (x : Slice) (k : Cond) : Bool :=
  if x.act.mode = .lamp ∧ k ≠ .fault then x.lamp.fresh else x.marks.usable

/-- Effect of STEEP_DELAY_EXPIRY (04 R207, R219, R262): at the usable update that found the delay complete. -/
def steepDelayExpiry (c : Ch) (k : Cond) (s : State) : State :=
  let x := s.cond c k
  if x.due && x.raw && !x.on && (s.slice c).judges k then onCond c k (CondState.rise s.now s.cycle) s else s

/-- STEEP_DELAY_EXPIRY. -/
def execSteepDelayExpiry (c : Ch) (k : Cond) (s : State) : Out := finish (steepDelayExpiry c k s)

/-- Effect of UNSTEEP_DELAY_EXPIRY (04 R208, R262). -/
def unsteepDelayExpiry (c : Ch) (k : Cond) (s : State) : State :=
  let x := s.cond c k
  if x.due && !x.raw && x.on && (s.slice c).judges k then onCond c k CondState.fall s else s

/-- UNSTEEP_DELAY_EXPIRY. -/
def execUnsteepDelayExpiry (c : Ch) (k : Cond) (s : State) : Out := finish (unsteepDelayExpiry c k s)

/-! ## The limiter -/

/-- The MISW cause takes a value (02 R85, R124). -/
def setMisw (c : Ch) (v : Bool) (lim : Limiter) (s : State) : State :=
  onChFlag c 3 (Flag.drive v) (onSlice c (fun x => { x with misw := v, limiter := lim }) s)

/-- Whether a channel senses a current with the limiter. -/
def pasvRuns (s : State) (c : Ch) : Bool := sliceRuns s c && decide ((s.slice c).act.mode = .pasv)

/-- Whether a rise above 30 mA is a new reference event: no fold-back and no retry is under way (02 R85). -/
def Limiter.open_ : Limiter → Bool
  | .idle => true
  | .clamped _ => true
  | _ => false

/-- Effect of LIMITER_CLAMP (02 R85 step 1): the magnitude rises above 30 mA, anew where an earlier clamp has released. -/
def limiterClamp (c : Ch) (mA : Rat) (s : State) : State :=
  if pasvRuns s c && decide (30 < ratAbs mA) && (s.slice c).limiter.open_ then
    onSlice c (fun x => { x with limiter := .clamped s.now }) s
  else s

/-- LIMITER_CLAMP. -/
def execLimiterClamp (c : Ch) (mA : Rat) (s : State) : Out := finish (limiterClamp c mA s)

/-- Effect of FOLD_BACK (02 R85 step 2). -/
def foldBack (c : Ch) (stillClamping : Bool) (s : State) : State :=
  match (s.slice c).limiter with
  | .clamped t =>
    if pasvRuns s c && decide (t + 2000 ≤ s.now) then
      (if stillClamping then setMisw c true (.folded s.now) s
       else onSlice c (fun x => { x with limiter := .idle }) s)
    else s
  | _ => s

/-- FOLD_BACK. -/
def execFoldBack (c : Ch) (stillClamping : Bool) (s : State) : Out := finish (foldBack c stillClamping s)

/-- Effect of MISW_RETRY (02 R85 step 3). -/
def miswRetry (c : Ch) (s : State) : State :=
  match (s.slice c).limiter with
  | .folded t =>
    if pasvRuns s c && decide (t + 250000 ≤ s.now) then onSlice c (fun x => { x with limiter := .retrying s.now }) s else s
  | _ => s

/-- MISW_RETRY. -/
def execMiswRetry (c : Ch) (s : State) : Out := finish (miswRetry c s)

/-- Effect of MISW_RETRY_CHECK (02 R85 step 4). -/
def miswRetryCheck (c : Ch) (mA : Rat) (s : State) : State :=
  match (s.slice c).limiter with
  | .retrying t =>
    if pasvRuns s c && decide (t + 2000 ≤ s.now) then
      (if 256 / 10 < ratAbs mA then setMisw c true (.folded s.now) s else setMisw c false .idle s)
    else s
  | _ => s

/-- MISW_RETRY_CHECK. -/
def execMiswRetryCheck (c : Ch) (mA : Rat) (s : State) : Out := finish (miswRetryCheck c mA s)

/-! ## The loop supply and heat -/

/-- Whether a channel powers a loop. -/
def loopRuns (s : State) (c : Ch) : Bool := sliceRuns s c && decide ((s.slice c).act.mode = .loop)

/-- Effect of RSS_SELECTION (02 R89, R90, R96–R98, R130, R133): each 1 ms, with the FLOOR then in force. -/
def rssSelection (c : Ch) (l : LoopLoad) (s : State) : State :=
  match (s.slice c).rss with
  | .running _ t =>
    if loopRuns s c && decide (t + 1000 ≤ s.now) then
      let floor := (s.sliceCfg c).floor
      let r := (pickRatio l (ratioIdx floor)).getD .one
      judgeComp c l (setPin c (pinned l floor)
        (onSlice c (fun x => { x with floorUsed := floor, rss := .running r s.now }) (takeVsup l s)))
    else s
  | _ => s

/-- RSS_SELECTION. -/
def execRssSelection (c : Ch) (l : LoopLoad) (s : State) : Out := finish (rssSelection c l s)

/-- One ratio up where the headroom lies below 0.5 V (02 R91). -/
def stepUp (l : LoopLoad) (r : Ratio) : Ratio := if headroom l r < 500 then (ratioUp r).getD r else r

/-- Effect of HEADROOM_LOW (02 R91, R97, R98). -/
def headroomLow (c : Ch) (l : LoopLoad) (s : State) : State :=
  if loopRuns s c = false then s
  else match (s.slice c).rss with
    | .running r t => judgeComp c l (onSlice c (fun x => { x with rss := .running (stepUp l r) t }) (takeVsup l s))
    | .starting r t =>
      let t' := if stepUp l r = r then t else max t s.now
      judgeComp c l (onSlice c (fun x => { x with rss := .starting (stepUp l r) t' }) (takeVsup l s))
    | .off => s

/-- HEADROOM_LOW. -/
def execHeadroomLow (c : Ch) (l : LoopLoad) (s : State) : Out := finish (headroomLow c l s)

/-- Effect of RSS_START_STEP (02 R93, R96–R98): one step up per 1 ms until the headroom is there or the top is reached. -/
def rssStartStep (c : Ch) (l : LoopLoad) (s : State) : State :=
  match (s.slice c).rss with
  | .starting r t =>
    if loopRuns s c && decide (t + 1000 ≤ s.now) then
      let r' := if 1000 ≤ headroom l r then r else (ratioUp r).getD r
      let s := judgeComp c l (takeVsup l s)
      if 1000 ≤ headroom l r' ∨ r' = .one then
        setPin c (pinned l (s.slice c).floorUsed) (onSlice c (fun x => { x with rss := .running r' s.now }) s)
      else onSlice c (fun x => { x with rss := .starting r' s.now }) s
    else s
  | _ => s

/-- RSS_START_STEP. -/
def execRssStartStep (c : Ch) (l : LoopLoad) (s : State) : Out := finish (rssStartStep c l s)

/-- Effect of THERMAL_FOLD_BACK (02 R99, R101): a supply that is off is held at no floor and short of nothing (log 150). -/
def thermalFoldBack (c : Ch) (tj : Int) (s : State) : State :=
  if chFitted s.ident.part c && decide (150 ≤ tj) then
    let s := onChFlag c 4 (Flag.drive true) (onSlice c (fun x => { x with tj := tj, thermCause := true }) s)
    if (s.slice c).act.mode = .loop then setComp c false (setPin c false (onSlice c (fun x => { x with rss := .off }) s))
    else s
  else s

/-- THERMAL_FOLD_BACK. -/
def execThermalFoldBack (c : Ch) (tj : Int) (s : State) : Out := finish (thermalFoldBack c tj s)

/-- Effect of THERMAL_RECOVERY (02 R100, R101): a loop supply that was folded restarts. -/
def thermalRecovery (c : Ch) (tj : Int) (s : State) : State :=
  let x := s.slice c
  if chFitted s.ident.part c && x.thermCause && decide (tj ≤ 140) then
    startRss c (onChFlag c 4 (Flag.drive false) (onSlice c (fun x => { x with tj := tj, thermCause := false }) s))
  else s

/-- THERMAL_RECOVERY. -/
def execThermalRecovery (c : Ch) (tj : Int) (s : State) : Out := finish (thermalRecovery c tj s)

/-! ## The espresso comparators -/

/-- Whether a crossing of a length in ns activates a comparator (02 R111; log 24). -/
def crossingTaken (ns : Nat) : Bool := if ns < 200 then false else if 800 ≤ ns then true else Config.shortCrossing ns

/-- The terminal quantity as the comparators see it: limited while the limiter clamps or folds back (02 R85, R88). -/
def limited (lim : Limiter) (q : Rat) : Rat :=
  let within := fun (top : Rat) => max (-top) (min top q)
  match lim with
  | .idle => q
  | .clamped _ => within 30
  | .retrying _ => within 30
  | .folded _ => within 3

/-- Whether a comparator of a channel follows the terminal quantity: there is one, it is not held while its DAC settles, and
its DAC stands at a threshold (02 R106, R110, R115). -/
def comparatorRuns (s : State) (c : Ch) (side : Side) : Bool :=
  let x := s.slice c
  sliceRuns s c && hasComparators x.act.mode && (match side with
    | .hi => !x.trip.hiHold && x.trip.dacHi.isSome
    | .lo => !x.trip.loHold && x.trip.dacLo.isSome)

/-- TRIPHI against a quantity (02 R110, R112): active above it, released 2 steps back inside it. -/
def hiFinds (t back q : Rat) (was : Bool) : Bool := if t < q then true else if q ≤ t - back then false else was

/-- TRIPLO against a quantity (02 R110, R112). -/
def loFinds (t back q : Rat) (was : Bool) : Bool := if q < t then true else if t + back ≤ q then false else was

/-- Two steps of a slice's threshold DACs (02 R107, R112). -/
def twoSteps (x : Slice) : Rat := 2 * tripStep x.act.mode x.trip.span

/-- A comparator takes what it finds. -/
def setComparator (c : Ch) (side : Side) (v : Bool) (s : State) : State :=
  onTrip c (fun p => match side with
    | .hi => { p with hiQ := v }
    | .lo => { p with loQ := v, clear := p.clear && !v }) s

/-- Effect of COMPARATOR_ACTIVATION (02 R88, R110, R111, R113, 03 R164, R167); the TRIPLO comparator of an AC lamp activates
at the end of a half-cycle (03 R166). -/
def comparatorActivation (c : Ch) (side : Side) (quantity : Rat) (ns : Nat) (s : State) : State :=
  let x := s.slice c
  let q := limited x.limiter quantity
  if comparatorRuns s c side && crossingTaken ns then
    match side with
    | .hi => if decide (x.trip.dacHi.getD 0 < q) then setComparator c .hi true s else s
    | .lo =>
      if x.ac then s
      else if q < x.trip.dacLo.getD 0 then setComparator c .lo true s
      else onSlice c (noteDip q) s
  else s

/-- COMPARATOR_ACTIVATION. -/
def execComparatorActivation (c : Ch) (side : Side) (quantity : Rat) (ns : Nat) (s : State) : Out :=
  finish (comparatorActivation c side quantity ns s)

/-- Effect of COMPARATOR_RELEASE (02 R88, R112, 03 R167, R168): 2 steps back inside the threshold; for an AC lamp the
quantity is its envelope. -/
def comparatorRelease (c : Ch) (side : Side) (quantity : Rat) (s : State) : State :=
  let x := s.slice c
  let q := limited x.limiter quantity
  if comparatorRuns s c side then
    match side with
    | .hi => if q ≤ x.trip.dacHi.getD 0 - twoSteps x then setComparator c .hi false s else s
    | .lo =>
      if x.trip.dacLo.getD 0 + twoSteps x ≤ q then setComparator c .lo false s
      else onSlice c (noteDip q) s
  else s

/-- COMPARATOR_RELEASE. -/
def execComparatorRelease (c : Ch) (side : Side) (quantity : Rat) (s : State) : Out :=
  finish (comparatorRelease c side quantity s)

/-- Effect of DAC_SETTLE_END (02 R88, R115, 03 R167): the held comparators show what they find at the new threshold; a
contribution releases where TRIPLO was written OFF. The TRIPLO comparator of an AC lamp finds at its half-cycle's end. -/
def dacSettleEnd (c : Ch) (quantity : Rat) (s : State) : State :=
  let p := (s.slice c).trip
  let q := limited (s.slice c).limiter quantity
  let back := twoSteps (s.slice c)
  if sliceRuns s c && (p.hiHold || p.loHold) then
    let hi := match p.dacHi with
      | some t => hiFinds t back q p.hiQ
      | none => false
    let lo := match p.dacLo with
      | some t => if (s.slice c).ac then p.loQ else loFinds t back q p.loQ
      | none => false
    wireStep c (fun x => contribute (noteDip q { x with trip := { x.trip with
        hiQ := if p.hiHold then hi else p.hiQ
        loQ := if p.loHold then lo else p.loQ
        hiHold := false
        loHold := false
        latched := p.latched && !(p.loHold && p.dacLo.isNone) } })) s
  else s

/-- DAC_SETTLE_END. -/
def execDacSettleEnd (c : Ch) (quantity : Rat) (s : State) : Out := finish (dacSettleEnd c quantity s)

end Sys2Proof.Machine
end

