-- ==== Sys2Proof/Machine/Watch.lean ====
section
/-! DEFINITION. The watch's events: heartbeats, the lead, replicated calls, remote alarms and acknowledgements, node time and
copied records (06). A timer's event acts only once its time has come (log 2). -/

namespace Sys2Proof.Machine

/-- Ends an engine step that only inhibit causes moved (04 R242, R243). -/
def inhibitStep (s : State) : State := if s.engine.running then commit [] (evalInhibit (s, [])) else s

/-! ## Heartbeats -/

/-- Effect of HEARTBEAT (06 R342): the first one carries RESTART and REBUILD until it could be sent. -/
def heartbeat (s : State) : State :=
  if s.watch.joined && s.engine.running && decide (s.watch.nextHb ≤ s.now) then
    let s' := { s with watch := { s.watch with nextHb := s.now + 100000 } }
    if canSendMsg s then
      let s' := send (.heartbeat (heartbeatBody s)) s'
      { s' with watch := { s'.watch with
        sendRestart := false, sendRebuild := false
        firstHb := match s.watch.firstHb with
          | none => some s.now
          | some t => some t } }
    else s'
  else s

/-- HEARTBEAT. -/
def execHeartbeat (s : State) : Out := finish (heartbeat s)

/-- Whether WATCH.NODES names a node (06 R401). -/
def named (s : State) (n : NodeNo) : Bool := s.live.watchNodes.getLsbD n.val

/-- Brings the calls of one node in line with its groups, at the lead (05 R279, 06 R355). -/
def settleCalls (n : NodeNo) (s : State) : State :=
  if isLead s && s.engine.running then
    let s := (List.finRange 32).foldl (fun s g => endFinished n g s) s
    (List.finRange 32).foldl (fun s g => startMissing n g s) s
  else s

/-- A node is heard (06 R343, R351). -/
def hearNode (n : NodeNo) (b : HeartbeatBody) (s : State) : State :=
  let p := s.watch.peers[n.val]
  let s := if p.lost && named s n then emitBlock 0 0x0224 0 [] s else s
  let s := onPeer n (fun p => { p with
    heard := true, lastHb := s.now, ready := b.ready, deadmanWarning := b.deadmanWarning, lost := false }) s
  if p.heard then s else settleCalls n (evalWatchCause (inhibitStep s))

/-- Effect of HEARTBEAT_RECEIVED (06 R338, R343, R345). -/
def heartbeatReceived (r : RxHdr) (b : HeartbeatBody) (s : State) : State :=
  match takeFrame r (.heartbeat b) b.restart s with
  | (s, false) => s
  | (s, true) =>
    let s := hearNode r.src b s
    if b.rebuild = false then s
    else if s.engine.running then sendRefresh s
    else { s with watch := { s.watch with refreshDue := true } }

/-- HEARTBEAT_RECEIVED. -/
def execHeartbeatReceived (r : RxHdr) (b : HeartbeatBody) (s : State) : Out := finish (heartbeatReceived r b s)

/-- Effect of NODE_SILENCE (06 R343, R351, 04 R243). -/
def nodeSilence (n : NodeNo) (s : State) : State :=
  let p := s.watch.peers[n.val]
  if p.heard && decide (p.lastHb + 300000 ≤ s.now) then
    let s := onPeer n (fun p => { p with heard := false, ready := false, deadmanWarning := false, lost := true }) s
    let s := if named s n then emitBlock 0 0x0223 0 [] s else s
    evalWatchCause (inhibitStep s)
  else s

/-- NODE_SILENCE. -/
def execNodeSilence (n : NodeNo) (s : State) : Out := finish (nodeSilence n s)

/-- Effect of READY_TIMEOUT (06 R344). -/
def readyTimeout (s : State) : State :=
  match s.watch.firstHb with
  | some t => if t + usSec ≤ s.now then { s with watch := { s.watch with ready := true } } else s
  | none => s

/-- READY_TIMEOUT. -/
def execReadyTimeout (s : State) : Out := finish (readyTimeout s)

/-- Effect of LEAD_EVALUATION (06 R346–R348, R354). -/
def leadEvaluation (s : State) : State := if s.engine.running then evalLead s else s

/-- LEAD_EVALUATION. -/
def execLeadEvaluation (s : State) : Out := finish (leadEvaluation s)

/-! ## Calls of the watch -/

/-- A call state from its code (05 R281). -/
def callStateOf : Nat → Option CallState
  | 0 => some .idle | 1 => some .stage1 | 2 => some .stage2 | 3 => some .stage3 | 4 => some .accepted
  | _ => none

/-- An engineer from its number, 0 for none. -/
def engNamed (n : Nat) : Option Eng := if h : 1 ≤ n ∧ n ≤ 16 then some ⟨n - 1, by omega⟩ else none

/-- The copy of a call that a CALL frame gives (06 R334, R353), with the times that a node needs which takes it over. -/
def copiedCall (s : State) (st : CallState) (b : CallBody) : Call :=
  Call.ring s b.ringing
    { st := st, cls := Fin.ofNat 4 b.cls, duty := engNamed b.duty, next := engNamed b.next, stage := Fin.ofNat 4 b.stage,
      start := b.start, timerEnd := if b.timerEnd = 0 then none else some b.timerEnd, resumed := b.resumed
      repeatUs := s.live.call.rep * usSec, refreshAt := s.now + 10 * usSec }

/-- Effect of CALL (06 R353): every node keeps the latest. While the links only listen after XO failure, the calls of this
node's own groups stand at stage 3 here, whatever a lead says of them (05 R316; log 74). -/
def callFrame (r : RxHdr) (b : CallBody) (s : State) : State :=
  match takeFrame r (.call b) false s, callStateOf b.state with
  | (s, true), some st =>
    if linksListenXo s && decide (b.node = s.watch.node) then s
    else
      let old := (s.call b.node b.grp).st
      let s := onCall b.node b.grp (fun _ => copiedCall s st b) s
      if old = st then s else callChanged s
  | (s, _), _ => s

/-- CALL. -/
def execCallFrame (r : RxHdr) (b : CallBody) (s : State) : Out := finish (callFrame r b s)

/-- Effect of CALL_REFRESH (06 R352): each running call whose 10 s have passed. -/
def callRefresh (s : State) : State :=
  if isLead s && s.engine.running then
    (callKeys.filter fun p => decide ((s.call p.1 p.2).st ≠ .idle) && decide ((s.call p.1 p.2).refreshAt ≤ s.now)).foldl
      (fun s p => onCall p.1 p.2 (fun c => { c with refreshAt := s.now + 10 * usSec }) (sendCall p.1 p.2 false true s)) s
  else s

/-- CALL_REFRESH. -/
def execCallRefresh (s : State) : Out := finish (callRefresh s)

/-! ## Remote alarms -/

/-- An alarm state from its code (04 R213). -/
def alarmOfCode : Nat → AlarmState
  | 1 => .steeping | 2 => .activeUnack | 3 => .activeAck | 4 => .returnUnack | 5 => .shelved | 6 => .inhibited
  | 7 => .disabled | _ => .normal

/-- Keeps a node's latest ALARM_STATE of one alarm (06 R332). -/
def keepRemote (n : NodeNo) (b : AlarmBody) (s : State) : State :=
  { s with watch := { s.watch with
    remote := ((n, b.key), b) :: s.watch.remote.filter fun p => decide (p.1 ≠ (n, b.key))
    causesOld := s.watch.causesOld.filter fun k => decide (k ≠ (n, b.key)) } }

/-- What a remote group or member state does to the owning node's call, at the lead (05 R279, R280, R296, R304, R307): a frame
with ACTIVE_UNACK that is no refresh says that an alarm has entered it (log 155). -/
def remoteCall (n : NodeNo) (b : AlarmBody) (oldCode : Nat) (s : State) : State :=
  if isLead s && s.engine.running && (s.watch.peers[n.val]).heard then
    let entered := decide (b.state = 2) && (decide (oldCode ≠ 2) || !b.refresh)
    match b.key with
    | .grp g => groupCall n g (alarmOfCode oldCode) (alarmOfCode b.state) entered (deadmanAt s n) false s
    | .member m =>
      let st := alarmOfCode (groupStateAt s n 31)
      groupCall n 31 st st entered (deadmanAt s n) (entered && decide (m = 10)) s
    | _ => s
  else s

/-- Notes a group of a refresh; with all 32 the node is ready (06 R344, R345). -/
def noteRefresh (n : NodeNo) (b : AlarmBody) (s : State) : State :=
  match b.key, b.refresh with
  | .grp g, true =>
    let s := onPeer n (fun p => { p with refreshed := p.refreshed ||| BitVec.ofNat 32 (2 ^ g.val) }) s
    if (s.watch.peers[n.val]).refreshed = BitVec.allOnes 32 ∧ s.watch.firstHb.isSome then
      { s with watch := { s.watch with ready := true } }
    else s
  | _, _ => s

/-- Effect of ALARM_STATE (06 R333, 04 R243). -/
def alarmState (r : RxHdr) (b : AlarmBody) (s : State) : State :=
  if b.key = .reserved then noteReceived r.bus (rxFrame r (.alarm b)) s
  else
    match takeFrame r (.alarm b) false s with
    | (s, false) => s
    | (s, true) =>
      let oldCode := match remoteState s r.src b.key with
        | some x => x.state
        | none => 0
      noteRefresh r.src b (remoteCall r.src b oldCode (inhibitStep (keepRemote r.src b s)))

/-- ALARM_STATE. -/
def execAlarmState (r : RxHdr) (b : AlarmBody) (s : State) : Out := finish (alarmState r b s)

/-- Effect of ACK_FRAME (06 R360): the owning node acknowledges what began before the latch point carried. -/
def ackFrame (r : RxHdr) (b : AckBody) (s : State) : State :=
  match takeFrame r (.ack b) false s with
  | (s, false) => s
  | (s, true) =>
    match b.target with
    | some t =>
      if s.engine.running && decide (b.node = s.watch.node) && targetFitted s.ident.part t then
        ackTarget (fun a => decide (a.enteredTime < b.latch)) (fun a => decide (a.enteredTime < b.latch)) t
          (emitAction 1 t b.origin b.originNo 0 s)
      else s
    | none => s

/-- ACK_FRAME. -/
def execAckFrame (r : RxHdr) (b : AckBody) (s : State) : Out := finish (ackFrame r b s)

/-! ## Time -/

/-- The TIME frame for one bus: it names the previous one on that bus (06 R334, R335). -/
def timeMsg (s : State) (b : Bus) : Msg :=
  match (s.watch.captures[(busIdx b).val]).sent with
  | some (q, t) => .time s.watch.hostSet q t
  | none => .time s.watch.hostSet 0 0

/-- Effect of TIME_FRAME_SEND (06 R361): one sequence number, a payload for each bus. -/
def timeFrameSend (s : State) : State :=
  if isLead s && s.engine.running && canSendMsg s && decide (s.watch.nextTime ≤ s.now) then
    let put := fun (b : Bus) (s' : State) => onCan b (Can.push ⟨s.watch.node, s.watch.seq, timeMsg s b⟩) s'
    put .canB (put .canA { s with watch := { s.watch with seq := s.watch.seq + 1, nextTime := s.now + usSec } })
  else s

/-- TIME_FRAME_SEND. -/
def execTimeFrameSend (s : State) : Out := finish (timeFrameSend s)

/-- The key under which the capture of a node's TIME frame is kept. -/
def captureKey (n : NodeNo) (seq : BitVec 16) : Nat := n.val * 65536 + seq.toNat

/-- Applies an offset in µs (06 R363). -/
def applyOffset (off : Int) (s : State) : State :=
  let s := { s with watch := { s.watch with timeSet := true } }
  if s.watch.stepped = false ∨ 500 < off.natAbs then
    let s := stepTime off s
    emitBlock 0 0x0610 0 [] { s with watch := { s.watch with stepped := true } }
  else { s with watch := { s.watch with slew := off } }

/-- Effect of TIME_FRAME (06 R361–R363): the capture is made before deduplication; the lead keeps its own time. -/
def timeFrame (r : RxHdr) (b : TimeBody) (s : State) : State :=
  let fits := s.watch.joined && (s.canOf r.bus).receives && decide (r.cls = 4) && decide (16 ≤ r.len) &&
    decide (r.src ≠ s.watch.node)
  let found := ((s.watch.captures[(busIdx r.bus).val]).byOther.find? fun p => decide (p.1 = captureKey r.src b.prevSeq)).map (·.2)
  let s := if fits then capture r.bus (captureKey r.src r.seq) (s.nodeTime - b.ageUs) s else s
  match takeFrame r (.time b.hostSet b.prevSeq b.prevTime) false s, found with
  | (s, true), some t => if isLead s then s else applyOffset ((b.prevTime : Int) - t) s
  | (s, _), _ => s

/-- TIME_FRAME. -/
def execTimeFrame (r : RxHdr) (b : TimeBody) (s : State) : Out := finish (timeFrame r b s)

/-! ## Copied records -/

/-- Effect of LOGCOPY (09 R524): the lead stages the record unchanged. -/
def logcopy (r : RxHdr) (b : Record) (s : State) : State :=
  match takeFrame r (.logcopy b) false s with
  | (s, false) => s
  | (s, true) =>
    if isLead s then { s with log := { s.log with incoming := s.log.incoming ++ [.copied b] } } else s

/-- LOGCOPY. -/
def execLogcopy (r : RxHdr) (b : Record) (s : State) : Out := finish (logcopy r b s)

end Sys2Proof.Machine
end

