-- ==== Sys2Proof/Machine/Store.lean ====
section
/-! DEFINITION. The settings store: the checks of a write, its record, what it does at once, and collisions
(11 R583–R603, R629, R630; 12 R654–R670; 16 R811–R817). -/

namespace Sys2Proof.Machine

/-! ## Checks -/

/-- The settings with the partition writes that wait for their images (16 R813, R817). -/
def pendingCfg (s : State) : Settings :=
  s.part.writes.foldl (fun cfg w =>
    match readVal s.ident.part s.watch.node (kindOf cfg w.id) w.value with
    | .ok v => putCfg w.id v cfg
    | .error _ => cfg) s.live

/-- Whether the safety partition is open for a line (12 R663). -/
def partOpen (s : State) (who : Sess) : Bool :=
  decide (roleOf s who = .custodian) && decide (s.part.keysw = .asserted)

/-- The expected-on windows of a channel's character are 10 ms long at least (03 R150). -/
def windowsFit (c : ChCfg) : Bool :=
  let t := timingOf c
  let o := if c.lampsup = .ac then max (onlateUs t) (ceilRat (1500000 / (c.acnom : Rat))).toNat else onlateUs t
  (List.range (flashes c.char)).all fun i =>
    decide (onBand c.char c.edgetol i + offBand c.char c.edgetol i + o + 10000 ≤ onLen c.char i)

/-- Whether R150 is kept by a write. -/
def windowRule (i : SettingId) (new : Settings) : Bool :=
  match i with
  | .ch c f => match f with
    | .char | .onlate | .edgetol | .lamptype => windowsFit new.ch[c.val]
    | _ => true
  | _ => true

/-- Settings that no script may write (12 R654), beside those of the partition. -/
def scriptForbids (i : SettingId) : Bool :=
  match i with
  | .secRemreset | .secTimeout | .secDebug | .key _ => true
  | _ => false

/-- Whether a line is a script's. -/
def isScript : Sess → Bool
  | .script _ => true
  | _ => false

/-- Whether a write needs the open partition (02 R135, 04 R256, 12 R663). -/
def needsPartition (cfg : Settings) (i : SettingId) (v : Val) : Bool := inPartition cfg i || takesFastLine cfg i v

/-- Reads the text of a value with its runs of spaces reduced (11 R587). -/
def readSetting (s : State) (i : SettingId) (t : Text) : Except Err Val :=
  readVal s.ident.part s.watch.node (kindOf (pendingCfg s) i) (unwords (tokens t))

/-- The checks of a write in the order of 11 R601. -/
def checkWrite (who : Sess) (i : SettingId) (t : Text) (s : State) : Except Err Val :=
  let cfg := pendingCfg s
  let parsed := readSetting s i t
  let role := roleOk (roleOf s who) (roleToWrite cfg i) && !(isScript who && (inPartition cfg i || scriptForbids i))
  match settingFitted s.ident.part i, parsed with
  | _, .error .e01 => .error .e01
  | false, _ => .error .e03
  | true, .error .e03 => .error .e03
  | true, .error e => .error (if role then e else .e06)
  | true, .ok v =>
    let new := putCfg i v cfg
    if (role && (!takesFastLine cfg i v || roleOk (roleOf s who) .custodian)) = false then .error .e06
    else if (rangeRule i v cfg new && windowRule i new) = false then .error .e04
    else if needsPartition cfg i v && !partOpen s who then .error .e07
    else if orderRule i new = false then .error .e05
    else .ok v

/-! ## What a write does at once -/

/-- A GRP write (04 R237): the alarms move with their states, and running group delays restart. -/
def applyGrp (old : Grp) (c : Ch) (s : State) : State :=
  let new := (s.chCfg c).grp
  if s.engine.running = false then s
  else
    let w := allConds.foldl (fun (w : Moving) k =>
      if (w.1.alarm c k).delayEnd.isSome then startDelay c k w else w) (s, [])
    commit [old, new] (evalInhibit w)

/-- An INHIB write is evaluated at once (04 R263). -/
def applyInhib (s : State) : State := if s.engine.running then commit [] (evalInhibit (s, [])) else s

/-- A FIRSTOUT write of OFF clears the mark at once (04 R248). -/
def applyFirstout (g : Grp) (s : State) : State :=
  if (s.grpCfg g).firstout then s
  else { s with engine := { s.engine with first := upd s.engine.first g fun _ => none } }

/-- A CLASS write of 0 ends the group's running call, whichever node is lead, but not the dead-man call of G31 (05 R311;
log 153). -/
def applyClass (g : Grp) (s : State) : State :=
  if (s.grpCfg g).cls = 0 ∧ (s.call s.watch.node g).st ≠ .idle ∧ s.engine.running ∧ ¬ (g = 31 ∧ deadmanUnack s) then
    endCall s.watch.node g s
  else s

/-- What an EN write does in the engine (04 R215, R241): OFF disables the alarm, ON leaves DISABLED, and a cause follows EN.
The slice takes it at its next usable conversion (04 R235). -/
def applyEn (c : Ch) (k : Cond) (s : State) : State :=
  if s.engine.running = false then s
  else
    let w := if (s.condCfg c k).en = false then move c k .disabled (s, [])
      else if (s.alarm c k).st = .disabled then move c k .normal (s, []) else (s, [])
    commit [] (evalInhibit w)

/-- A write of a bus rate or sample point (06 R328): the controller leaves the bus at the end of its frame. -/
def applyBitTiming (b : Bus) (s : State) : State :=
  let c := s.canOf b
  match c.mode with
  | .active | .passive | .listen =>
    if c.sending.isSome then onCan b (fun c => { c with rejoinDue := true }) s else leaveBus b s
  | _ => s

/-- A LISTEN write acts at the end of the frame in progress (06 R392). -/
def applyListen (b : Bus) (s : State) : State :=
  let c := s.canOf b
  match c.mode with
  | .active | .passive | .listen =>
    if c.sending.isSome then onCan b (fun c => { c with listenDue := true }) s
    else onCan b (fun c => { c with mode := if (s.live.can[(busIdx b).val]).listen then .listen
      else if c.mode = .listen then .active else c.mode }) s
  | _ => s

/-- A write of GO starts the count of a manual recovery (06 R393). -/
def applyRecover (b : Bus) (s : State) : State :=
  onCan b (fun c => if c.mode = .busOff then { c with recovering := true } else c) s

/-- A write of the panel's drive (08 R473): at the next boundary; VHV or VLCD of a BCH panel needs a full rewrite. -/
def applyDrive (f : PanelSet) (s : State) : State :=
  let s := match s.panel.phase with
    | .off | .waiting | .fault _ => onPanel (fun p => { p with drive := s.live.panel }) s
    | _ => onPanel (fun p => { p with driveDue := true }) s
  match f with
  | .vlcd | .vhv =>
    if s.panel.type = .bch then setDirty true (onPanel (fun p => { p with rewriteDue := p.driveDue }) s) else s
  | _ => s

/-- A write of a spread-spectrum setting (13 R719, R720, R723). -/
def applySsc (f : ClockSet) (s : State) : State :=
  let c := s.live.clock
  match f with
  | .sscDepth => { s with clk := { s.clk with sscNow := c.sscDepth, sscAt := s.now } }
  | .sscMin => { s with clk := { s.clk with sscNow := max s.clk.sscNow c.sscMin } }
  | _ => s

/-- The session that a FORCE setting is bound to (07 R426): a script's lines belong to the session that runs it. -/
def boundTo (s : State) (who : Sess) : Sess :=
  match who with
  | .script _ => (s.interp.script.map fun r => r.by_.sess).getD who
  | w => w

/-- Writes a setting of a channel: the engine's part, and its way to the slice (01 R18). -/
def applyCh (c : Ch) (f : ChSet) (v : Val) (s : State) : State :=
  let old := (s.chCfg c).grp
  let s := { s with live := putCfg (.ch c f) v s.live }
  match f with
  | .grp => applyGrp old c s
  | f => sendSetting c (.ch c f) s

/-- Writes an accepted value (the "Takes effect" columns). -/
def applySetting (who : Sess) (i : SettingId) (v : Val) (s : State) : State :=
  let put : State → State := fun s => { s with live := putCfg i v s.live }
  match i with
  | .ch c f => applyCh c f v s
  | .cond c k .en => applyEn c k (put s)
  | .grp _ .inhib => applyInhib (put s)
  | .grp g .firstout => applyFirstout g (put s)
  | .grp g .class_ => applyClass g (put s)
  | .deadman .en => setDeadEn (isOn v) 0 s
  | .watchNodes => evalWatchCause (put s)
  | .can b .nom | .can b .data | .can b .nsp | .can b .dsp => applyBitTiming b (put s)
  | .can b .listen => applyListen b (put s)
  | .can b .recover => applyRecover b s
  | .lx n .hostval => onLx n (fun o => { o with hostval := numOrKw v }) s
  | .lx n .force => onLx n (fun o => { o with
      force := (numOrKw v).map fun q => (roundAway (q * 1000)).natAbs
      forceBy := (numOrKw v).map fun _ => boundTo s who }) s
  | .panel .type => takeType (put s)
  | .panel .test => onPanel (fun p => { p with testEnd := some (s.now + 10 * usSec) }) s
  | .panel .bl => put s
  | .panel f => applyDrive f (put s)
  | .hp .echo => let s := put s; { s with port := { s.port with echoOn := echoOf s.port.async s.live.hp } }
  | .clock f => applySsc f (put s)
  | _ => put s

/-! ## Records and collisions -/

/-- The record of a write: name key, old value, new value (11 R629, R630; 12 R667, R669). -/
def logWrite (code : BitVec 16) (src : Nat × Nat) (i : SettingId) (old new : BitVec 32) (s : State) : State :=
  emit { time := 0, tunset := false, kind := src.1, index := src.2, code := code, value := nameKey i,
         detail := detail (four32 old ++ four32 new) } s

/-- The record code of a write (12 R667, R669). -/
def writeCode (cfg : Settings) (i : SettingId) : BitVec 16 :=
  match i with
  | .ch _ .safe => 0x0411
  | _ => if inPartition cfg i then 0x0410 else 0x0401

/-- Whether a write is the second of a collision, with the session of the first (16 R814). -/
def collides (src : Nat × Nat) (sameCycle : Bool) (i : SettingId) (s : State) : Option (Nat × Nat) :=
  match s.store.lastWrite with
  | some (j, first, cyc) =>
    if sameCycle ∧ j = i ∧ first ≠ src ∧ cyc + 1 = s.cycle then some first else none
  | none => none

/-- The settings store has accepted a write: SETCOLL is set at the second of a collision (16 R810, R815). -/
def served (src : Nat × Nat) (coll : Option (Nat × Nat)) (i : SettingId) (s : State) : State :=
  let s := { s with store := { s.store with lastWrite := some (i, src, s.cycle) } }
  match coll with
  | none => s
  | some first => { s with
      flags := { s.flags with setColl := s.flags.setColl.pulse }
      store := { s.store with collision := some (i, first, src, s.nodeTime) } }

/-- The record of a collision (16 R815). -/
def logCollision (src : Nat × Nat) (coll : Option (Nat × Nat)) (i : SettingId) (final : BitVec 32) (s : State) : State :=
  match coll with
  | none => s
  | some first => emitBlock 0 0x0412 (nameKey i) ([first.2, src.2] ++ four32 final) s

/-- Writes an accepted value with its record. -/
def commitWrite (who : Sess) (src : Nat × Nat) (i : SettingId) (v : Val) (s : State) : State :=
  let old := encodeVal (kindOf s.live i) (valueOf s i)
  let new := encodeVal (kindOf (putCfg i v s.live) i) v
  applySetting who i v (logWrite (writeCode s.live i) src i old new s)

/-- A write to a setting that needs no image. -/
def writeNow (who : Sess) (sameCycle : Bool) (i : SettingId) (v : Val) (s : State) : State :=
  let src := sessSource s who
  let coll := collides src sameCycle i s
  let new := encodeVal (kindOf (putCfg i v s.live) i) v
  logCollision src coll i new (commitWrite who src i v (served src coll i s))

/-- Hands a partition write to the sequencer, with what is left of its line (12 R665, 16 R817). -/
def writePart (w : Waiter) (sameCycle : Bool) (i : SettingId) (t : Text) (line : WriteLine) (s : State) : State :=
  let src := sessSource s w.sess
  let coll := collides src sameCycle i s
  let s := served src coll i s
  { s with part := { s.part with writes := s.part.writes ++
    [{ id := i, value := unwords (tokens t), by_ := w, src := src, coll := coll, line := line }] } }

/-- SET of a setting (11 R603): a partition write holds its reply until its image has verified. -/
def writeSetting (h : LineHdr) (i : SettingId) (t : Text) (s : State) : State × Option Reply :=
  match checkWrite h.sess i t s with
  | .error e => refused e s
  | .ok v =>
    if inPartition (pendingCfg s) i then held (writePart (waiter h s) h.sameCycle i t {} s)
    else ok (writeNow h.sess h.sameCycle i v s)

/-- A row of its own for a setting: the line is a SET (11 R603). -/
def setLine (h : LineHdr) (i : SettingId) (t : Text) (s : State) : State := runLine h (txt "SET") (writeSetting h i t) s

end Sys2Proof.Machine
end

