-- ==== Sys2Proof/Machine/Logbook.lean ====
section
/-! DEFINITION. The logbook: the writer's operations, its events, and the LOG lines (09). -/

namespace Sys2Proof.Machine

/-! ## Sectors -/

/-- The records of one data sector (09 R494). -/
abbrev sectorSlots : Nat := 16384

/-- Changes the logbook. -/
def onLog (f : Log → Log) (s : State) : State := { s with log := f s.log }

/-- Changes one data sector. -/
def onSector (k : Fin 8) (f : Sector → Sector) (s : State) : State :=
  onLog (fun l => { l with sectors := upd l.sectors k f }) s

/-- A data sector. -/
def sectorOf (s : State) (k : Fin 8) : Sector := s.log.sectors[k.val]

/-- The sectors of the log (09 R518). -/
def logSectors (s : State) : List (Fin 8) :=
  (List.finRange 8).filter fun k => decide ((sectorOf s k).st = .filling) || decide ((sectorOf s k).st = .full)

/-- The slots of the log in their positions (09 R518). -/
def logSlots (s : State) : List Slot := (logSectors s).flatMap fun k => (sectorOf s k).slots

/-- LOG.COUNT: torn slots included (09 R531). -/
def logCount (s : State) : Nat := (logSectors s).foldl (fun n k => n + (sectorOf s k).slots.length) 0

/-- LOG.CAPACITY (09 R494). -/
def logCapacity (s : State) : Nat :=
  ((List.finRange 8).filter fun k => !(sectorOf s k).out).length * sectorSlots

/-- The highest-numbered sector in use (09 R495). -/
def highestSector (s : State) : Option (Fin 8) := ((List.finRange 8).filter fun k => !(sectorOf s k).out).getLast?

/-- Whether only the last slot of the log is left (09 R495). -/
def lastSlotNext (s : State) : Bool :=
  match s.log.filling with
  | some k => decide (highestSector s = some k) && decide ((sectorOf s k).slots.length + 1 = sectorSlots)
  | none => false

/-- The sector after the one in use (09 R502). -/
def nextSector (s : State) : Option (Fin 8) :=
  let top := (logSectors s).getLast?
  (List.finRange 8).find? fun k => !(sectorOf s k).out && (match top with
    | some t => decide (t < k)
    | none => true)

/-! ## The writer's own events -/

/-- An event of the writer (09 R488): it enters STAGE through the same hand-over as any other. -/
def emitLog (code : BitVec 16) (value : BitVec 32) (bytes : List Nat) (s : State) : State := emitBlock 4 code value bytes s

/-- STORFAULT follows its causes (09 R517, 04 R250). -/
def storCauses (f : StorCauses → StorCauses) (s : State) : State :=
  let s := { s with stor := f s.stor }
  let v := s.stor.program || s.stor.sectorOut || s.stor.config || s.stor.partition
  setCause 1 v { s with flags := { s.flags with storFault := s.flags.storFault.drive v } }

/-- LOGFULL takes a value (09 R498). -/
def logFullCause (v : Bool) (s : State) : State :=
  setCause 0 v { s with flags := { s.flags with logFull := s.flags.logFull.drive v } }

/-- The code of a staged record. -/
def stagedCode : Staged → BitVec 16
  | .own e => e.code
  | .copied r => r.code

/-- Counts a refused event in its class (09 R496). -/
def refuseEvent (x : Staged) (s : State) : State :=
  let c := (stagedCode x).toNat / 256
  if h : 1 ≤ c ∧ c ≤ 7 then
    onLog (fun l => { l with refused := upd l.refused ⟨c - 1, by omega⟩ sat16 }) s
  else s

/-- The present moment as an own event of the writer. -/
def ownEvent (code : BitVec 16) (value : BitVec 32) (s : State) : Event :=
  { time := s.nodeTime, tunset := !s.watch.timeSet, kind := 3, index := 4, code := code, value := value }

/-- The record of the drops that a freed slot of STAGE calls for (09 R492). -/
def dropsDue (s : State) : List Staged :=
  if s.log.burst = 0 then [] else [.own (ownEvent 0x0704 (BitVec.ofNat 32 s.log.burst) s)]

/-- The log is full (09 R495, R496): what STAGE still holds is refused, and so is the record of the drops that the freed slots
call for (R492, log 52). -/
def becomeFull (s : State) : State :=
  let rest := s.log.stage ++ dropsDue s
  logFullCause true (rest.foldl (fun s x => refuseEvent x s)
    (onLog (fun l => { l with full := true, stage := [], burst := 0 }) s))

/-! ## The directory -/

/-- Appends a directory entry; a full directory sector is compacted first (09 R500, R504; log 15). -/
def dirAppend (s : State) : State :=
  if s.log.dirEntries < Config.directoryEntries then onLog (fun l => { l with dirEntries := l.dirEntries + 1 }) s
  else
    let d := s.log.dirSector + 1
    emitLog 0x070A 0 [d.val] (onLog (fun l => { l with
      dirSector := d, dirEntries := 10, savedRefused := l.refused, savedAt := some s.now }) s)

/-- A sector takes a state, with its directory entry (09 R500). -/
def setSector (k : Fin 8) (f : Sector → Sector) (s : State) : State := dirAppend (onSector k f s)

/-- Appends the refused counters to the directory (09 R497). -/
def saveRefused (s : State) : State :=
  dirAppend (onLog (fun l => { l with savedRefused := l.refused, savedAt := some s.now }) s)

/-! ## Erasing -/

/-- Begins the erase of a sector (09 R500, R503). -/
def beginErase (k : Fin 8) (foreground : Bool) (s : State) : State :=
  setSector k (fun x => { x with st := .erasing, slots := [], failures := 0 })
    (onLog (fun l => { l with
      toErase := l.toErase.filter (· ≠ k)
      erase := some { sector := k, foreground := foreground, since := s.now } }) s)

/-- The next background erase; LOG.CLEARING ends when none is left (09 R506, R510, R516). -/
def nextErase (s : State) : State :=
  match s.log.erase with
  | some _ => s
  | none => match s.log.toErase with
    | k :: _ => beginErase k false s
    | [] => if s.log.clearing.isSome then s else onLog (fun l => { l with clearOn := false }) s

/-- The writer makes a sector ready for the records that wait (09 R495, R500, R502). -/
def makeReady (s : State) : State :=
  let l := s.log
  if l.opened = false ∨ l.full ∨ l.filling.isSome ∨ l.stage = [] ∨ l.clearing.isSome then s
  else match nextSector s with
    | none => becomeFull s
    | some k =>
      match (sectorOf s k).st with
      | .erased => setSector k (fun x => { x with st := .filling, slots := [], failures := 0 })
          (onLog (fun l => { l with filling := some k }) s)
      | _ => match l.erase with
        | some e => if e.sector = k then onLog (fun l => { l with erase := some { e with foreground := true, suspended := false } }) s
            else if e.foreground then s
            else beginErase k true (onLog (fun l => { l with toErase := e.sector :: l.toErase }) s)
        | none => beginErase k true s

/-! ## Staging -/

/-- Whether the writer runs: step 9 of the order out of reset (15 R792), its bank sound (14 R757), not in DEEP (R526). -/
def writerRuns (s : State) : Bool :=
  (match s.rst.phase with
    | .rebuilding | .booting | .opening | .up => true
    | _ => false) &&
  !(s.bank .stage).ownerHeld && decide (s.power.mode ≠ .deep)

/-- Whether STAGE is full (09 R492). -/
def stageFull (s : State) : Bool := decide (1023 ≤ s.log.stage.length)

/-- A new event is dropped (09 R492). -/
def dropEvent (s : State) : State := onLog (fun l => { l with dropped := sat16 l.dropped, burst := sat16 l.burst }) s

/-- An event enters STAGE, or is refused or dropped (09 R489, R492, R496). -/
def stageOne (x : Staged) (s : State) : State :=
  if s.log.full then refuseEvent x s
  else if stageFull s then dropEvent s
  else onLog (fun l => { l with stage := l.stage ++ [x] }) s

/-- Effect of EVENT_STAGED: the oldest event handed over is taken (09 R489, R490). -/
def eventStaged (s : State) : State :=
  if writerRuns s then
    match s.log.incoming with
    | [] => s
    | x :: r => makeReady (stageOne x (onLog (fun l => { l with incoming := r }) s))
  else s

/-- EVENT_STAGED. -/
def execEventStaged (s : State) : Out := finish (eventStaged s)

/-! ## Programming -/

/-- An own event as a record (09 R480–R485). -/
def recordOf (node : NodeNo) (seq : Nat) (e : Event) : Record :=
  { time := BitVec.ofNat 64 e.time
    source := BitVec.ofNat 16 (node.val * 8192 + e.kind * 1024 + e.index)
    code := e.code
    value := e.value
    flags := BitVec.ofNat 16 (e.qual * 4096 + e.newState * 256 + e.prevState * 16 + (if e.tunset then 8 else 0) +
      (if e.firstOut then 4 else 0) + (if e.ackBit then 2 else 0) + (if e.condOn then 1 else 0))
    seq := BitVec.ofNat 16 seq
    detail := e.detail }

/-- The next sequence number (09 R485). -/
def nextSeq (s : State) : Nat := (s.log.seq + 1) % 65536

/-- The node a record came from (09 R480). -/
def recordNode (r : Record) : Nat := r.source.toNat / 8192

/-- Sends a programmed record to the lead (09 R523, R525). -/
def copyToLead (r : Record) (s : State) : State :=
  if s.live.logCopy && s.watch.lead.isSome && !isLead s && !linksListenXo s then send (.logcopy r) s else s

/-- Programs a slot of the sector in use; a full sector is left (09 R500). -/
def programSlot (k : Fin 8) (x : Slot) (s : State) : State :=
  let s := onSector k (fun y => { y with slots := y.slots ++ [x] }) s
  if sectorSlots ≤ (sectorOf s k).slots.length then
    setSector k (fun y => { y with st := .full }) (onLog (fun l => { l with filling := none }) s)
  else s

/-- A slot of STAGE has freed: the drops are staged ahead of any new event (09 R492). -/
def stageDrops (s : State) : State := onLog (fun l => { l with burst := 0, stage := l.stage ++ dropsDue s }) s

/-- A record fails to verify (09 R501): the next slot is tried, and a second failure closes the sector. -/
def programFails (k : Fin 8) (s : State) : State :=
  let slot := (sectorOf s k).slots.length
  let s := programSlot k .torn (onSector k (fun x => { x with failures := x.failures + 1 }) s)
  if 2 ≤ (sectorOf s k).failures then
    let s := if s.log.filling = some k then
        setSector k (fun x => { x with st := .full }) (onLog (fun l => { l with filling := none }) s)
      else s
    makeReady (storCauses (fun c => { c with program := true }) (emitLog 0x0708 (BitVec.ofNat 32 slot) [k.val] s))
  else makeReady s

/-- Whether the writer may program now: no foreground erase, a background erase suspended (09 R491, R511). -/
def mayProgram (s : State) : Bool :=
  writerRuns s && s.log.opened && !s.log.full && s.log.clearing.isNone &&
    (match s.log.erase with
      | none => true
      | some e => !e.foreground && e.suspended)

/-- Effect of RECORD_PROGRAMMED (09 R485, R490–R495, R501, R523, R524). -/
def recordProgrammed (verified : Bool) (s : State) : State :=
  match s.log.filling with
  | none => s
  | some k =>
    if mayProgram s = false then s
    else
    let s := onLog (fun l => { l with erase := l.erase.map fun e => { e with wrote := true } }) s
    if lastSlotNext s then
      if verified then
        let seq := nextSeq s
        let r := recordOf s.watch.node seq (ownEvent 0x0705 (BitVec.ofNat 32 (logCount s + 1)) s)
        copyToLead r (becomeFull (programSlot k (.record r) (onLog (fun l => { l with seq := seq }) s)))
      else becomeFull (programSlot k .torn s)
    else match s.log.stage with
      | [] => s
      | x :: rest =>
        if verified then
          let (r, seq) := match x with
            | .own e => (recordOf s.watch.node (nextSeq s) e, nextSeq s)
            | .copied r => (r, s.log.seq)
          let s := onLog (fun l => { l with stage := rest, seq := seq }) s
          copyToLead r (makeReady (stageDrops (programSlot k (.record r) s)))
        else programFails k s

/-- RECORD_PROGRAMMED. -/
def execRecordProgrammed (verified : Bool) (s : State) : Out := finish (recordProgrammed verified s)

/-! ## Erase events -/

/-- Records 1–3 of a cleared log in its first sector, and the end of steps 1–3 (09 R506, R507). -/
def clearRecords (k : Fin 8) (c : Clearing) (s : State) : State :=
  let l := s.log
  let rec0 : Event := { time := c.time, tunset := c.tunset, kind := 3, index := 4, code := 0 }
  let e1 : Event := { rec0 with kind := c.src.1, index := c.src.2, code := 0x0701, value := BitVec.ofNat 32 c.oldCount }
  let e2 : Event := { rec0 with code := 0x0702, detail := detail (two16 l.refused[0] ++ two16 l.refused[1] ++
    two16 l.refused[2] ++ two16 l.refused[3]) }
  let e3 : Event := { rec0 with code := 0x0703, detail := detail (two16 l.refused[4] ++ two16 l.refused[5] ++
    two16 l.refused[6] ++ two16 l.dropped) }
  let rs := [recordOf s.watch.node 1 e1, recordOf s.watch.node 2 e2, recordOf s.watch.node 3 e3]
  let s := setSector k (fun x => { x with st := .filling, slots := rs.map Slot.record, failures := 0 }) s
  let s := onLog (fun l => { l with
    filling := some k, seq := 3, refused := .replicate 7 0, dropped := 0, clearing := none, full := false }) s
  let s := logFullCause false (storCauses (fun x => { x with program := false }) s)
  let s := rs.foldl (fun s r => copyToLead r s) s
  deliver c.by_ (plainReply none) (storeDone c.by_ s)

/-- A sector could not be erased in 3 attempts: it stays in ERASING, out of use (09 R509, R515). -/
def eraseGivenUp (e : Erase) (s : State) : State :=
  let s := emitLog 0x0707 0 [e.sector.val]
    (onSector e.sector (fun x => { x with out := true }) (onLog (fun l => { l with erase := none }) s))
  let s := storCauses (fun c => { c with sectorOut := true }) s
  match s.log.clearing with
  | some c =>
    match (List.finRange 8).find? fun k => decide (e.sector < k) with
    | some k => beginErase k true s
    | none =>
      let s := becomeFull (onLog (fun l => { l with clearing := none, clearOn := false }) s)
      deliver c.by_ (plainReply (some .e17)) (storeDone c.by_ s)
  | none => makeReady (nextErase s)

/-- A sector is erased and verified (09 R500, R506, R508). -/
def erased (e : Erase) (s : State) : State :=
  let s := setSector e.sector (fun x => { x with st := .erased, slots := [], failures := 0, out := false })
    (onLog (fun l => { l with erase := none }) s)
  let s := storCauses (fun c => { c with sectorOut := (List.finRange 8).any fun k => (sectorOf s k).out }) s
  match s.log.clearing with
  | some c => nextErase (clearRecords e.sector c
      (onLog (fun l => { l with toErase := (List.finRange 8).filter (· ≠ e.sector) }) s))
  | none => makeReady (nextErase s)

/-- Effect of ERASE_COMPLETE (09 R500, R503, R506–R510, R515, R516). -/
def eraseComplete (verified : Bool) (s : State) : State :=
  match s.log.erase with
  | none => s
  | some e =>
    if writerRuns s = false ∨ e.suspended then s
    else if verified then erased e s
    else if e.attempts + 1 < 3 then
      onLog (fun l => { l with erase := some { e with attempts := e.attempts + 1, since := s.now, resumed := false } }) s
    else eraseGivenUp e s

/-- ERASE_COMPLETE. -/
def execEraseComplete (verified : Bool) (s : State) : Out := finish (eraseComplete verified s)

/-- Effect of ERASE_SUSPEND (09 R511, R512): a record waits, and 200 µs have passed since a resumption. -/
def eraseSuspend (s : State) : State :=
  match s.log.erase with
  | some e =>
    if writerRuns s && !e.foreground && !e.suspended && (!s.log.stage.isEmpty || lastSlotNext s) &&
        (!e.resumed || decide (e.since + 200 ≤ s.now)) then
      onLog (fun l => { l with erase := some { e with suspended := true, wrote := false, since := s.now } }) s
    else s
  | none => s

/-- ERASE_SUSPEND. -/
def execEraseSuspend (s : State) : Out := finish (eraseSuspend s)

/-- Effect of ERASE_RESUME (09 R511): one record at least has been programmed, or none waits any more. -/
def eraseResume (s : State) : State :=
  match s.log.erase with
  | some e =>
    if writerRuns s && e.suspended && (e.wrote || (s.log.stage.isEmpty && !lastSlotNext s)) then
      onLog (fun l => { l with erase := some { e with suspended := false, since := s.now, resumed := true } }) s
    else s
  | none => s

/-- ERASE_RESUME. -/
def execEraseResume (s : State) : Out := finish (eraseResume s)

/-! ## Opening -/

/-- The bit of a reset source in RSTCAUSE (15 R776, R780). -/
def causeBit : ResetSource → Nat
  | .por => 0 | .rail => 1 | .extrst => 2 | .wde => 3 | .wdi => 4 | .wdesc => 5 | .eccEng => 6 | .partErr => 7
  | .cfgPar => 8 | .hostCore => 9 | .hostSys => 10 | .remCore => 11 | .remSys => 12 | .marchRt => 13

/-- The code of a reset level (15 R793). -/
def levelCode : ResetLevel → Nat
  | .power => 0 | .system => 1 | .core => 2

/-- The record of a reset (15 R793). -/
def logReset (x : ResetLevel × ResetSource × BitVec 16) (s : State) : State :=
  emitBlock 0 0x0601 (x.2.2.setWidth 32) [levelCode x.1, causeBit x.2.1] s

/-- The sequence number of the last valid own record after the 0x0701 record (09 R485). -/
def lastOwnSeq (s : State) : Option Nat :=
  ((logSlots s).drop 1).reverse.findSome? fun x => match x with
    | .record r => if recordNode r = s.watch.node.val then some r.seq.toNat else none
    | .torn => none

/-- The torn slots of the FILLING sector (09 R514). -/
def tornCount (s : State) : Nat :=
  match s.log.filling with
  | some k => ((sectorOf s k).slots.filter fun x => decide (x = .torn)).length
  | none => 0

/-- Puts an own record ahead of what STAGE holds; a full STAGE drops it (09 R492). -/
def stageFirst (e : Event) (s : State) : State :=
  if stageFull s then dropEvent s else onLog (fun l => { l with stage := .own e :: l.stage }) s

/-- The writer opens the log (09 R485, R497, R514–R517). -/
def openLog (s : State) : State :=
  let fill := (List.finRange 8).find? fun k => decide ((sectorOf s k).st = .filling)
  let todo := (List.finRange 8).filter fun k =>
    decide ((sectorOf s k).st = .erasing) || decide ((sectorOf s k).st = .free)
  let again := todo.filter fun k => decide ((sectorOf s k).st = .erasing)
  let full := fill.isNone && decide (logSectors s ≠ []) && decide ((nextSector s) = none)
  let s := onLog (fun l => { l with
    opened := true, filling := fill, toErase := todo, clearOn := decide (todo ≠ []), restore := false
    refused := if l.restore then l.savedRefused else l.refused }) s
  let torn := tornCount s
  let s := match lastOwnSeq s with
    | some n => onLog (fun l => { l with seq := n }) s
    | none => stageFirst (ownEvent 0x070B 0 s) (onLog (fun l => { l with seq := 0 }) s)
  let s := if torn = 0 then s else emitLog 0x0709 (BitVec.ofNat 32 torn) [] s
  let s := again.foldl (fun s k => emitLog 0x0706 0 [k.val] s) s
  let s := if full then becomeFull s else s
  makeReady (nextErase s)

/-- Effect of LOG_OPEN (09 R514, 15 R793): the resets since the log was last open are recorded now. -/
def logOpen (s : State) : State :=
  if writerRuns s && !s.log.opened then
    let due := s.rst.logDue
    let s := openLog s
    due.foldl (fun s x => logReset x s) { s with rst := { s.rst with logDue := [] } }
  else s

/-- LOG_OPEN. -/
def execLogOpen (s : State) : Out := finish (logOpen s)

/-- Effect of REFUSED_COUNTER_APPEND (09 R497). -/
def refusedCounterAppend (s : State) : State :=
  if writerRuns s && s.log.opened && decide (s.log.refused ≠ s.log.savedRefused) &&
      (match s.log.savedAt with
        | some t => decide (t + 10 * usSec ≤ s.now)
        | none => true) then
    saveRefused s
  else s

/-- REFUSED_COUNTER_APPEND. -/
def execRefusedCounterAppend (s : State) : Out := finish (refusedCounterAppend s)

/-! ## LOG lines -/

/-- Bytes as groups of four hex digits. -/
def byteGroups : List Byte → List Text
  | a :: b :: r => showHexDigits 4 (a.toNat * 256 + b.toNat) :: byteGroups r
  | _ => []

/-- The data line of a record (09 R520). -/
def recordLine (pos : Nat) (r : Record) : Text :=
  txt "= " ++ showPadded 6 pos ++ (byteGroups (recordBytes r)).flatMap fun g => ' ' :: g

/-- The reply to LOG READ from a position (09 R519, R521). -/
def readLog (p n : Nat) (s : State) : List Text :=
  let slots := logSlots s
  if slots.length < p then [txt "= LOG.END"]
  else
    let part := (slots.drop (p - 1)).take n
    let lines := (part.zip (List.range part.length)).filterMap fun x => match x.1 with
      | .record r => some (recordLine (p + x.2) r)
      | .torn => none
    if lines.length = part.length then lines
    else lines ++ [txt "= LOG.SKIPPED " ++ showNat (part.length - lines.length)]

/-- A whole number as written: E01 where it is none, E04 where it has a fraction or a sign below 0 (11 R585). -/
def readWhole (t : Text) : Except Err Nat :=
  match readNumber t with
  | none => .error .e01
  | some q => if q.den = 1 ∧ 0 ≤ q then .ok q.num.natAbs else .error .e04

/-- The work of LOG READ (09 R519–R521). -/
def bodyLogRead (pos : LogPos) (count : Option Text) (s : State) : State × Option Reply :=
  let n := match count with
    | some t => readWhole t
    | none => .ok 1
  let p : Except Err (Option Nat) := match pos with
    | .last => .ok none
    | .at_ t => (readWhole t).map some
  match p, n with
  | .error .e01, _ => refused .e01 s
  | _, .error .e01 => refused .e01 s
  | .ok p, .ok n =>
    if n < 1 ∨ 40 < n ∨ p = some 0 then refused .e04 s
    else okLines (readLog (p.getD (max 1 (logCount s + 1 - n))) n s) s
  | _, _ => refused .e04 s

/-- LOG READ. -/
def execLogRead (h : LineHdr) (pos : LogPos) (count : Option Text) (s : State) : Out :=
  finish (runLine h (txt "LOG") (bodyLogRead pos count) s)

/-- Flash work of an earlier line that runs in the STORE domain (10 R564, 11 R632). -/
def flashBusy (s : State) : Bool := s.interp.flash.isSome || s.log.clearing.isSome

/-- The work of LOG CLEAR (09 R505–R510). -/
def bodyLogClear (h : LineHdr) (s : State) : State × Option Reply :=
  if may s h .custodian = false then refused .e06 s
  else if s.log.clearOn then refused .e16 s
  else if flashBusy s then refused .e08 s
  else if writerRuns s = false ∨ s.log.opened = false then refused .e17 s
  else
    let c : Clearing :=
      { by_ := waiter h s, src := sessSource s h.sess, time := s.nodeTime, tunset := !s.watch.timeSet, oldCount := logCount s }
    let s := onLog (fun l => { l with
      sectors := l.sectors.map fun x => { x with st := .free, slots := [], failures := 0 }
      filling := none, erase := none, clearing := some c, clearOn := true, full := false, toErase := [] }) s
    held (beginErase 0 true s)

/-- LOG CLEAR. -/
def execLogClear (h : LineHdr) (s : State) : Out := finish (runLine h (txt "LOG") (bodyLogClear h) s)

end Sys2Proof.Machine
end

