-- ==== Sys2Proof/Machine/ReadOnly.lean ====
section
/-! DEFINITION. The text of every read-only value (11 R596 and the read-only tables of 01–16). -/

namespace Sys2Proof.Machine

/-! ## Times -/

/-- The calendar date of a count of days from 2000-01-01 (11 R605). -/
def dateOf (days : Nat) : Nat × Nat × Nat :=
  let z := days + 730425
  let era := z / 146097
  let doe := z % 146097
  let yoe := (doe - doe / 1460 + doe / 36524 - doe / 146096) / 365
  let doy := doe - (365 * yoe + yoe / 4 - yoe / 100)
  let mp := (5 * doy + 2) / 153
  let m := if mp < 10 then mp + 3 else mp - 9
  (yoe + era * 400 + (if m ≤ 2 then 1 else 0), m, doy - (153 * mp + 2) / 5 + 1)

/-- The count of days of a calendar date from 2000-01-01. -/
def daysOf (y m d : Nat) : Int :=
  let y' := if m ≤ 2 then y - 1 else y
  let era := y' / 400
  let yoe := y' % 400
  let doy := (153 * (if 2 < m then m - 3 else m + 9) + 2) / 5 + d - 1
  let doe := yoe * 365 + yoe / 4 - yoe / 100 + doy
  (era * 146097 + doe : Nat) - (730425 : Int)

/-- Node time in calendar form (11 R605). -/
def isoText (t : Tick) : Text :=
  let (y, m, d) := dateOf (t / 86400000000)
  let us := t % 86400000000
  showPadded 4 y ++ txt "-" ++ showPadded 2 m ++ txt "-" ++ showPadded 2 d ++ txt "T" ++ showPadded 2 (us / 3600000000) ++
    txt ":" ++ showPadded 2 (us / 60000000 % 60) ++ txt ":" ++ showPadded 2 (us / 1000000 % 60) ++ txt "." ++
    showPadded 6 (us % 1000000) ++ txt "Z"

/-- A time left in whole units, rounded up. -/
def leftIn (unit now end_ : Tick) : Nat := (end_ - now + (unit - 1)) / unit

/-! ## Numbers -/

/-- How many decimals the smallest power of ten at or above one LSB has, within a bound (11 R596). -/
def lsbDecimals : Nat → Rat → Nat
  | 0, _ => 0
  | k + 1, lsb => if lsb * 10 ≤ 1 then lsbDecimals k (lsb * 10) + 1 else 0

/-- An engineering value with the decimals of its channel's present scaling and its unit (11 R596). -/
def showEng (s : State) (c : Ch) (v : Rat) : Text :=
  let x := s.sliceSeen c
  let lsb := ratAbs (x.act.eng1 - x.act.eng0) / fullScale / tenPow (decades x.act x.range)
  withUnit (showFixed (if lsb = 0 then 0 else lsbDecimals 20 lsb) v) (s.chCfg c).set.unit

/-- An 18-bit code in decimal and hex (11 R596). -/
def showCode (z : Int) : Text :=
  (if 0 < z then txt "+" else []) ++ showInt z ++ txt " (" ++ showMask 5 (z % 262144).toNat ++ txt ")"

/-- A number to 3 significant digits (10 R546). -/
def threeDigits (n : Nat) : Nat :=
  let p : Nat := 10 ^ (decLen 20 n - 3)
  (roundAway ((n : Rat) / (p : Rat))).natAbs * p

/-! ## A channel -/

/-- The markers of the last code (02 R138). -/
def markTexts (m : Marks) : List Text :=
  (if m.ovr then [txt "OVR"] else []) ++ (if m.unr then [txt "UNR"] else []) ++ (if m.setl then [txt "SETL"] else []) ++
    (if m.dist then [txt "DIST"] else [])

/-- The text of a range. -/
def rangeText (r : Range) : Text := rangeTexts.getD (posIn rangeList r) []

/-- CHnnn.LOCK (03 R199). -/
def lockText : Lock → Text
  | .steady => txt "STEADY" | .seek => txt "SEEK" | .confirm => txt "CONFIRM" | .locked => txt "LOCKED"

/-- CHnnn.LINE (02 R138). -/
def lineStateText : Option LineState → Text
  | none => txt "NONE"
  | some .open => txt "OPEN"
  | some .closed => txt "CLOSED"
  | some .broken => txt "BREAK"
  | some .short => txt "SHORT"

/-- The next predicted on-start as a time (03 R199): the present flash's, or that of the flash after it once its on-edge has
come or its on-start has passed. -/
def nextOn (ch : LightChar) (now : Tick) (f : Flash) : Tick :=
  if f.edge = none ∧ now < f.due then f.due else (f.after ch).due

/-- A read-only value of a channel, as the controller last saw its slice (01 R18, 02 R138, 03 R199; log 163). -/
def chRo (s : State) (c : Ch) (f : ChRo) : Text :=
  let x := s.sliceSeen c
  match f with
  | .value => match x.value with
    | some v => showEng s c v
    | none => txt "NONE"
  | .code => match x.code with
    | some z => unwords ([showCode z] ++ (if x.codeRange = .none then [] else [rangeText x.codeRange]) ++ markTexts x.marks)
    | none => txt "NONE"
  | .status => showBits chFlagTexts (flagBits x.flags.toList)
  | .live => showBits chFlagTexts (liveBits x.flags.toList)
  | .rss => match x.rss with
    | .off => txt "OFF"
    | .starting r _ => ratioTexts.getD (ratioIdx r) []
    | .running r _ => ratioTexts.getD (ratioIdx r) []
  | .tj => withUnit (showInt x.tj) (txt "degC")
  | .line => lineStateText x.line
  | .base => showEng s c x.lamp.base
  | .tdark => showEng s c (tDark x.lamp.limits)
  | .lock => lockText x.lamp.lock
  | .nexton =>
    if x.lamp.lock = .locked then
      showNat ((s.nodeTime : Int) + nextOn (s.sliceCfg c).char s.now x.lamp.flash - s.now).toNat
    else txt "0"
  | .acfreq => withUnit (if x.ac then showFixed 1 (500000 / x.lamp.trackedHalf) else txt "0.0") (txt "Hz")

/-! ## Alarms, calls and the watch -/

/-- An alarm state's code and name (04 R269). -/
def alarmText (a : AlarmState) : Text := showNat (alarmCode a) ++ txt " " ++ alarmStateText a

/-- The holder of a first-out mark (04 R269). -/
def firstText : Option FirstOut → Text
  | none => txt "NONE"
  | some (.cond c k) => targetText (.cond c k)
  | some (.member m) => targetText (.member m)

/-- A call state's code and name (05 R281). -/
def callText : CallState → Text
  | .idle => txt "0 IDLE" | .stage1 => txt "1 STAGE1" | .stage2 => txt "2 STAGE2" | .stage3 => txt "3 STAGE3"
  | .accepted => txt "4 ACCEPTED"

/-- The engineers that a call's stage calls (05 R282, R320). -/
def stageEngineers (s : State) (c : Call) : List Eng :=
  if c.stage = 3 then (List.finRange 16).filter (onRoster s)
  else if c.stage = 2 then c.duty.toList ++ c.next.toList
  else c.duty.toList

/-- Gnn.CALL (05 R320). -/
def grpCallText (s : State) (g : Grp) : Text :=
  let c := s.call s.watch.node g
  if c.st = .idle then callText .idle
  else unwords ([callText c.st] ++ (stageEngineers s c).map engText ++ (match c.timerEnd with
    | some t => [showNat (leftIn usSec s.nodeTime t) ++ txt " s"]
    | none => []))

/-- CALL.DUTY (05 R320). -/
def dutyText (s : State) : Text :=
  match dutyEngineer s with
  | none => txt "NONE"
  | some e => engText e ++ (match (s.live.eng[e.val]).name with
    | [] => []
    | n => txt " " ++ n)

/-- CANx.STATE (06 R402): a controller off the bus reads BUSOFF (log 26). -/
def canStateText : BusMode → Text
  | .active => txt "ACTIVE" | .passive => txt "PASSIVE" | .busOff => txt "BUSOFF" | .off => txt "BUSOFF"
  | .listen => txt "LISTEN" | .listenXo => txt "LISTEN-XO"

/-- A bit time at a rate in 0.1 kbit/s with a sample point in 0.1 %, from the 40 MHz of LINK (06 R326): prescaler, time quanta,
the segment before the sample point (propagation and phase segment 1), phase segment 2, the jump width, which is that
segment, and the sample point, rounded to the nearest time quantum. The prescaler is the node's (log 25). -/
def bitTime (rate sp : Nat) : List Nat :=
  let p := Config.canPrescaler rate
  let quanta := 400000 / (rate * p)
  let at_ := (roundAway ((quanta : Rat) * sp / 1000)).toNat
  let seg2 := quanta - at_
  [p, quanta, at_ - 1, seg2, seg2, (roundAway ((at_ : Rat) * 1000 / quanta)).toNat]

/-- The number of a node as WATCH.NODE shows it. -/
def leadText : Option NodeNo → Text
  | none => txt "NONE"
  | some n => showNat n.val

/-! ## Outputs and the panel -/

/-- LXn.STATE (07 R438). -/
def lxStateText (x : LoopOut) : Text :=
  if x.lost then txt "NOLOOP" else if x.therm then txt "THERM" else if x.lowv then txt "LOWV"
  else if x.force.isSome then txt "FORCED" else if x.hold then txt "HOLD" else txt "RUN"

/-- PANEL.STATE (08 R468, R473, R479, 16 R822): a TN panel rises until its image is complete, a BCH panel is DIRTY from the
start of its rails. -/
def panelStateText (p : Panel) : Text :=
  match p.phase with
  | .off | .waiting => txt "OFF"
  | .risingVlcd _ | .risingVhv _ | .clearFrame _ | .imageFrame _ => if p.type = .bch then txt "DIRTY" else txt "RISING"
  | .run => if p.dirtyLines ≠ 0 || p.rewriteDue then txt "DIRTY" else txt "RUN"
  | .discharging _ _ => txt "DISCHARGING"
  | .fault _ => txt "FAULT"

/-! ## The logbook, the port and scripts -/

/-- The names of the sector states (09 R499). -/
def sectorText (x : Sector) : Text :=
  if x.out then txt "OUT" else match x.st with
  | .free => txt "FREE" | .erasing => txt "ERASING" | .erased => txt "ERASED" | .filling => txt "FILLING" | .full => txt "FULL"

/-- HP.LAST (10 R562, R577). -/
def lastText (a : Answer) : Text :=
  let tag := match a.tag with
    | some t => [txt "#" ++ t]
    | none => []
  if a.verb = [] then txt "NONE"
  else if a.abandoned then unwords ([txt "ABANDONED", a.verb] ++ tag)
  else unwords ([a.verb] ++ tag ++ (match a.reply with
    | some r => [statusLine a.tag r.err]
    | none => []))

/-- Sxx.LAST (11 R637). -/
def scriptLastText : Option ScriptEnd → Text
  | none => txt "NONE"
  | some e => txt "L" ++ showPadded 2 e.line ++ txt " " ++ statusOf e.err

/-- The image in force (11 R609, R614). -/
def imageInForce (s : State) : Option Image :=
  let ok : Option Image → Option Image := fun o => o.filter fun i => i.valid
  match ok s.images.slot0, ok s.images.slot1 with
  | some a, some b => if a.gen < b.gen then some b else some a
  | some a, none => some a
  | none, b => b

/-- The partition image in force (12 R665, R678). -/
def partInForce (s : State) : Option PartImage :=
  let ok : Option PartImage → Option PartImage := fun o => o.filter fun i => i.valid
  match ok s.part.slot0, ok s.part.slot1 with
  | some a, some b => if a.gen < b.gen then some b else some a
  | some a, none => some a
  | none, b => b

/-! ## Security, clocks, memory, reset -/

/-- SEC.KEYSW (12 R688). -/
def keyswText : KeySwitch → Text
  | .asserted => txt "ASSERTED" | .released => txt "RELEASED" | .fault => txt "FAULT"

/-- What ENGINE, LINK and STORE run on (13 R737). -/
def chainText : Chain → Text
  | .irc => txt "IRC" | .ircChain => txt "IRC-CHAIN" | .xo => txt "XO"

/-- Whether the gate of the command clock is open (10 R555, R559, 13 R696). -/
def commandRuns (s : State) : Bool :=
  if s.port.async then s.port.inLine || (s.port.answer.no ≠ 0 && s.port.answer.reply.isNone) else s.port.transaction

/-- CLOCK.dom.SRC (13 R696, R737). -/
def domSrcText (s : State) (d : Fin 5) : Text :=
  if d = 3 then (if s.clk.panelLpo then txt "LPO" else chainText s.clk.chain)
  else if d = 4 then (if s.port.async then txt "IRC" else txt "HOST")
  else chainText s.clk.chain

/-- CLOCK.dom.EN (13 R696, R737). -/
def domEnabled (s : State) (d : Fin 5) : Bool :=
  if d = 3 then decide (s.power.mode = .run)
  else if d = 4 then commandRuns s && decide (s.power.mode ≠ .deep)
  else decide (s.power.mode ≠ .deep)

/-- The flags of CLOCK.STATUS from bit 0 (13 R737). -/
def clockFlags (s : State) : List Flag := [s.flags.clkFail, s.flags.swHang, s.clk.sscPin, s.clk.lpoFail]

/-- MEM.bank.STATE (14 R772). -/
def bankStateText : BankState → Text
  | .on => txt "ON" | .ret => txt "RET" | .off => txt "OFF" | .clearing => txt "CLEARING" | .test => txt "TEST"

/-- The names of RSTCAUSE from bit 0 (15 R780). -/
def rstTexts : List Text :=
  [txt "POR", txt "RAIL", txt "EXTRST", txt "WDE", txt "WDI", txt "WDESC", txt "ECCENG", txt "PARTERR", txt "CFGPAR",
   txt "HOSTCORE", txt "HOSTSYS", txt "REMCORE", txt "REMSYS", txt "MARCHRT"]

/-- A reset level's name (15 R773). -/
def levelText : ResetLevel → Text
  | .power => txt "POWER" | .system => txt "SYSTEM" | .core => txt "CORE"

/-- Whether no program and no erase of the log runs and STAGE is empty (15 R787). -/
def logIdle (s : State) : Bool :=
  s.log.stage.isEmpty && s.log.incoming.isEmpty && s.log.erase.isNone && !lastSlotNext s

/-- RESET.IDLE.name (15 R787). -/
def blockIdle (s : State) : BlockName → Bool
  | .can b => decide ((s.canOf b).mode = .listen)
  | .logw => logIdle s
  | .panel => decide (panelStateText s.panel = txt "OFF")
  | .lx n => (s.lxOf n).inFlight.isNone
  | .ch c => decide ((s.chCfg c).mode = .off)

/-- A session's name in SETCOLL.LAST, from its source (09 R481, 16 R833). -/
def sourceText (p : Nat × Nat) : Text :=
  if p.1 = 3 then txt "S00" else if p.2 = 0 then txt "HOST" else txt "CONSOLE" ++ showNat (p.2 - 1)

/-- SETCOLL.LAST (16 R833). -/
def setcollText (s : State) : Text :=
  match s.store.collision with
  | none => txt "NONE"
  | some (i, a, b, t) => unwords [settingText i, sourceText a, sourceText b, isoText t]

/-- The mask of the fitted dies (01 Settings). -/
def feMask : Part → Nat
  | .ev128 => 0xFF
  | .ev064 => 0x0F

/-- A part's name (00 R3). -/
def partText : Part → Text
  | .ev128 => txt "EV-128"
  | .ev064 => txt "EV-064"

/-- A read-only value as GET shows it after its name. -/
def roShown (s : State) : RoId → Text
  | .ch c f => chRo s c f
  | .again c b => showNat ((s.slice c).flags[b.val]).again
  | .condState c k => alarmText (s.alarm c k).st
  | .condShelf c k => match (s.alarm c k).st, (s.alarm c k).shelfEnd with
    | .shelved, some t => showNat (leftIn usMin s.nodeTime t)
    | _, _ => txt "0"
  | .grpState g => alarmText s.engine.gstate[g.val]
  | .grpFirst g => firstText s.engine.first[g.val]
  | .grpCall g => grpCallText s g
  | .g31State m => alarmText (s.member m).st
  | .alLevel n => if s.pads.al[n.val] then txt "ENERGISED" else txt "DEENERGISED"
  | .callDuty => dutyText s
  | .cuState u => if (s.caller.units[u.val]).present then txt "PRESENT" else txt "ABSENT"
  | .deadmanLeft => match s.live.dead.en, s.caller.dead.periodEnd with
    | true, some t => showNat (leftIn usSec s.now t)
    | _, _ => txt "0"
  | .nodePart => partText s.ident.part
  | .nodeFe => showMask 2 (feMask s.ident.part)
  | .nodeSerial => unwords (showGroups 4 s.ident.serial.toNat)
  | .canState b => canStateText (s.canOf b).mode
  | .canTec b => showNat (s.canOf b).tec
  | .canRec b => showNat (s.canOf b).recv
  | .canTiming b => let t := (s.canOf b).timing
    Config.canTimingText (bitTime t.nom t.nsp ++ bitTime (t.data * 1000) t.dsp)
  | .canWdrop b => showNat (s.canOf b).wdrop
  | .canRxlost b => showNat (s.canOf b).rxlost
  | .watchLead => leadText s.watch.lead
  | .watchHeard => showMask 2 (heardMask s)
  | .watchView => match s.watch.view with
    | none => txt "NONE"
    | some v => Config.viewText (busIdx v.bus).val v.frame.id v.frame.data
  | .watchSkip => showNat s.watch.skip
  | .lxState n => lxStateText (s.lxOf n)
  | .lxOut n => withUnit (showFixed 4 ((s.lxOf n).out / 10000)) (txt "mA")
  | .lxTermv n => withUnit (if (s.lxOf n).lost then txt "0.0" else showFixed 1 ((s.lxOf n).termv / 10)) (txt "V")
  | .panelState => panelStateText s.panel
  | .panelStatus => showBits panelFlagTexts (flagBits s.panel.flags.toList)
  | .panelVhvmeas => withUnit (showFixed 1 (s.panel.vhvTenths / 10)) (txt "V")
  | .logCount => showNat (logCount s)
  | .logCapacity => showNat (logCapacity s)
  | .logRefused c => showNat s.log.refused[c.val]
  | .logDropped => showNat s.log.dropped
  | .logSectors => unwords (s.log.sectors.toList.map sectorText)
  | .logClearing => if s.log.clearOn then txt "ON" else txt "OFF"
  | .hpMode => if s.port.async then txt "ASYNC" else txt "CLOCKED"
  | .hpBaud => match s.port.async, s.port.baud with
    | true, some n => showNat (threeDigits n)
    | _, _ => txt "0"
  | .hpLast => lastText s.port.last
  | .hpEvents => showBits hpFlagTexts (flagBits s.port.events.toList)
  | .scriptState n => if s.interp.script.any fun r => decide (r.script = n) then txt "RUNNING" else txt "IDLE"
  | .scriptLast n => scriptLastText s.interp.ends[n.val]
  | .configGen => showNat (((imageInForce s).map (·.gen)).getD 0)
  | .configSaved => showNat s.images.saved
  | .secKeysw => keyswText s.part.keysw
  | .secStatus => showBits secFlagTexts (flagBits s.part.flags.toList)
  | .secLock r => match s.keys.lockEnd[r.val] with
    | some t => showNat (leftIn usSec s.now t)
    | none => txt "0"
  | .secFails r => showNat s.keys.fails[r.val]
  | .partGen => showNat (((partInForce s).map (·.gen)).getD 0)
  | .partUsed => showNat (partitionBytes s.live)
  | .domSrc d => domSrcText s d
  | .domEn d => if domEnabled s d then txt "1" else txt "0"
  | .sscNow => withUnit (showFixed 1 ((s.clk.sscNow : Rat) / 2)) (txt "%")
  | .xoCount => showNat s.clk.xoCount
  | .clockStatus => showBits clockFlagTexts (flagBits (clockFlags s))
  | .memState b => bankStateText (s.bank b).st
  | .memSbe b => showNat (s.bank b).sbe
  | .memStatus => showBits (allBanks.map bankText) (flagBits (s.mem.banks.toList.map (·.fault)))
  | .memLast => s.mem.last.getD (txt "NONE")
  | .rstcause => showBits rstTexts s.rst.cause.toNat
  | .resetLast => levelText s.rst.lastLevel ++ txt " " ++ rstTexts.getD (causeBit s.rst.lastSource) []
  | .resetIdle b => if blockIdle s b then txt "YES" else txt "NO"
  | .powerVsup => withUnit (showFixed 1 ((s.pins.vsup : Rat) / 1000)) (txt "V")
  | .setcollLast => setcollText s

/-- A name's data line (11 R596). -/
def nameLine (s : State) (n : Name) : Text :=
  dataLine (nameText n) (match n with
    | .setting i => settingShown s i
    | .ro i => roShown s i)

/-- A reply that shows WATCH.VIEW or WATCH.SKIP freezes the view at its latch point (06 R391). -/
def freezeFor (ns : List Name) (s : State) : State :=
  if ns.any fun n => decide (n = .ro .watchView) || decide (n = .ro .watchSkip) then
    { s with watch := { s.watch with frozen := true } } else s

end Sys2Proof.Machine
end

