-- ==== Sys2Proof/Machine/Clocks.lean ====
section
/-! DEFINITION. The clocks: the source switch, the watchman and its forced path, the return to the XO, spread spectrum and
the measuring counter (13). -/

namespace Sys2Proof.Machine

/-- Changes the clock generation. -/
def onClk (f : Clocks → Clocks) (s : State) : State := { s with clk := f s.clk }

/-- A clock event (13 R735). -/
def emitClk (code : BitVec 16) (bytes : List Nat) (s : State) : State := emitBlock 6 code 0 bytes s

/-- The CLKFAIL cause takes a value (13 R712, 04 R250). -/
def clkFailCause (v : Bool) (s : State) : State :=
  setCause 2 v { s with flags := { s.flags with clkFail := s.flags.clkFail.drive v } }

/-! ## Switching -/

/-- A count of edges in 64 IRC cycles that passes (13 R700). -/
def edgesPass (n : Nat) : Bool := decide (16 ≤ n)

/-- The work of a line that switches the chain has ended with a status. -/
def endClockWork (e : Option Err) (s : State) : State :=
  match s.interp.clock with
  | some (.clock _ w) => deliver w (plainReply e) { s with interp := { s.interp with clock := none } }
  | _ => s

/-- The switch of the chain begins: the domains run on the IRC while the PLL locks (13 R703). -/
def beginSwitch (toXo : Bool) (w : Waiter) (s : State) : State :=
  onClk (fun c => { c with chain := .irc, goal := some (if toXo then .xo else .ircChain) })
    { s with interp := { s.interp with clock := some (.clock toXo w) } }

/-- The written text of a CLOCK.SRC value. -/
def srcText (toXo : Bool) : Text := if toXo then txt "XO" else txt "IRC"

/-- The work of a write of CLOCK.SRC (13 R700, R703): `edges` are those of the XO in 64 IRC cycles; the IRC never stops. -/
def bodyClockSrc (h : LineHdr) (toXo : Bool) (edges : Nat) (s : State) : State × Option Reply :=
  match checkWrite h.sess (.clock .src) (srcText toXo) s with
  | .error e => refused e s
  | .ok _ =>
    if s.interp.clock.isSome then refused .e08 s
    else if toXo && !(edgesPass edges && s.clk.xoPassed) then refused .e13 s
    else held (beginSwitch toXo (waiter h s) s)

/-- CLOCK_SRC_XO. -/
def execClockSrcXo (h : LineHdr) (edges : Nat) (s : State) : Out :=
  finish (runLine h (txt "SET") (bodyClockSrc h true edges) s)

/-- CLOCK_SRC_IRC. -/
def execClockSrcIrc (h : LineHdr) (s : State) : Out := finish (runLine h (txt "SET") (bodyClockSrc h false 0) s)

/-- A line's switch of the chain is complete: the setting is written, with its records (13 R703, R704, 11 R629). -/
def switchWritten (toXo : Bool) (w : Waiter) (s : State) : State :=
  let s := commitWrite w.sess (sessSource s w.sess) (.clock .src) (.kw (if toXo then 0 else 1)) s
  endClockWork none (emitClk 0x0622 [0, if toXo then 0 else 1] s)

/-- The XO is in use again: CLKFAIL ends (13 R712, R715, R716). -/
def backOnXo (byWrite : Bool) (s : State) : State :=
  if s.clk.xoFailed then
    clkFailCause false (emitClk 0x0621 [if byWrite then 1 else 0]
      (onClk (fun c => { c with xoFailed := false, autoStopped := false }) s))
  else s

/-- Effect of PLL_LOCK (13 R692, R703, R704, R711, R715): the domains move to the PLL taps. -/
def pllLock (s : State) : State :=
  match s.clk.goal with
  | none => s
  | some g =>
    let s := onClk (fun c => { c with chain := g, goal := none }) s
    let w := match s.interp.clock with
      | some (.clock toXo w) => some (toXo, w)
      | _ => none
    let s := if g = .xo then linksToXo (backOnXo w.isSome s)
      else if (s.can.toList.any fun c => decide (c.mode ≠ .listenXo)) then linksToIrc s else s
    match w with
    | some (toXo, w) => switchWritten toXo w s
    | none => s

/-- PLL_LOCK. -/
def execPllLock (s : State) : Out := finish (pllLock s)

/-- The work of a write of CLOCK.PANEL (13 R700): the move takes 64 IRC cycles at most (R702). -/
def bodyClockPanel (h : LineHdr) (value : Text) (s : State) : State × Option Reply :=
  match checkWrite h.sess (.clock .panel) value s with
  | .error e => refused e s
  | .ok v =>
    if s.interp.panelClock.isSome then refused .e08 s
    else if kwOf v = 1 ∧ s.clk.lpoFail.live then refused .e13 s
    else held { s with interp := { s.interp with
      panelClock := some (.panelClock (decide (kwOf v = 1)) s.now (waiter h s)) } }

/-- CLOCK_PANEL_WRITE. -/
def execClockPanelWrite (h : LineHdr) (value : Text) (s : State) : Out :=
  finish (runLine h (txt "SET") (bodyClockPanel h value) s)

/-- The PANEL domain has moved (13 R701, R704). -/
def panelMoved (s : State) : State :=
  match s.interp.panelClock with
  | some (.panelClock toLpo since w) =>
    if since + 4 ≤ s.now then
      let s := { s with interp := { s.interp with panelClock := none } }
      let s := commitWrite w.sess (sessSource s w.sess) (.clock .panel) (.kw (if toLpo then 1 else 0)) s
      deliver w (plainReply none)
        (emitClk 0x0622 [1, if toLpo then 1 else 0] (onClk (fun c => { c with panelLpo := toLpo }) s))
    else s
  | _ => s

/-- A domain's number in 0x0623 (13 R735). -/
def domNo : Domain → Nat
  | .engine => 0 | .link => 1 | .store => 2 | .panel => 3

/-- A hung move ends by the forced path (13 R702, R707, R734, 04 R250). -/
def hung (d : Domain) (s : State) : State :=
  eventCause 3 (emitClk 0x0623 [domNo d] { s with flags := { s.flags with swHang := s.flags.swHang.pulse } })

/-- Effect of SWITCH_HANG (13 R702, R707, R711): it acts while a move of that domain is under way. -/
def switchHang (d : Domain) (s : State) : State :=
  match d with
  | .panel => match s.interp.panelClock with
    | some (.panelClock _ _ w) =>
      deliver w (plainReply (some .e13))
        (hung d (onClk (fun c => { c with panelLpo := false }) { s with interp := { s.interp with panelClock := none } }))
    | _ => s
  | _ => match s.clk.goal with
    | none => s
    | some .xo =>
      endClockWork (some .e13) (hung d (onClk (fun c => { c with chain := .irc, goal := some .ircChain }) s))
    | some _ => hung d s

/-- SWITCH_HANG. -/
def execSwitchHang (dom : Domain) (s : State) : Out := finish (switchHang dom s)

/-! ## The watchman -/

/-- Whether a window's count is off: 0, or more than 12.5 % away (13 R705). -/
def xoOff (xofreq count : Nat) : Bool :=
  let want := 16 * xofreq
  decide (count = 0) || decide (want < 8 * (count - want)) || decide (want < 8 * (want - count))

/-- The cause in 0x0620 (13 R735). -/
def xoCauseNo (xofreq count : Nat) : Nat := if count = 0 then 0 else if xoOff xofreq count then 1 else 2

/-- A measurement that counts the XO or the PLL ends (13 R731). -/
def endXoMeasure (s : State) : State :=
  match s.interp.measure with
  | some (.measure a b _ _ w) =>
    if a = .xo ∨ a = .pll ∨ b = .xo ∨ b = .pll then
      deliver w (plainReply (some .e13)) { s with interp := { s.interp with measure := none } }
    else s
  | _ => s

/-- The XO is found failed while in use: CLKFAIL, its record and the count that stops the automatic return
(13 R712, R716). -/
def xoFails (cause count : Nat) (s : State) : State :=
  let recent := s.now :: s.clk.failures.filter fun t => decide (s.now ≤ t + 10 * usMin)
  let s := onClk (fun c => { c with
    failures := recent, xoFailed := true
    autoStopped := s.live.clock.returnManual || decide (3 ≤ recent.length) }) s
  clkFailCause true (emitClk 0x0620 ([cause] ++ two16 count) s)

/-- The forced path, and after it the IRC chain (13 R707–R711, R729, R730): a switch to the XO is refused. -/
def forcedPath (s : State) : State :=
  let s := onClk (fun c => { c with chain := .irc, goal := some .ircChain }) s
  let s := linksToIrc s
  match s.interp.clock with
  | some (.clock true _) => endClockWork (some .e13) s
  | _ => s

/-- Effect of XO_MONITOR_WINDOW (13 R705–R712, R715, R729–R731). `lockLost` is the PLL's report while it is referenced to
the XO. -/
def xoMonitorWindow (count : Nat) (lockLost : Bool) (s : State) : State :=
  let uses := decide (s.clk.chain = .xo) || decide (s.clk.goal = some .xo)
  let bad := xoOff s.clk.xofreq count || (lockLost && uses)
  let s := onClk (fun c => { c with
    xoCount := count, xoPassed := !bad
    healthySince := if bad then none else some (c.healthySince.getD s.now) }) s
  if bad = false then s
  else
    let s := endXoMeasure s
    if uses = false ∨ s.power.mode = .deep then s
    else
      let s := if s.live.clock.srcIrc ∨ s.clk.xoFailed then s else xoFails (xoCauseNo s.clk.xofreq count) count s
      forcedPath s

/-- XO_MONITOR_WINDOW. -/
def execXoMonitorWindow (count : Nat) (lockLost : Bool) (s : State) : Out := finish (xoMonitorWindow count lockLost s)

/-- Effect of XO_RETURN (13 R715, R716): 10 s ±1.5 % without a failed window. -/
def xoReturn (s : State) : State :=
  match s.clk.healthySince with
  | some t =>
    if s.clk.xoFailed && !s.clk.autoStopped && decide (s.clk.chain = .ircChain) && s.clk.goal.isNone &&
        decide (t + 9850000 ≤ s.now) && decide (s.power.mode ≠ .deep) then
      onClk (fun c => { c with chain := .irc, goal := some .xo }) s
    else s
  | none => s

/-- XO_RETURN. -/
def execXoReturn (s : State) : Out := finish (xoReturn s)

/-- Effect of LPO_MONITOR_WINDOW (13 R713): the PANEL domain leaves the LPO, and a switch to it under way is refused. -/
def lpoMonitorWindow (count : Nat) (s : State) : State :=
  let bad := decide (count < 29) || decide (38 < count)
  let was := s.clk.lpoFail.live
  let s := onClk (fun c => { c with lpoCount := count, lpoFail := c.lpoFail.drive bad }) s
  let s := if bad && !was then emitClk 0x0626 (two16 count) s else s
  if bad = false then s
  else
    let s := onClk (fun c => { c with panelLpo := false }) s
    match s.interp.panelClock with
    | some (.panelClock true _ w) =>
      deliver w (plainReply (some .e13)) { s with interp := { s.interp with panelClock := none } }
    | _ => s

/-- LPO_MONITOR_WINDOW. -/
def execLpoMonitorWindow (count : Nat) (s : State) : Out := finish (lpoMonitorWindow count s)

/-- The node applies CLOCK.SRC at step 8 (13 R733, 15 R792): the XO, or the IRC chain where it fails or is not wanted. -/
def applySource (xoEdges : Nat) (s : State) : State :=
  if s.live.clock.srcIrc then onClk (fun c => { c with chain := .ircChain, goal := none }) s
  else if edgesPass xoEdges && s.clk.xoPassed then
    onClk (fun c => { c with chain := .xo, goal := none, xoFailed := false }) s
  else
    xoFails (xoCauseNo s.clk.xofreq s.clk.xoCount) s.clk.xoCount
      (onClk (fun c => { c with chain := .ircChain, goal := none }) s)

/-! ## Spread spectrum -/

/-- The SSCPIN cause takes a value, with its records (13 R720, R735). -/
def pinCause (v : Bool) (s : State) : State :=
  if s.clk.sscPin.live = v then s
  else emitClk (if v then 0x0624 else 0x0625) (if v then [s.clk.sscNow] else [])
    (onClk (fun c => { c with sscPin := c.sscPin.drive v }) s)

/-- Effect of SSC_COMPLAINT (13 R719, R720). -/
def sscComplaint (s : State) : State :=
  if s.clk.sscNow ≤ s.live.clock.sscMin then pinCause true (onClk (fun c => { c with sscAt := s.now }) s)
  else onClk (fun c => { c with sscNow := c.sscNow - 1, sscAt := s.now }) s

/-- SSC_COMPLAINT. -/
def execSscComplaint (s : State) : Out := finish (sscComplaint s)

/-- Effect of SSC_RAISE (13 R719, R720): 100 ms without a complaint. -/
def sscRaise (s : State) : State :=
  if s.clk.sscAt + 100000 ≤ s.now then
    let s := pinCause false s
    if s.clk.sscNow < s.live.clock.sscDepth then onClk (fun c => { c with sscNow := c.sscNow + 1, sscAt := s.now }) s else s
  else s

/-- SSC_RAISE. -/
def execSscRaise (s : State) : Out := finish (sscRaise s)

/-! ## The measuring counter -/

/-- The nominal frequency of a clock in Hz (13 R689, R696, 01 R16). -/
def clkHz (s : State) : ClkName → Nat
  | .xo => s.clk.xofreq * 1000000
  | .irc => 16000000
  | .lpo => 32768
  | .pll => 40000000
  | .ch _ => 4096000

/-- Whether a clock passes as a target (13 R700). -/
def clkPasses (s : State) (edges : Nat) : ClkName → Bool
  | .lpo => !s.clk.lpoFail.live
  | .xo => edgesPass edges && s.clk.xoPassed
  | _ => edgesPass edges

/-- Whether a clock exists on the part (00 R5). -/
def clkFitted (p : Part) : ClkName → Bool
  | .ch c => chFitted p c
  | _ => true

/-- The work of MEASURE CLOCK (13 R724, R725). -/
def bodyMeasure (h : LineHdr) (a b : Option ClkName) (n : Option Text) (aEdges bEdges : Nat) (s : State) :
    State × Option Reply :=
  let n := match n with
    | some t => readWhole t
    | none => .ok 20
  match n, a, b with
  | .error .e01, _, _ => refused .e01 s
  | n, some a, some b =>
    if clkFitted s.ident.part a = false ∨ clkFitted s.ident.part b = false then refused .e03 s
    else if may s h .engineer = false then refused .e06 s
    else match n with
      | .ok n =>
        let gate := 2 ^ n
        if n < 8 ∨ 24 < n ∨ a = b then refused .e04 s
        else if 10 * clkHz s b < gate ∨ gate * 1000 < clkHz s b then refused .e04 s
        else if s.interp.measure.isSome then refused .e08 s
        else if (clkPasses s aEdges a && clkPasses s bEdges b) = false then refused .e13 s
        else held { s with interp := { s.interp with measure := some (.measure a b n s.now (waiter h s)) } }
      | .error _ => refused .e04 s
  | _, _, _ => refused .e03 s

/-- MEASURE_CLOCK. -/
def execMeasureClock (h : LineHdr) (a : Option ClkName) (b : Option ClkName) (n : Option Text) (aEdges : Nat) (bEdges : Nat)
    (s : State) : Out :=
  finish (runLine h (txt "MEASURE") (bodyMeasure h a b n aEdges bEdges) s)

/-- The ppm of a count (13 R726). -/
def ppmText (s : State) (a b : ClkName) (n count : Nat) : Text :=
  let want : Rat := ((2 ^ n : Nat) : Rat) * (clkHz s a : Rat) / (clkHz s b : Rat)
  let ppm : Rat := ((count : Rat) / want - 1) * 1000000
  (if 0 < roundAway (ppm * 10) then txt "+" else []) ++ showFixed 1 ppm ++ txt " ppm"

/-- Whether a gate of 2^n cycles of a clock that passes its checks can be over: none is more than 12.5 % fast (13 R705, R724;
log 173). -/
def gateOver (b : ClkName) (n : Nat) (since : Tick) (s : State) : Bool :=
  decide (2 ^ n * usSec * 7 ≤ (s.now + 1 - since) * clkHz s b * 8)

/-- Effect of MEASUREMENT_GATE_CLOSE (13 R724, R726). -/
def measurementGateClose (count : Nat) (s : State) : State :=
  match s.interp.measure with
  | some (.measure a b n since w) =>
    if gateOver b n since s = false then s
    else
    let line := unwords [txt "= MEASURE", clkText a, txt "AGAINST", clkText b, showNat n, showNat count, ppmText s a b n count]
    deliver w { data := [line] } { s with interp := { s.interp with measure := none } }
  | _ => s

/-- MEASUREMENT_GATE_CLOSE. -/
def execMeasurementGateClose (count : Nat) (s : State) : Out := finish (measurementGateClose count s)

end Sys2Proof.Machine
end

