-- ==== Sys2Proof/Machine/Ecc.lean ====
section
/-! DEFINITION. The words of the memory banks and their SECDED code (14 R738, R742–R745). -/

namespace Sys2Proof.Machine

/-- The words of a bank (14 R738). -/
def bankWords : Bank → Nat
  | .engine => 32768 | .interp | .link => 16384 | .stage => 8192 | .image => 2048

/-- The check bits to which each data bit contributes, bit 0 first: distinct, and three for each (14 R742; the code itself is
the model's, log 159). -/
def eccColumns : List (BitVec 7) :=
  [0x07, 0x0B, 0x0D, 0x0E, 0x13, 0x15, 0x16, 0x19,
   0x1A, 0x1C, 0x23, 0x25, 0x26, 0x29, 0x2A, 0x2C,
   0x31, 0x32, 0x34, 0x38, 0x43, 0x45, 0x46, 0x49,
   0x4A, 0x4C, 0x51, 0x52, 0x54, 0x58, 0x61, 0x62]

/-- The check bits of a data word (14 R742): those of all-zero data are zero. -/
def checkBits (d : BitVec 32) : BitVec 7 :=
  ((List.range 32).zip eccColumns).foldl (fun c p => if d.getLsbD p.1 then c ^^^ p.2 else c) 0

/-- A data word as it is written to a bank (14 R742). -/
def encodeWord (d : BitVec 32) : RawWord := { data := d, check := checkBits d }

/-- What a read of a word finds (14 R742–R745). -/
inductive EccRead where
  | clean (d : BitVec 32)
  | corrected (d : BitVec 32)
  | double
deriving DecidableEq, Repr

/-- The check bits a word holds against those its data call for. -/
def syndrome (w : RawWord) : BitVec 7 := w.check ^^^ checkBits w.data

/-- Reads a word (14 R742): no error, a single bit of data or check bits corrected, or a double-bit error. -/
def readWord (w : RawWord) : EccRead :=
  let x := syndrome w
  if x = 0 then .clean w.data
  else if (List.range 7).any (fun i => decide (x = BitVec.ofNat 7 (2 ^ i))) then .corrected w.data
  else match (List.range 32).find? fun i => decide (eccColumns[i]? = some x) with
    | some i => .corrected (w.data ^^^ BitVec.ofNat 32 (2 ^ i))
    | none => .double

/-- The read that a master has made, as it stands after it (14 R743, R745): a single-bit error is corrected and the corrected
word written back; after a double-bit error the master has zero data. -/
def errorRead (word : Nat) (w : RawWord) : Option ErrorRead :=
  match readWord w with
  | .clean _ => none
  | .corrected d => some { word := word, data := d, back := some (encodeWord d) }
  | .double => some { word := word, data := 0, back := none }

/-- Whether a read finds a single-bit error. -/
def singleError (w : RawWord) : Bool :=
  match readWord w with
  | .corrected _ => true
  | _ => false

/-- Whether a bank can be read: it is powered and neither cleared nor off. -/
def bankReads (s : State) (b : Bank) : Bool :=
  (match s.rst.phase with
    | .unpowered | .held => false
    | _ => true) &&
  (match (s.bank b).st with
    | .on | .test => true
    | _ => false)

/-- Notes a read of a bank. -/
def noteRead (b : Bank) (word : Nat) (w : RawWord) (s : State) : State :=
  onBank b (fun x => { x with errorRead := errorRead word w }) s

end Sys2Proof.Machine
end

