-- ==== Sys2Proof/Machine/Resets.lean ====
section
/-! DEFINITION. The reset controller: the three levels, the sources, the watchdogs, block resets, the order out of reset and
the supply warning (01 R24–R27, 15). -/

namespace Sys2Proof.Machine

/-! ## Merging the stored settings -/

/-- The safety-if-SAFE settings of a condition, taken from the partition (04 R268, 12 R662). -/
def takeSafetyCond (i : Fin 9) (p c : CondCfg) : CondCfg :=
  match condAt i with
  | .dark | .dim | .stuck => { c with hyst := p.hyst, steep := p.steep, unsteep := p.unsteep, en := p.en }
  | .char => { c with steep := p.steep, unsteep := p.unsteep, en := p.en }
  | _ => c

/-- The safety-if-SAFE settings of a channel, taken from the partition (02 R136, 03 R198, 12 R662, R669). -/
def takeSafety (p c : ChCfg) : ChCfg :=
  let d := chCheck p
  { c with
    mode := p.mode
    set := { c.set with range := d.range, tripspan := d.tripspan, triphi := d.triphi, triplo := d.triplo }
    staged := none
    fast := p.fast, char := p.char, lampsup := p.lampsup, acnom := p.acnom, lamptype := p.lamptype, onlate := p.onlate
    edgetol := p.edgetol, learn := p.learn, baseset := p.baseset, darkfrac := p.darkfrac, dimfrac := p.dimfrac
    darkmin := p.darkmin, darkmax := p.darkmax
    cond := Vector.ofFn fun i => takeSafetyCond i p.cond[i.val] c.cond[i.val]
    safe := true }

/-- A channel's settings from a configuration and the partition. -/
def mergeCh (img part : ChCfg) : ChCfg := if part.safe then takeSafety part img else { img with safe := false }

/-- The settings that always stand in the partition, taken from it (12 R662). -/
def takeFixed (part s : Settings) : Settings :=
  { s with
    call := { s.call with tmax := part.call.tmax }
    dead := { s.dead with pmax := part.dead.pmax }
    remReset := part.remReset
    power := { s.power with wde := part.power.wde, wdi := part.power.wdi } }

/-- The live settings from a configuration image and the partition (11 R614, 12 R678). -/
def mergeSettings (img part : Settings) : Settings :=
  takeFixed part { img with ch := Vector.ofFn fun c => mergeCh img.ch[c.val] part.ch[c.val] }

/-- The defaults beside the partition, as they stand from step 3 to step 7 (02 R117, R118, 15 R792). -/
def partOnly (part : Settings) : Settings :=
  mergeSettings { ({} : Settings) with ch := part.ch.map fun p =>
    if p.safe then { ({} : ChCfg) with set := modeDefaults p.mode } else {} } part

/-- The settings of the partition image in force; the defaults where none is valid (12 R678). -/
def partCfg (s : State) : Settings := ((partInForce s).map (·.cfg)).getD {}

/-- The settings of the configuration image in force; the defaults where none is valid (11 R614). -/
def imageCfg (s : State) : Settings := ((imageInForce s).map (·.cfg)).getD {}

/-! ## Records and levels -/

/-- A mask with one bit of RSTCAUSE (15 R780). -/
def causeMask (src : ResetSource) : BitVec 16 := BitVec.ofNat 16 (2 ^ causeBit src)

/-- Notes the level and the source of a reset; its record waits for the log (15 R781, R793). -/
def noteReset (level : ResetLevel) (src : ResetSource) (s : State) : State :=
  { s with rst := { s.rst with
    lastLevel := level, lastSource := src
    logDue := s.rst.logDue ++ [(level, src, s.rst.cause)] } }

/-- Records the resets that wait, once the log is open (15 R793, 09 R526). -/
def flushResets (s : State) : State :=
  if s.log.opened ∧ s.power.mode ≠ .deep then
    s.rst.logDue.foldl (fun s x => logReset x s) { s with rst := { s.rst with logDue := [] } }
  else s

/-- The higher of two levels (15 R775). -/
def higher (a b : ResetLevel) : ResetLevel := if levelCode a ≤ levelCode b then a else b

/-! ## The host port as resets leave it -/

/-- The line in progress at the host port is abandoned, a partial line discarded (10 R562, R563). -/
def abandonHost (s : State) : State :=
  let p := s.port
  let open_ := decide (p.answer.no ≠ 0) && p.answer.reply.isNone
  let s := if open_ then onSess .host (fun x => { x with idleSince := s.now }) s else s
  { s with port := { s.port with
    line := [], inLine := false, tooLong := false, corrupt := false, badChar := false, lastCr := false, latched := none, out := 0
    answer := if open_ then { p.answer with abandoned := true, no := 0 } else p.answer } }

/-- Every session ends at a reset, and pending nonces are discarded (12 R652, R684, 06 R397). -/
def endAllSessions (s : State) : State :=
  let s := s.interp.consoles.foldl (fun s c => endSession (.console c.k) 2 s) (endSession .host 2 s)
  { s with port := { s.port with sess := { s.port.sess with role := .observer, nonce := none } } }

/-! ## CORE reset -/

/-- A march test on request ends without a result (14 R766, R767). -/
def dropMarch (s : State) : State :=
  match s.interp.march with
  | some (.march b destructive _ _) =>
    let s := { s with interp := { s.interp with march := none } }
    if destructive then clearBank b s
    else
      let line := txt "MARCH " ++ bankText b ++ txt " PRESERVING ABORTED"
      onBank b (fun x => { x with st := .on }) { s with mem := { s.mem with last := some line } }
  | _ => s

/-- LOCKOUT follows its cause (12 R688). -/
def lockoutCause (s : State) : State :=
  let v := s.keys.lockEnd.toList.any fun x => x.isSome
  { s with part := { s.part with flags := upd s.part.flags 3 (Flag.drive v) } }

/-- The lock-outs that stood run again in full (12 R649). -/
def relockRoles (s : State) : State :=
  lockoutCause { s with keys := { s.keys with lockEnd := Vector.ofFn fun r => match s.keys.lockEnd[r.val] with
    | some _ => some (s.now + s.keys.period[r.val] * usSec)
    | none => none } }

/-- Clears the alarm engine; the lines hold the levels they show (01 R24, R25). -/
def clearEngine (s : State) : State :=
  { s with engine :=
    { g31 := s.engine.g31.map fun m => { m with st := .normal }
      hold := some { al := Vector.ofFn (alLevel s), co := Vector.ofFn (coLevel s) }
      coreAt := some s.now } }

/-- Clears the caller: out of a watch its calls end, in one the replicated calls stay (01 R27, 05 R312–R314). -/
def clearCaller (s : State) : State :=
  { s with caller := { s.caller with
    calls := if inWatch s then s.caller.calls else .replicate 8 (.replicate 32 {})
    dead := { s.caller.dead with warning := false } } }

/-- Clears the interpreter and the safety sequencer; a partition or key write begun runs to its end (11 R635, 12 R684). -/
def clearInterp (s : State) : State :=
  { s with
    interp := { s.interp with running := false, script := none, measure := none }
    port := { s.port with opened := false }
    part := { s.part with
      writes := (s.part.writes.take 1).map fun w => { w with by_ := { w.by_ with no := 0 }, line := {} }
      keysw := .released
      flags := upd s.part.flags 0 (Flag.drive false) } }

/-- A CORE reset (15 R773, R774): the engine, the caller, the interpreter and the sequencer are cleared. -/
def coreClear (s : State) : State :=
  let s := clearInterp (dropMarch (abandonHost (endAllSessions s)))
  let s := relockRoles (clearCaller (clearEngine s))
  clearBank .engine (clearBank .interp
    { s with
      dies := s.dies.map fun d => { d with queue := [] }
      watch := { s.watch with causesOld := s.watch.remote.map (·.1) } })

/-- A CORE reset from a source; in DEEP it completes at the wake (15 R805). -/
def coreReset (src : ResetSource) (s : State) : State :=
  let s := noteReset .core src { s with rst := { s.rst with cause := s.rst.cause ||| causeMask src } }
  if s.power.mode = .deep then { s with rst := { s.rst with coreDeep := true } } else flushResets (coreClear s)

/-! ## SYSTEM and POWER resets -/

/-- Puts an image into the slot that is not in force (11 R609). -/
def putConfigImage (img : Image) (s : State) : State :=
  if imageInForce s = s.images.slot0 ∧ s.images.slot0.isSome then { s with images := { s.images with slot1 := some img } }
  else { s with images := { s.images with slot0 := some img } }

/-- Sets the stored counter of a unit to 0 (12 R659, 06 R369). -/
def zeroCounter (u : Unit64) (s : State) : State :=
  onUnit u (fun x => { x with counter := 0 })
    { s with images := { s.images with unitCounters := upd s.images.unitCounters u fun _ => 0 } }

/-- A key comes into force (12 R657–R659). -/
def putKey (k : KeyName) (v : Nat) (s : State) : State :=
  let role := fun (i : Fin 3) => { s with keys := { s.keys with role := upd s.keys.role i fun _ => v } }
  match k with
  | .operator => role 0
  | .engineer => role 1
  | .custodian => role 2
  | .unit u => zeroCounter u { s with keys := { s.keys with unit := upd s.keys.unit u fun _ => v } }

/-- Puts a new image into the older slot, with the next generation number (12 R665); `valid` says that it has verified. -/
def putImage (valid : Bool) (cfg : Settings) (s : State) : State :=
  let gen := ((partInForce s).map (·.gen)).getD 0 + 1
  let img : PartImage := ⟨gen, valid, cfg⟩
  if partInForce s = s.part.slot0 ∧ s.part.slot0.isSome then { s with part := { s.part with slot1 := some img } }
  else { s with part := { s.part with slot0 := some img } }

/-- Flash work that a reset or a power loss cuts short leaves the old content or the new one in force, never a mixture
(11 R613, 12 R657, R666; log 160). -/
def cutWork (s : State) : State :=
  if s.interp.flash.isNone ∧ s.part.writes = [] then s
  else
    let whole := Config.cutWrite s.freeCtr
    let s := { s with freeCtr := s.freeCtr + 1 }
    let s := match s.interp.flash with
      | some (.save gen cfg _) => putConfigImage ⟨gen, whole, cfg⟩ s
      | some (.key k v _) => if whole then putKey k v s else s
      | _ => s
    match s.part.writes with
    | w :: _ => match readVal s.ident.part s.watch.node (kindOf s.live w.id) w.value with
      | .ok v => putImage whole (putCfg w.id v s.live) s
      | .error _ => s
    | [] => s

/-- The clock generation after a SYSTEM or POWER reset: a quick start keeps the XO running (13 R733, 15 R791). -/
def freshClocks (full : Bool) (s : State) : Clocks :=
  { xofreq := (imageCfg s).clock.xofreq
    xoCount := s.clk.xoCount, xoPassed := !full && s.clk.xoPassed
    lpoCount := s.clk.lpoCount }

/-- A loop output after a SYSTEM or POWER reset: the island holds (07 R422, R433). -/
def freshLx (power : Bool) (x : LoopOut) : LoopOut :=
  { startDue := power || x.startDue, last := if power then 40000 else x.last, out := if power then 40000 else x.out
    island := x.island }

/-- The logbook's volatile part is lost; what stands in flash stays (09 R526). -/
def freshLog (l : Log) : Log :=
  { seq := l.seq, sectors := l.sectors, dirEntries := l.dirEntries, dirSector := l.dirSector
    savedRefused := l.savedRefused, savedAt := l.savedAt, copies := l.copies }

/-- Causes that stand across a reset are taken up again (09 R515, 15 R794). -/
def standing (warn : Bool) (s : State) : State :=
  let s := storCauses (fun _ => { sectorOut := s.log.sectors.toList.any fun x => x.out }) { s with
    flags := { pwrWarn := { live := warn, latched := warn } } }
  setCause 4 warn s

/-- Everything that a SYSTEM or POWER reset clears (01 R24, 15 R773, R790). `warn` says that PWRWARN stands. -/
def clearNode (power full warn : Bool) (s : State) : State :=
  standing warn (relockRoles { s with
    live := {}
    store := {}
    part := { s.part with writes := [], keysw := .released, flags := .replicate 4 {} }
    slices := .replicate 128 {}
    dies := .replicate 8 {}
    engine := {}
    caller := { units := s.images.unitCounters.map fun n => { counter := n } }
    watch := {}
    can := .replicate 2 {}
    lx := s.lx.map (freshLx power)
    panel := { freshPanel .off {} s.panel with flags := .replicate 3 {} }
    log := freshLog s.log
    port := { async := s.pins.asyncStrap }
    interp := { count := s.interp.count }
    clk := freshClocks full s
    mem := { marchFails := s.mem.marchFails }
    power := {}
    stor := {} })

/-- The dies leave their reset: the other channels stand in OFF mode, and the links count from now (01 R19, 02 R42, R118). -/
def releaseDies (s : State) : State :=
  { s with
    slices := Vector.ofFn fun (c : Ch) =>
      (if chFitted s.ident.part c && !(s.chCfg c).safe then { s.slice c with front := frontOf .off } else s.slice c)
    dies := s.dies.map fun d => { d with lastFrame := s.now } }

/-- Steps 1–4 of the order out of reset (15 R792): node time starts, the partition is loaded and its SAFE channels are live
(02 R117, 12 R678), the banks wait for their test or for zeroing. -/
def beginStart (s : State) : State :=
  let part := partCfg s
  let s := { s with
    nodeTime := 0
    live := partOnly part
    part := { s.part with checkAt := s.now }
    mem := { s.mem with banks := s.mem.banks.map fun b => { b with st := if s.rst.full then .test else .clearing, since := s.now } }
    rst := { s.rst with phase := if s.rst.full then .marching else .zeroing, since := s.now } }
  let s := releaseDies ((channels s.ident.part).foldl (fun s c => if (s.chCfg c).safe then startSlice c s else s) s)
  if (partInForce s).isSome then s
  else storCauses (fun c => { c with partition := true })
    (emitBlock 5 0x050B 0 [] { s with part := { s.part with flags := upd s.part.flags 2 (Flag.drive true) } })

/-- Whether the start-up test runs (14 R754, 15 R791). -/
def fullStart (power : Bool) (src : ResetSource) (s : State) : Bool :=
  power || decide (src = .marchRt) || (imageCfg s).sysmarch

/-- A SYSTEM or POWER reset from a source, with the cause bits that it sets; a level in progress is kept where it is higher
(15 R773, R775, R791). It leaves every line de-energised (04 R266); the start-up begins after it (`ensureStarted`). -/
def fullReset (level : ResetLevel) (src : ResetSource) (bits : BitVec 16) (s : State) : State :=
  let s := cutWork s
  let power := decide (level = .power)
  let full := fullStart power src s
  let rst := { s.rst with
    level := level, full := full, marchStopAt := none, coreDeep := false
    wdCoreAt := if power then none else s.rst.wdCoreAt
    cause := s.rst.cause ||| bits
    phase := .held }
  let s := noteReset level src { s with rst := rst }
  clearNode power full (power || s.flags.pwrWarn.live) s

/-- The start-up begins once the reset has ended, unless RESET_N holds the node (15 R776, R792; log 154). -/
def ensureStarted (s : State) : State :=
  if s.rst.phase = .held ∧ s.pins.resetLow = false then beginStart s else s

/-- A POWER reset clears RSTCAUSE and sets POR, with the source's bit (15 R773, R780); the debug port opens where a write of
OPEN waits (12 R680). -/
def powerReset (src : ResetSource) (s : State) : State :=
  let keys := if s.keys.debugOpenDue then { s.keys with debugLocked := false, debugOpenDue := false } else s.keys
  fullReset .power src (causeMask .por ||| causeMask src) { s with
    keys := keys
    pins := { s.pins with vsupLowAt := s.now }
    mem := { s.mem with marchFails := 0 }
    rst := { s.rst with cause := 0, logDue := [] } }

/-- Whether a source of a level acts: not on a node without power, and on one stopped for good by march failures only RESET_N
and a POWER reset do (14 R756). -/
def sourceActs (src : ResetSource) (s : State) : Bool :=
  match s.rst.phase with
  | .unpowered => false
  | .stopped => s.rst.marchStopAt.isSome || decide (src = .extrst)
  | _ => true

/-- A SYSTEM-level source (15 R775, R776); during a start-up the level in progress stands where it is higher. -/
def systemSource (src : ResetSource) (bits : BitVec 16) (s : State) : State :=
  if sourceActs src s then
    fullReset (if s.rst.phase = .up then .system else higher .system s.rst.level) src bits s
  else s

/-- A CORE-level source: during a start-up it restarts the start-up (15 R775). -/
def coreSource (src : ResetSource) (s : State) : State :=
  if sourceActs src s = false then s
  else if s.rst.phase = .up then coreReset src s
  else fullReset s.rst.level src (causeMask src) s

/-! ## Sources -/

/-- Effect of a watchdog's expiry (15 R782, R785): a second one within 10 s of a watchdog CORE reset is a SYSTEM reset. -/
def watchdog (src : ResetSource) (s : State) : State :=
  let again := match s.rst.wdCoreAt with
    | some t => decide (s.now ≤ t + 10 * usSec)
    | none => false
  if s.rst.phase ≠ .up then coreSource src s
  else if again then systemSource .wdesc (causeMask src ||| causeMask .wdesc) s
  else eventCause 9 (coreReset src { s with rst := { s.rst with wdCoreAt := some s.now } })

/-- Effect of ENGINE_WATCHDOG_EXPIRY (15 R783): RESET.WDE without a service; it stops in DEEP and restarts when the engine
runs. -/
def engineWatchdogExpiry (s : State) : State :=
  if s.engine.running ∧ s.power.mode ≠ .deep ∧ s.engine.ranAt + s.live.power.wde * 1000 ≤ s.now then watchdog .wde s else s

/-- ENGINE_WATCHDOG_EXPIRY. -/
def execEngineWatchdogExpiry (s : State) : Out := finish (engineWatchdogExpiry s)

/-- Effect of INTERPRETER_WATCHDOG_EXPIRY (15 R784): the cycles counted since the latch point reach the RESET.WDI of then. -/
def interpreterWatchdogExpiry (cycles : Nat) (s : State) : State :=
  if s.interp.running ∧ s.power.mode ≠ .deep ∧ s.interp.wdi ≤ cycles then watchdog .wdi s else s

/-- INTERPRETER_WATCHDOG_EXPIRY. -/
def execInterpreterWatchdogExpiry (cycles : Nat) (s : State) : Out := finish (interpreterWatchdogExpiry cycles s)

/-- CONFIG_PARITY_ERROR (13 R699, 15 R776). -/
def execConfigParityError (s : State) : Out := finish (systemSource .cfgPar (causeMask .cfgPar) s)

/-- ECC_ENGINE_ERROR (14 R744, 15 R776). -/
def execEccEngineError (word : Nat) (raw : RawWord) (s : State) : Out :=
  finish (if bankReads s .engine && decide (word < bankWords .engine) && decide (readWord raw = .double) then
    systemSource .eccEng (causeMask .eccEng) s else s)

/-- Effect of POWER_ON (15 R776, 10 R533): VSUP has risen through 5.6 V, with HP_MODE at a level. -/
def powerOn (mV : Nat) (async : Bool) (s : State) : State :=
  if s.rst.phase = .unpowered ∧ 5600 ≤ mV then
    powerReset .por (setVsup mV { s with pins := { s.pins with asyncStrap := async } })
  else s

/-- POWER_ON. -/
def execPowerOn (mV : Nat) (async : Bool) (s : State) : Out := finish (powerOn mV async s)

/-- Effect of POWER_LOSS (02 R129, 15 R776): VSUP has fallen through 5.2 V, and all stages stop. -/
def powerLoss (mV : Nat) (s : State) : State :=
  if s.rst.phase ≠ .unpowered ∧ mV < 5200 then
    let s := clearNode true true true (cutWork (setVsup mV s))
    { s with rst := { phase := .unpowered, logDue := [] } }
  else s

/-- POWER_LOSS. -/
def execPowerLoss (mV : Nat) (s : State) : Out := finish (powerLoss mV s)

/-- Effect of RAIL_FAULT (17 R849, 15 R776). -/
def railFault (us : Nat) (s : State) : State :=
  if s.rst.phase ≠ .unpowered ∧ 5 ≤ us then powerReset .rail s else s

/-- RAIL_FAULT. -/
def execRailFault (us : Nat) (s : State) : Out := finish (railFault us s)

/-- Effect of RESET_N (15 R776, R777): `taken` says whether the node takes a pulse of 1–10 µs (log 18). -/
def resetN (us : Nat) (taken : Bool) (s : State) : State :=
  if s.rst.phase ≠ .unpowered ∧ (10 ≤ us ∨ (1 ≤ us ∧ taken = true)) then
    let fails := if s.rst.phase = .stopped then 0 else s.mem.marchFails
    systemSource .extrst (causeMask .extrst)
      { s with pins := { s.pins with resetLow := true }, mem := { s.mem with marchFails := fails } }
  else s

/-- RESET_N. -/
def execResetN (us : Nat) (taken : Bool) (s : State) : Out := finish (resetN us taken s)

/-- Effect of RESET_N_RELEASE (15 R776, R792): the start-up begins. -/
def resetNRelease (s : State) : State :=
  ensureStarted { s with pins := { s.pins with resetLow := false } }

/-- RESET_N_RELEASE. -/
def execResetNRelease (s : State) : Out := finish (resetNRelease s)

/-! ## The order out of reset -/

/-- Records a march result (14 R770). Modes: 0 start-up, 1 destructive, 2 preserving. -/
def emitMarch (b : Bank) (mode : Nat) (fail : Option MarchFail) (s : State) : State :=
  match fail with
  | some f => emitBlock 7 0x0262 f.data ([(bankIdx b).val, mode] ++ two16 f.word ++ [f.check.toNat]) s
  | none => emitBlock 7 0x0263 0 [(bankIdx b).val, mode] s

/-- A bank's FAULT cause takes a value; MEMFAULT is true while any stands (14 R746, R765). -/
def bankFault (b : Bank) (v : Bool) (s : State) : State :=
  let s := onBank b (fun x => { x with fault := x.fault.drive v }) s
  setCause 8 (s.mem.banks.toList.any fun x => x.fault.live) s

/-- Step 7 (15 R792, 11 R614): the configuration is loaded, the other channels leave OFF, the loop-output link starts and the
panel takes its type. A partition error that caused the reset is recorded (12 R676). -/
def loadConfig (s : State) : State :=
  let s := { s with live := mergeSettings (imageCfg s) (partCfg s) }
  let s := if (imageInForce s).isSome then s
    else emitBlock 0 0x0405 0 [] (storCauses (fun c => { c with config := true }) s)
  let s := if s.part.errorDue then emitBlock 5 0x050A 0 [] { s with part := { s.part with errorDue := false } } else s
  let s := (channels s.ident.part).foldl (fun s c => if (s.chCfg c).safe then s else startSlice c s) s
  evalWatchCause { s with
    watch := { s.watch with node := s.live.watchNode }
    lx := s.lx.map fun x => { x with running := true, nextFrame := s.now, lastStatus := s.now }
    panel := { s.panel with
      type := s.live.panel.type, drive := s.live.panel, phase := restPhase s.live.panel.type }
    clk := { s.clk with sscNow := s.live.clock.sscDepth, sscAt := s.now, panelLpo := s.live.clock.panelLpo }
    port := { s.port with
      echoOn := echoOf s.port.async s.live.hp, crcRequired := s.live.hp.crcRequired, attn := s.live.hp.attn }
    rst := { s.rst with phase := .clocking, since := s.now } }

/-- Whether a bank still waits to be zeroed. -/
def anyClearing (s : State) : Bool := s.mem.banks.toList.any fun b => decide (b.st = .clearing)

/-- What the start-up test found of a bank: a bank that the list leaves out has passed. -/
def resultOf (results : List (Bank × Option MarchFail)) (b : Bank) : Option MarchFail :=
  ((results.find? fun p => decide (p.1 = b)).map (·.2)).getD none

/-- How long the start-up test of five sound banks takes, in µs: 10 bank cycles for each word, at 16 MHz (14 R752, R762). -/
def testMicros : Nat := allBanks.foldl (fun n b => n + bankWords b) 0 * 10 / 16

/-- Effect of STARTUP_TEST_COMPLETE (14 R754–R757, R770). -/
def startupTestComplete (results : List (Bank × Option MarchFail)) (s : State) : State :=
  let s := ensureStarted s
  let failed := fun (b : Bank) => (resultOf results b).isSome
  if s.rst.phase ≠ .marching ∨ (allBanks.any failed = false ∧ s.now < s.rst.since + testMicros) then s
  else
    let s := allBanks.foldl (fun s b => emitMarch b 0 (resultOf results b) (onBank b (fun x => { x with st := .on }) s)) s
    if failed .engine || failed .interp then
      let n := s.mem.marchFails + 1
      { s with
        mem := { s.mem with marchFails := n }
        rst := { s.rst with phase := .stopped, marchStopAt := if n < 3 then some s.now else none } }
    else
      let s := { s with mem := { s.mem with marchFails := 0 } }
      loadConfig ([Bank.link, .stage, .image].foldl (fun s b =>
        if failed b then bankFault b true (onBank b (fun x => { x with ownerHeld := true }) s) else s) s)

/-- STARTUP_TEST_COMPLETE. -/
def execStartupTestComplete (results : List (Bank × Option MarchFail)) (s : State) : Out :=
  finish (startupTestComplete results s)

/-- Effect of MARCH_FAILURE_RESTART (14 R756). -/
def marchFailureRestart (s : State) : State :=
  match s.rst.phase, s.rst.marchStopAt with
  | .stopped, some t => if t + usSec ≤ s.now then systemSource .marchRt (causeMask .marchRt) s else s
  | _, _ => s

/-- MARCH_FAILURE_RESTART. -/
def execMarchFailureRestart (s : State) : Out := finish (marchFailureRestart s)

/-- Whether the node still waits for the XO: at a full start up to 600 ms (15 R792 step 8). -/
def waitsForXo (xoEdges : Nat) (s : State) : Bool :=
  s.rst.full && !s.live.clock.srcIrc && !(edgesPass xoEdges && s.clk.xoPassed) && decide (s.now < s.rst.since + 600000)

/-- Effect of CLOCK_SRC_APPLY: step 8 (13 R733). -/
def clockSrcApply (xoEdges : Nat) (s : State) : State :=
  if s.rst.phase = .clocking ∧ waitsForXo xoEdges s = false then
    let s := applySource xoEdges s
    { s with rst := { s.rst with phase := .rebuilding } }
  else s

/-- CLOCK_SRC_APPLY. -/
def execClockSrcApply (xoEdges : Nat) (s : State) : Out := finish (clockSrcApply xoEdges s)

/-- The own groups found unacknowledged without a call start one, where this node runs its calls (05 R312). -/
def startOwnCalls (s : State) : State :=
  if runsCalls s s.watch.node then (List.finRange 32).foldl (fun s g => startMissing s.watch.node g s) s else s

/-- Steps 10 and 11: the rebuild of a start-up, the links and the dead-man timer (04 R222, 05 R315, 15 R792). A failed LINK
bank keeps the links off (14 R757). -/
def rebuildStart (sameCycle : Bool) (s : State) : State :=
  let s := rebuild false sameCycle s
  let s := if (s.bank .link).ownerHeld then s else joinLinks s
  let s := if s.live.dead.en then startPeriod (emitDead 0x0310 0 s) else s
  { s with rst := { s.rst with phase := .booting } }

/-- The rebuild after a CORE reset (01 R26, R27, 05 R312–R314, 06 R344, R397). -/
def rebuildCore (sameCycle : Bool) (s : State) : State :=
  let s := rebuild false sameCycle s
  let s := { s with watch := { s.watch with ready := true, nextHb := s.now } }
  let s := if s.caller.dead.periodEnd.isSome then startPeriod s else s
  let s := if inWatch s then (if isLead s then takeAllCalls s else s) else startOwnCalls s
  if s.watch.refreshDue then sendRefresh s else s

/-- Effect of ENGINE_REBUILD (04 R222): once the engine's bank is zeroed. `sameCycle` says that the latest event before it
fell in its own engine cycle (01 R41). -/
def engineRebuild (sameCycle : Bool) (s : State) : State :=
  if s.engine.running ∨ s.power.mode = .deep ∨ (s.bank .engine).st ≠ .on then s
  else match s.rst.phase with
    | .rebuilding => rebuildStart sameCycle s
    | .up => if s.engine.coreAt.isSome then rebuildCore sameCycle s else s
    | _ => s

/-- ENGINE_REBUILD. -/
def execEngineRebuild (sameCycle : Bool) (s : State) : Out := finish (engineRebuild sameCycle s)

/-- The host port opens (10 R569, R571): PORTOPEN is set. -/
def openPort (s : State) : State :=
  onHpEvent 0 Flag.pulse { s with
    interp := { s.interp with running := true }
    port := { s.port with
      opened := true, transaction := false
      echoOn := echoOf s.port.async s.live.hp, crcRequired := s.live.hp.crcRequired, attn := s.live.hp.attn } }

/-- Effect of PORT_OPEN: step 13, or the end of a CORE reset at the interpreter (10 R569, R571, 15 R792). -/
def portOpen (s : State) : State :=
  if (s.bank .interp).st ≠ .on ∨ s.power.mode = .deep then s
  else match s.rst.phase with
    | .opening => let s := openPort s
      { s with rst := { s.rst with phase := .up } }
    | .up => if s.port.opened then s else openPort s
    | _ => s

/-- PORT_OPEN. -/
def execPortOpen (s : State) : Out := finish (portOpen s)

/-! ## The supply warning -/

/-- Effect of PWRWARN (15 R794, R795, 09 R497, 08 R462–R464). -/
def pwrwarn (mV : Nat) (s : State) : State :=
  if s.rst.phase ≠ .unpowered ∧ s.flags.pwrWarn.live = false ∧ mV < 5600 then
    let s := setVsup mV { s with flags := { s.flags with pwrWarn := s.flags.pwrWarn.drive true } }
    let s := setCause 4 true (emitBlock 0 0x0602 (BitVec.ofNat 32 mV) [] s)
    panelWarn (if writerRuns s && s.log.opened then saveRefused s else s)
  else s

/-- PWRWARN. -/
def execPwrwarn (mV : Nat) (s : State) : Out := finish (pwrwarn mV s)

/-- Effect of PWRWARN_END (15 R794, R795): VSUP has stayed above 5.8 V for 10 ms; the rails may rise again (08 R467). -/
def pwrwarnEnd (mV : Nat) (s : State) : State :=
  if s.rst.phase ≠ .unpowered ∧ s.flags.pwrWarn.live ∧ 5800 < mV ∧ s.pins.vsupLowAt + 10000 ≤ s.now then
    setCause 4 false (emitBlock 0 0x0603 0 []
      (setVsup mV { s with flags := { s.flags with pwrWarn := s.flags.pwrWarn.drive false } }))
  else s

/-- PWRWARN_END. -/
def execPwrwarnEnd (mV : Nat) (s : State) : Out := finish (pwrwarnEnd mV s)

/-! ## Block resets -/

/-- A controller is reset alone (15 R787): WDROP and RXLOST count on. -/
def resetCan (b : Bus) (s : State) : State :=
  let joined := s.watch.joined
  setCause (busMember b) false (onCan b (fun c =>
    { ({} : Can) with rejoinDue := joined, wdrop := c.wdrop, rxlost := c.rxlost }) s)

/-- The logbook writer is reset alone (15 R787, 09 R526): a LOG CLEAR under way ends without its reply's OK. -/
def resetLogw (s : State) : State :=
  let w := s.log.clearing.map (·.by_)
  let refused := s.log.refused
  let dropped := s.log.dropped
  let restore := s.log.restore
  let s := { s with log := { freshLog s.log with refused := refused, dropped := dropped, restore := restore } }
  let s := if s.flags.logFull.live then logFullCause false s else s
  match w with
  | some w => deliver w (plainReply (some .e17)) (storeDone w s)
  | none => s

/-- The panel driver is reset alone (15 R787, 08 R466). -/
def resetPanel (s : State) : State :=
  onPanelFlag 0 (Flag.drive false) (onPanelFlag 1 (Flag.drive false)
    { s with panel := freshPanel s.live.panel.type s.live.panel s.panel })

/-- The link restarts for one output: the island discards a partial frame and holds its current, and the next setpoint keeps
its time (15 R787, 07 R413, R420). A lost output stays lost until its island answers (R424). -/
def resetLx (n : Lx) (s : State) : State := onLx n (fun x => { x with inFlight := none, lastStatus := s.now }) s

/-- A slice is reset alone (15 R787, 02 R128): occurrences keep their numbers. -/
def resetCh (c : Ch) (s : State) : State :=
  let cfg := (s.sliceCfg c).settled
  let fresh := freshSlice cfg (rateInForce s c) s.now
  wireStep c (fun x => { fresh with cond := Vector.ofFn fun i => { fresh.cond[i.val] with occ := (x.cond[i.val]).occ } })
    (onSliceCfg c (fun _ => cfg) s)

/-- Resets one block. -/
def resetOne (b : BlockName) (s : State) : State :=
  match b with
  | .can x => resetCan x s
  | .logw => resetLogw s
  | .panel => resetPanel s
  | .lx n => resetLx n s
  | .ch c => resetCh c s

/-- The record of a block reset (15 R789). -/
def emitReset (b : BlockName) (s : State) : State :=
  match b with
  | .can x => emitBlock (busSource x) 0x0605 0 [] s
  | .logw => emitBlock 4 0x0605 0 [] s
  | .panel => emitBlock 3 0x0605 0 [] s
  | .lx n => emitLx n 0x0605 s
  | .ch c => emitCh c 0x0605 [] s

/-- Whether a block's owner is held in block reset (14 R757, R758, 15 R788). -/
def blockHeld (s : State) : BlockName → Bool
  | .can _ => (s.bank .link).ownerHeld
  | .logw => (s.bank .stage).ownerHeld
  | .panel => (s.bank .image).ownerHeld
  | _ => false

/-- Whether a block exists on the part (00 R5). -/
def blockFitted (p : Part) : BlockName → Bool
  | .ch c => chFitted p c
  | _ => true

/-- Whether a block belongs to a SAFE channel. -/
def blockSafe (s : State) : BlockName → Bool
  | .ch c => (s.chCfg c).safe
  | _ => false

/-- Whether SEC.REMRESET refuses a reset line of a session: a console's, and a script's that a console runs (15 R779). -/
def remoteBarred (s : State) (who : Sess) (system : Bool) : Bool :=
  match boundTo s who with
  | .console _ => decide (s.live.remReset = .none) || (system && decide (s.live.remReset ≠ .all))
  | _ => false

/-- The work of RESET BLOCK (15 R779, R786–R789). -/
def bodyResetBlock (h : LineHdr) (block : Option BlockName) (s : State) : State × Option Reply :=
  match block with
  | none => refused .e03 s
  | some b =>
    if blockFitted s.ident.part b = false then refused .e03 s
    else if may s h .engineer = false then refused .e06 s
    else if remoteBarred s h.sess false then refused .e07 s
    else if blockSafe s b && !partOpen s h.sess then refused .e07 s
    else if blockHeld s b then refused .e08 s
    else ok (emitReset b (resetOne b s))

/-- RESET_BLOCK. -/
def execResetBlock (h : LineHdr) (block : Option BlockName) (s : State) : Out :=
  finish (runLine h (txt "RESET") (bodyResetBlock h block) s)

/-- The source of a reset line: the host port, or a console (15 R776). -/
def lineSource (s : State) (who : Sess) (system : Bool) : ResetSource :=
  match boundTo s who with
  | .console _ => if system then .remSys else .remCore
  | _ => if system then .hostSys else .hostCore

/-- The work of RESET CORE and RESET SYSTEM (15 R778, R779): OK first, then the reset. -/
def bodyReset (h : LineHdr) (system : Bool) (s : State) : State × Option Reply :=
  if may s h .engineer = false then refused .e06 s
  else if remoteBarred s h.sess system then refused .e07 s
  else
    let src := lineSource s h.sess system
    let s := deliver (waiter h s) (plainReply none) s
    held (if system then systemSource src (causeMask src) s else coreSource src s)

/-- RESET_CORE. -/
def execResetCore (h : LineHdr) (s : State) : Out := finish (runLine h (txt "RESET") (bodyReset h false) s)

/-- RESET_SYSTEM. -/
def execResetSystem (h : LineHdr) (s : State) : Out := finish (runLine h (txt "RESET") (bodyReset h true) s)

end Sys2Proof.Machine
end

