-- ==== Sys2Proof/Machine/Memory.lean ====
section
/-! DEFINITION. The memory banks: zeroing, ECC errors and the march test on request (14). -/

namespace Sys2Proof.Machine

/-! ## Owners of the banks -/

/-- Whether a bank's owner can be held in block reset: the owners of LINK, STAGE and IMAGE (14 R758). -/
def ownerHolds : Bank → Bool
  | .link | .stage | .image => true
  | _ => false

/-- The owner of a bank is held in block reset (14 R745, R758): what stands in LINK is lost with the replicated calls. -/
def holdOwner (b : Bank) (s : State) : State :=
  let s := onBank b (fun x => { x with ownerHeld := true }) s
  match b with
  | .link =>
    let off := fun (x : Bus) (s : State) => onCan x (fun c => { c with rejoinDue := false }) (resetCan x s)
    let s := off .canB (off .canA s)
    { s with caller := { s.caller with calls := .replicate 8 (.replicate 32 {}) } }
  | .stage => resetLogw s
  | .image => resetPanel s
  | _ => s

/-- The owner of a bank restarts from a bank at zero (14 R745, R758). A writer that lost STAGE lost its counters with it
(14 R748). -/
def releaseOwner (b : Bank) (s : State) : State :=
  let s := onBank b (fun x => { x with ownerHeld := false }) s
  match b with
  | .link =>
    if s.watch.joined then { s with can := s.can.map fun c => { c with rejoinDue := true } }
    else match s.rst.phase with
      | .booting | .opening | .up => joinLinks s
      | _ => s
  | .stage => onLog (fun l => { l with refused := .replicate 7 0, dropped := 0 }) s
  | .image => resetPanel s
  | _ => s

/-- Bank cycles in a µs: 40, and 16 while the domains run on the IRC directly (13 R696, 14 R750, R762). -/
def bankMhz (s : State) : Nat := if s.clk.chain = .irc then 16 else 40

/-- Whether so many bank cycles have gone since a time. -/
def cyclesGone (since n : Nat) (s : State) : Bool := decide (n ≤ (s.now + 1 - since) * bankMhz s)

/-- Effect of ZEROING_COMPLETE (14 R750, R751): a bank is zeroed, one word in each bank cycle, and its owner may proceed. -/
def zeroingComplete (b : Bank) (s : State) : State :=
  let s := ensureStarted s
  if (s.bank b).st ≠ .clearing ∨ cyclesGone (s.bank b).since (bankWords b) s = false then s
  else
    let s := onBank b (fun x => { x with st := .on }) s
    let s := if (s.bank b).ownerHeld then releaseOwner b s else s
    if s.rst.phase = .zeroing ∧ anyClearing s = false then loadConfig s else s

/-- ZEROING_COMPLETE. -/
def execZeroingComplete (bank : Bank) (s : State) : Out := finish (zeroingComplete bank s)

/-! ## ECC -/

/-- Effect of ECC_SINGLE_BIT_ERROR (14 R743, R770): counted, and logged once per second per bank at most. -/
def eccSingle (b : Bank) (word : Nat) (raw : RawWord) (s : State) : State :=
  if bankReads s b && decide (word < bankWords b) && singleError raw then
    let s := onBank b (fun x => { x with sbe := sat16 x.sbe }) (noteRead b word raw s)
    let due := match (s.bank b).sbeLogged with
      | some t => decide (t + usSec ≤ s.now)
      | none => true
    if due then
      emitBlock 7 0x0260 (BitVec.ofNat 32 (s.bank b).sbe) ([(bankIdx b).val] ++ two16 word)
        (onBank b (fun x => { x with sbeLogged := some s.now }) s)
    else s
  else s

/-- ECC_SINGLE_BIT_ERROR. -/
def execEccSingleBitError (bank : Bank) (word : Nat) (raw : RawWord) (s : State) : Out :=
  finish (eccSingle bank word raw s)

/-- The interpreter is handled after a double-bit error in its bank (14 R745): the port closes until it reopens. -/
def dropInterp (s : State) : State :=
  let s := endAllSessions (abandonHost s)
  { s with
    interp := { s.interp with running := false, script := none }
    port := { s.port with opened := false } }

/-- A double-bit error of a bank other than ENGINE (14 R745, R746). -/
def blockFault (b : Bank) (word : Nat) (s : State) : State :=
  let s := bankFault b true (emitBlock 7 0x0261 0 ([(bankIdx b).val] ++ two16 word) s)
  let s := if ownerHolds b then holdOwner b s else if b = .interp then dropInterp s else s
  clearBank b s

/-- Effect of ECC_DOUBLE_BIT_ERROR (14 R744, R745, R760). -/
def eccDouble (b : Bank) (word : Nat) (raw : RawWord) (s : State) : State :=
  if bankReads s b && decide (word < bankWords b) && decide (readWord raw = .double) then
    (if b = .engine then systemSource .eccEng (causeMask .eccEng) s else blockFault b word (noteRead b word raw s))
  else s

/-- ECC_DOUBLE_BIT_ERROR. -/
def execEccDoubleBitError (bank : Bank) (word : Nat) (raw : RawWord) (s : State) : Out :=
  finish (eccDouble bank word raw s)

/-! ## The march test -/

/-- The mode of a march test as its line names it. -/
def marchMode (destructive : Bool) : Text := if destructive then txt "DESTRUCTIVE" else txt "PRESERVING"

/-- The work of TEST MARCH (14 R758, R759, R763): the owner of a bank tested destructively is held. -/
def bodyMarch (h : LineHdr) (bank : Option Bank) (destructive : Bool) (s : State) : State × Option Reply :=
  match bank with
  | none => refused .e03 s
  | some b =>
    if may s h .engineer = false then refused .e06 s
    else if destructive && !ownerHolds b then refused .e04 s
    else if s.interp.march.isSome ∨ (s.bank b).st ≠ .on then refused .e08 s
    else
      let w := waiter h s
      let s := { s with interp := { s.interp with march := some (.march b destructive s.now w) } }
      let s := onBank b (fun x => { x with st := .test }) s
      held (if destructive then holdOwner b s else s)

/-- TEST_MARCH_DESTRUCTIVE. -/
def execTestMarchDestructive (h : LineHdr) (bank : Option Bank) (s : State) : Out :=
  finish (runLine h (txt "TEST") (bodyMarch h bank true) s)

/-- TEST_MARCH_PRESERVING. -/
def execTestMarchPreserving (h : LineHdr) (bank : Option Bank) (s : State) : Out :=
  finish (runLine h (txt "TEST") (bodyMarch h bank false) s)

/-- The text of a result (14 R764): t is shown in ms to three decimals. -/
def marchText (b : Bank) (destructive : Bool) (fail : Option MarchFail) (us : Nat) : Text :=
  unwords ([txt "MARCH", bankText b, marchMode destructive] ++
    (match fail with
      | none => [txt "PASS"]
      | some f => [txt "FAIL", txt "word", showMask 4 f.word, txt "data", showMask 8 f.data.toNat, txt "check",
          showMask 2 f.check.toNat]) ++
    [showFixed 3 ((us : Rat) / 1000)])

/-- The bank cycles of a test that finds no fault: 10 for each word, or 1,920 for each segment of 64 words (14 R752, R759). -/
def marchCycles (b : Bank) (destructive : Bool) : Nat := bankWords b * (if destructive then 10 else 30)

/-- Effect of MARCH_TEST_COMPLETE (14 R752, R753, R759, R764, R765, R770): a sound bank takes the cycles of its test, a fault
ends it sooner; after a destructive test the owner restarts from a bank at zero. -/
def marchTestComplete (fail : Option MarchFail) (s : State) : State :=
  match s.interp.march with
  | some (.march b destructive since w) =>
    if fail.isNone ∧ cyclesGone since (marchCycles b destructive) s = false then s
    else
    let line := marchText b destructive fail (s.now - since)
    let s := { s with interp := { s.interp with march := none }, mem := { s.mem with last := some line } }
    let s := onBank b (fun x => { x with st := if x.st = .test then .on else x.st }) s
    let s := bankFault b fail.isSome (emitMarch b (if destructive then 1 else 2) fail s)
    let s := if destructive then releaseOwner b s else s
    deliver w { data := [txt "= " ++ line] } s
  | _ => s

/-- MARCH_TEST_COMPLETE. -/
def execMarchTestComplete (fail : Option MarchFail) (s : State) : Out := finish (marchTestComplete fail s)

end Sys2Proof.Machine
end

