-- ==== Sys2Proof/Machine/Custody.lean ====
section
/-! DEFINITION. Custody: logging in, proofs and lock-out, sessions, keys and the debug lock (12). -/

namespace Sys2Proof.Machine

/-! ## Logging in -/

/-- The place of a role among those that hold a key (12 R655). -/
def keyIdx : Role → Option (Fin 3)
  | .observer => none
  | .operator => some 0
  | .engineer => some 1
  | .custodian => some 2

/-- The work of LOGIN (12 R639, R640, R648): a fresh nonce from the random source (log 4). -/
def bodyLogin (h : LineHdr) (role : Option Role) (s : State) : State × Option Reply :=
  match role with
  | none => refused .e01 s
  | some r =>
    match keyIdx r with
    | none => ok (onSess h.sess (fun x => { x with role := .observer, nonce := none }) s)
    | some i =>
      if s.keys.lockEnd[i.val].isSome then refused .e15 s
      else
        let v := Config.nonce s.freeCtr
        let n : Nonce := { value := v, role := r, expires := s.now + 60 * usSec }
        okLines [txt "= NONCE " ++ unwords (showGroups 8 v.toNat)]
          (onSess h.sess (fun x => { x with role := .observer, nonce := some n }) { s with freeCtr := s.freeCtr + 1 })

/-- LOGIN. -/
def execLogin (h : LineHdr) (role : Option Role) (s : State) : Out := finish (runLine h (txt "LOGIN") (bodyLogin h role) s)

/-- The bytes of groups of four hex digits; none where one is not such a group. -/
def readGroups : List Text → Option (List Byte)
  | [] => some []
  | t :: r =>
    match (if t.length = 4 then readHex t else none), readGroups r with
    | some n, some bs => some (BitVec.ofNat 8 (n / 256) :: BitVec.ofNat 8 n :: bs)
    | _, _ => none

/-- The HMAC of a proof (12 R641). -/
def proofMac (s : State) (key : Nat) (nonce : BitVec 128) : List Byte :=
  hmac (beBytes 32 key) (beBytes 16 nonce.toNat ++ beBytes 8 s.ident.serial.toNat)

/-- A lock-out period in s (12 R647). -/
def lockPeriod (fails : Nat) : Nat := if 11 ≤ fails then 3840 else 60 * 2 ^ (fails - 5)

/-- A session whose pending nonce of a role is discarded: until the next engine cycle it is known which one it was
(12 R648, R650). -/
def dropNonce (r : Role) (cycle : Nat) (x : Session) : Session :=
  match x.nonce with
  | some n => if n.role = r then { x with nonce := none, dropped := some (n, cycle) } else x
  | none => match x.dropped with
    | some (n, c) => if n.role = r ∧ c + 1 = cycle then { x with dropped := some (n, cycle) } else x
    | none => x

/-- Discards every pending nonce of a role (12 R648). -/
def dropNonces (r : Role) (s : State) : State :=
  { s with
    port := { s.port with sess := dropNonce r s.cycle s.port.sess }
    interp := { s.interp with consoles := s.interp.consoles.map fun c => { c with sess := dropNonce r s.cycle c.sess } } }

/-- The nonce of this session that a proof of the same engine cycle has just discarded (12 R650). -/
def droppedNow (h : LineHdr) (s : State) : Option Nonce :=
  match (sessOf s h.sess).dropped with
  | some (n, c) => if h.sameCycle ∧ c + 1 = s.cycle then some n else none
  | none => none

/-- A proof has failed (12 R643, R646–R648): the failure counts, and from the fifth on the role is locked out. -/
def proofFails (who : Sess) (r : Role) (i : Fin 3) (s : State) : State :=
  let n := s.keys.fails[i.val] + 1
  let s := { s with keys := { s.keys with fails := upd s.keys.fails i fun _ => n } }
  let s := emitSess who 0x0502 0 ([i.val + 1] ++ two16 n) s
  if n < 5 then s
  else
    let p := lockPeriod n
    let s := { s with keys := { s.keys with
      period := upd s.keys.period i fun _ => p
      lockEnd := upd s.keys.lockEnd i fun _ => some (s.now + p * usSec) } }
    emitSess who 0x0504 0 ([i.val + 1] ++ two16 p) (lockoutCause (dropNonces r s))

/-- A proof matches (12 R642, R646, 06 R371). -/
def proofHolds (who : Sess) (r : Role) (i : Fin 3) (mac : List Byte) (s : State) : State :=
  let s := onSess who (fun x => { x with role := r }) s
  let s := { s with keys := { s.keys with fails := upd s.keys.fails i fun _ => 0 } }
  let s := match who with
    | .console k => onConsole k (fun c => { c with
        newKey := some (BitVec.ofNat 128 (ofBytesBe ((mac.drop 16).take 16))) }) s
    | _ => s
  emitSess who 0x0501 0 [i.val + 1] s

/-- Whether a proof is that of a nonce under a role's key; the empty key proves only while the key switch is asserted
(12 R641, R645). -/
def proofRight (i : Fin 3) (n : Nonce) (proof : List Byte) (s : State) : Bool :=
  decide ((proofMac s s.keys.role[i.val] n.value).take 16 = proof) &&
    (decide (s.keys.role[i.val] ≠ 0) || decide (s.part.keysw = .asserted))

/-- A proof whose nonce a lock-out of the same engine cycle has discarded: it gives no role, and a failure still counts
(12 R648, R650). -/
def proveDropped (h : LineHdr) (proof : List Byte) (s : State) : State × Option Reply :=
  match droppedNow h s with
  | none => refused .e14 s
  | some n =>
    let s := onSess h.sess (fun x => { x with dropped := none }) s
    match keyIdx n.role with
    | none => refused .e14 s
    | some i =>
      if n.expires < s.now ∨ proofRight i n proof s then refused .e14 s
      else refused .e14 (proofFails h.sess n.role i s)

/-- The work of PROVE (12 R641–R645). -/
def bodyProve (h : LineHdr) (groups : List Text) (s : State) : State × Option Reply :=
  match readGroups groups with
  | none => refused .e01 s
  | some proof =>
    if groups.length ≠ 8 then refused .e01 s
    else match (sessOf s h.sess).nonce with
    | none => proveDropped h proof s
    | some n =>
      let s := onSess h.sess (fun x => { x with nonce := none }) s
      match keyIdx n.role with
      | none => refused .e14 s
      | some i =>
        if n.expires < s.now then refused .e14 s
        else if proofRight i n proof s then ok (proofHolds h.sess n.role i (proofMac s s.keys.role[i.val] n.value) s)
        else refused .e14 (proofFails h.sess n.role i s)

/-- PROVE. -/
def execProve (h : LineHdr) (groups : List Text) (s : State) : Out := finish (runLine h (txt "PROVE") (bodyProve h groups) s)

/-- The work of LOGOUT (12 R652, 06 R378): OK goes out before the session ends. -/
def bodyLogout (h : LineHdr) (s : State) : State × Option Reply :=
  held (endSession h.sess 0 (deliver (waiter h s) (plainReply none) s))

/-- LOGOUT. -/
def execLogout (h : LineHdr) (s : State) : Out := finish (runLine h (txt "LOGOUT") (bodyLogout h) s)

/-! ## Times -/

/-- Effect of NONCE_EXPIRY (12 R640). -/
def nonceExpiry (who : Sess) (s : State) : State :=
  match (sessOf s who).nonce with
  | some n => if n.expires ≤ s.now then onSess who (fun x => { x with nonce := none }) s else s
  | none => s

/-- NONCE_EXPIRY. -/
def execNonceExpiry (who : Sess) (s : State) : Out := finish (nonceExpiry who s)

/-- Effect of LOCK_OUT_EXPIRY (12 R647). -/
def lockOutExpiry (role : Role) (s : State) : State :=
  match keyIdx role with
  | none => s
  | some i => match s.keys.lockEnd[i.val] with
    | some t =>
      if t ≤ s.now then
        lockoutCause { s with keys := { s.keys with lockEnd := upd s.keys.lockEnd i fun _ => none } }
      else s
    | none => s

/-- LOCK_OUT_EXPIRY. -/
def execLockOutExpiry (role : Role) (s : State) : Out := finish (lockOutExpiry role s)

/-- Whether a session waits for a reply. -/
def awaits (s : State) : Sess → Bool
  | .host => decide (s.port.answer.no ≠ 0) && s.port.answer.reply.isNone
  | .console k => (consoleOf s k).any fun c => decide (c.answer.no ≠ 0) && c.answer.reply.isNone
  | .script _ => false

/-- Effect of SESSION_TIMEOUT (12 R653, 10 R566). -/
def sessionTimeout (who : Sess) (s : State) : State :=
  let x := sessOf s who
  if inProgress s who && !awaits s who && decide (x.idleSince + x.timeout * usSec ≤ s.now) then
    let s := endSession who 1 s
    match who with
    | .host => onHpEvent 7 Flag.pulse s
    | _ => s
  else s

/-- SESSION_TIMEOUT. -/
def execSessionTimeout (who : Sess) (s : State) : Out := finish (sessionTimeout who s)

/-! ## Keys -/

/-- The groups of a key (12 R655). -/
def keyGroups : KeyName → Nat
  | .unit _ => 8
  | _ => 16

/-- Whether a line may write a key or a SEC setting (12 R654). -/
def mayWriteKeys (s : State) (h : LineHdr) : Bool := may s h .custodian && !isScript h.sess

/-- The work of a key write (12 R655, R657, 10 R564). -/
def bodyKey (h : LineHdr) (key : KeyName) (groups : List Text) (s : State) : State × Option Reply :=
  match readGroups groups with
  | none => refused .e01 s
  | some bs =>
    if mayWriteKeys s h = false then refused .e06 s
    else if groups.length ≠ keyGroups key ∨ ofBytesBe bs = 0 then refused .e04 s
    else if flashBusy s then refused .e08 s
    else held { s with interp := { s.interp with flash := some (.key key (ofBytesBe bs) (waiter h s)) } }

/-- KEY_WRITE. -/
def execKeyWrite (h : LineHdr) (key : KeyName) (groups : List Text) (s : State) : Out :=
  finish (runLine h (txt "SET") (bodyKey h key groups) s)

/-- The detail of 0x0505 (12 R682). -/
def keyDetail : KeyName → List Nat
  | .operator => [1]
  | .engineer => [2]
  | .custodian => [3]
  | .unit u => [0x10, u.val + 1]

/-- Effect of KEY_WRITE_COMPLETE (12 R657, R660, 10 R566). -/
def keyWriteComplete (verified : Bool) (s : State) : State :=
  match s.interp.flash with
  | some (.key k v w) =>
    let s := storeDone w { s with interp := { s.interp with flash := none } }
    if verified then deliver w (plainReply none) (emitSess w.sess 0x0505 0 (keyDetail k) (putKey k v s))
    else deliver w (plainReply (some .e17)) s
  | _ => s

/-- KEY_WRITE_COMPLETE. -/
def execKeyWriteComplete (verified : Bool) (s : State) : Out := finish (keyWriteComplete verified s)

/-! ## The debug lock -/

/-- What the debug port can be asked for (12 R679). -/
inductive DebugAccess where
  | bypass | idcode | samplePreload | extest | internalTest | memoryAccess
deriving DecidableEq, Repr

/-- Whether the debug port offers an access: the boundary scan always, the rest only with SEC.DEBUG OPEN in force (12 R679,
R680). -/
def debugOffers (s : State) : DebugAccess → Bool
  | .internalTest | .memoryAccess => !s.keys.debugLocked
  | _ => true

/-- The records of a write of SEC.DEBUG (12 R680, 11 R629). -/
def emitDebug (h : LineHdr) (locked : Bool) (s : State) : State :=
  let src := sessSource s h.sess
  let old := encodeVal (kindOf s.live .secDebug) (valueOf s .secDebug)
  let new := encodeVal (kindOf s.live .secDebug) (.kw (if locked then 1 else 0))
  emitSess h.sess 0x0508 0 [if locked then 0 else 1] (logWrite 0x0401 src .secDebug old new s)

/-- The work of SET SEC.DEBUG LOCKED (12 R680): at once. -/
def bodyDebugLocked (h : LineHdr) (s : State) : State × Option Reply :=
  if mayWriteKeys s h = false then refused .e06 s
  else
    let s := emitDebug h true s
    ok { s with keys := { s.keys with debugLocked := true, debugOpenDue := false } }

/-- SEC_DEBUG_LOCKED. -/
def execSecDebugLocked (h : LineHdr) (s : State) : Out := finish (runLine h (txt "SET") (bodyDebugLocked h) s)

/-- The work of SET SEC.DEBUG OPEN (12 R680): every key goes back to delivery, and the port opens at the next POWER reset. -/
def bodyDebugOpen (h : LineHdr) (s : State) : State × Option Reply :=
  if mayWriteKeys s h = false then refused .e06 s
  else if partOpen s h.sess = false then refused .e07 s
  else if flashBusy s then refused .e08 s
  else
    let s := emitDebug h false s
    ok { s with
      keys := { s.keys with role := .replicate 3 0, unit := .replicate 64 0, debugOpenDue := true }
      images := { s.images with unitCounters := .replicate 64 0 }
      caller := { s.caller with units := s.caller.units.map fun x => { x with counter := 0 } } }

/-- SEC_DEBUG_OPEN. -/
def execSecDebugOpen (h : LineHdr) (s : State) : Out := finish (runLine h (txt "SET") (bodyDebugOpen h) s)

end Sys2Proof.Machine
end

