-- ==== Sys2Proof/Machine/Partition.lean ====
section
/-! DEFINITION. The safety sequencer: programming a partition image, the check pass and the key switch (12). -/

namespace Sys2Proof.Machine

/-- Whether the sequencer works: step 3 of the order out of reset (15 R792), its domain clocked (13 R696). -/
def sequencerRuns (s : State) : Bool := diesReleased s.rst.phase && decide (s.power.mode ≠ .deep)

/-! ## Writes -/

/-- SAFE_WRITE: the image that it asks for holds the settings of the new partition (12 R669). -/
def execSafeWrite (h : LineHdr) (c : Ch) (value : Text) (s : State) : Out := finish (setLine h (.ch c .safe) value s)

/-- An image has verified: the value is applied and recorded, and PARTDEF ends (12 R665, R667, R669, R678, 16 R815). -/
def applyPart (w : PartWrite) (v : Val) (s : State) : State :=
  let new := encodeVal (kindOf (putCfg w.id v s.live) w.id) v
  let s := putImage true (putCfg w.id v s.live) s
  let s := logCollision w.src w.coll w.id new (commitWrite w.by_.sess w.src w.id v s)
  storCauses (fun c => { c with partition := false })
    { s with part := { s.part with flags := upd s.part.flags 2 (Flag.drive false) } }

/-! ## Lines of several writes -/

/-- The text of a refusal in the reply to LOAD (11 R617). -/
def refusalLine (i : SettingId) (e : Err) : Text :=
  txt "= REFUSED " ++ settingText i ++ txt " " ++ (errText e).take 3

/-- A switch of clocks that LOAD asks for: it runs on without holding the reply back. -/
def loadClock (w : Waiter) (i : SettingId) (v : Val) (s : State) : State × Option Err :=
  let quiet : Waiter := { w with no := 0 }
  match i with
  | .clock .src =>
    let toXo := decide (kwOf v = 0)
    if s.interp.clock.isSome then (s, some .e08)
    else if toXo && !s.clk.xoPassed then (s, some .e13)
    else (beginSwitch toXo quiet s, none)
  | _ =>
    if s.interp.panelClock.isSome then (s, some .e08)
    else if kwOf v = 1 ∧ s.clk.lpoFail.live then (s, some .e13)
    else ({ s with interp := { s.interp with panelClock := some (.panelClock (decide (kwOf v = 1)) s.now quiet) } }, none)

/-- One write of such a line that needs no image. -/
def lineWrite (w : Waiter) (sameCycle : Bool) (i : SettingId) (v : Val) (s : State) : State × Option Err :=
  match i with
  | .clock .src => loadClock w i v s
  | .clock .panel => loadClock w i v s
  | i => (writeNow w.sess sameCycle i v s, none)

/-- The end of a line of several writes: DISABLE and ENABLE answer OK (04 R231), LOAD is recorded and answers with its
refusals (11 R617, R629). -/
def endWrites (w : Waiter) (load : Option Bool) (bad : List (SettingId × Err)) (s : State) : State × Option Reply :=
  match load with
  | none => ok s
  | some defaults =>
    (emitSess w.sess 0x0404 (BitVec.ofNat 32 bad.length) [if defaults then 1 else 0] s,
     some { data := bad.map fun p => refusalLine p.1 p.2, err := (bad.map (·.2)).head? })

/-- Makes the writes of a line in their order (04 R231, 11 R616, R617): DISABLE and ENABLE stop at the first refusal, LOAD goes
on; a write to the safety partition is waited for before the next is made (log 46). -/
def runWrites (w : Waiter) (sameCycle : Bool) (load : Option Bool) :
    List (SettingId × Text) → List (SettingId × Err) → State → State × Option Reply
  | [], bad, s => endWrites w load bad s
  | (i, t) :: r, bad, s =>
    match checkWrite w.sess i t s with
    | .error e => if load.isNone then refused e s else runWrites w sameCycle load r (bad ++ [(i, e)]) s
    | .ok v =>
      if inPartition (pendingCfg s) i then held (writePart w sameCycle i t { todo := r, load := load, refusals := bad } s)
      else match lineWrite w sameCycle i v s with
        | (s, none) => runWrites w sameCycle load r bad s
        | (s, some e) => if load.isNone then refused e s else runWrites w sameCycle load r (bad ++ [(i, e)]) s

/-- Goes on with a line after one of its partition writes, which may have failed. -/
def lineGoesOn (x : PartWrite) (failed : Bool) (s : State) : State × Option Reply :=
  if failed && x.line.load.isNone then refused .e17 s
  else runWrites x.by_ false x.line.load x.line.todo
    (x.line.refusals ++ (if failed then [(x.id, .e17)] else [])) s

/-- Sends a line's reply, unless it is held back. -/
def answerLine (w : Waiter) (r : State × Option Reply) : State :=
  match r.2 with
  | some x => deliver w x r.1
  | none => r.1

/-- Effect of PARTITION_PROGRAM_COMPLETE (12 R665, 11 R631): the write at the head of the queue has its image, or E17; then its
line goes on. -/
def partitionProgramComplete (verified : Bool) (s : State) : State :=
  match s.part.writes with
  | [] => s
  | w :: rest =>
    let s := storeDone w.by_ { s with part := { s.part with writes := rest } }
    match verified, readVal s.ident.part s.watch.node (kindOf s.live w.id) w.value with
    | true, .ok v => answerLine w.by_ (lineGoesOn w false (applyPart w v s))
    | _, .ok v => answerLine w.by_ (lineGoesOn w true (putImage false (putCfg w.id v s.live) s))
    | _, _ => answerLine w.by_ (lineGoesOn w true s)

/-- PARTITION_PROGRAM_COMPLETE. -/
def execPartitionProgramComplete (verified : Bool) (s : State) : Out := finish (partitionProgramComplete verified s)

/-! ## Checking -/

/-- Whether a check pass may end now: the sequencer works, no write pauses the pass, and 90 ms at least have gone since the
pass before (12 R674, R677). -/
def passEnds (s : State) : Bool :=
  sequencerRuns s && s.part.writes.isEmpty && decide (s.part.checkAt + 90000 ≤ s.now)

/-- An error that cannot be corrected (12 R676). -/
def partitionError (s : State) : State :=
  systemSource .partErr (causeMask .partErr) { s with part := { s.part with errorDue := true } }

/-- Effect of PARTITION_CHECK_PASS (12 R674–R677). -/
def partitionCheckPass (found : CheckFinding) (s : State) : State :=
  if passEnds s then
    let s := { s with part := { s.part with checkAt := s.now } }
    match found with
    | .clean => s
    | .singleBit word raw =>
      if singleError raw then
        emitBlock 5 0x0509 0 (two16 word.toNat) { s with part := { s.part with flags := upd s.part.flags 1 Flag.pulse } }
      else s
    | .doubleBit _ raw => if readWord raw = .double then partitionError s else s
    | .crcMismatch => partitionError s
  else s

/-- PARTITION_CHECK_PASS. -/
def execPartitionCheckPass (found : CheckFinding) (s : State) : Out := finish (partitionCheckPass found s)

/-! ## The key switch -/

/-- The switch takes a state other than FAULT (12 R672, R673). -/
def keySwitch (asserted : Bool) (s : State) : State :=
  let new : KeySwitch := if asserted then .asserted else .released
  let s := { s with pins := { s.pins with keyALow := asserted, keyBLow := !asserted } }
  if sequencerRuns s = false ∨ s.part.keysw = new then s
  else emitBlock 5 0x0506 0 [if asserted then 1 else 0]
    { s with part := { s.part with keysw := new, flags := upd s.part.flags 0 (Flag.drive false) } }

/-- KEY_SWITCH_ASSERTED. -/
def execKeySwitchAsserted (s : State) : Out := finish (keySwitch true s)

/-- KEY_SWITCH_RELEASED. -/
def execKeySwitchReleased (s : State) : Out := finish (keySwitch false s)

/-- Effect of KEY_SWITCH_FAULT (12 R672, R673): both pads at one level. -/
def keySwitchFault (level : Bool) (s : State) : State :=
  let s := { s with pins := { s.pins with keyALow := !level, keyBLow := !level } }
  if sequencerRuns s = false ∨ s.part.keysw = .fault then s
  else emitBlock 5 0x0507 0 []
    { s with part := { s.part with keysw := .fault, flags := upd s.part.flags 0 (Flag.drive true) } }

/-- KEY_SWITCH_FAULT. -/
def execKeySwitchFault (level : Bool) (s : State) : Out := finish (keySwitchFault level s)

end Sys2Proof.Machine
end

