-- ==== Sys2Proof/Machine/PowerModes.lean ====
section
/-! DEFINITION. The power modes: SLEEP, entry to DEEP, the wake and the return to DEEP (15 R796–R806). -/

namespace Sys2Proof.Machine

/-! ## Writes of POWER.MODE -/

/-- Records a change of mode (15 R804). -/
def emitMode (bytes : List Nat) (s : State) : State := emitBlock 0 0x0604 0 bytes s

/-- Records the write of POWER.MODE (11 R629). -/
def logMode (h : LineHdr) (m : PowerMode) (s : State) : State :=
  let src := sessSource s h.sess
  let enc := fun (x : PowerMode) => encodeVal (kindOf s.live (.power .mode)) (.kw (posIn powerModeList x))
  logWrite 0x0401 src (.power .mode) (enc s.power.mode) (enc m) s

/-- The work of SET POWER.MODE RUN (15 R797). -/
def bodyRunMode (h : LineHdr) (s : State) : State × Option Reply :=
  if may s h .engineer = false then refused .e06 s
  else
    let was := s.power.mode
    let s := logMode h .run s
    let s := { s with power := { s.power with mode := .run } }
    ok (if was = .run then s else emitMode [0] s)

/-- POWER_MODE_RUN. -/
def execPowerModeRun (h : LineHdr) (s : State) : Out := finish (runLine h (txt "SET") (bodyRunMode h) s)

/-- The work of SET POWER.MODE SLEEP (15 R797, 08 R471). -/
def bodySleepMode (h : LineHdr) (s : State) : State × Option Reply :=
  if may s h .engineer = false then refused .e06 s
  else
    let was := s.power.mode
    let s := logMode h .sleep s
    let s := powerDown { s with power := { s.power with mode := .sleep } }
    ok (if was = .sleep then s else emitMode [1] s)

/-- POWER_MODE_SLEEP. -/
def execPowerModeSleep (h : LineHdr) (s : State) : Out := finish (runLine h (txt "SET") (bodySleepMode h) s)

/-! ## Entry to DEEP -/

/-- Whether any call runs (05 R317). -/
def callRuns (s : State) : Bool := (allCalls s).any fun c => decide (c.st ≠ .idle)

/-- Why a DEEP request is refused (15 R798): SLEEP ends only by a write of RUN or a reset (R797, log 161). -/
def deepRefusal (s : State) : Option Err :=
  if s.power.mode = .sleep then some .e04
  else if s.live.dead.en ∨ callRuns s = true ∨ s.interp.march.isSome then some .e08
  else if s.clk.lpoFail.live then some .e13
  else none

/-- A controller ends the frame in progress and leaves the bus (15 R799 step 2). -/
def Can.toDeep (c : Can) : Can :=
  { c with
    mode := .off, rejoinDue := false, recovering := false, listenDue := false, heldStandby := true, sending := none, onBus := none
    tx := match c.sending with
      | some (.raw n) => upd c.tx n fun e => { e with st := .sent, cancel := false }.rest
      | _ => c.tx }

/-- The state of a bank in DEEP (14 R747). -/
def deepBank (off : Bool) (b : BankSt) : BankSt := { b with st := if off then .off else .ret }

/-- Whether a bank goes off in DEEP. -/
def goesOff (s : State) (b : Bank) : Bool := s.live.memOff[(bankIdx b).val]

/-- What a bank that goes off loses (14 R747, R749). -/
def loseBanks (s : State) : State :=
  let s := if goesOff s .interp then
      let s := endAllSessions s
      { s with interp := { s.interp with script := none } }
    else s
  let s := if goesOff s .link then { s with
      can := s.can.map fun c => { c with queue := [], tx := .replicate 32 {}, rx := .replicate 64 none }
      caller := { s.caller with calls := .replicate 8 (.replicate 32 {}) } }
    else s
  if goesOff s .image then
    { s with panel := { s.panel with bankActive := .replicate 8 0, bankUnack := .replicate 8 0 } }
  else s

/-- Entry to DEEP in the order of R799; the mode is recorded first, since nothing is staged in DEEP (09 R526). -/
def enterDeep (s : State) : State :=
  let s := endClockWork (some .e13) (emitMode [2] s)
  let s := match s.interp.measure with
    | some (.measure _ _ _ _ w) =>
      deliver w (plainReply (some .e13)) { s with interp := { s.interp with measure := none } }
    | _ => s
  let hold : LineHold := { al := Vector.ofFn (alLevel s), co := Vector.ofFn (coLevel s) }
  let s := loseBanks (atRest s)
  { s with
    can := s.can.map Can.toDeep
    mem := { s.mem with banks := Vector.ofFn fun i => deepBank s.live.memOff[i.val] s.mem.banks[i.val] }
    engine := { s.engine with running := false, hold := some hold }
    port := { s.port with opened := false, transaction := false }
    interp := { s.interp with running := false }
    clk := { s.clk with chain := .irc, goal := none, xoPassed := false, healthySince := none, xoWaking := false }
    power :=
      { mode := .deep, deepAt := s.now, deepWake := s.live.power.deepWake, deepPeriod := s.live.power.deepPeriod
        deepRate := s.live.power.deepRate, warnAtEntry := s.flags.pwrWarn.latched
        lpoAtEntry := s.clk.lpoFail.latched } }

/-- The work of SET POWER.MODE DEEP (15 R798, R799): OK goes out before the entry. -/
def bodyDeepMode (h : LineHdr) (s : State) : State × Option Reply :=
  if may s h .engineer = false then refused .e06 s
  else match deepRefusal s with
    | some e => refused e s
    | none =>
      let s := logMode h .deep s
      if isScript h.sess then ok (enterDeep s)
      else held (enterDeep (deliver (waiter h s) (plainReply none) s))

/-- POWER_MODE_DEEP. -/
def execPowerModeDeep (h : LineHdr) (s : State) : Out := finish (runLine h (txt "SET") (bodyDeepMode h) s)

/-! ## The wake -/

/-- The number of a wake source (15 R801, R804). -/
def wakeNo : WakeSource → Nat
  | .host => 0 | .canA => 1 | .canB => 2 | .cond => 3 | .timer => 4 | .trip => 5

/-- The timers of the ENGINE domain have stood still in DEEP (12 R649, R653, 13 R696). -/
def shiftTimers (d : Tick) (s : State) : State :=
  let sess := fun (x : Session) => { x with
    idleSince := x.idleSince + d
    nonce := x.nonce.map fun n => { n with expires := n.expires + d } }
  { s with
    keys := { s.keys with lockEnd := s.keys.lockEnd.map fun o => o.map (· + d) }
    port := { s.port with sess := sess s.port.sess }
    interp := { s.interp with consoles := s.interp.consoles.map fun c => { c with sess := sess c.sess } }
    engine := { s.engine with g31 := s.engine.g31.map fun m => { m with eventEnd := m.eventEnd.map (· + d) } }
    panel := { s.panel with testEnd := s.panel.testEnd.map (· + d) } }

/-- Node-level causes whose latched flag the wake finds newly set are recorded now (09 R526). -/
def logNew (p : Power) (s : State) : State :=
  let s := if s.flags.pwrWarn.latched && !p.warnAtEntry then emitBlock 0 0x0602 (BitVec.ofNat 32 s.pins.vsup) [] s else s
  if s.clk.lpoFail.latched && !p.lpoAtEntry then emitClk 0x0626 (two16 s.clk.lpoCount) s else s

/-- Wake steps 1–3 (15 R802, 04 R223, R265, 10 R573, 07 R433, 14 R749); a CORE reset taken in DEEP completes now
(R805). -/
def wakeUp (source : Nat) (s : State) : State :=
  let p := s.power
  let ret := s.live.power.deepReturn
  let keep := decide ((s.bank .engine).st = .ret)
  let s := shiftTimers (s.now - p.deepAt) { s with
    power := { returnAt := if ret = 0 then none else some (s.now + ret * usMin) }
    mem := { s.mem with banks := s.mem.banks.map fun b => { b with st := .on } }
    clk := { s.clk with chain := .ircChain, goal := none, xoWaking := !(s.live.clock.srcIrc || s.clk.xoFailed) }
    lx := s.lx.map fun x => { x with lastStatus := s.now } }
  let s := flushResets (logNew p (emitMode [0, source] s))
  let s := if s.rst.coreDeep then coreClear { s with rst := { s.rst with coreDeep := false } }
    else
      let s := rebuild keep false { s with dies := s.dies.map fun d => { d with lastFrame := s.now } }
      { s with
        interp := { s.interp with running := true }, port := { s.port with opened := decide (s.rst.phase = .up) } }
  let s := onHpEvent 1 Flag.pulse s
  if s.clk.xoWaking ∨ (s.bank .link).ownerHeld then s
  else
    let s := joinLinks s
    { s with watch := { s.watch with sendRebuild := true } }

/-- Whether a wake source can be what it says: a trip needs a trip wire that is active, a condition one that is true; the pads
and the timer have their own events (15 R801; log 171). -/
def sourceStands (source : WakeSource) (s : State) : Bool :=
  match source with
  | .trip => (channels s.ident.part).any fun c => (s.slice c).wire
  | .cond => (channels s.ident.part).any fun c => (s.slice c).cond.toList.any fun x => x.on
  | _ => true

/-- Effect of WAKE (15 R801): a trip always wakes, another source where DEEP.WAKE enables it. -/
def wake (source : WakeSource) (s : State) : State :=
  if s.power.mode = .deep ∧ (source = .trip ∨ s.power.deepWake.getLsbD (wakeNo source) = true) ∧
      sourceStands source s = true then
    wakeUp (wakeNo source) s
  else s

/-- WAKE. -/
def execWake (source : WakeSource) (s : State) : Out := finish (wake source s)

/-- Effect of DEEP_TIMER_WAKE (15 R801). -/
def deepTimerWake (s : State) : State :=
  if s.power.deepAt + s.power.deepPeriod * usMin ≤ s.now then wake .timer s else s

/-- DEEP_TIMER_WAKE. -/
def execDeepTimerWake (s : State) : Out := finish (deepTimerWake s)

/-- Effect of WAKE_XO_READY (15 R802 step 4, 13 R700): the links join with a heartbeat carrying REBUILD. -/
def wakeXoReady (edges : Nat) (s : State) : State :=
  if decide (s.power.mode ≠ .deep) && s.clk.xoWaking && edgesPass edges && s.clk.xoPassed then
    let s := onClk (fun c => { c with chain := .xo, goal := none, xoWaking := false }) s
    if (s.bank .link).ownerHeld then s
    else
      let s := joinLinks s
      { s with watch := { s.watch with sendRebuild := true } }
  else s

/-- WAKE_XO_READY. -/
def execWakeXoReady (edges : Nat) (s : State) : Out := finish (wakeXoReady edges s)

/-- Whether any alarm of the node is unacknowledged (15 R803). -/
def anyUnacked (s : State) : Bool :=
  let un : AlarmState → Bool := fun a => decide (a = .activeUnack) || decide (a = .returnUnack)
  (s.engine.alarms.toList.any fun row => row.toList.any fun a => un a.st) || s.engine.g31.toList.any fun m => un m.st

/-- Effect of DEEP_RETURN (15 R803): the node re-enters DEEP, or tries again in a minute. -/
def deepReturn (s : State) : State :=
  match s.power.returnAt with
  | some t =>
    if s.power.mode = .deep ∨ s.now < t then s
    else if anyUnacked s = false ∧ deepRefusal s = none then enterDeep s
    else { s with power := { s.power with returnAt := some (t + usMin) } }
  | none => s

/-- DEEP_RETURN. -/
def execDeepReturn (s : State) : Out := finish (deepReturn s)

end Sys2Proof.Machine
end

