-- ==== Sys2Proof/Machine/Port.lean ====
section
/-! DEFINITION. The host port: transactions in clocked mode, characters and the bit rate in asynchronous mode (10). A line that
is complete reaches the interpreter by the row of its verb. -/

namespace Sys2Proof.Machine

/-- Changes the host port. -/
def onPort (f : Port → Port) (s : State) : State := { s with port := f s.port }

/-! ## Clocked mode -/

/-- Effect of TRANSACTION_START (10 R534, R569): in asynchronous mode, and while the port is closed, there is none. -/
def transactionStart (s : State) : State :=
  if s.port.opened && !s.port.async then onPort (fun p => { p with transaction := true, line := [], out := 0 }) s else s

/-- TRANSACTION_START. -/
def execTransactionStart (s : State) : Out := finish (transactionStart s)

/-- A RUN line that is abandoned stops its script after the line in progress (11 R628): `no` is the line's number. -/
def stopRunOf (no : Nat) (s : State) : State :=
  match s.interp.script with
  | some run =>
    if run.boot = false ∧ run.by_.sess = .host ∧ run.by_.no = no then
      if run.waiting.isSome then { s with interp := { s.interp with script := some { run with stop := true } } }
      else endScript run none 2 s
    else s
  | none => s

/-- Effect of TRANSACTION_END (10 R562, R563): the line is abandoned before its script ends, which then has no reply. -/
def transactionEnd (s : State) : State :=
  if s.port.transaction then
    let s := if awaits s .host then stopRunOf s.port.answer.no (abandonHost s) else abandonHost s
    onPort (fun p => { p with transaction := false }) s
  else s

/-- TRANSACTION_END. -/
def execTransactionEnd (s : State) : Out := finish (transactionEnd s)

/-- A line without a latch point: empty, of spaces, or a comment (11 R588). -/
def noLine (t : Text) : Bool :=
  match t.dropWhile (· = ' ') with
  | [] => true
  | c :: _ => decide (c = ';')

/-- A byte on HP_DI in a transaction, and the byte that goes out after it (10 R538–R542, 11 R578, R588): outside a line a 0x00
is ignored; with HP.ECHO ON a byte of a line goes back in place of 0x00. -/
def Port.clock (b : Byte) (p : Port) : Port :=
  if b = 0 ∧ p.inLine = false then { p with out := if p.out = 0x04 then 0x04 else 0 }
  else if b = 0x0A then
    { p with
      line := [], inLine := false, tooLong := false, badChar := false
      latched := if noLine p.line then none else some p.line
      out := if noLine p.line then 0x04 else 0x16 }
  else
    let c := Char.ofNat b.toNat
    { p with
      inLine := true, out := if p.echoOn then b else 0, badChar := p.badChar || !printable c
      line := if p.line.length < 255 then p.line ++ [c] else p.line
      tooLong := p.tooLong || decide (255 ≤ p.line.length) }

/-! ## Asynchronous mode -/

/-- The terminator of a line (10 R549): its latch point, where the line has one. -/
def Port.terminate (b : Byte) (p : Port) : Port :=
  { p with
    line := [], inLine := false, tooLong := false, corrupt := false
    lastCr := decide (b = 0x0D)
    latched := if noLine p.line then none else some p.line
    echo := [] }

/-- The bytes echoed (10 R550). -/
def Port.echoes (bs : List Byte) (p : Port) : Port := { p with echo := if p.echoOn then bs else [] }

/-- The editing of a line (10 R550). -/
def Port.edit (b : Byte) (p : Port) : Port :=
  let c := Char.ofNat b.toNat
  if printable c then
    (if p.line.length < 255 then { p with line := p.line ++ [c] }.echoes [b]
     else { p with tooLong := true }.echoes [0x07])
  else if b = 0x08 ∨ b = 0x7F then
    (if p.line = [] then p.echoes [] else { p with line := p.line.dropLast }.echoes [0x08, 0x20, 0x08])
  else if b = 0x15 then
    { p with line := [], tooLong := false, corrupt := false }.echoes [0x5E, 0x55, 0x0D, 0x0A]
  else p.echoes []

/-- Effect of CHARACTER_RECEIVED (10 R540, R545, R549, R550, R552, R553, R569): in clocked mode a byte of the transaction in
progress (log 158). -/
def characterReceived (b : Byte) (framingError : Bool) (s : State) : State :=
  let p := s.port
  if (p.opened && (if p.async then p.baud.isSome else p.transaction)) = false ∨ awaits s .host = true then s
  else if p.async = false then onPort (Port.clock b) s
  else if b = 0x0A ∧ p.lastCr then onPort (fun p => { p with lastCr := false, echo := [] }) s
  else
    let p := { p with corrupt := p.corrupt || framingError, lastCharAt := s.now }
    let p := if b = 0x0D ∨ b = 0x0A then p.terminate b else { p with inLine := true, lastCr := false }.edit b
    onPort (fun _ => p) s

/-- CHARACTER_RECEIVED. -/
def execCharacterReceived (b : Byte) (framingError : Bool) (s : State) : Out := finish (characterReceived b framingError s)

/-- Effect of BAUD_MEASUREMENT (10 R545, R546): the span of 5 bit times of a CR, which is taken as an empty line. -/
def baudMeasurement (spanNs : Nat) (s : State) : State :=
  let p := s.port
  if p.opened && p.async && p.baud.isNone && decide (1200 * spanNs ≤ 5000000000) &&
      decide (5000000000 ≤ 460800 * spanNs) then
    onPort (fun p => { p with
      baud := some (roundAway (5000000000 / (spanNs : Rat))).natAbs, line := [], inLine := false, lastCr := true }) s
  else s

/-- BAUD_MEASUREMENT. -/
def execBaudMeasurement (spanNs : Nat) (s : State) : Out := finish (baudMeasurement spanNs s)

/-- A partial line is discarded. -/
def Port.discard (p : Port) : Port :=
  { p with line := [], inLine := false, tooLong := false, corrupt := false, badChar := false, lastCr := false }

/-- Effect of BREAK (10 R545, R548): the rate is measured again. -/
def breakReceived (us : Nat) (s : State) : State :=
  if s.port.async ∧ 20000 ≤ us then onPort (fun p => { p.discard with baud := none }) s else s

/-- BREAK. -/
def execBreakReceived (us : Nat) (s : State) : Out := finish (breakReceived us s)

/-- Effect of PARTIAL_LINE_TIMEOUT (10 R556). -/
def partialLineTimeout (s : State) : State :=
  if s.port.async ∧ s.port.inLine ∧ s.port.lastCharAt + 60 * usSec ≤ s.now then onPort Port.discard s else s

/-- PARTIAL_LINE_TIMEOUT. -/
def execPartialLineTimeout (s : State) : Out := finish (partialLineTimeout s)

end Sys2Proof.Machine
end

