-- ==== Sys2Proof/Machine/RawCan.lean ====
section
/-! DEFINITION. The raw CAN lines: taking, sending, cancelling and giving back entries (06 R380–R389). -/

namespace Sys2Proof.Machine

/-! ## Names and text -/

/-- The name of a raw transmit entry with its state: `CANA.TX 03 OWNED`. -/
def txLine (b : Bus) (n : Fin 32) (state : Text) : Text :=
  unwords [txt "= " ++ busText b ++ txt ".TX", showPadded 2 n.val, state]

/-- An entry's state (06 R380). -/
def txStateText : TxState → Text
  | .free => txt "FREE" | .owned => txt "OWNED" | .pending => txt "PENDING" | .sending => txt "SENDING"
  | .sent => txt "SENT" | .lost => txt "LOST" | .error => txt "ERROR" | .cancelled => txt "CANCELLED"

/-- The words of a received frame, in the form of CAN SEND (log 53). -/
def frameTexts (f : RawFrame) : List Text :=
  [if f.ext then txt "EXT" else txt "BASE", showMask (if f.ext then 8 else 3) f.id] ++
    (if f.fd then [txt "FD"] else []) ++ (if f.brs then [txt "BRS"] else []) ++
    (if f.esi then [txt "ESI"] else []) ++ (if f.rtr then [txt "RTR"] else []) ++
    f.data.map fun d => showHexDigits 2 d.toNat

/-- Changes one transmit entry. -/
def onTx (b : Bus) (n : Fin 32) (f : TxEntry → TxEntry) (s : State) : State :=
  onCan b (fun c => { c with tx := upd c.tx n f }) s

/-- A transmit entry. -/
def txOf (s : State) (b : Bus) (n : Fin 32) : TxEntry := (s.canOf b).tx[n.val]

/-! ## Taking -/

/-- The work of CAN TAKE bus TX (06 R381): the first FREE entry. -/
def bodyTakeTx (h : LineHdr) (bus : Option Bus) (s : State) : State × Option Reply :=
  match bus with
  | none => refused .e03 s
  | some b =>
    if may s h .engineer = false then refused .e06 s
    else match (List.finRange 32).find? fun n => decide ((txOf s b n).st = .free) with
      | none => refused .e11 s
      | some n => okLines [txLine b n (txt "OWNED")] (onTx b n (fun _ => { st := .owned, hostOwned := true }) s)

/-- CAN_TAKE_TX. -/
def execCanTakeTx (h : LineHdr) (bus : Option Bus) (s : State) : Out := finish (runLine h (txt "CAN") (bodyTakeTx h bus) s)

/-- The oldest unowned frame received, with its entry (06 R389). -/
def oldestRx (c : Can) : Option (Fin 64 × RxEntry) :=
  (List.finRange 64).foldl (fun acc i => match c.rx[i.val] with
    | some e => if e.owned then acc else match acc with
      | some (_, x) => if e.order < x.order then some (i, e) else acc
      | none => some (i, e)
    | none => acc) none

/-- The work of CAN TAKE bus RX (06 R389). -/
def bodyTakeRx (h : LineHdr) (bus : Option Bus) (s : State) : State × Option Reply :=
  match bus with
  | none => refused .e03 s
  | some b =>
    if may s h .engineer = false then refused .e06 s
    else match oldestRx (s.canOf b) with
      | none => okLines [txt "= " ++ busText b ++ txt ".RX EMPTY"] s
      | some (i, e) =>
        okLines [unwords ([txt "= " ++ busText b ++ txt ".RX", showPadded 2 i.val] ++ frameTexts e.frame)]
          (onCan b (fun c => { c with rx := upd c.rx i fun _ => some { e with owned := true } }) s)

/-- CAN_TAKE_RX. -/
def execCanTakeRx (h : LineHdr) (bus : Option Bus) (s : State) : Out := finish (runLine h (txt "CAN") (bodyTakeRx h bus) s)

/-! ## Sending -/

/-- A flag word of CAN SEND taken off the front of the words that follow. -/
def takeWord (w : Text) : List Text → Bool × List Text
  | t :: r => if upper t = w then (true, r) else (false, t :: r)
  | [] => (false, [])

/-- Data bytes of two hex digits each. -/
def readBytes : List Text → Option (List Byte)
  | [] => some []
  | t :: r => match (if t.length = 2 then readHex t else none), readBytes r with
    | some n, some bs => some (BitVec.ofNat 8 n :: bs)
    | _, _ => none

/-- The words of CAN SEND after the entry: format, identifier, FD, BRS, ONESHOT, RTR and data, in that order (06 R382); none
where they break the form. -/
def readSend (args : List Text) : Option (RawFrame × Bool) :=
  match args with
  | k :: i :: r =>
    let (fd, r) := takeWord (txt "FD") r
    let (brs, r) := takeWord (txt "BRS") r
    let (one, r) := takeWord (txt "ONESHOT") r
    let (rtr, r) := takeWord (txt "RTR") r
    match (if upper k = txt "EXT" then some true else if upper k = txt "BASE" then some false else none), readMask i,
        readBytes r with
    | some ext, some id, some data => some (⟨ext, id, fd, brs, false, rtr, data⟩, one)
    | _, _, _ => none
  | _ => none

/-- Data counts of a frame format (06 R383). -/
def dataLength (fd : Bool) (n : Nat) : Bool :=
  decide (n ≤ 8) || (fd && [12, 16, 20, 24, 32, 48, 64].contains n)

/-- Whether a frame may be sent raw (06 R383, R384). -/
def rawLawful (f : RawFrame) : Bool :=
  decide (f.id ≤ if f.ext then 0x1FFFFFFF else 0x7FF) && dataLength f.fd f.data.length && !(f.rtr && f.fd) &&
    (!f.brs || f.fd) && (!f.ext || decide (6 ≤ f.id / 67108864))

/-- The work of CAN SEND (06 R382–R384). -/
def bodySend (h : LineHdr) (bus : Option Bus) (entry : Option (Fin 32)) (args : List Text) (s : State) :
    State × Option Reply :=
  match readSend args with
  | none => refused .e01 s
  | some (f, one) =>
    match bus, entry with
    | some b, some n =>
      if may s h .engineer = false then refused .e06 s
      else if rawLawful f = false then refused .e04 s
      else
        let e := txOf s b n
        if e.hostOwned = false then refused .e12 s
        else match e.st with
          | .pending | .sending => refused .e08 s
          | _ =>
            okLines [txLine b n (txt "PENDING")]
              (onTx b n (fun e => { e with st := .pending, frame := some f, oneShot := one, cancel := false }) s)
    | _, _ => refused .e03 s

/-- CAN_SEND. -/
def execCanSend (h : LineHdr) (bus : Option Bus) (entry : Option (Fin 32)) (args : List Text) (s : State) : Out :=
  finish (runLine h (txt "CAN") (bodySend h bus entry args) s)

/-! ## Giving back, cancelling, asking -/

/-- The work of CAN DONE bus TX (06 R380): an entry still waiting or on the bus is free once it has ended. -/
def bodyDoneTx (h : LineHdr) (bus : Option Bus) (entry : Option (Fin 32)) (s : State) : State × Option Reply :=
  match bus, entry with
  | some b, some n =>
    if may s h .engineer = false then refused .e06 s
    else if (txOf s b n).hostOwned = false then refused .e12 s
    else ok (onTx b n (fun e => { e with hostOwned := false }.rest) s)
  | _, _ => refused .e03 s

/-- CAN_DONE_TX. -/
def execCanDoneTx (h : LineHdr) (bus : Option Bus) (entry : Option (Fin 32)) (s : State) : Out :=
  finish (runLine h (txt "CAN") (bodyDoneTx h bus entry) s)

/-- The work of CAN DONE bus RX (06 R389). -/
def bodyDoneRx (h : LineHdr) (bus : Option Bus) (entry : Option (Fin 64)) (s : State) : State × Option Reply :=
  match bus, entry with
  | some b, some n =>
    if may s h .engineer = false then refused .e06 s
    else if ((s.canOf b).rx[n.val]).any (fun e => e.owned) = false then refused .e12 s
    else ok (onCan b (fun c => { c with rx := upd c.rx n fun _ => none }) s)
  | _, _ => refused .e03 s

/-- CAN_DONE_RX. -/
def execCanDoneRx (h : LineHdr) (bus : Option Bus) (entry : Option (Fin 64)) (s : State) : Out :=
  finish (runLine h (txt "CAN") (bodyDoneRx h bus entry) s)

/-- The work of CAN CANCEL (06 R386); an entry not yet sent has nothing to cancel. -/
def bodyCancel (h : LineHdr) (bus : Option Bus) (entry : Option (Fin 32)) (s : State) : State × Option Reply :=
  match bus, entry with
  | some b, some n =>
    if may s h .engineer = false then refused .e06 s
    else
      let e := txOf s b n
      if e.hostOwned = false then refused .e12 s
      else match e.st with
        | .pending => ok (onTx b n (fun e => { e with st := .cancelled }) s)
        | .sending =>
          okLines [txLine b n (txt "CANCEL RECORDED")] (onTx b n (fun e => { e with cancel := true }) s)
        | .free | .owned => ok s
        | _ => refused .e10 s
  | _, _ => refused .e03 s

/-- CAN_CANCEL. -/
def execCanCancel (h : LineHdr) (bus : Option Bus) (entry : Option (Fin 32)) (s : State) : Out :=
  finish (runLine h (txt "CAN") (bodyCancel h bus entry) s)

/-- The work of CAN STATUS (11 R599). -/
def bodyCanStatus (bus : Option Bus) (entry : Option (Fin 32)) (s : State) : State × Option Reply :=
  match bus, entry with
  | some b, some n => okLines [txLine b n (txStateText (txOf s b n).st)] s
  | _, _ => refused .e03 s

/-- CAN_STATUS. -/
def execCanStatus (h : LineHdr) (bus : Option Bus) (entry : Option (Fin 32)) (s : State) : Out :=
  finish (runLine h (txt "CAN") (bodyCanStatus bus entry) s)

end Sys2Proof.Machine
end

