-- ==== Sys2Proof/Machine/Titex.lean ====
section
/-! DEFINITION. The lines of the command language that no other chapter owns, and the rows of single settings: GET, SET, SHOW,
TIME, STATUS, HELP, the alarm verbs, CLEAR STATUS and LOG STATUS (04 R224–R232, 02 R119–R123, 11). -/

namespace Sys2Proof.Machine

/-! ## GET, SHOW and SET -/

/-- The names of a line, where every one is known and on the part. -/
def knownNames (p : Part) : List (Option Name) → Option (List Name)
  | [] => some []
  | some n :: r => if nameFitted p n then (knownNames p r).map fun ns => n :: ns else none
  | none :: _ => none

/-- The work of GET (11 R602). -/
def bodyGet (names : List (Option Name)) (s : State) : State × Option Reply :=
  if names.length < 1 ∨ 8 < names.length then refused .e01 s
  else match knownNames s.ident.part names with
    | none => refused .e03 s
    | some ns => okLines (ns.map (nameLine s)) (freezeFor ns s)

/-- GET. -/
def execGet (h : LineHdr) (names : List (Option Name)) (s : State) : Out := finish (runLine h (txt "GET") (bodyGet names) s)

/-- A target in upper case without the prefix of the own node; none where it names another node (11 R584). -/
def ownName (s : State) (t : Text) : Option Text :=
  match splitNode (upper t) with
  | (some n, r) => if n = s.watch.node then some r else none
  | (none, r) => some r

/-- The work of SHOW (11 R597, R598, R604). -/
def bodyShow (target : Text) (from_ : Option Text) (s : State) : State × Option Reply :=
  let start := match from_ with
    | some t => readWhole t
    | none => .ok 1
  let names := match ownName s target with
    | some t => namesUnder s.ident.part t
    | none => []
  match start with
  | .error .e01 => refused .e01 s
  | start =>
    if names = [] then refused .e03 s
    else match start with
      | .ok k =>
        if k < 1 ∨ names.length < k then refused .e04 s
        else
          let shown := names.drop (k - 1)
          (freezeFor shown s, some { data := shown.map (nameLine s), base := k - 1 })
      | .error _ => refused .e04 s

/-- SHOW. -/
def execShow (h : LineHdr) (target : Text) (from_ : Option Text) (s : State) : Out :=
  finish (runLine h (txt "SHOW") (bodyShow target from_) s)

/-- The edges of the XO in 64 IRC cycles where a line of a script or a plain SET asks for it: those of an XO that the monitor
finds in order. -/
def presumedEdges (s : State) : Nat := if s.clk.xoPassed then 256 else 0

/-- A keyword that is none of a setting's: E04, or E06 where the role does not allow the line (11 R601). -/
def badKeyword (allowed : Bool) (s : State) : State × Option Reply := refused (if allowed then .e04 else .e06) s

/-- The work of SET of any setting (11 R603): some settings have work of their own. -/
def setBody (h : LineHdr) (i : SettingId) (t : Text) (s : State) : State × Option Reply :=
  let word := unwords (tokens t)
  match i with
  | .power .mode => match readKw [txt "RUN", txt "SLEEP", txt "DEEP"] word with
    | some 0 => bodyRunMode h s
    | some 1 => bodySleepMode h s
    | some _ => bodyDeepMode h s
    | none => badKeyword (may s h .engineer) s
  | .secDebug => match readKw [txt "OPEN", txt "LOCKED"] word with
    | some 0 => bodyDebugOpen h s
    | some _ => bodyDebugLocked h s
    | none => badKeyword (mayWriteKeys s h) s
  | .clock .src => match readKw [txt "XO", txt "IRC"] word with
    | some 0 => bodyClockSrc h true (presumedEdges s) s
    | some _ => bodyClockSrc h false 0 s
    | none => badKeyword (may s h .engineer) s
  | .clock .panel => bodyClockPanel h t s
  | .key k => bodyKey h k (tokens t) s
  | i => writeSetting h i t s

/-- The work of SET (11 R602, R603): an unknown name is E03, a read-only value E06. -/
def bodySet (h : LineHdr) (name : Option Name) (t : Text) (s : State) : State × Option Reply :=
  match name with
  | none => refused .e03 s
  | some n =>
    if nameFitted s.ident.part n = false then refused .e03 s
    else match n with
      | .ro _ => refused .e06 s
      | .setting i => setBody h i t s

/-- SET. -/
def execSet (h : LineHdr) (name : Option Name) (value : Text) (s : State) : Out :=
  finish (runLine h (txt "SET") (bodySet h name value) s)

/-- PARTITION_WRITE: a SET of a setting of the safety partition (12 R665). -/
def execPartitionWrite (h : LineHdr) (name : Option Name) (value : Text) (s : State) : Out :=
  finish (runLine h (txt "SET") (bodySet h name value) s)

/-! ## Settings with a row of their own -/

/-- MODE_WRITE (02 R49): staged until the conversion boundary. -/
def execModeWrite (h : LineHdr) (c : Ch) (value : Text) (s : State) : Out := finish (setLine h (.ch c .mode) value s)

/-- RANGE_WRITE (02 R70). -/
def execRangeWrite (h : LineHdr) (c : Ch) (value : Text) (s : State) : Out := finish (setLine h (.ch c .range) value s)

/-- RATE_WRITE (02 R55). -/
def execRateWrite (h : LineHdr) (c : Ch) (value : Text) (s : State) : Out := finish (setLine h (.ch c .rate) value s)

/-- The setting of a TRIP_THRESHOLD_WRITE. -/
def tripSetting : TripSet → ChSet
  | .hi => .triphi
  | .lo => .triplo
  | .span => .tripspan

/-- TRIP_THRESHOLD_WRITE (02 R115). -/
def execTripThresholdWrite (h : LineHdr) (c : Ch) (which : TripSet) (value : Text) (s : State) : Out :=
  finish (setLine h (.ch c (tripSetting which)) value s)

/-- CHAR_WRITE (03 R189). -/
def execCharWrite (h : LineHdr) (c : Ch) (value : Text) (s : State) : Out := finish (setLine h (.ch c .char) value s)

/-- The setting of a LAMP_TIMING_WRITE. -/
def timingSetting : TimingSet → ChSet
  | .onlate => .onlate
  | .edgetol => .edgetol
  | .lamptype => .lamptype

/-- LAMP_TIMING_WRITE (03 R190). -/
def execLampTimingWrite (h : LineHdr) (c : Ch) (which : TimingSet) (value : Text) (s : State) : Out :=
  finish (setLine h (.ch c (timingSetting which)) value s)

/-- LEARN_WRITE (03 R178). -/
def execLearnWrite (h : LineHdr) (c : Ch) (value : Text) (s : State) : Out := finish (setLine h (.ch c .learn) value s)

/-- BASESET_WRITE (03 R177). -/
def execBasesetWrite (h : LineHdr) (c : Ch) (value : Text) (s : State) : Out := finish (setLine h (.ch c .baseset) value s)

/-- GRP_WRITE (04 R237). -/
def execGrpWrite (h : LineHdr) (c : Ch) (value : Text) (s : State) : Out := finish (setLine h (.ch c .grp) value s)

/-- INHIB_WRITE (04 R263). -/
def execInhibWrite (h : LineHdr) (g : Grp) (value : Text) (s : State) : Out := finish (setLine h (.grp g .inhib) value s)

/-- FIRSTOUT_WRITE (04 R248). -/
def execFirstoutWrite (h : LineHdr) (g : Grp) (value : Text) (s : State) : Out :=
  finish (setLine h (.grp g .firstout) value s)

/-- CLASS_WRITE (05 R311). -/
def execClassWrite (h : LineHdr) (g : Grp) (value : Text) (s : State) : Out := finish (setLine h (.grp g .class_) value s)

/-- DEADMAN_EN_WRITE (05 R301). -/
def execDeadmanEnWrite (h : LineHdr) (value : Text) (s : State) : Out := finish (setLine h (.deadman .en) value s)

/-- The setting of a CAN_BIT_TIMING_WRITE. -/
def bitSetting : BitSet → CanSet
  | .nom => .nom
  | .data => .data
  | .nsp => .nsp
  | .dsp => .dsp

/-- CAN_BIT_TIMING_WRITE (06 R328). -/
def execCanBitTimingWrite (h : LineHdr) (bus : Bus) (which : BitSet) (value : Text) (s : State) : Out :=
  finish (setLine h (.can bus (bitSetting which)) value s)

/-- CAN_LISTEN_WRITE (06 R392). -/
def execCanListenWrite (h : LineHdr) (bus : Bus) (value : Text) (s : State) : Out := finish (setLine h (.can bus .listen) value s)

/-- CAN_RECOVER (06 R393). -/
def execCanRecover (h : LineHdr) (bus : Bus) (value : Text) (s : State) : Out := finish (setLine h (.can bus .recover) value s)

/-- PANEL_TYPE_WRITE (08 R472). -/
def execPanelTypeWrite (h : LineHdr) (value : Text) (s : State) : Out := finish (setLine h (.panel .type) value s)

/-- The setting of a PANEL_DRIVE_WRITE. -/
def driveSetting : DriveSet → PanelSet
  | .frame => .frame
  | .vlcd => .vlcd
  | .vhv => .vhv
  | .bchline => .bchline

/-- PANEL_DRIVE_WRITE (08 R473). -/
def execPanelDriveWrite (h : LineHdr) (which : DriveSet) (value : Text) (s : State) : Out :=
  finish (setLine h (.panel (driveSetting which)) value s)

/-- PANEL_TEST (08 R461). -/
def execPanelTest (h : LineHdr) (value : Text) (s : State) : Out := finish (setLine h (.panel .test) value s)

/-! ## TIME, STATUS and HELP -/

/-- The work of TIME (11 R605). -/
def bodyTime (s : State) : State × Option Reply :=
  okLines [unwords [txt "= TIME", isoText s.nodeTime, showNat s.nodeTime]] s

/-- TIME. -/
def execTime (h : LineHdr) (s : State) : Out := finish (runLine h (txt "TIME") bodyTime s)

/-- The fraction of a second in µs: six digits after the point, or none (11 R605). -/
def readMicros (t : Text) : Option Nat :=
  match t with
  | ['Z'] => some 0
  | '.' :: r => match r.reverse with
    | 'Z' :: d => readDigits 6 d.reverse
    | _ => none
  | _ => none

/-- The fields of a calendar time, year to µs; none where the form is broken (11 R605). -/
def readFields (t : Text) : Option (List Nat) :=
  let at_ := fun (i n : Nat) => readDigits n ((t.drop i).take n)
  let seps := [t[4]?, t[7]?, t[10]?, t[13]?, t[16]?]
  if seps = [some '-', some '-', some 'T', some ':', some ':'] then
    match at_ 0 4, at_ 5 2, at_ 8 2, at_ 11 2, at_ 14 2, at_ 17 2, readMicros (t.drop 19) with
    | some y, some m, some d, some hh, some mm, some ss, some us => some [y, m, d, hh, mm, ss, us]
    | _, _, _, _, _, _, _ => none
  else none

/-- The node time that a calendar time names: E01 for its form, E04 where it does not exist (11 R585, R605). -/
def readTime (t : Text) : Except Err Tick :=
  match readFields (upper t) with
  | some [y, m, d, hh, mm, ss, us] =>
    let days := daysOf y m d
    if 1 ≤ m ∧ m ≤ 12 ∧ 1 ≤ d ∧ 0 ≤ days ∧ dateOf days.toNat = (y, m, d) ∧ hh < 24 ∧ mm < 60 ∧ ss < 60 then
      .ok (days.toNat * 86400000000 + ((hh * 60 + mm) * 60 + ss) * 1000000 + us)
    else .error .e04
  | _ => .error .e01

/-- The work of TIME SET (11 R605, 06 R365, 09 R483): a node that is not in a watch is its own lead. -/
def bodyTimeSet (h : LineHdr) (value : Text) (s : State) : State × Option Reply :=
  match readTime value with
  | .error .e01 => refused .e01 s
  | r =>
    if may s h .engineer = false then refused .e06 s
    else match r with
      | .error e => refused e s
      | .ok t =>
        if inWatch s && !isLead s then refused .e18 s
        else
          let s := setTime t s
          ok { s with watch := { s.watch with timeSet := true, hostSet := true } }

/-- TIME_SET. -/
def execTimeSet (h : LineHdr) (value : Text) (s : State) : Out := finish (runLine h (txt "TIME") (bodyTimeSet h value) s)

/-- The node-level flags of STATUS with their names (11 R606). -/
def nodeFlags (s : State) : List (Text × Flag) :=
  [(txt "CLKFAIL", s.flags.clkFail), (txt "SWHANG", s.flags.swHang), (txt "PWRWARN", s.flags.pwrWarn),
   (txt "SETCOLL", s.flags.setColl), (txt "LOGFULL", s.flags.logFull), (txt "STORFAULT", s.flags.storFault),
   (txt "IDCLASH", s.flags.idClash)]

/-- NODE.STATUS (11 R606). -/
def nodeStatusText (s : State) : Text :=
  match (nodeFlags s).filter fun p => p.2.latched with
  | [] => txt "NONE"
  | l => unwords (l.map (·.1))

/-- The work of STATUS (11 R606). -/
def bodyStatus (h : LineHdr) (s : State) : State × Option Reply :=
  okLines
    (([Name.ro .nodePart, .ro .nodeSerial, .setting .watchNode, .ro .watchLead].map (nameLine s)) ++
      [dataLine (txt "SESSION") (roleText (roleOf s h.sess)), dataLine (txt "NODE.STATUS") (nodeStatusText s)]) s

/-- STATUS. -/
def execStatus (h : LineHdr) (s : State) : Out := finish (runLine h (txt "STATUS") (bodyStatus h) s)

/-- The verbs with their forms (11 R599). -/
def verbForms : List (Text × List Text) :=
  [(txt "GET", [txt "GET name [name ...]"]), (txt "SET", [txt "SET name value"]),
   (txt "SHOW", [txt "SHOW target [FROM k]"]), (txt "SAVE", [txt "SAVE"]), (txt "LOAD", [txt "LOAD [DEFAULTS]"]),
   (txt "RUN", [txt "RUN Sxx"]), (txt "STOP", [txt "STOP Sxx"]),
   (txt "TIME", [txt "TIME", txt "TIME SET yyyy-mm-ddThh:mm:ss[.ffffff]Z"]), (txt "STATUS", [txt "STATUS"]),
   (txt "HELP", [txt "HELP [verb]"]), (txt "ACK", [txt "ACK target"]), (txt "SHELVE", [txt "SHELVE target [minutes]"]),
   (txt "UNSHELVE", [txt "UNSHELVE target"]), (txt "DISABLE", [txt "DISABLE target"]),
   (txt "ENABLE", [txt "ENABLE target"]), (txt "CLEAR", [txt "CLEAR STATUS name"]), (txt "LOGIN", [txt "LOGIN role"]),
   (txt "PROVE", [txt "PROVE proof"]), (txt "LOGOUT", [txt "LOGOUT"]),
   (txt "LOG", [txt "LOG READ p [n]", txt "LOG READ LAST [n]", txt "LOG CLEAR", txt "LOG STATUS"]),
   (txt "CAN", [txt "CAN TAKE bus TX", txt "CAN TAKE bus RX",
     txt "CAN SEND bus nn format id [FD] [BRS] [ONESHOT] [RTR] data", txt "CAN DONE bus TX nn", txt "CAN DONE bus RX nn",
     txt "CAN CANCEL bus TX nn", txt "CAN STATUS bus TX nn"]),
   (txt "RESET", [txt "RESET CORE", txt "RESET SYSTEM", txt "RESET BLOCK name"]),
   (txt "TEST", [txt "TEST MARCH bank DESTRUCTIVE", txt "TEST MARCH bank PRESERVING"]),
   (txt "MEASURE", [txt "MEASURE CLOCK a AGAINST b [N]"])]

/-- The work of HELP (11 R607). -/
def bodyHelp (verb : Option Text) (s : State) : State × Option Reply :=
  match verb with
  | none => okLines (verbForms.map fun p => txt "= " ++ p.1) s
  | some v => match verbForms.find? fun p => p.1 = upper v with
    | some p => okLines (p.2.map fun l => txt "= " ++ l) s
    | none => refused .e03 s

/-- HELP. -/
def execHelp (h : LineHdr) (verb : Option Text) (s : State) : Out := finish (runLine h (txt "HELP") (bodyHelp verb) s)

/-! ## Acknowledging and shelving -/

/-- The origin of an operator action: 0 the host port, 1 a console with its number (06 R334). -/
def originOf (s : State) (who : Sess) : Nat × Nat :=
  match boundTo s who with
  | .console k => (1, k.val)
  | _ => (0, 0)

/-- The engine cycle that captures a line's latch point (10 R557, 04 R225; log 3). -/
def latchCycle (h : LineHdr) (s : State) : Nat := if h.sameCycle then s.cycle - 1 else s.cycle

/-- The work of ACK (04 R224–R226, 06 R360): a target of another node is sent there. -/
def bodyAck (h : LineHdr) (node : Option NodeNo) (target : Option Target) (s : State) : State × Option Reply :=
  let origin := originOf s h.sess
  match target with
  | none => refused .e03 s
  | some t =>
    let own := decide (node.getD s.watch.node = s.watch.node)
    if own && !targetFitted s.ident.part t then refused .e03 s
    else if may s h .operator = false then refused .e06 s
    else if own then
      let s := emitAction 1 t origin.1 origin.2 0 s
      let c := latchCycle h s
      ok (if s.engine.running then ackTarget (fun a => decide (a.entered < c)) (fun a => decide (a.entered < c)) t s else s)
    else ok (send (.ack ⟨node.getD s.watch.node, some t, origin.1, origin.2, s.nodeTime⟩) s)

/-- ACK: the condition changes of its engine cycle go first (04 R259, 05 R308). -/
def execAck (h : LineHdr) (node : Option NodeNo) (target : Option Target) (m : Mates) (s : State) : Out :=
  finish (runLine h (txt "ACK") (bodyAck h node target) (matesChange m s))

/-- The work of ACK DEADMAN (05 R302). -/
def bodyAckDeadman (h : LineHdr) (s : State) : State × Option Reply :=
  if may s h .operator = false then refused .e06 s else ok (deadConfirm 0 s)

/-- ACK_DEADMAN. -/
def execAckDeadman (h : LineHdr) (s : State) : Out := finish (runLine h (txt "ACK") (bodyAckDeadman h) s)

/-- Whether SHELVE takes a target: a condition that is not DISABLED, a channel, or a group but G31 (04 R227, R228). -/
def shelvable (s : State) : Target → Bool
  | .cond c k => decide ((s.alarm c k).st ≠ .disabled)
  | .ch _ => true
  | .grp g => decide (g ≠ 31)
  | _ => false

/-- Shelves one alarm until a node time; a DISABLED alarm of a wider target is passed over (04 R215, R228). -/
def shelveOne (until_ : Tick) (c : Ch) (k : Cond) (w : Moving) : Moving :=
  if (w.1.alarm c k).st = .disabled then w
  else
    let w := move c k .shelved w
    (onAlarm c k (fun a => { a with shelfEnd := some until_ }) w.1, w.2)

/-- The work of SHELVE (04 R227, R228, R230). -/
def bodyShelve (h : LineHdr) (target : Option Target) (minutes : Option Text) (s : State) : State × Option Reply :=
  let origin := originOf s h.sess
  let n := match minutes with
    | some t => readWhole t
    | none => .ok s.live.shelveMax
  match n, target with
  | .error .e01, _ => refused .e01 s
  | _, none => refused .e03 s
  | n, some t =>
    if targetFitted s.ident.part t = false then refused .e03 s
    else if may s h .operator = false then refused .e06 s
    else match n with
      | .error e => refused e s
      | .ok n =>
        if n < 1 ∨ s.live.shelveMax < n ∨ shelvable s t = false then refused .e04 s
        else
          let s := emitAction 2 t origin.1 origin.2 n s
          let until_ := s.nodeTime + n * usMin
          ok (if s.engine.running then
            commit [] ((targetConds s t).foldl (fun w p => shelveOne until_ p.1 p.2 w) (s, [])) else s)

/-- SHELVE. -/
def execShelve (h : LineHdr) (target : Option Target) (minutes : Option Text) (s : State) : Out :=
  finish (runLine h (txt "SHELVE") (bodyShelve h target minutes) s)

/-- The work of UNSHELVE (04 R216, R229, R230). -/
def bodyUnshelve (h : LineHdr) (target : Option Target) (s : State) : State × Option Reply :=
  let origin := originOf s h.sess
  match target with
  | none => refused .e03 s
  | some t =>
    if targetFitted s.ident.part t = false then refused .e03 s
    else if may s h .operator = false then refused .e06 s
    else
      let s := emitAction 3 t origin.1 origin.2 0 s
      ok (if s.engine.running then
        commit [] ((targetConds s t).foldl (fun (w : Moving) p =>
          if (w.1.alarm p.1 p.2).st = .shelved then leave true p.1 p.2 w else w) (s, [])) else s)

/-- UNSHELVE. -/
def execUnshelve (h : LineHdr) (target : Option Target) (s : State) : Out :=
  finish (runLine h (txt "UNSHELVE") (bodyUnshelve h target) s)

/-! ## DISABLE and ENABLE -/

/-- Whether DISABLE and ENABLE take a target (04 R231, R232). -/
def ableTarget : Target → Bool
  | .cond .. => true
  | .ch _ => true
  | .grp g => decide (g ≠ 31)
  | _ => false

/-- The work of DISABLE and ENABLE (04 R231, R232). -/
def bodyAble (h : LineHdr) (on : Bool) (target : Option Target) (s : State) : State × Option Reply :=
  let origin := originOf s h.sess
  let word := if on then txt "ON" else txt "OFF"
  match target with
  | none => refused .e03 s
  | some t =>
    if targetFitted s.ident.part t = false then refused .e03 s
    else if ableTarget t = false then refused .e04 s
    else
      let ps := targetConds s t
      let first := match ps with
        | (c, k) :: _ => checkWrite h.sess (.cond c k .en) word s
        | [] => .ok .none
      match first with
      | .error e => refused e s
      | .ok _ =>
        runWrites (waiter h s) h.sameCycle none (ps.map fun p => (SettingId.cond p.1 p.2 .en, word)) []
          (emitAction (if on then 5 else 4) t origin.1 origin.2 0 s)

/-- DISABLE. -/
def execDisable (h : LineHdr) (target : Option Target) (s : State) : Out :=
  finish (runLine h (txt "DISABLE") (bodyAble h false target) s)

/-- ENABLE. -/
def execEnable (h : LineHdr) (target : Option Target) (s : State) : Out :=
  finish (runLine h (txt "ENABLE") (bodyAble h true target) s)

/-! ## CLEAR STATUS -/

/-- A flag by its name. RSTCAUSE is no flag of this form (15 R781). -/
def flagOf (s : State) : FlagName → Flag
  | .ch c b => (s.sliceSeen c).flags[b.val]
  | .panel b => s.panel.flags[b.val]
  | .logFull => s.flags.logFull
  | .storFault => s.flags.storFault
  | .hp b => s.port.events[b.val]
  | .sec b => s.part.flags[b.val]
  | .clkFail => s.flags.clkFail
  | .swHang => s.flags.swHang
  | .sscPin => s.clk.sscPin
  | .lpoFail => s.clk.lpoFail
  | .mem b => (s.bank b).fault
  | .pwrWarn => s.flags.pwrWarn
  | .rstcause => {}
  | .idClash => s.flags.idClash
  | .setColl => s.flags.setColl

/-- Changes a flag in what is held of a slice while its link is down. -/
def onSeenFlag (c : Ch) (b : Fin 12) (f : Flag → Flag) (s : State) : State :=
  onHold (dieOf c) (fun h => { h with seen := upd h.seen (slotOf c) fun x => { x with flags := upd x.flags b f } }) s

/-- Changes a flag by its name. -/
def onFlag (n : FlagName) (f : Flag → Flag) (s : State) : State :=
  match n with
  | .ch c b => onSeenFlag c b f (onChFlag c b f s)
  | .panel b => { s with panel := { s.panel with flags := upd s.panel.flags b f } }
  | .logFull => { s with flags := { s.flags with logFull := f s.flags.logFull } }
  | .storFault => { s with flags := { s.flags with storFault := f s.flags.storFault } }
  | .hp b => onHpEvent b f s
  | .sec b => { s with part := { s.part with flags := upd s.part.flags b f } }
  | .clkFail => { s with flags := { s.flags with clkFail := f s.flags.clkFail } }
  | .swHang => { s with flags := { s.flags with swHang := f s.flags.swHang } }
  | .sscPin => { s with clk := { s.clk with sscPin := f s.clk.sscPin } }
  | .lpoFail => { s with clk := { s.clk with lpoFail := f s.clk.lpoFail } }
  | .mem b => onBank b (fun x => { x with fault := f x.fault }) s
  | .pwrWarn => { s with flags := { s.flags with pwrWarn := f s.flags.pwrWarn } }
  | .rstcause => s
  | .idClash => { s with flags := { s.flags with idClash := f s.flags.idClash } }
  | .setColl => { s with flags := { s.flags with setColl := f s.flags.setColl } }

/-- Whether a flag exists on the part (00 R5). -/
def flagFitted (p : Part) : FlagName → Bool
  | .ch c _ => chFitted p c
  | _ => true

/-- The role that clears a flag (02 R137, 10 R567, 15 R781, 16 R810). -/
def flagRole : FlagName → Role
  | .hp _ => .observer
  | _ => .operator

/-- IDCLASH stands while a frame with the own number came within the last second (06 R349). -/
def clashRecent (n : FlagName) (s : State) : Bool :=
  decide (n = .idClash) && s.flags.idClash.latched && decide (s.now < s.watch.idclashAt + usSec)

/-- The value that the reply to CLEAR STATUS shows (02 R123). -/
def clearedText (f : Flag) : Text := if f.latched then txt "1 AGAIN " ++ showNat f.again else txt "0"

/-- The work of CLEAR STATUS (02 R120–R123, 15 R781). -/
def bodyClear (h : LineHdr) (flag : Option FlagName) (setNow : Bool) (s : State) : State × Option Reply :=
  match flag with
  | none => refused .e03 s
  | some n =>
    if flagFitted s.ident.part n = false then refused .e03 s
    else if may s h (flagRole n) = false then refused .e06 s
    else if n = .rstcause then
      let s := { s with rst := { s.rst with cause := 0 } }
      okLines [nameLine s (.ro .rstcause)] s
    else
      let s := onFlag n (Flag.clear (setNow || clashRecent n s)) s
      okLines [dataLine (flagText n) (clearedText (flagOf s n))] s

/-- CLEAR_STATUS. -/
def execClearStatus (h : LineHdr) (flag : Option FlagName) (setNow : Bool) (s : State) : Out :=
  finish (runLine h (txt "CLEAR") (bodyClear h flag setNow) s)

/-! ## LOG STATUS, and verbs that do not exist -/

/-- The read-only values of the logbook in the order of their table (09 R522, R529). -/
def logNames : List Name := (headNames .log).filter fun n => match n with
  | .ro _ => true
  | .setting _ => false

/-- The work of LOG STATUS (09 R522). -/
def bodyLogStatus (s : State) : State × Option Reply := okLines (logNames.map (nameLine s)) s

/-- LOG_STATUS. -/
def execLogStatus (h : LineHdr) (s : State) : Out := finish (runLine h (txt "LOG") bodyLogStatus s)

/-- UNKNOWN_VERB (11 R631). -/
def execUnknownVerb (h : LineHdr) (verb : Text) (s : State) : Out := finish (runLine h (upper verb) (refused .e03) s)

end Sys2Proof.Machine
end

