-- ==== Sys2Proof/Machine/Scripts.lean ====
section
/-! DEFINITION. Keeping settings, and scripts: SAVE, LOAD, RUN, STOP, the reading of a script line's words and its work
(11 R578–R588, R608–R628). -/

namespace Sys2Proof.Machine

/-! ## SAVE -/

/-- A channel's settings as an image holds them: those that the partition keeps are left out (11 R608, R610, 12 R669). -/
def imageCh (c : ChCfg) : ChCfg :=
  let c := { c with set := chCheck c, staged := none }
  if c.safe then takeSafety {} c else c

/-- The settings that SAVE writes (11 R608–R610). -/
def imageOf (cfg : Settings) : Settings := takeFixed {} { cfg with ch := cfg.ch.map imageCh }

/-- The work of SAVE (11 R609, R611, R632). -/
def bodySave (h : LineHdr) (s : State) : State × Option Reply :=
  if may s h .engineer = false then refused .e06 s
  else if flashBusy s then refused .e08 s
  else
    let gen := ((imageInForce s).map (·.gen)).getD 0 + 1
    held { s with interp := { s.interp with flash := some (.save gen (imageOf s.live) (waiter h s)) } }

/-- SAVE. -/
def execSave (h : LineHdr) (s : State) : Out := finish (runLine h (txt "SAVE") (bodySave h) s)

/-- Effect of SAVE_COMPLETE (11 R609–R612, R629, 10 R566). -/
def saveComplete (verified : Bool) (s : State) : State :=
  match s.interp.flash with
  | some (.save gen cfg w) =>
    let s := storeDone w { s with interp := { s.interp with flash := none } }
    let s := putConfigImage ⟨gen, verified, cfg⟩ s
    if verified then
      let s := storCauses (fun c => { c with config := false }) { s with images := { s.images with saved := s.nodeTime } }
      let s := emitSess w.sess 0x0402 (BitVec.ofNat 32 gen) [] s
      deliver w { data := [dataLine (txt "CONFIG.GEN") (showNat gen)] } s
    else
      let s := storCauses (fun c => { c with config := true }) s
      deliver w (plainReply (some .e17)) (emitSess w.sess 0x0403 (BitVec.ofNat 32 gen) [] s)
  | _ => s

/-- SAVE_COMPLETE. -/
def execSaveComplete (verified : Bool) (s : State) : Out := finish (saveComplete verified s)

/-! ## LOAD -/

/-- A kind without the unit that GET shows. -/
def bareKind : Kind → Kind
  | .step lo hi st d _ => .step lo hi st d []
  | .sig lo hi _ => .sig lo hi []
  | .listed vs _ => .listed vs []
  | .kwStep kws lo hi st d _ => .kwStep kws lo hi st d []
  | .kwSig kws lo hi _ => .kwSig kws lo hi []
  | k => k

/-- A value of an image as a SET line writes it. -/
def writtenVal (async : Bool) (img : Settings) (i : SettingId) : Text :=
  match i with
  | .hp .echo => if echoOf async img.hp then txt "ON" else txt "OFF"
  | i => showVal (bareKind (kindOf img i)) (cfgVal img i)

/-- One write of a LOAD: a setting, and its value as written. -/
abbrev LoadWrite := SettingId × Text

/-- The writes of some settings with the image's values. -/
def plainWrites (async : Bool) (img : Settings) (is : List SettingId) : List LoadWrite :=
  is.map fun i => (i, writtenVal async img i)

/-- Settings that must fall in order, highest first, with their live and their new numbers: those that rise from the top
down, then those that fall from the bottom up (11 R616). -/
def inOrder (ps : List (SettingId × Rat × Rat)) : List SettingId :=
  ((ps.filter fun p => decide (p.2.1 ≤ p.2.2)).map (·.1)) ++ ((ps.filter fun p => decide (p.2.2 < p.2.1)).reverse.map (·.1))

/-- A setting with its live and its new number. -/
def liveAndNew (live img : Settings) (i : SettingId) : SettingId × Rat × Rat :=
  (i, numOf (cfgVal live i), numOf (cfgVal img i))

/-- The settings of a channel in the order in which LOAD writes them (11 R616). A channel whose RANGE reads NONE has no
RANGE to write (02 R132; log 118). -/
def loadChannel (live img : Settings) (c : Ch) : List SettingId :=
  let ch := fun (f : ChSet) => SettingId.ch c f
  let cond := fun (f : CondSet) (k : Cond) => SettingId.cond c k f
  let enOn := fun (k : Cond) => (img.ch[c.val].cond[(condIdx k).val]).en
  let other := allConds.filter fun k => !thresholdConds.contains k
  let range := if img.ch[c.val].set.range = .none then [] else [ChSet.range]
  (([ChSet.mode] ++ range ++ [ChSet.rate, .eol, .floor, .eng0, .eng1, .unit, .tripspan, .triphi, .triplo, .fast, .char, .lampsup,
      .acnom, .lamptype, .onlate, .edgetol, .learn, .baseset]).map ch) ++
  inOrder ([ch .dimfrac, ch .darkfrac].map (liveAndNew live img)) ++
  inOrder ([ch .darkmax, ch .darkmin].map (liveAndNew live img)) ++
  ((thresholdConds.filter fun k => !enOn k).map (cond .en)) ++
  inOrder (thresholdConds.map fun k => liveAndNew live img (cond .set k)) ++
  ((thresholdConds.filter enOn).map (cond .en)) ++
  ((allConds.filter fun k => condSetExists k .hyst).map (cond .hyst)) ++
  (allConds.map (cond .steep)) ++ (allConds.map (cond .unsteep)) ++ (other.map (cond .en)) ++ [ch .grp]

/-- The settings before WATCH.NODE in the order of the index (11 R616). -/
def loadBefore : List SettingId :=
  ((List.finRange 32).flatMap fun g =>
    [GrpSet.name, .class_, .delay, .inhib, .line, .firstout].map fun f => SettingId.grp g f) ++
  ((List.finRange 16).map SettingId.alMode) ++ [.shelveMax] ++
  ((List.finRange 16).flatMap fun e => [SettingId.engName e, .engUnits e]) ++
  ((List.finRange 64).map SettingId.cuKind) ++ ((List.finRange 42).map SettingId.duty) ++
  ([CallSet.tz, .t1, .t2, .repeat_, .attend].map SettingId.call) ++ ((List.finRange 8).map SettingId.co) ++
  ([DeadSet.en, .period, .warn].map SettingId.deadman)

/-- The settings after WATCH.NODES in the order of the index (11 R616). -/
def loadAfter : List SettingId :=
  ([Bus.canA, .canB].flatMap fun b =>
    ([CanSet.nom, .data, .nsp, .dsp, .brs, .listen, .busoff].map fun f => SettingId.can b f) ++
      (List.finRange 16).map fun k => SettingId.canFilter b k) ++
  ((List.finRange 8).flatMap fun n => [LxSet.src, .low, .high, .trim4, .trim20].map fun f => SettingId.lx n f) ++
  ([PanelSet.type, .frame, .vlcd, .vhv, .bchline, .bl].map SettingId.panel) ++
  ((List.finRange 8).flatMap fun k => (List.finRange 80).map fun m => SettingId.panelSeg k m) ++
  [.logCopy] ++ ([HpSet.echo, .crc, .attn].map SettingId.hp) ++
  ((List.finRange 16).flatMap fun n => (List.finRange 64).map fun l => SettingId.scriptLine n l) ++ [.secTimeout] ++
  ([ClockSet.xofreq, .src, .xoreturn, .panel, .sscDepth, .sscMin, .sscRate].map SettingId.clock) ++
  (allBanks.map SettingId.memPower) ++ [.memSysmarch] ++
  ([PowerSet.deepRate, .deepWake, .deepPeriod, .deepReturn].map SettingId.power)

/-- WATCH.NODES with the union of both masks, WATCH.NODE, WATCH.NODES (11 R616). -/
def loadWatch (live img : Settings) : List LoadWrite :=
  [(.watchNodes, showMask 2 (live.watchNodes ||| img.watchNodes).toNat), (.watchNode, showNat img.watchNode.val),
   (.watchNodes, showMask 2 img.watchNodes.toNat)]

/-- Every write of a LOAD in its order (11 R616). -/
def loadWrites (s : State) (img : Settings) : List LoadWrite :=
  let async := s.port.async
  ((channels s.ident.part).flatMap fun c => plainWrites async img (loadChannel s.live img c)) ++
    plainWrites async img loadBefore ++ loadWatch s.live img ++ plainWrites async img loadAfter

/-- The work of LOAD (11 R615–R617): an image holds no setting that stood in the partition when it was saved. -/
def bodyLoad (h : LineHdr) (s : State) : State × Option Reply :=
  if may s h .engineer = false then refused .e06 s
  else
    let img := imageCfg s
    runWrites (waiter h s) h.sameCycle (some false) ((loadWrites s img).filter fun x => !inPartition img x.1) [] s

/-- LOAD. -/
def execLoad (h : LineHdr) (s : State) : Out := finish (runLine h (txt "LOAD") (bodyLoad h) s)

/-- The defaults, where ENG0, ENG1 and UNIT of a SAFE channel follow the mode that it keeps (02 R136). -/
def defaultsFor (live : Settings) : Settings :=
  { ({} : Settings) with ch := live.ch.map fun c => if c.safe then { ({} : ChCfg) with set := modeDefaults c.mode } else {} }

/-- The work of LOAD DEFAULTS (11 R615–R617): settings now in the partition are no configuration settings. -/
def bodyLoadDefaults (h : LineHdr) (s : State) : State × Option Reply :=
  if may s h .engineer = false then refused .e06 s
  else
    let cfg := defaultsFor s.live
    runWrites (waiter h s) h.sameCycle (some true) ((loadWrites s cfg).filter fun x => !inPartition s.live x.1) [] s

/-- LOAD_DEFAULTS. -/
def execLoadDefaults (h : LineHdr) (s : State) : Out := finish (runLine h (txt "LOAD") (bodyLoadDefaults h) s)

/-! ## STOP -/

/-- The work of STOP (11 R626). -/
def bodyStop (h : LineHdr) (script : Option Script) (s : State) : State × Option Reply :=
  match script with
  | none => refused .e03 s
  | some n =>
    if may s h .engineer = false then refused .e06 s
    else match s.interp.script with
      | some run =>
        if run.script ≠ n then ok s
        else if isScript h.sess || run.waiting.isSome then
          ok { s with interp := { s.interp with script := some { run with stop := true } } }
        else ok (endScript run none 2 s)
      | none => ok s

/-- STOP. -/
def execStop (h : LineHdr) (script : Option Script) (s : State) : Out := finish (runLine h (txt "STOP") (bodyStop h script) s)

/-! ## The words of a script line -/

/-- A setting whose value may be empty: text. -/
def takesEmpty (s : State) (i : SettingId) : Bool :=
  match kindOf s.live i with
  | .text _ => true
  | .line => true
  | _ => false

/-- The name that a word of a line spells (11 R583, R584). -/
def wordName (s : State) (t : Text) : Option Name := (ownName s t).bind readName

/-- The target that a word of a line spells. -/
def wordTarget (s : State) (t : Text) : Option Target := (ownName s t).bind readTarget

/-- What a line does. -/
abbrev LineWork := State → State × Option Reply

/-- A line that breaks the form of its verb. -/
def badLine : LineWork := refused .e01

/-- SET and the words after it. -/
def setWords (h : LineHdr) (args : List Text) (s : State) : State × Option Reply :=
  match args with
  | [] => badLine s
  | n :: vs =>
    match wordName s n with
    | some (.setting i) => if vs = [] ∧ takesEmpty s i = false then badLine s else bodySet h (some (.setting i)) (unwords vs) s
    | x => bodySet h x (unwords vs) s

/-- LOG and the words after it (09 R519). -/
def logWords (h : LineHdr) (args : List Text) : LineWork :=
  match args with
  | [v] =>
    if upper v = txt "CLEAR" then bodyLogClear h else if upper v = txt "STATUS" then bodyLogStatus else badLine
  | [v, p] => if upper v = txt "READ" then bodyLogRead (pos p) none else badLine
  | [v, p, n] => if upper v = txt "READ" then bodyLogRead (pos p) (some n) else badLine
  | _ => badLine
where
  /-- A position of LOG READ. -/
  pos (p : Text) : LogPos := if upper p = txt "LAST" then .last else .at_ p

/-- An entry of a raw CAN queue in its one form (11 R583). -/
def readEntry (n : Nat) (t : Text) : Option (Fin n) := (List.finRange n).find? fun i => showPadded 2 i.val = t

/-- CAN and the words after it (06 R380–R389). -/
def canWords (h : LineHdr) (args : List Text) : LineWork :=
  match args.map upper with
  | [v, b, q] =>
    if v = txt "TAKE" ∧ q = txt "TX" then bodyTakeTx h (readBus b)
    else if v = txt "TAKE" ∧ q = txt "RX" then bodyTakeRx h (readBus b)
    else badLine
  | [v, b, q, n] =>
    if v = txt "SEND" then badLine
    else if v = txt "DONE" ∧ q = txt "TX" then bodyDoneTx h (readBus b) (readEntry 32 n)
    else if v = txt "DONE" ∧ q = txt "RX" then bodyDoneRx h (readBus b) (readEntry 64 n)
    else if v = txt "CANCEL" ∧ q = txt "TX" then bodyCancel h (readBus b) (readEntry 32 n)
    else if v = txt "STATUS" ∧ q = txt "TX" then bodyCanStatus (readBus b) (readEntry 32 n)
    else badLine
  | v :: b :: n :: r => if v = txt "SEND" then bodySend h (readBus b) (readEntry 32 n) r else badLine
  | _ => badLine

/-- A block or part name with the prefix of the own node dropped (11 R584). -/
def wordOf {α : Type} (read : Text → Option α) (s : State) (t : Text) : Option α := (ownName s t).bind read

/-- RESET and the words after it (15 R778, R786). -/
def resetWords (h : LineHdr) (args : List Text) : LineWork :=
  match args with
  | [v] =>
    if upper v = txt "CORE" then bodyReset h false else if upper v = txt "SYSTEM" then bodyReset h true else badLine
  | [v, b] => if upper v = txt "BLOCK" then fun s => bodyResetBlock h (wordOf readBlock s b) s else badLine
  | _ => badLine

/-- TEST and the words after it (14 R758, R759). -/
def testWords (h : LineHdr) (args : List Text) : LineWork :=
  match args.map upper with
  | [v, b, m] =>
    if v ≠ txt "MARCH" then badLine
    else if m = txt "DESTRUCTIVE" then bodyMarch h (readBank b) true
    else if m = txt "PRESERVING" then bodyMarch h (readBank b) false
    else badLine
  | _ => badLine

/-- MEASURE and the words after it (13 R724); the edges are those of clocks in order. -/
def measureWords (h : LineHdr) (args : List Text) : LineWork :=
  match args.map upper with
  | [v, a, g, b] => go v a g b none
  | [v, a, g, b, n] => go v a g b (some n)
  | _ => badLine
where
  /-- The work of a MEASURE line. -/
  go (v a g b : Text) (n : Option Text) : LineWork :=
    if v = txt "CLOCK" ∧ g = txt "AGAINST" then bodyMeasure h (readClk a) (readClk b) n 256 256 else badLine

/-- ACK and the words after it (04 R224, 05 R302). -/
def ackWords (h : LineHdr) (args : List Text) (s : State) : State × Option Reply :=
  match args with
  | [t] =>
    if upper t = txt "DEADMAN" then bodyAckDeadman h s
    else
      let p := splitNode (upper t)
      bodyAck h p.1 (readTarget p.2) s
  | _ => badLine s

/-- The verbs of single words or of one target. -/
def alarmWords (h : LineHdr) (verb : Text) (args : List Text) (s : State) : State × Option Reply :=
  match args with
  | [t] =>
    let x := wordTarget s t
    if verb = txt "SHELVE" then bodyShelve h x none s
    else if verb = txt "UNSHELVE" then bodyUnshelve h x s
    else if verb = txt "DISABLE" then bodyAble h false x s
    else bodyAble h true x s
  | [t, n] => if verb = txt "SHELVE" then bodyShelve h (wordTarget s t) (some n) s else badLine s
  | _ => badLine s

/-- The verbs that read. -/
def readWords (h : LineHdr) (verb : Text) (args : List Text) (s : State) : State × Option Reply :=
  if verb = txt "GET" then bodyGet (args.map (wordName s)) s
  else if verb = txt "STATUS" then (if args = [] then bodyStatus h s else badLine s)
  else if verb = txt "HELP" then
    (match args with
      | [] => bodyHelp none s
      | [v] => bodyHelp (some v) s
      | _ => badLine s)
  else if verb = txt "SHOW" then
    (match args with
      | [t] => bodyShow t none s
      | [t, f, k] => if upper f = txt "FROM" then bodyShow t (some k) s else badLine s
      | _ => badLine s)
  else
    (match args with
      | [] => bodyTime s
      | [w, t] => if upper w = txt "SET" then bodyTimeSet h t s else badLine s
      | _ => badLine s)

/-- The work of a script's line (11 R578–R587, R621, R624). -/
def scriptWords (h : LineHdr) (verb : Text) (args : List Text) (s : State) : State × Option Reply :=
  if verb = txt "SET" then setWords h args s
  else if [txt "GET", txt "SHOW", txt "STATUS", txt "HELP", txt "TIME"].contains verb then readWords h verb args s
  else if [txt "SHELVE", txt "UNSHELVE", txt "DISABLE", txt "ENABLE"].contains verb then alarmWords h verb args s
  else if verb = txt "ACK" then ackWords h args s
  else if verb = txt "CLEAR" then
    (match args with
      | [w, n] => if upper w = txt "STATUS" then bodyClear h ((ownName s n).bind readFlag) false s else badLine s
      | _ => badLine s)
  else if verb = txt "STOP" then
    (match args with
      | [n] => bodyStop h (wordOf readScript s n) s
      | _ => badLine s)
  else if verb = txt "RUN" then
    (match args with
      | [n] => refused (if (wordOf readScript s n).isSome then .e09 else .e03) s
      | _ => badLine s)
  else if verb = txt "SAVE" then (if args = [] then refused .e09 s else badLine s)
  else if verb = txt "LOAD" then
    (if args = [] ∨ args.map upper = [txt "DEFAULTS"] then refused .e09 s else badLine s)
  else if [txt "LOGIN", txt "PROVE", txt "LOGOUT"].contains verb then badLine s
  else if verb = txt "LOG" then logWords h args s
  else if verb = txt "CAN" then canWords h args s
  else if verb = txt "RESET" then resetWords h args s
  else if verb = txt "TEST" then testWords h args s
  else if verb = txt "MEASURE" then measureWords h args s
  else refused .e03 s

/-- The work of the text of a script's line. -/
def scriptWork (h : LineHdr) (line : Text) (s : State) : State × Option Reply :=
  if line.all printable = false ∨ 255 < line.length then badLine s
  else match tokens line with
    | [] => ok s
    | v :: args => scriptWords h (upper v) args s

/-! ## RUN -/

/-- The lines of a script in the image in force that are neither empty nor comments, with their numbers (11 R588, R618,
R620, R621). -/
def scriptLines (s : State) (n : Script) : List (Nat × Text) :=
  let ls := ((imageCfg s).scripts[n.val]).toList
  (((List.range 64).map (· + 1)).zip ls).filter fun p => !noLine p.2

/-- Begins a script (11 R621, R629); one without lines ends at once. -/
def beginScript (run : Running) (s : State) : State :=
  let s := { s with interp := { s.interp with script := some run } }
  let s := emitSess (.script run.script) 0x0406 0 [run.script.val] s
  if run.todo = [] then endScript run none 0 s else s

/-- The work of RUN (11 R620, R621, R626). -/
def bodyRun (h : LineHdr) (script : Option Script) (s : State) : State × Option Reply :=
  match script with
  | none => refused .e03 s
  | some n =>
    if may s h .engineer = false then refused .e06 s
    else if s.interp.script.isSome then refused .e08 s
    else held (beginScript { script := n, todo := scriptLines s n, role := roleOf s h.sess, by_ := waiter h s } s)

/-- RUN. -/
def execRun (h : LineHdr) (script : Option Script) (s : State) : Out := finish (runLine h (txt "RUN") (bodyRun h script) s)

/-- A script's line whose reply is held back: the script waits for it, where it still runs. -/
def awaitLine (n : Script) (no : Nat) (s : State) : State :=
  match s.interp.script with
  | some run =>
    if run.script = n then { s with interp := { s.interp with script := some { run with waiting := some no } } } else s
  | none => s

/-- Effect of SCRIPT_LINE (11 R621, R622): the next line at its own latch point. -/
def scriptLineStep (s : State) : State :=
  match s.interp.script with
  | none => s
  | some run =>
    if (s.interp.running && decide (s.power.mode ≠ .deep) && run.waiting.isNone) = false then s
    else match run.todo with
      | [] => s
      | (l, line) :: rest =>
        let no := s.interp.count + 1
        let h : LineHdr := { sess := .script run.script }
        let s := thawView { s with interp := { s.interp with
          script := some { run with todo := rest, last := l }, count := no } }
        match scriptWork h line s with
        | (s, some r) => scriptStatus r s
        | (s, none) => awaitLine run.script no s

/-- SCRIPT_LINE. -/
def execScriptLine (s : State) : Out := finish (scriptLineStep s)

/-- Effect of S00_RUN: step 12 (11 R627, 15 R792). -/
def s00Run (s : State) : State :=
  if s.rst.phase = .booting ∧ s.interp.script = none then
    let s := { s with interp := { s.interp with running := true } }
    let todo := scriptLines s 0
    if todo = [] then { s with rst := { s.rst with phase := .opening } }
    else beginScript
      { script := 0, todo := todo, role := .engineer, by_ := { sess := .script 0, no := 0, host := false }, boot := true } s
  else s

/-- S00_RUN. -/
def execS00Run (s : State) : Out := finish (s00Run s)

end Sys2Proof.Machine
end

