-- ==== Sys2Proof/Machine/Consoles.lean ====
section
/-! DEFINITION. Remote consoles: the frames that open, carry and end a session (06 R370–R378). A line reaches the
interpreter by the row of its verb once its last segment has come. -/

namespace Sys2Proof.Machine

/-- Whether this node takes a frame from a console: its class and length, this node as its end, and an interpreter that runs
(06 R329, R332, R372, R373). -/
def consoleHeard (f : ConsoleFrame) (s : State) : Bool :=
  busHears s f.bus && decide (f.cls = 3) && decide (16 + f.data.length ≤ f.len) &&
    decide (f.data.length ≤ 48) && decide (f.node = s.watch.node) && s.interp.running

/-- The MAC that a frame from a console must carry (06 R370, R371). -/
def frameMac (f : ConsoleFrame) (kind : Nat) (c : Console) : BitVec 64 :=
  let id := pyselId 3 0x50 f.node.val (consoleDetail false f.console kind f.segment.toNat)
  consoleMac c.key (consoleMacBytes id f.counter.toNat f.data.length f.last f.data)

/-- A frame with a wrong MAC: the fifth ends the session with ABORT (06 R377). -/
def wrongMac (f : ConsoleFrame) (c : Console) (s : State) : State :=
  let s := emitSess (.console f.console) 0x0521 0 [] s
  let s := onConsole f.console (fun c => { c with wrongMacs := c.wrongMacs + 1 }) s
  if c.wrongMacs + 1 < 5 then s
  else endSession (.console f.console) 4 (sendConsole f.console 3 0 true [] s)

/-- A session whose idle time is over has ended before a frame reaches it (12 R653). -/
def consoleTimeout (k : Fin 16) (s : State) : State :=
  match consoleOf s k with
  | some c =>
    if (c.answer.no = 0 || c.answer.reply.isSome) && decide (c.sess.idleSince + c.sess.timeout * usSec ≤ s.now) then
      endSession (.console k) 1 s
    else s
  | none => s

/-- Takes a frame of a console's session (06 R374, R377): `act` runs where its MAC is correct and its counter new. -/
def takeConsole (f : ConsoleFrame) (kind : Nat) (act : State → State) (s : State) : State :=
  match consoleOf s f.console with
  | none => s
  | some c =>
    if c.key.isSome && decide (frameMac f kind c ≠ f.mac) then wrongMac f c s
    else if f.counter.toNat ≤ c.rxCounter then s
    else act (onConsole f.console (fun c => { c with rxCounter := f.counter.toNat }) s)

/-- Effect of CONSOLE_OPEN (06 R374, R375, R377, 12 R651): OK, or E08 busy where two sessions are served. In a session, as the
copy of the other bus is, it opens nothing. -/
def consoleOpen (f : ConsoleFrame) (s : State) : State :=
  let s := noteReceived f.bus (consoleRaw f 1) s
  if consoleHeard f s = false then s
  else
    let s := consoleTimeout f.console s
    if (consoleOf s f.console).isSome then takeConsole f 1 (fun s => s) s
    else if f.counter ≠ 1 then s
    else if 2 ≤ s.interp.consoles.length then sendConsole f.console 1 0 true (textBytes (errText .e08)) s
    else
      let c : Console := { k := f.console, sess := { idleSince := s.now, timeout := s.live.secTimeout } }
      sendConsole f.console 1 0 true (textBytes (txt "OK"))
        { s with interp := { s.interp with consoles := s.interp.consoles ++ [c] } }

/-- CONSOLE_OPEN. -/
def execConsoleOpen (f : ConsoleFrame) (s : State) : Out := finish (consoleOpen f s)

/-- A segment of a line: segment 0 begins it, and the last one completes it (06 R372, R373, R378). -/
def takeSegment (f : ConsoleFrame) (s : State) : State :=
  onConsole f.console (fun c => { c with
    buf := if f.segment = 0 then f.data else c.buf ++ f.data, complete := f.last }) s

/-- Effect of CONSOLE_DATA (06 R373, R377, R378): without a session it is answered with ABORT. -/
def consoleData (f : ConsoleFrame) (s : State) : State :=
  let s := noteReceived f.bus (consoleRaw f 0) s
  if consoleHeard f s = false then s
  else
    let s := consoleTimeout f.console s
    if (consoleOf s f.console).isNone then sendConsole f.console 3 0 true [] s
    else takeConsole f 0 (takeSegment f) s

/-- CONSOLE_DATA. -/
def execConsoleData (f : ConsoleFrame) (s : State) : Out := finish (consoleData f s)

/-- Effect of CONSOLE_CLOSE and CONSOLE_ABORT (06 R378, 12 R652). -/
def consoleEnds (f : ConsoleFrame) (kind cause : Nat) (s : State) : State :=
  let s := noteReceived f.bus (consoleRaw f kind) s
  if consoleHeard f s = false then s else takeConsole f kind (endSession (.console f.console) cause) s

/-- CONSOLE_CLOSE. -/
def execConsoleClose (f : ConsoleFrame) (s : State) : Out := finish (consoleEnds f 2 3 s)

/-- CONSOLE_ABORT. -/
def execConsoleAbort (f : ConsoleFrame) (s : State) : Out := finish (consoleEnds f 3 4 s)

end Sys2Proof.Machine
end

