-- ==== Sys2Proof/Machine/Lamp.lean ====
section
/-! DEFINITION. Lamp proving's events: half-cycles, edges, bands, windows, clocks and the baseline (03). An event acts only on
a LAMP channel, in the lock state it belongs to, once its time has come (log 2). -/

namespace Sys2Proof.Machine

/-- Whether a channel is fitted, released and in LAMP mode. -/
def lampRuns (s : State) (c : Ch) : Bool :=
  chFitted s.ident.part c && diesReleased s.rst.phase && decide ((s.slice c).act.mode = .lamp)

/-- Whether a LAMP channel proves a flashing character. -/
def flashRuns (s : State) (c : Ch) : Bool := lampRuns s c && decide ((s.sliceCfg c).char ≠ .f)

/-! ## AC half-cycles -/

/-- The end of a half-cycle as far as the lamp value goes (03 R141, R142, R145): the codes formed by that time are its own,
later ones belong to the next half-cycle. -/
def endHalfValue (c : Ch) (ended : Tick) (s : State) : State :=
  let h := (s.slice c).lamp.half
  let us := (h.codes.filter fun x => decide (x.1 ≤ ended) && x.2.2).map fun x => x.2.1
  let s := onLamp c (fun l => { l with
    value := if us = [] then l.value else some (rmsOf ((us.map fun q => q * q).sum) us.length)
    half := { l.half with codes := l.half.codes.filter fun x => decide (ended < x.1), began := some ended } }) s
  lampUpdate c (decide (us ≠ [])) (ended - h.began.getD ended) ended s

/-- What the envelope of a half-cycle that ended at a time does to the TRIPLO comparator and its contribution
(03 R166–R168). -/
def envelope (c : Ch) (peak : Rat) (ended : Tick) (s : State) : State :=
  let x := s.slice c
  match x.trip.dacLo, x.trip.loHold with
  | some t, false =>
    let back := t + 2 * tripStep .lamp x.trip.span
    let inGate := x.gateOpenAt ended
    let low := inGate && decide (peak < t)
    wireStep c (fun x => contribute { x with
      trip := { x.trip with
        loQ := if low then true else if back ≤ peak then false else x.trip.loQ
        latched := x.trip.latched || low
        clear := x.trip.clear && (!inGate || decide (back ≤ peak)) }
      lamp := { x.lamp with onWin := x.lamp.onWin.map fun w =>
        if inGate then { w with halves := w.halves + 1 } else w } }) s
  | _, _ => s

/-- The measured half-period from the last 4 crossings, newest first (03 R143). -/
def measuredHalf : List Tick → Option Rat
  | a :: _ :: _ :: d :: _ => some (((a : Rat) - (d : Rat)) / 3)
  | _ => none

/-- Whether a half-period lies at a supply frequency of 16–400 Hz (03 R144). -/
def inAcRange (half : Rat) : Bool := decide (1250 ≤ half) && decide (half ≤ 31250)

/-- Tracks the supply frequency at a crossing (03 R143, R144). -/
def track (c : Ch) (at_ : Tick) (s : State) : State :=
  let cs := (at_ :: (s.slice c).lamp.half.crossings).take 4
  let m := measuredHalf cs
  let s := onLamp c (fun l => { l with half := { l.half with
    crossings := cs
    halfUs := match m with
      | some h => if inAcRange h then some h else l.half.halfUs
      | none => l.half.halfUs } }) s
  match m with
  | some h => onChFlag c 11 (Flag.drive (!inAcRange h)) (onSlice c (fun x => { x with acrangeCause := !inAcRange h }) s)
  | none => s

/-- Effect of ZERO_CROSSING (03 R141–R145, R166). -/
def zeroCrossing (c : Ch) (at_ : Tick) (peak : Rat) (s : State) : State :=
  if lampRuns s c && (s.slice c).ac && decide (at_ ≤ s.now) && decide ((s.slice c).lamp.half.began.getD 0 ≤ at_) then
    envelope c peak at_ (endHalfValue c at_ (track c at_ s))
  else s

/-- ZERO_CROSSING. -/
def execZeroCrossing (c : Ch) (at_ : Tick) (peak : Rat) (s : State) : Out := finish (zeroCrossing c at_ peak s)

/-- Effect of HALF_CYCLE_TIMEOUT (03 R142): the half-cycle ends one tracked half-period after the previous end; `peak` is
that of the half-cycle so ended. -/
def halfCycleTimeout (c : Ch) (peak : Rat) (s : State) : State :=
  let x := s.slice c
  match x.lamp.half.began with
  | some t =>
    if lampRuns s c && x.ac && decide ((t : Rat) + x.lamp.trackedHalf * 5 / 4 ≤ (s.now : Rat)) then
      let ended := t + (roundAway x.lamp.trackedHalf).toNat
      envelope c peak ended (endHalfValue c ended s)
    else s
  | none => s

/-- HALF_CYCLE_TIMEOUT. -/
def execHalfCycleTimeout (c : Ch) (peak : Rat) (s : State) : Out := finish (halfCycleTimeout c peak s)

/-! ## Edges and bands -/

/-- Changes the lamp proving of a channel and brings its contribution and its CHAR condition in line (03 R164, R180). -/
def relock (c : Ch) (f : Lamp → Lamp) (s : State) : State :=
  let was := (s.slice c).lamp.lock
  let s := wireStep c (fun x => contribute { x with lamp := f x.lamp }) s
  if was ≠ .locked ∧ (s.slice c).lamp.lock = .locked then setRaw c .char false s else s

/-- Effect of ON_EDGE (03 R151, R154–R158, R904). -/
def onEdge (c : Ch) (at_ : Tick) (s : State) : State :=
  let x := s.slice c
  if lampRuns s c && x.lamp.fresh && x.lamp.crossed x.ac true at_ then
    relock c (lampOnEdge (s.sliceCfg c) at_ s.now) s
  else s

/-- ON_EDGE. -/
def execOnEdge (c : Ch) (at_ : Tick) (s : State) : Out := finish (onEdge c at_ s)

/-- Effect of OFF_EDGE (03 R151, R154, R158): it starts the dark time and does not change the lock. -/
def offEdge (c : Ch) (at_ : Tick) (s : State) : State :=
  let x := s.slice c
  if lampRuns s c && x.lamp.fresh && x.lamp.crossed x.ac false at_ then
    onLamp c (fun l => { l with darkSince := some at_, side := { l.side with judged := true } }) s
  else s

/-- OFF_EDGE. -/
def execOffEdge (c : Ch) (at_ : Tick) (s : State) : Out := finish (offEdge c at_ s)

/-- The lamp proving after the end of an on-band (03 R155, R158; log 166). -/
def lampBandEnd (cfg : ChCfg) (l : Lamp) : Lamp :=
  match l.lock with
  | .confirm =>
    match l.flash.edge with
    | some _ => { l with flash := { l.flash with
        idx := nextFlash cfg.char l.flash.idx
        due := l.flash.due + onLen cfg.char l.flash.idx + offLen cfg.char l.flash.idx
        edge := none, toConfirm := l.flash.toConfirm - 1 } }
    | none => { l with lock := .seek, timing := timingOf cfg }
  | .locked =>
    if l.flash.opened then advance cfg l else { l with flash := { l.flash with bandOver := true } }
  | _ => l

/-- Effect of ON_BAND_END (03 R151, R155, R158, R904): a rise that crossed inside the band is judged as an edge first. -/
def onBandEnd (c : Ch) (s : State) : State :=
  let l := (s.slice c).lamp
  let cfg := s.sliceCfg c
  let ends := l.flash.due + onBand cfg.char l.timing.edgetol l.flash.idx
  if flashRuns s c && decide (ends ≤ s.now) && !l.risePending ends then
    relock c (lampBandEnd cfg) s
  else s

/-- ON_BAND_END. -/
def execOnBandEnd (c : Ch) (s : State) : Out := finish (onBandEnd c s)

/-! ## Windows -/

/-- Effect of EXPECTED_ON_WINDOW_OPEN (03 R159, R161, R164, R165; log 165): `quantity` is the terminal quantity at the opening.
-/
def expectedOnWindowOpen (c : Ch) (quantity : Rat) (s : State) : State :=
  let x := s.slice c
  let cfg := s.sliceCfg c
  let f := x.lamp.flash
  let o := openTime cfg x
  if flashRuns s c && decide (x.lamp.lock = .locked) && !f.opened && decide (o ≤ s.now) then
    let w : OnWindow := {
      opens := o
      closes := f.anchor + onLen cfg.char f.idx - offBand cfg.char x.lamp.timing.edgetol f.idx
      darkOrDim := darkOrDim s c }
    let clear := match x.trip.dacLo with
      | some t => x.ac || (!x.trip.loQ && decide (t + 2 * tripStep .lamp x.trip.span ≤ quantity))
      | none => true
    wireStep c (fun x =>
      let x := contribute { x with
        lamp := { x.lamp with onWin := some w, gateAt := o, flash := { x.lamp.flash with opened := true } }
        trip := { x.trip with clear := clear } }
      if x.lamp.flash.bandOver then { x with lamp := advance cfg x.lamp } else x) s
  else s

/-- EXPECTED_ON_WINDOW_OPEN. -/
def execExpectedOnWindowOpen (c : Ch) (quantity : Rat) (s : State) : Out := finish (expectedOnWindowOpen c quantity s)

/-- Effect of EXPECTED_ON_WINDOW_CLOSE (03 R159, R167, R172, R180, R905). -/
def expectedOnWindowClose (c : Ch) (s : State) : State :=
  match (s.slice c).lamp.onWin with
  | none => s
  | some w =>
    if flashRuns s c && decide (w.closes ≤ s.now) then
      let cfg := s.sliceCfg c
      let w := { w with darkOrDim := w.darkOrDim || darkOrDim s c }
      let s := if 0 < w.usable ∧ w.darkHeld = true then setRaw c .dark false s else s
      let s := if 0 < w.usable ∧ w.dimHeld = true then setRaw c .dim false s else s
      wireStep c (fun x => { x with
        lamp := { x.lamp with
          onWin := none, gateAt := w.closes, base := learnFrom cfg w (w.closes - w.opens) x.lamp.base }
        trip := { x.trip with latched := x.trip.latched && !(x.trip.clear && (!x.ac || decide (0 < w.halves))) } }) s
    else s

/-- EXPECTED_ON_WINDOW_CLOSE. -/
def execExpectedOnWindowClose (c : Ch) (s : State) : Out := finish (expectedOnWindowClose c s)

/-- Effect of EXPECTED_OFF_WINDOW_OPEN (03 R160). -/
def expectedOffWindowOpen (c : Ch) (s : State) : State :=
  let l := (s.slice c).lamp
  match l.offDue with
  | none => s
  | some (a, b) =>
    if flashRuns s c && decide (l.lock = .locked) && decide (a ≤ s.now) then
      onLamp c (fun l => { l with offDue := none, offWin := some { opens := a, closes := b } }) s
    else s

/-- EXPECTED_OFF_WINDOW_OPEN. -/
def execExpectedOffWindowOpen (c : Ch) (s : State) : Out := finish (expectedOffWindowOpen c s)

/-- Effect of EXPECTED_OFF_WINDOW_CLOSE (03 R160, R180, R905). -/
def expectedOffWindowClose (c : Ch) (s : State) : State :=
  match (s.slice c).lamp.offWin with
  | none => s
  | some w =>
    if flashRuns s c && decide (w.closes ≤ s.now) then
      let s := if 0 < w.usable ∧ w.low = true then setRaw c .stuck false s else s
      onLamp c (fun l => { l with offWin := none }) s
    else s

/-- EXPECTED_OFF_WINDOW_CLOSE. -/
def execExpectedOffWindowClose (c : Ch) (s : State) : Out := finish (expectedOffWindowClose c s)

/-- Effect of STUCK_ONLATE_EXPIRY (03 R180). -/
def stuckOnlateExpiry (c : Ch) (s : State) : State :=
  match (s.slice c).lamp.offWin with
  | some w => match w.litSince with
    | some t =>
      let l := (s.slice c).lamp
      if flashRuns s c && l.fresh && decide (t + stuckOnlate (s.slice c) < l.clock) then setRaw c .stuck true s else s
    | none => s
  | none => s

/-- STUCK_ONLATE_EXPIRY. -/
def execStuckOnlateExpiry (c : Ch) (s : State) : Out := finish (stuckOnlateExpiry c s)

/-- Effect of TWO_PERIOD_EXPIRY (03 R145, R180, R183, R184): each clock that has run out, in the lamp's own time. -/
def twoPeriodExpiry (c : Ch) (s : State) : State :=
  let l := (s.slice c).lamp
  let p := 2 * periodLen (s.sliceCfg c).char
  let ran : Tick → Bool := fun t => decide (t + p ≤ l.clock)
  if flashRuns s c && l.fresh && (decide (l.lock = .seek) || decide (l.lock = .confirm)) then
    let s := if l.unlockedSince.any (fun t => decide (t + p < l.clock)) then setRaw c .char true s else s
    let s := if ran l.edgeSince then setRaw c .dark true s else s
    if l.litSince.any ran then setRaw c .stuck true s else s
  else s

/-- TWO_PERIOD_EXPIRY. -/
def execTwoPeriodExpiry (c : Ch) (s : State) : Out := finish (twoPeriodExpiry c s)

/-- Effect of BASELINE_UPDATE (03 R172–R176): character F learns once a second. -/
def baselineUpdate (c : Ch) (s : State) : State :=
  let w := (s.slice c).lamp.second
  let cfg := s.sliceCfg c
  if lampRuns s c && decide (cfg.char = .f) && decide (w.opens + usSec ≤ s.now) then
    let w' := { w with darkOrDim := w.darkOrDim || darkOrDim s c }
    onLamp c (fun l => { l with
      base := learnFrom cfg w' usSec l.base, second := { opens := w.opens + usSec, darkOrDim := darkOrDim s c } }) s
  else s

/-- BASELINE_UPDATE. -/
def execBaselineUpdate (c : Ch) (s : State) : Out := finish (baselineUpdate c s)

end Sys2Proof.Machine
end

