-- ==== Sys2Proof/Machine/Dispatch.lean ====
section
/-! DEFINITION. What each command does: one arm per constructor. -/

namespace Sys2Proof.Machine

/-- The effect of a command on everything but the queue. -/
def exec (i : Instr) (s : State) : Host.Outcome State Fault Refusal :=
  match i with
  | .get h names => Sys2Proof.Machine.execGet h names s
  | .set h name value => Sys2Proof.Machine.execSet h name value s
  | .show h target from_ => Sys2Proof.Machine.execShow h target from_ s
  | .save h => Sys2Proof.Machine.execSave h s
  | .saveComplete verified => Sys2Proof.Machine.execSaveComplete verified s
  | .load h => Sys2Proof.Machine.execLoad h s
  | .loadDefaults h => Sys2Proof.Machine.execLoadDefaults h s
  | .run h script => Sys2Proof.Machine.execRun h script s
  | .scriptLine => Sys2Proof.Machine.execScriptLine s
  | .stop h script => Sys2Proof.Machine.execStop h script s
  | .time h => Sys2Proof.Machine.execTime h s
  | .timeSet h value => Sys2Proof.Machine.execTimeSet h value s
  | .status h => Sys2Proof.Machine.execStatus h s
  | .help h verb => Sys2Proof.Machine.execHelp h verb s
  | .ack h node target m => Sys2Proof.Machine.execAck h node target m s
  | .shelve h target minutes => Sys2Proof.Machine.execShelve h target minutes s
  | .unshelve h target => Sys2Proof.Machine.execUnshelve h target s
  | .disable h target => Sys2Proof.Machine.execDisable h target s
  | .enable h target => Sys2Proof.Machine.execEnable h target s
  | .clearStatus h flag setNow => Sys2Proof.Machine.execClearStatus h flag setNow s
  | .ackDeadman h => Sys2Proof.Machine.execAckDeadman h s
  | .login h role => Sys2Proof.Machine.execLogin h role s
  | .prove h groups => Sys2Proof.Machine.execProve h groups s
  | .logout h => Sys2Proof.Machine.execLogout h s
  | .logRead h pos count => Sys2Proof.Machine.execLogRead h pos count s
  | .logClear h => Sys2Proof.Machine.execLogClear h s
  | .logStatus h => Sys2Proof.Machine.execLogStatus h s
  | .canTakeTx h bus => Sys2Proof.Machine.execCanTakeTx h bus s
  | .canTakeRx h bus => Sys2Proof.Machine.execCanTakeRx h bus s
  | .canSend h bus entry args => Sys2Proof.Machine.execCanSend h bus entry args s
  | .canDoneTx h bus entry => Sys2Proof.Machine.execCanDoneTx h bus entry s
  | .canDoneRx h bus entry => Sys2Proof.Machine.execCanDoneRx h bus entry s
  | .canCancel h bus entry => Sys2Proof.Machine.execCanCancel h bus entry s
  | .canStatus h bus entry => Sys2Proof.Machine.execCanStatus h bus entry s
  | .resetCore h => Sys2Proof.Machine.execResetCore h s
  | .resetSystem h => Sys2Proof.Machine.execResetSystem h s
  | .resetBlock h block => Sys2Proof.Machine.execResetBlock h block s
  | .testMarchDestructive h bank => Sys2Proof.Machine.execTestMarchDestructive h bank s
  | .testMarchPreserving h bank => Sys2Proof.Machine.execTestMarchPreserving h bank s
  | .marchTestComplete fail => Sys2Proof.Machine.execMarchTestComplete fail s
  | .zeroingComplete bank => Sys2Proof.Machine.execZeroingComplete bank s
  | .measureClock h a b n aEdges bEdges => Sys2Proof.Machine.execMeasureClock h a b n aEdges bEdges s
  | .measurementGateClose count => Sys2Proof.Machine.execMeasurementGateClose count s
  | .modeWrite h c value => Sys2Proof.Machine.execModeWrite h c value s
  | .rangeWrite h c value => Sys2Proof.Machine.execRangeWrite h c value s
  | .rateWrite h c value => Sys2Proof.Machine.execRateWrite h c value s
  | .tripThresholdWrite h c which value => Sys2Proof.Machine.execTripThresholdWrite h c which value s
  | .dacSettleEnd c quantity => Sys2Proof.Machine.execDacSettleEnd c quantity s
  | .charWrite h c value => Sys2Proof.Machine.execCharWrite h c value s
  | .lampTimingWrite h c which value => Sys2Proof.Machine.execLampTimingWrite h c which value s
  | .learnWrite h c value => Sys2Proof.Machine.execLearnWrite h c value s
  | .basesetWrite h c value => Sys2Proof.Machine.execBasesetWrite h c value s
  | .grpWrite h c value => Sys2Proof.Machine.execGrpWrite h c value s
  | .inhibWrite h g value => Sys2Proof.Machine.execInhibWrite h g value s
  | .firstoutWrite h g value => Sys2Proof.Machine.execFirstoutWrite h g value s
  | .classWrite h g value => Sys2Proof.Machine.execClassWrite h g value s
  | .deadmanEnWrite h value => Sys2Proof.Machine.execDeadmanEnWrite h value s
  | .canBitTimingWrite h bus which value => Sys2Proof.Machine.execCanBitTimingWrite h bus which value s
  | .canListenWrite h bus value => Sys2Proof.Machine.execCanListenWrite h bus value s
  | .canRecover h bus value => Sys2Proof.Machine.execCanRecover h bus value s
  | .panelTypeWrite h value => Sys2Proof.Machine.execPanelTypeWrite h value s
  | .panelDriveWrite h which value => Sys2Proof.Machine.execPanelDriveWrite h which value s
  | .panelTest h value => Sys2Proof.Machine.execPanelTest h value s
  | .panelTestExpiry => Sys2Proof.Machine.execPanelTestExpiry s
  | .clockSrcXo h edges => Sys2Proof.Machine.execClockSrcXo h edges s
  | .clockSrcIrc h => Sys2Proof.Machine.execClockSrcIrc h s
  | .clockPanelWrite h value => Sys2Proof.Machine.execClockPanelWrite h value s
  | .pllLock => Sys2Proof.Machine.execPllLock s
  | .switchHang dom => Sys2Proof.Machine.execSwitchHang dom s
  | .safeWrite h c value => Sys2Proof.Machine.execSafeWrite h c value s
  | .partitionWrite h name value => Sys2Proof.Machine.execPartitionWrite h name value s
  | .partitionProgramComplete verified => Sys2Proof.Machine.execPartitionProgramComplete verified s
  | .keyWrite h key groups => Sys2Proof.Machine.execKeyWrite h key groups s
  | .secDebugLocked h => Sys2Proof.Machine.execSecDebugLocked h s
  | .secDebugOpen h => Sys2Proof.Machine.execSecDebugOpen h s
  | .powerModeRun h => Sys2Proof.Machine.execPowerModeRun h s
  | .powerModeSleep h => Sys2Proof.Machine.execPowerModeSleep h s
  | .powerModeDeep h => Sys2Proof.Machine.execPowerModeDeep h s
  | .wake source => Sys2Proof.Machine.execWake source s
  | .deepTimerWake => Sys2Proof.Machine.execDeepTimerWake s
  | .wakeXoReady edges => Sys2Proof.Machine.execWakeXoReady edges s
  | .deepReturn => Sys2Proof.Machine.execDeepReturn s
  | .conversionEnd c r => Sys2Proof.Machine.execConversionEnd c r s
  | .openTestRepeat c => Sys2Proof.Machine.execOpenTestRepeat c s
  | .steepDelayExpiry c k => Sys2Proof.Machine.execSteepDelayExpiry c k s
  | .unsteepDelayExpiry c k => Sys2Proof.Machine.execUnsteepDelayExpiry c k s
  | .limiterClamp c mA => Sys2Proof.Machine.execLimiterClamp c mA s
  | .foldBack c stillClamping => Sys2Proof.Machine.execFoldBack c stillClamping s
  | .miswRetry c => Sys2Proof.Machine.execMiswRetry c s
  | .miswRetryCheck c mA => Sys2Proof.Machine.execMiswRetryCheck c mA s
  | .rssSelection c l => Sys2Proof.Machine.execRssSelection c l s
  | .headroomLow c l => Sys2Proof.Machine.execHeadroomLow c l s
  | .rssStartStep c l => Sys2Proof.Machine.execRssStartStep c l s
  | .thermalFoldBack c tj => Sys2Proof.Machine.execThermalFoldBack c tj s
  | .thermalRecovery c tj => Sys2Proof.Machine.execThermalRecovery c tj s
  | .comparatorActivation c side quantity ns => Sys2Proof.Machine.execComparatorActivation c side quantity ns s
  | .comparatorRelease c side quantity => Sys2Proof.Machine.execComparatorRelease c side quantity s
  | .zeroCrossing c at_ peak => Sys2Proof.Machine.execZeroCrossing c at_ peak s
  | .halfCycleTimeout c peak => Sys2Proof.Machine.execHalfCycleTimeout c peak s
  | .onEdge c at_ => Sys2Proof.Machine.execOnEdge c at_ s
  | .offEdge c at_ => Sys2Proof.Machine.execOffEdge c at_ s
  | .onBandEnd c => Sys2Proof.Machine.execOnBandEnd c s
  | .expectedOnWindowOpen c quantity => Sys2Proof.Machine.execExpectedOnWindowOpen c quantity s
  | .expectedOnWindowClose c => Sys2Proof.Machine.execExpectedOnWindowClose c s
  | .expectedOffWindowOpen c => Sys2Proof.Machine.execExpectedOffWindowOpen c s
  | .expectedOffWindowClose c => Sys2Proof.Machine.execExpectedOffWindowClose c s
  | .stuckOnlateExpiry c => Sys2Proof.Machine.execStuckOnlateExpiry c s
  | .twoPeriodExpiry c => Sys2Proof.Machine.execTwoPeriodExpiry c s
  | .baselineUpdate c => Sys2Proof.Machine.execBaselineUpdate c s
  | .dieLinkFrame k crcOk m => Sys2Proof.Machine.execDieLinkFrame k crcOk m s
  | .dieLinkFault k => Sys2Proof.Machine.execDieLinkFault k s
  | .dieLinkRestored k => Sys2Proof.Machine.execDieLinkRestored k s
  | .ackBitWrite k crcOk => Sys2Proof.Machine.execAckBitWrite k crcOk s
  | .groupDelayExpiry c k m => Sys2Proof.Machine.execGroupDelayExpiry c k m s
  | .shelvingExpiry c k m => Sys2Proof.Machine.execShelvingExpiry c k m s
  | .g31EventExpiry m => Sys2Proof.Machine.execG31EventExpiry m s
  | .lineHoldExpiry => Sys2Proof.Machine.execLineHoldExpiry s
  | .engineRebuild sameCycle => Sys2Proof.Machine.execEngineRebuild sameCycle s
  | .stageTimerExpiry n g m => Sys2Proof.Machine.execStageTimerExpiry n g m s
  | .repeatTimerExpiry n g m => Sys2Proof.Machine.execRepeatTimerExpiry n g m s
  | .attendTimerExpiry n g m => Sys2Proof.Machine.execAttendTimerExpiry n g m s
  | .deadManWarning => Sys2Proof.Machine.execDeadManWarning s
  | .deadManMissed => Sys2Proof.Machine.execDeadManMissed s
  | .unitStatus f => Sys2Proof.Machine.execUnitStatus f s
  | .accept f m => Sys2Proof.Machine.execAccept f m s
  | .acknowledgeKey f => Sys2Proof.Machine.execAcknowledgeKey f s
  | .deadManConfirm f => Sys2Proof.Machine.execDeadManConfirm f s
  | .deadManStart f => Sys2Proof.Machine.execDeadManStart f s
  | .deadManStop f => Sys2Proof.Machine.execDeadManStop f s
  | .unitPresenceTimeout u => Sys2Proof.Machine.execUnitPresenceTimeout u s
  | .unitCounterStore => Sys2Proof.Machine.execUnitCounterStore s
  | .heartbeat => Sys2Proof.Machine.execHeartbeat s
  | .heartbeatReceived r b => Sys2Proof.Machine.execHeartbeatReceived r b s
  | .nodeSilence n => Sys2Proof.Machine.execNodeSilence n s
  | .readyTimeout => Sys2Proof.Machine.execReadyTimeout s
  | .leadEvaluation => Sys2Proof.Machine.execLeadEvaluation s
  | .callFrame r b => Sys2Proof.Machine.execCallFrame r b s
  | .callRefresh => Sys2Proof.Machine.execCallRefresh s
  | .alarmState r b => Sys2Proof.Machine.execAlarmState r b s
  | .ackFrame r b => Sys2Proof.Machine.execAckFrame r b s
  | .timeFrameSend => Sys2Proof.Machine.execTimeFrameSend s
  | .timeFrame r b => Sys2Proof.Machine.execTimeFrame r b s
  | .logcopy r b => Sys2Proof.Machine.execLogcopy r b s
  | .consoleOpen f => Sys2Proof.Machine.execConsoleOpen f s
  | .consoleData f => Sys2Proof.Machine.execConsoleData f s
  | .consoleClose f => Sys2Proof.Machine.execConsoleClose f s
  | .consoleAbort f => Sys2Proof.Machine.execConsoleAbort f s
  | .rawFrameReceived bus ok f => Sys2Proof.Machine.execRawFrameReceived bus ok f s
  | .frameTransmitted bus => Sys2Proof.Machine.execFrameTransmitted bus s
  | .transmitFailure bus lostArbitration => Sys2Proof.Machine.execTransmitFailure bus lostArbitration s
  | .busOff bus => Sys2Proof.Machine.execBusOff bus s
  | .busOffRecovery bus => Sys2Proof.Machine.execBusOffRecovery bus s
  | .rejoin bus => Sys2Proof.Machine.execRejoin bus s
  | .setpointFrame n => Sys2Proof.Machine.execSetpointFrame n s
  | .setpointArrival n checkOk => Sys2Proof.Machine.execSetpointArrival n checkOk s
  | .setpointProcessed n => Sys2Proof.Machine.execSetpointProcessed n s
  | .statusFrame n checkOk termv => Sys2Proof.Machine.execStatusFrame n checkOk termv s
  | .islandLost n => Sys2Proof.Machine.execIslandLost n s
  | .islandPowerUp n => Sys2Proof.Machine.execIslandPowerUp n s
  | .islandThermalFoldBack n tj => Sys2Proof.Machine.execIslandThermalFoldBack n tj s
  | .islandThermalRecovery n tj => Sys2Proof.Machine.execIslandThermalRecovery n tj s
  | .railStart => Sys2Proof.Machine.execRailStart s
  | .vlcdReady => Sys2Proof.Machine.execVlcdReady s
  | .vhvReady tenths => Sys2Proof.Machine.execVhvReady tenths s
  | .railTimeout => Sys2Proof.Machine.execRailTimeout s
  | .railRetry => Sys2Proof.Machine.execRailRetry s
  | .frameBoundary => Sys2Proof.Machine.execFrameBoundary s
  | .bchLineWriteEnd tenths => Sys2Proof.Machine.execBchLineWriteEnd tenths s
  | .dischargeStepEnd => Sys2Proof.Machine.execDischargeStepEnd s
  | .eventStaged => Sys2Proof.Machine.execEventStaged s
  | .recordProgrammed verified => Sys2Proof.Machine.execRecordProgrammed verified s
  | .eraseComplete verified => Sys2Proof.Machine.execEraseComplete verified s
  | .eraseSuspend => Sys2Proof.Machine.execEraseSuspend s
  | .eraseResume => Sys2Proof.Machine.execEraseResume s
  | .logOpen => Sys2Proof.Machine.execLogOpen s
  | .refusedCounterAppend => Sys2Proof.Machine.execRefusedCounterAppend s
  | .transactionStart => Sys2Proof.Machine.execTransactionStart s
  | .transactionEnd => Sys2Proof.Machine.execTransactionEnd s
  | .characterReceived b framingError => Sys2Proof.Machine.execCharacterReceived b framingError s
  | .baudMeasurement spanNs => Sys2Proof.Machine.execBaudMeasurement spanNs s
  | .breakReceived us => Sys2Proof.Machine.execBreakReceived us s
  | .partialLineTimeout => Sys2Proof.Machine.execPartialLineTimeout s
  | .sessionTimeout who => Sys2Proof.Machine.execSessionTimeout who s
  | .nonceExpiry who => Sys2Proof.Machine.execNonceExpiry who s
  | .lockOutExpiry role => Sys2Proof.Machine.execLockOutExpiry role s
  | .keySwitchAsserted => Sys2Proof.Machine.execKeySwitchAsserted s
  | .keySwitchReleased => Sys2Proof.Machine.execKeySwitchReleased s
  | .keySwitchFault level => Sys2Proof.Machine.execKeySwitchFault level s
  | .partitionCheckPass found => Sys2Proof.Machine.execPartitionCheckPass found s
  | .xoMonitorWindow count lockLost => Sys2Proof.Machine.execXoMonitorWindow count lockLost s
  | .xoReturn => Sys2Proof.Machine.execXoReturn s
  | .lpoMonitorWindow count => Sys2Proof.Machine.execLpoMonitorWindow count s
  | .sscComplaint => Sys2Proof.Machine.execSscComplaint s
  | .sscRaise => Sys2Proof.Machine.execSscRaise s
  | .configParityError => Sys2Proof.Machine.execConfigParityError s
  | .eccEngineError word raw => Sys2Proof.Machine.execEccEngineError word raw s
  | .powerOn mV async => Sys2Proof.Machine.execPowerOn mV async s
  | .powerLoss mV => Sys2Proof.Machine.execPowerLoss mV s
  | .railFault us => Sys2Proof.Machine.execRailFault us s
  | .resetN us taken => Sys2Proof.Machine.execResetN us taken s
  | .engineWatchdogExpiry => Sys2Proof.Machine.execEngineWatchdogExpiry s
  | .interpreterWatchdogExpiry cycles => Sys2Proof.Machine.execInterpreterWatchdogExpiry cycles s
  | .startupTestComplete results => Sys2Proof.Machine.execStartupTestComplete results s
  | .marchFailureRestart => Sys2Proof.Machine.execMarchFailureRestart s
  | .clockSrcApply xoEdges => Sys2Proof.Machine.execClockSrcApply xoEdges s
  | .s00Run => Sys2Proof.Machine.execS00Run s
  | .portOpen => Sys2Proof.Machine.execPortOpen s
  | .pwrwarn mV => Sys2Proof.Machine.execPwrwarn mV s
  | .pwrwarnEnd mV => Sys2Proof.Machine.execPwrwarnEnd mV s
  | .startOfFrame bus => Sys2Proof.Machine.execStartOfFrame bus s
  | .eccSingleBitError bank word raw => Sys2Proof.Machine.execEccSingleBitError bank word raw s
  | .eccDoubleBitError bank word raw => Sys2Proof.Machine.execEccDoubleBitError bank word raw s
  | .keyWriteComplete verified => Sys2Proof.Machine.execKeyWriteComplete verified s
  | .resetNRelease => Sys2Proof.Machine.execResetNRelease s
  | .unknownVerb h verb => Sys2Proof.Machine.execUnknownVerb h verb s

end Sys2Proof.Machine
end

