-- ==== Sys2Proof/Machine/Ticks.lean ====
section
/-! DEFINITION. One 1 µs tick with nothing commanded (log 1). -/

namespace Sys2Proof.Machine

/-- One slew step of node time: 1 µs in each ms at most, which is 1,000 ppm (06 R363). -/
def slewStep (s : State) : State :=
  if s.watch.slew = 0 ∨ s.now % 1000 ≠ 0 ∨ s.power.mode = .deep then s
  else
    let d : Int := if 0 < s.watch.slew then 1 else -1
    let left := s.watch.slew - d
    let s := stepTime d s
    { s with watch := { s.watch with slew := left } }

/-- The µs that node time counts in the first `d` µs of DEEP: 30.517578125 µs for every cycle of the LPO (13 R695; log 170). -/
def lpoMicros (d : Nat) : Nat := d * 32768 / usSec * 30517578125 / 1000000000

/-- Node time counts the tick, in DEEP the cycles of the LPO since the entry (13 R694, R695). -/
def countTime (s : State) : State :=
  let d := s.now - s.power.deepAt
  let step := if s.power.mode = .deep then lpoMicros (d + 1) - lpoMicros d else 1
  { s with now := s.now + 1, nodeTime := (s.nodeTime + step) % 2 ^ 64 }

/-- What one tick does: the counts of time go on (13 R694, R695), node time slews (06 R363), the end of a reply frees
WATCH.VIEW (06 R391), and a switch of the PANEL domain comes to its end (13 R702). After a SYSTEM
or POWER reset the start-up begins with the next tick (15 R792). -/
def tickEffect (s : State) : State :=
  ensureStarted (panelMoved (thawView (slewStep (countTime s))))

end Sys2Proof.Machine
end

