-- ==== Sys2Proof/WellFormed.lean ====
section
/-! DEFINITION. Which commands a sender can form: the forms that the rules give to lines, frames and events. exec answers for every
term; these checks say which terms stand for something that can arrive. -/

namespace Sys2Proof

/-- A tag is 1 to 5 decimal digits (11 R580). -/
def wfTag (t : Text) : Bool :=
  decide (1 ≤ t.length) && decide (t.length ≤ 5) && t.all fun c => (Machine.digitVal c).isSome

/-- A line comes from the host port or a console, a script's lines by SCRIPT_LINE (11 R621); its tag has its form. -/
def wfHdr (h : LineHdr) : Bool :=
  (match h.sess with
    | .script _ => false
    | _ => true) && (match h.tag with
    | some t => wfTag t
    | none => true)

/-- The text of a value: part of a line of 255 printable characters at most (11 R578). -/
def wfText (t : Text) : Bool := decide (t.length ≤ 255) && t.all Machine.printable

/-- Data counts of a CAN frame (06 R383). -/
def wfCount (fd : Bool) (n : Nat) : Bool := decide (n ≤ 8) || (fd && [12, 16, 20, 24, 32, 48, 64].contains n)

/-- A raw frame as a bus can carry it (06 R383): identifier, data count, and no remote request in FD. -/
def wfRaw (f : RawFrame) : Bool :=
  decide (f.id < if f.ext then 536870912 else 2048) && wfCount f.fd f.data.length && !(f.rtr && f.fd) && ((!f.brs && !f.esi) || f.fd)

/-- A Pysel frame's class and data length (06 R329). -/
def wfRx (r : RxHdr) : Bool := decide (r.cls < 8) && wfCount true r.len

/-- A console frame: 16 bytes and its data (06 R373). -/
def wfConsole (f : ConsoleFrame) : Bool :=
  decide (f.cls < 8) && decide (f.data.length ≤ 48) && decide (16 + f.data.length ≤ f.len) && wfCount true f.len

/-- A loop meets a supply that powers the node (15 R776). -/
def wfLoad (l : LoopLoad) : Bool := decide (5200 ≤ l.vsupMv)

/-- The words of the banks, in the order of 14 R738. -/
def wfWord (b : Bank) (w : Nat) : Bool := decide (w < match b with
  | .engine => 32768
  | .interp => 16384
  | .link => 16384
  | .stage => 8192
  | .image => 2048)

/-- Whether a command can be formed. -/
def Instr.wf : Instr → Bool
  | .get h ns => wfHdr h && decide (1 ≤ ns.length) && decide (ns.length ≤ 8)
  | .set h _ v | .timeSet h v | .deadmanEnWrite h v | .clockPanelWrite h v | .panelTypeWrite h v | .panelTest h v
  | .unknownVerb h v | .partitionWrite h _ v | .modeWrite h _ v | .rangeWrite h _ v | .rateWrite h _ v
  | .tripThresholdWrite h _ _ v | .charWrite h _ v | .lampTimingWrite h _ _ v | .learnWrite h _ v | .basesetWrite h _ v
  | .grpWrite h _ v | .inhibWrite h _ v | .firstoutWrite h _ v | .classWrite h _ v | .canBitTimingWrite h _ _ v
  | .canListenWrite h _ v | .canRecover h _ v | .panelDriveWrite h _ v | .safeWrite h _ v => wfHdr h && wfText v
  | .show h t k => wfHdr h && wfText t && (match k with
      | some x => wfText x
      | none => true)
  | .save h | .load h | .loadDefaults h | .run h _ | .stop h _ | .time h | .status h | .help h _ | .ack h _ _ _ | .shelve h _ _
  | .unshelve h _ | .disable h _ | .enable h _ | .clearStatus h _ _ | .ackDeadman h | .login h _ | .prove h _ | .logout h
  | .logRead h _ _ | .logClear h | .logStatus h | .canTakeTx h _ | .canTakeRx h _ | .canSend h _ _ _ | .canDoneTx h _ _
  | .canDoneRx h _ _ | .canCancel h _ _ | .canStatus h _ _ | .resetCore h | .resetSystem h | .resetBlock h _
  | .testMarchDestructive h _ | .testMarchPreserving h _ | .measureClock h _ _ _ _ _ | .clockSrcXo h _ | .clockSrcIrc h
  | .keyWrite h _ _ | .secDebugLocked h | .secDebugOpen h | .powerModeRun h | .powerModeSleep h | .powerModeDeep h => wfHdr h
  | .rawFrameReceived _ _ f => wfRaw f
  | .heartbeatReceived r _ | .callFrame r _ | .alarmState r _ | .ackFrame r _ | .timeFrame r _ | .logcopy r _ => wfRx r
  | .consoleOpen f | .consoleData f | .consoleClose f | .consoleAbort f => wfConsole f
  | .unitStatus f | .accept f _ | .acknowledgeKey f | .deadManConfirm f | .deadManStart f | .deadManStop f =>
    decide (f.cls < 8) && wfCount true f.len
  | .eccSingleBitError b w _ | .eccDoubleBitError b w _ => wfWord b w
  | .eccEngineError w _ => wfWord .engine w
  | .rssSelection _ l | .headroomLow _ l | .rssStartStep _ l => wfLoad l
  | .saveComplete _ | .scriptLine | .marchTestComplete _ | .zeroingComplete _ | .measurementGateClose _
  | .dacSettleEnd _ _ | .panelTestExpiry | .pllLock | .switchHang _ | .partitionProgramComplete _ | .wake _
  | .deepTimerWake | .wakeXoReady _ | .deepReturn | .conversionEnd _ _ | .openTestRepeat _ | .steepDelayExpiry _ _
  | .unsteepDelayExpiry _ _ | .limiterClamp _ _ | .foldBack _ _ | .miswRetry _ | .miswRetryCheck _ _
  | .thermalFoldBack _ _ | .thermalRecovery _ _ | .comparatorActivation _ _ _ _
  | .comparatorRelease _ _ _ | .zeroCrossing _ _ _ | .halfCycleTimeout _ _ | .onEdge _ _ | .offEdge _ _ | .onBandEnd _
  | .expectedOnWindowOpen _ _ | .expectedOnWindowClose _ | .expectedOffWindowOpen _ | .expectedOffWindowClose _
  | .stuckOnlateExpiry _ | .twoPeriodExpiry _ | .baselineUpdate _ | .dieLinkFrame _ _ _ | .dieLinkFault _ | .dieLinkRestored _
  | .ackBitWrite _ _ | .groupDelayExpiry _ _ _ | .shelvingExpiry _ _ _ | .g31EventExpiry _ | .lineHoldExpiry | .engineRebuild _
  | .stageTimerExpiry _ _ _ | .repeatTimerExpiry _ _ _ | .attendTimerExpiry _ _ _ | .deadManWarning | .deadManMissed
  | .unitPresenceTimeout _ | .unitCounterStore | .heartbeat | .nodeSilence _ | .readyTimeout | .leadEvaluation | .callRefresh
  | .timeFrameSend | .frameTransmitted _ | .transmitFailure _ _ | .busOff _ | .busOffRecovery _ | .rejoin _ | .setpointFrame _
  | .setpointArrival _ _ | .setpointProcessed _ | .statusFrame _ _ _ | .islandLost _ | .islandPowerUp _
  | .islandThermalFoldBack _ _ | .islandThermalRecovery _ _ | .railStart | .vlcdReady | .vhvReady _ | .railTimeout | .railRetry
  | .frameBoundary | .bchLineWriteEnd _ | .dischargeStepEnd | .eventStaged | .recordProgrammed _ | .eraseComplete _
  | .eraseSuspend | .eraseResume | .logOpen | .refusedCounterAppend | .transactionStart | .transactionEnd
  | .characterReceived _ _ | .baudMeasurement _ | .breakReceived _ | .partialLineTimeout | .sessionTimeout _ | .nonceExpiry _
  | .lockOutExpiry _ | .keySwitchAsserted | .keySwitchReleased | .keySwitchFault _ | .partitionCheckPass _
  | .xoMonitorWindow _ _ | .xoReturn | .lpoMonitorWindow _ | .sscComplaint | .sscRaise | .configParityError | .powerOn _ _
  | .powerLoss _ | .railFault _ | .resetN _ _ | .engineWatchdogExpiry | .interpreterWatchdogExpiry _ | .startupTestComplete _
  | .marchFailureRestart | .clockSrcApply _ | .s00Run | .portOpen | .pwrwarn _ | .pwrwarnEnd _ | .startOfFrame _
  | .keyWriteComplete _ | .resetNRelease => true

end Sys2Proof
end

