-- ==== Sys2Proof/Safety.lean ====
section
/-! DEFINITION. The words in which statements speak of a run: a command that completes, a line that a session takes, the
reply that stands at it, and what a reply or an event leaves as it was. -/

namespace Sys2Proof.Machine

/-- The command is answered with a next state, of which `P` holds. -/
def Next (i : Instr) (s : State) (P : State → Prop) : Prop := ∃ t, exec i s = .next t ∧ P t

/-- The block takes one step to a state of which `P` holds. -/
def Steps (s : State) (P : State → Prop) : Prop := ∃ t, step s = .next t ∧ P t

/-- The pads stand as the state asks (log 3): what every step leaves. -/
def PadsFollow (s : State) : Prop := s.pads = padsOf s

/-! ## Lines -/

/-- `t` is what stands after a command whose own effect leaves `u`: `u` with the CANRX cause, the pads and the cycle brought
up (log 3). -/
def Settled (u t : State) : Prop := t = settle u

/-- The state at a line's latch point: a timeout that had come has ended the session (12 R653), and a reply's hold on
WATCH.VIEW is over (06 R391). -/
def latchPoint (h : LineHdr) (s : State) : State := thawView (timeoutFirst h.sess s)

/-- The state in which a line's work begins: the line is the session's present one (10 R577). -/
def lineStart (h : LineHdr) (verb : Text) (s : State) : State := takeLine h verb (latchPoint h s)

/-- The line's session takes a line now (10 R537, R545, R553, R569), and nothing is refused of it before its words are looked
at (11 R601). -/
def Accepted (h : LineHdr) (verb : Text) (s : State) : Prop :=
  lineHeard s h.sess = true ∧ lineCheck h verb (latchPoint h s) = none

/-- What stands at a session as the reply to its present line. -/
def answerAt (s : State) : Sess → Option Answer
  | .host => some s.port.answer
  | .console k => (consoleOf s k).map fun c => c.answer
  | .script _ => none

/-- How many characters end a line of a session: CR LF at an asynchronous port, LF else (10 R544, R551, 06 R373). -/
def lineEnd (s : State) : Sess → Nat
  | .host => if s.port.async then 2 else 1
  | _ => 1

/-- The reply to a line taken in `s` stands in `t`: its status and data lines as far as they fit (11 R594–R597). -/
def Replied (h : LineHdr) (verb : Text) (r : Reply) (s t : State) : Prop :=
  answerAt t h.sess = some
    { verb := verb, tag := h.tag, reply := some (fitReply (lineEnd s h.sess) h.tag r), no := s.interp.count + 1 }

/-- No reply stands yet to a line taken in `s`: it is held back (10 R543). -/
def Held (h : LineHdr) (verb : Text) (s t : State) : Prop :=
  answerAt t h.sess = some { verb := verb, tag := h.tag, reply := none, no := s.interp.count + 1 }

/-- What the frames of a console's reply leave of a console's session (06 R370–R374). -/
def SameConsole (a b : Console) : Prop :=
  b = { a with
    answer := b.answer, key := b.key, newKey := b.newKey, txCounter := b.txCounter
    sess := { a.sess with idleSince := b.sess.idleSince, timeout := b.sess.timeout } }

/-- What frames sent leave of a controller: all but its watch queue and the count of frames dropped there (06 R341). -/
def QueueOnly (a b : Can) : Prop := b = { a with queue := b.queue, wdrop := b.wdrop }

/-- What the reply to a line and the end of its command leave: `t` is `u` but for the session's answer and idle time, the byte
that goes out at the port (10 R538), the settings that a reply's end brings into force (10 R561, R574), the frames in which a console's reply goes out, the CANRX
flag, the pads and the cycle. -/
structure ReplyOnly (who : Sess) (u t : State) : Prop where
  rest : t = { u with
    port := t.port, interp := { u.interp with consoles := t.interp.consoles }
    watch := { u.watch with seq := t.watch.seq }, can := t.can, pads := t.pads, cycle := u.cycle + 1 }
  port : t.port = { u.port with
    answer := t.port.answer, out := t.port.out, sess := t.port.sess
    crcRequired := u.live.hp.crcRequired, attn := u.live.hp.attn
    events := upd u.port.events 5 (Flag.drive (rawWaiting u)) }
  host : who = .host → t.port.sess = { u.port.sess with idleSince := u.now, timeout := u.live.secTimeout } ∧
    t.interp.consoles = u.interp.consoles ∧ t.watch.seq = u.watch.seq ∧ t.can = u.can ∧
    t.port.out = if u.port.async then 0 else 0x04
  console : ∀ k, who = .console k → t.port.answer = u.port.answer ∧ t.port.sess = u.port.sess ∧ t.port.out = u.port.out
  others : ∀ j, who ≠ .console j → consoleOf t j = consoleOf u j
  own : ∀ j c, consoleOf u j = some c → ∃ d, consoleOf t j = some d ∧ SameConsole c d
  queues : ∀ b, QueueOnly (u.canOf b) (t.canOf b)
  pads : PadsFollow t

/-- A line whose work leaves `u` and answers `r`: the next state has the reply and is else `u`. -/
def LineDone (i : Instr) (h : LineHdr) (verb : Text) (r : Reply) (s u : State) : Prop :=
  Next i s fun t => Replied h verb r s t ∧ ReplyOnly h.sess u t

/-- A line whose work leaves a state with `P` and answers `r`: the next state has the reply and is else that state. -/
def LineLeaves (i : Instr) (h : LineHdr) (verb : Text) (r : Reply) (s : State) (P : State → Prop) : Prop :=
  Next i s fun t => Replied h verb r s t ∧ ∃ w, ReplyOnly h.sess w t ∧ P w

/-- A line whose work leaves `u` and whose reply is held back. -/
def LineHeld (i : Instr) (h : LineHdr) (verb : Text) (s u : State) : Prop :=
  Next i s fun t => Held h verb s t ∧ Settled u t

/-- A line that is refused with `e` and changes nothing but its reply (11 R601). -/
def LineRefused (i : Instr) (h : LineHdr) (verb : Text) (e : Err) (s : State) : Prop :=
  LineDone i h verb { err := some e } s (lineStart h verb s)

/-- A line waits for its reply at its session (10 R543). -/
def Awaits (s : State) (w : Waiter) : Prop :=
  w.no ≠ 0 ∧ ∃ a, answerAt s w.sess = some a ∧ a.no = w.no ∧ a.reply = none

/-- The reply of a line that waited in `s` stands in `t`. -/
def AnswerCame (w : Waiter) (r : Reply) (s t : State) : Prop :=
  answerAt t w.sess = (answerAt s w.sess).map fun a => { a with reply := some (fitReply (lineEnd s w.sess) a.tag r) }

/-- What a reply to a line that has waited leaves: sessions, a script that waited, the frames of a console's reply and the
records of a script's end are touched, nothing else. -/
structure DeliverStep (u t : State) : Prop where
  rest : t = { u with
    interp := { t.interp with
      running := u.interp.running, flash := u.interp.flash, march := u.interp.march, measure := u.interp.measure
      clock := u.interp.clock, panelClock := u.interp.panelClock, count := u.interp.count }
    port := { t.port with
      async := u.port.async, opened := u.port.opened, baud := u.port.baud, events := u.port.events, last := u.port.last }
    watch := { u.watch with seq := t.watch.seq }, can := t.can, log := { u.log with incoming := t.log.incoming }
    rst := { u.rst with phase := t.rst.phase } }
  queues : ∀ b, QueueOnly (u.canOf b) (t.canOf b)

/-! ## What an event leaves -/

/-- The event is done: its next state is `u`, settled. -/
def Does (i : Instr) (s u : State) : Prop := Next i s (Settled u)

/-- `t` is `u` with events handed to the logbook writer. -/
def LogOnly (u t : State) : Prop := t = { u with log := { u.log with incoming := t.log.incoming } }

/-- The event leaves `u`, beside records handed to the logbook writer. -/
def DoesLogged (i : Instr) (s u : State) : Prop := Next i s fun t => ∃ w, LogOnly u w ∧ Settled w t

/-- The event is done: its next state is a settled state of which `P` holds. -/
def DoesSo (i : Instr) (s : State) (P : State → Prop) : Prop := Next i s fun t => ∃ w, Settled w t ∧ P w

/-- What an event of one channel slice leaves (02, 03): it moves that slice alone, and a trip wire that changes sends TRIP
frames (06 R332). -/
structure SliceStep (c : Ch) (u t : State) : Prop where
  rest : t = { u with slices := t.slices, watch := { u.watch with seq := t.watch.seq }, can := t.can }
  others : ∀ d : Ch, d ≠ c → t.slice d = u.slice d
  queues : ∀ b, QueueOnly (u.canOf b) (t.canOf b)

/-- What a step of the alarm engine, with the calls that follow it, leaves (04, 05, 19): it moves alarms, G31 members, group
states, marks and calls, queues acknowledge-bit writes, records and frames, and sets event flags of the port; every
setting, slice, store, session and clock stays. -/
structure EngineStep (u t : State) : Prop where
  rest : t = { u with
    engine := { u.engine with
      alarms := t.engine.alarms, g31 := t.engine.g31, gstate := t.engine.gstate, gchanged := t.engine.gchanged
      first := t.engine.first }
    dies := t.dies, caller := { u.caller with calls := t.caller.calls }
    log := { u.log with incoming := t.log.incoming }, watch := { u.watch with seq := t.watch.seq }, can := t.can
    port := { u.port with events := t.port.events } }
  links : ∀ k : Die, (t.dies[k.val]).valid = (u.dies[k.val]).valid
  queues : ∀ b, QueueOnly (u.canOf b) (t.canOf b)

/-- What a write of a setting leaves, whatever the setting (the "Takes effect" columns): it acts on the live settings, the
store's record of the write, the slices, the engine with the calls and the dead-man timer, the links' controllers, the
loop outputs, the panel, the clock settings and the echo; sessions, keys, images, the partition, memory, power, resets,
time and the logbook's own state stay. -/
structure WriteStep (u t : State) : Prop where
  rest : t = { u with
    live := t.live, store := t.store, slices := t.slices, dies := t.dies
    engine := { u.engine with
      alarms := t.engine.alarms, g31 := t.engine.g31, gstate := t.engine.gstate, gchanged := t.engine.gchanged
      first := t.engine.first }
    caller := { u.caller with calls := t.caller.calls, dead := t.caller.dead }
    log := { u.log with incoming := t.log.incoming }, watch := { u.watch with seq := t.watch.seq }, can := t.can
    lx := t.lx, panel := t.panel, clk := t.clk
    port := { u.port with events := t.port.events, echoOn := t.port.echoOn }
    flags := { u.flags with setColl := t.flags.setColl } }

/-! ## Resets -/

/-- The node has been reset at a level (15 R773, R780, R791): RSTCAUSE and the latest reset stand, its start-up waits for the
end of the reset, and of what was in hand nothing is left; the images, the keys, the logbook's flash and the partition stay
but for flash work that the reset cut short (11 R613, 12 R657, R666). -/
structure Restarted (level : ResetLevel) (src : ResetSource) (cause : BitVec 16) (s t : State) : Prop where
  phase : t.rst.phase = .held
  level : t.rst.level = level ∧ t.rst.lastLevel = level ∧ t.rst.lastSource = src ∧ t.rst.cause = cause
  engine : t.engine.running = false ∧ t.engine.hold = none ∧ t.engine.alarms = .replicate 128 (.replicate 9 {})
  calls : t.caller.calls = .replicate 8 (.replicate 32 {}) ∧ t.caller.dead = {}
  port : t.port.opened = false ∧ t.port.sess.role = .observer ∧ t.interp.running = false ∧ t.interp.consoles = [] ∧
    t.interp.script = none
  links : t.watch.joined = false ∧ t.can = .replicate 2 {}
  log : t.log.stage = [] ∧ t.log.opened = false ∧ t.log.sectors = s.log.sectors ∧ t.log.seq = s.log.seq
  kept : s.interp.flash = none → s.part.writes = [] → t.images = s.images ∧ t.keys.role = s.keys.role ∧ t.keys.unit = s.keys.unit ∧ t.part.slot0 = s.part.slot0 ∧
    t.part.slot1 = s.part.slot1
  mode : t.power.mode = .run

/-- A CORE reset has cleared the engine, the caller and the interpreter (01 R24, R25; 15 R773, R774): the lines hold what they
showed, every session has ended, and the slices, the settings, the links and the log stay. -/
structure CoreCleared (src : ResetSource) (s t : State) : Prop where
  cause : t.rst.cause = s.rst.cause ||| causeMask src ∧ t.rst.lastLevel = .core ∧ t.rst.lastSource = src ∧
    t.rst.phase = s.rst.phase
  engine : t.engine.running = false ∧ t.engine.alarms = .replicate 128 (.replicate 9 {}) ∧ t.engine.coreAt = some s.now
  hold : t.engine.hold = some { al := Vector.ofFn (alLevel s), co := Vector.ofFn (coLevel s) }
  calls : t.caller.calls = if inWatch s then s.caller.calls else .replicate 8 (.replicate 32 {})
  port : t.port.opened = false ∧ t.port.sess.role = .observer ∧ t.interp.running = false ∧ t.interp.script = none
  banks : (t.bank .engine).st = .clearing ∧ (t.bank .interp).st = .clearing
  kept : t.live = s.live ∧ t.slices = s.slices ∧ t.nodeTime = s.nodeTime ∧ t.watch.joined = s.watch.joined ∧
    t.log.sectors = s.log.sectors ∧ t.images = s.images ∧ t.keys.role = s.keys.role

/-! ## Writing a setting -/

/-- The state in which the work of a SET begins. -/
def setStart (h : LineHdr) (s : State) : State := lineStart h (txt "SET") s

/-- What the store notes and logs of a write before it acts (11 R629, 16 R811): `v` is `u` with the store's record, SETCOLL and
events for the logbook. -/
def WriteNoted (u v : State) : Prop :=
  v = { u with store := v.store, flags := { u.flags with setColl := v.flags.setColl }
               log := { u.log with incoming := v.log.incoming } }

/-- The command is a SET that writes a setting at once (11 R603): its value stands in the live settings, the store holds it as
its last write (16 R811), the reply is OK; the setting acts as its column says (`applySetting`), and beside that only records
are made. -/
def WritesNow (cmd : Instr) (h : LineHdr) (i : SettingId) (value : Text) (s : State) : Prop :=
  ∀ x, Accepted h (txt "SET") s → checkWrite h.sess i value (setStart h s) = .ok x →
    inPartition (pendingCfg (setStart h s)) i = false →
    Next cmd s fun t => Replied h (txt "SET") {} s t ∧ ∃ w, ReplyOnly h.sess w t ∧ WriteStep (setStart h s) w ∧
      w.live = putCfg i x (setStart h s).live ∧
      w.store.lastWrite = some (i, sessSource (setStart h s) h.sess, (setStart h s).cycle) ∧
      ∃ v, WriteNoted (setStart h s) v ∧ LogOnly (applySetting h.sess i x v) w

/-- The command is a SET of a setting of the safety partition (12 R665): it waits at the end of the sequencer's queue for its
image, its reply is held back, and neither the live settings nor anything beside the store's record is changed. -/
def WaitsForImage (cmd : Instr) (h : LineHdr) (i : SettingId) (value : Text) (s : State) : Prop :=
  ∀ x, Accepted h (txt "SET") s → checkWrite h.sess i value (setStart h s) = .ok x →
    inPartition (pendingCfg (setStart h s)) i = true →
    Next cmd s fun t => Held h (txt "SET") s t ∧ ∃ (p : PartWrite) (st : Store) (f : Flag),
      p.id = i ∧ p.value = unwords (tokens value) ∧ p.by_ = waiter h (setStart h s) ∧ p.line = {} ∧
      Settled { setStart h s with
        part := { (setStart h s).part with writes := (setStart h s).part.writes ++ [p] }
        store := st, flags := { (setStart h s).flags with setColl := f } } t ∧
      st.lastWrite = some (i, sessSource (setStart h s) h.sess, (setStart h s).cycle)

/-- The command is a SET that the checks refuse (11 R601): nothing is changed but its reply. -/
def RefusesWrite (cmd : Instr) (h : LineHdr) (i : SettingId) (value : Text) (s : State) : Prop :=
  ∀ e, Accepted h (txt "SET") s → checkWrite h.sess i value (setStart h s) = .error e → LineRefused cmd h (txt "SET") e s

/-- The command is a SET of one setting, in each of the three ways in which it can end. -/
def SetsSetting (cmd : Instr) (h : LineHdr) (i : SettingId) (value : Text) (s : State) : Prop :=
  WritesNow cmd h i value s ∧ WaitsForImage cmd h i value s ∧ RefusesWrite cmd h i value s

/-! ## What alarm verbs and CLEAR STATUS make of things -/

/-- What ACK makes of an alarm (04 R215, R224, R225): an occurrence that began before the latch point is acknowledged. -/
def ackedState (cycle : Nat) (a : Alarm) : AlarmState :=
  match a.st with
  | .activeUnack => if a.entered < cycle then .activeAck else .activeUnack
  | .returnUnack => if a.entered < cycle then (if a.steep then .steeping else .normal) else .returnUnack
  | st => st

/-- What ACK makes of a G31 member (04 R224, R225). -/
def ackedMember (cycle : Nat) (a : G31Alarm) : AlarmState :=
  match a.st with
  | .activeUnack => if a.entered < cycle then .activeAck else .activeUnack
  | .returnUnack => if a.entered < cycle then .normal else .returnUnack
  | st => st

/-- What an alarm that is unshelved comes to (04 R216). -/
def unshelvedState (s : State) (c : Ch) (k : Cond) : AlarmState :=
  if inhibitedBy s c k then .inhibited
  else if (s.alarm c k).on then .activeUnack
  else if (s.alarm c k).steep then .steeping
  else .normal

/-- A cleared flag (02 R120, R121). -/
def clearedFlag (stays : Bool) (f : Flag) : Flag :=
  { live := f.live, latched := stays, again := if stays then min 255 (f.again + 1) else 0 }

end Sys2Proof.Machine
end

