-- ==== Sys2Proof/Certificates/Slice0/Obligations.lean ====
section
/-! DEFINITION. The statements for the provers. Each says in its docstring which rules of the spec it formalises; what rests on a
choice of the model names its log entry. -/

open Sys2Proof Sys2Proof.Machine

/-! ## The step, reset and the whole machine -/

/-- STEP SERVES THE FRONT. With a command at the front of its queue the block's step is that command's effect on the state
with the queue's rest. -/
def Obligations.StepServesTheFront : Prop :=
  ∀ (c : Instr) (rest : List Instr) (s : State),
    step { s with pending := c :: rest } = exec c { s with pending := rest }

/-- NO COMMAND STOPS THE BLOCK (derived: the manual stops it in no way): every state has a next one, whatever command is in
front of its queue. -/
def Obligations.EveryStepGoesOn : Prop :=
  ∀ s : State, Steps s fun t => PadsFollow t

/-- AN IDLE STEP IS ONE TICK (the model's choice, log 1): on an empty queue 1 µs passes on the counts of time, and the
settings, the safety partition, the keys, the slices, the engine, the caller, the log and the stores stay, where no switch of
the PANEL domain is under way and no reset has just ended. Out of DEEP node time counts the µs where no slew is under way
(13 R694). -/
def Obligations.IdleStepIsOneTick : Prop :=
  ∀ s : State, s.pending = [] → s.interp.panelClock = none → (s.rst.phase ≠ .held ∨ s.pins.resetLow = true) → Steps s fun t =>
    t.pending = [] ∧ t.now = s.now + 1 ∧ t.live = s.live ∧ t.part = s.part ∧ t.keys = s.keys ∧ t.slices = s.slices ∧
    t.engine = s.engine ∧ t.caller = s.caller ∧ t.log = s.log ∧ t.images = s.images ∧ t.rst = s.rst ∧ t.can = s.can ∧
    t.lx = s.lx ∧ t.panel = s.panel ∧
    (s.watch.slew = 0 → s.power.mode ≠ .deep → t.nodeTime = (s.nodeTime + 1) % 2 ^ 64)

/-- RESET LEAVES (15 R773, R780, R791, R794; 10 R571; 06 R328): the start-up test of a POWER reset runs; PWRWARN stands with
its latched bit; no flag of any channel is set and its terminals stand as OFF mode has them (02 R42); every alarm is NORMAL; the links and the port are not yet open; every
call is IDLE; nothing is staged in the logbook; node time is 0 and not set; RSTCAUSE shows POR alone.

THE PADS FOLLOW THE STATE AT RESET (01 R24): every alarm line and call output is de-energised, each transceiver is
in standby and recessive, and the panel is grounded. -/
def Obligations.ResetLeavesStartUp : Prop :=
  (State.reset.rst.phase = .marching ∧ State.reset.rst.level = .power ∧ State.reset.rst.cause = 1 ∧
    State.reset.flags.pwrWarn = { live := true, latched := true } ∧ State.reset.flags.setColl = {} ∧
    State.reset.slices = .replicate 128 { front := { inp := .highZ } } ∧ State.reset.engine.alarms = .replicate 128 (.replicate 9 {}) ∧
    State.reset.engine.running = false ∧ State.reset.watch.joined = false ∧ State.reset.port.opened = false ∧
    State.reset.interp.running = false ∧ State.reset.caller.calls = .replicate 8 (.replicate 32 {}) ∧
    State.reset.log.stage = [] ∧ State.reset.nodeTime = 0 ∧ State.reset.watch.timeSet = false ∧ State.reset.pending = []) ∧
  (PadsFollow State.reset ∧
    State.reset.pads.al = .replicate 16 false ∧ State.reset.pads.co = .replicate 8 false ∧
    State.reset.pads.stbHigh = .replicate 2 true ∧ State.reset.pads.canRecessive = .replicate 2 true ∧
    State.reset.pads.panelGrounded = true)

/-- THE OUTPUT PINS NEVER LAG (10 R566, R571, R572; 06 R328, R394; 08 R451, R452, R463): after any step the CANRX cause is true
exactly while a raw receive queue holds a frame that the host does not own; ATTN is low exactly while the port is open and a
flag that its mask enables is latched; a controller that is not taking part on its bus leaves it recessive; a panel without
its rails, or whose rails have failed, is grounded; and BL_EN carries the duty of PANEL.BL while the light is on, and is low
else.

A CALL OUTPUT AND A CALL LINE FAIL TO SAFETY (05 R297, R298, R299; 04 R253): after any step with the engine running and
no held levels, an alarm line in CALL mode is de-energised exactly while some call stands at stage 3, and a call output
exactly while its source is active.

AN ANNUN LINE SHOWS ITS GROUPS (04 R253, R239): after any step with the engine running and no held levels, an alarm line
in ANNUN mode is energised exactly while no group routed to it is active. -/
def Obligations.OutputPinsNeverLag : Prop :=
  (∀ s t : State, step s = .next t →
      (t.port.events[5]).live = rawWaiting t ∧
      t.pads.attnLow = (t.port.opened && decide (flagBits t.port.events.toList &&& t.port.attn.toNat ≠ 0)) ∧
      (∀ b : Bus, (t.canOf b).mode ≠ .active → (t.canOf b).mode ≠ .passive → t.pads.canRecessive[(busIdx b).val] = true) ∧
      (∀ at_ : Tick, t.panel.phase = .off ∨ t.panel.phase = .waiting ∨ t.panel.phase = .fault at_ → t.pads.panelGrounded = true) ∧
      (t.panel.backlight = true → t.pads.blDuty = t.live.panel.bl) ∧ (t.panel.backlight = false → t.pads.blDuty = 0)) ∧
  (∀ (s t : State) (n : Fin 16) (k : Fin 8), step s = .next t → t.engine.hold = none → t.engine.running = true →
      (t.live.al[n.val] = .call → t.pads.al[n.val] = !stage3On t) ∧
      t.pads.co[k.val] = !coSrcActive t t.live.co[k.val]) ∧
  (∀ (s t : State) (n : Fin 16), step s = .next t → t.engine.hold = none → t.engine.running = true →
      t.live.al[n.val] = .annun →
      (t.pads.al[n.val] = true ↔ ∀ g : Grp, (t.grpCfg g).line.getLsbD n.val = true →
        t.engine.gstate[g.val] ≠ .activeUnack ∧ t.engine.gstate[g.val] ≠ .activeAck))

/-- A FAST LINE NEEDS NO SOFTWARE (04 R253; 01 R24): after any step, an alarm line in FAST mode to which an active trip wire
of a channel of the part is routed is de-energised, however the node stands. -/
def Obligations.FastLineTrips : Prop :=
  ∀ (s t : State) (n : Fin 16) (c : Ch), step s = .next t → t.live.al[n.val] = .fast →
    chFitted t.ident.part c = true → (t.chCfg c).fast.getLsbD n.val = true → (t.slice c).wire = true →
    t.pads.al[n.val] = false

/-! ## Lines that read -/

/-- THE LINE CHECK COMES FIRST (11 R578, R590, R592, R601; 10 R552): a line that its session takes but that has a corrupt
character, carries a check that is not the CRC-8 of its characters, or comes without one where the port requires it, is
answered E02; one that passes but whose form is broken, that has more than 255 characters or one that is not printable is
answered E01; nothing is changed but its reply. Shown of SET, of a SET to the partition, of ACK, RESET SYSTEM, RESET CORE and
LOG CLEAR. -/
def Obligations.BadLinesChangeNothing : Prop :=
  ∀ (h : LineHdr) (s : State) (e : Err), lineHeard s h.sess = true →
    ((e = .e02 ∧ (h.corrupt = true ∨ (∃ x : Byte, h.check = some x ∧ crc8 h.text ≠ x) ∨
        (h.check = none ∧ h.sess = .host ∧ (latchPoint h s).port.crcRequired = true))) ∨
      (e = .e01 ∧ h.corrupt = false ∧
        (h.check = some (crc8 h.text) ∨ (h.check = none ∧ (h.sess ≠ .host ∨ (latchPoint h s).port.crcRequired = false))) ∧
        (h.badForm = true ∨ 255 < lineLength h ∨ ∃ x ∈ h.text, printable x = false))) →
    (∀ name v, LineRefused (.set h name v) h (txt "SET") e s) ∧ (∀ name v, LineRefused (.partitionWrite h name v) h (txt "SET") e s) ∧
    (∀ node x, LineRefused (.ack h node x {}) h (txt "ACK") e s) ∧ LineRefused (.resetSystem h) h (txt "RESET") e s ∧
    LineRefused (.resetCore h) h (txt "RESET") e s ∧ LineRefused (.logClear h) h (txt "LOG") e s

/-- THE LINES THAT READ ANSWER, AND LEAVE THE REST (11 R602, R604–R607; 09 R519–R522; 06 R380; 11 R631). Any role may send them.
GET of 1 to 8 known names of the part shows each name's line in order; SHOW shows the names under a target from position
k; TIME, STATUS, HELP, LOG STATUS, LOG READ and CAN STATUS answer what they are asked; a verb that does not exist is
answered E03. Beside the reply, only a view shown by GET or SHOW stands still until the reply has gone (06 R391). -/
def Obligations.ReadingLinesAnswer : Prop :=
  ∀ (h : LineHdr) (s : State),
    (∀ ns : List Name, Accepted h (txt "GET") s → 1 ≤ ns.length → ns.length ≤ 8 →
      (∀ n ∈ ns, nameFitted (lineStart h (txt "GET") s).ident.part n = true) →
      LineDone (.get h (ns.map some)) h (txt "GET") { data := ns.map (nameLine (lineStart h (txt "GET") s)) } s
        (freezeFor ns (lineStart h (txt "GET") s))) ∧
    (∀ (target x : Text) (from_ : Option Text) (k : Nat), Accepted h (txt "SHOW") s →
      ownName (lineStart h (txt "SHOW") s) target = some x →
      (match from_ with
        | some w => readWhole w = .ok k
        | none => k = 1) →
      1 ≤ k → k ≤ (namesUnder (lineStart h (txt "SHOW") s).ident.part x).length →
      LineDone (.show h target from_) h (txt "SHOW")
        { data := ((namesUnder (lineStart h (txt "SHOW") s).ident.part x).drop (k - 1)).map
            (nameLine (lineStart h (txt "SHOW") s)), base := k - 1 } s
        (freezeFor ((namesUnder (lineStart h (txt "SHOW") s).ident.part x).drop (k - 1)) (lineStart h (txt "SHOW") s))) ∧
    (Accepted h (txt "TIME") s →
      LineDone (.time h) h (txt "TIME")
        { data := [txt "= TIME " ++ isoText (lineStart h (txt "TIME") s).nodeTime ++ txt " " ++
            showNat (lineStart h (txt "TIME") s).nodeTime] } s (lineStart h (txt "TIME") s)) ∧
    (Accepted h (txt "STATUS") s →
      LineDone (.status h) h (txt "STATUS")
        { data := [nameLine (lineStart h (txt "STATUS") s) (.ro .nodePart), nameLine (lineStart h (txt "STATUS") s) (.ro .nodeSerial),
            nameLine (lineStart h (txt "STATUS") s) (.setting .watchNode), nameLine (lineStart h (txt "STATUS") s) (.ro .watchLead),
            dataLine (txt "SESSION") (roleText (roleOf (lineStart h (txt "STATUS") s) h.sess)),
            dataLine (txt "NODE.STATUS") (nodeStatusText (lineStart h (txt "STATUS") s))] } s (lineStart h (txt "STATUS") s)) ∧
    (Accepted h (txt "HELP") s →
      LineDone (.help h none) h (txt "HELP") { data := verbForms.map fun p => txt "= " ++ p.1 } s (lineStart h (txt "HELP") s) ∧
      ∀ (v : Text) (p : Text × List Text), verbForms.find? (fun p => p.1 = upper v) = some p →
        LineDone (.help h (some v)) h (txt "HELP") { data := p.2.map fun l => txt "= " ++ l } s (lineStart h (txt "HELP") s)) ∧
    (Accepted h (txt "LOG") s →
      LineDone (.logStatus h) h (txt "LOG") { data := logNames.map (nameLine (lineStart h (txt "LOG") s)) } s
        (lineStart h (txt "LOG") s) ∧
      ∀ (pos : LogPos) (count : Option Text) (p n : Nat),
        (match count with
          | some c => readWhole c = .ok n
          | none => n = 1) →
        (match pos with
          | .at_ a => readWhole a = .ok p
          | .last => p = max 1 (logCount (lineStart h (txt "LOG") s) + 1 - n)) →
        1 ≤ p → 1 ≤ n → n ≤ 40 →
        LineDone (.logRead h pos count) h (txt "LOG") { data := readLog p n (lineStart h (txt "LOG") s) } s
          (lineStart h (txt "LOG") s)) ∧
    (Accepted h (txt "CAN") s → ∀ (b : Bus) (n : Fin 32),
      LineDone (.canStatus h (some b) (some n)) h (txt "CAN")
        { data := [txLine b n (txStateText (txOf (lineStart h (txt "CAN") s) b n).st)] } s (lineStart h (txt "CAN") s)) ∧
    (∀ v : Text, Accepted h (upper v) s → LineRefused (.unknownVerb h v) h (upper v) .e03 s)

/-! ## Settings -/

/-- EVERY SETTING IS WRITTEN BY ITS LINE (11 R601, R603; 12 R665; 16 R811). SET of any setting of the node but those with work of their
own (POWER.MODE, SEC.DEBUG, CLOCK.SRC, CLOCK.PANEL and the keys), and every row of the table that is a SET of one setting:
where the checks accept the value it stands in the live settings, or waits for its image where the setting is in the
safety partition; where they refuse it nothing is changed but the reply. An unknown name is E03, a read-only one E06. -/
def Obligations.SettingsAreWritten : Prop :=
  ∀ (h : LineHdr) (s : State) (v : Text),
    (∀ i : SettingId, i ≠ .power .mode → i ≠ .secDebug → i ≠ .clock .src → i ≠ .clock .panel → (∀ k, i ≠ .key k) →
      settingFitted s.ident.part i = true →
      SetsSetting (.set h (some (.setting i)) v) h i v s ∧ SetsSetting (.partitionWrite h (some (.setting i)) v) h i v s) ∧
    (Accepted h (txt "SET") s → LineRefused (.set h none v) h (txt "SET") .e03 s ∧
      LineRefused (.partitionWrite h none v) h (txt "SET") .e03 s ∧
      ∀ r : RoId, nameFitted s.ident.part (.ro r) = true → LineRefused (.set h (some (.ro r)) v) h (txt "SET") .e06 s) ∧
    (∀ c : Ch, SetsSetting (.modeWrite h c v) h (.ch c .mode) v s ∧ SetsSetting (.rangeWrite h c v) h (.ch c .range) v s ∧
      SetsSetting (.rateWrite h c v) h (.ch c .rate) v s ∧ SetsSetting (.charWrite h c v) h (.ch c .char) v s ∧
      SetsSetting (.tripThresholdWrite h c .hi v) h (.ch c .triphi) v s ∧
      SetsSetting (.tripThresholdWrite h c .lo v) h (.ch c .triplo) v s ∧
      SetsSetting (.tripThresholdWrite h c .span v) h (.ch c .tripspan) v s ∧
      SetsSetting (.lampTimingWrite h c .onlate v) h (.ch c .onlate) v s ∧
      SetsSetting (.lampTimingWrite h c .edgetol v) h (.ch c .edgetol) v s ∧
      SetsSetting (.lampTimingWrite h c .lamptype v) h (.ch c .lamptype) v s ∧
      SetsSetting (.learnWrite h c v) h (.ch c .learn) v s ∧ SetsSetting (.basesetWrite h c v) h (.ch c .baseset) v s ∧
      SetsSetting (.grpWrite h c v) h (.ch c .grp) v s ∧ SetsSetting (.safeWrite h c v) h (.ch c .safe) v s) ∧
    (∀ g : Grp, SetsSetting (.inhibWrite h g v) h (.grp g .inhib) v s ∧
      SetsSetting (.firstoutWrite h g v) h (.grp g .firstout) v s ∧ SetsSetting (.classWrite h g v) h (.grp g .class_) v s) ∧
    SetsSetting (.deadmanEnWrite h v) h (.deadman .en) v s ∧
    (∀ b : Bus, SetsSetting (.canBitTimingWrite h b .nom v) h (.can b .nom) v s ∧
      SetsSetting (.canBitTimingWrite h b .data v) h (.can b .data) v s ∧
      SetsSetting (.canBitTimingWrite h b .nsp v) h (.can b .nsp) v s ∧
      SetsSetting (.canBitTimingWrite h b .dsp v) h (.can b .dsp) v s ∧
      SetsSetting (.canListenWrite h b v) h (.can b .listen) v s ∧ SetsSetting (.canRecover h b v) h (.can b .recover) v s) ∧
    SetsSetting (.panelTypeWrite h v) h (.panel .type) v s ∧
    SetsSetting (.panelDriveWrite h .frame v) h (.panel .frame) v s ∧
    SetsSetting (.panelDriveWrite h .vlcd v) h (.panel .vlcd) v s ∧
    SetsSetting (.panelDriveWrite h .vhv v) h (.panel .vhv) v s ∧
    SetsSetting (.panelDriveWrite h .bchline v) h (.panel .bchline) v s ∧
    SetsSetting (.panelTest h v) h (.panel .test) v s

/-- THE PARTITION IS OPEN TO ITS CUSTODIAN ALONE (12 R663; 11 R601, R629): it is open for a session exactly while that session holds
CUSTODIAN and the key switch is asserted. Otherwise a SET of a setting of the partition is refused whatever its value, as it
is from every script; a CUSTODIAN's with a value that its own checks take is E07, and a lower role's E06. -/
def Obligations.PartitionNeedsCustodianAndKey : Prop :=
  ∀ (who : Sess) (i : SettingId) (v : Text) (s : State) (x : Val), inPartition (pendingCfg s) i = true →
    (partOpen s who = true ↔ roleOf s who = .custodian ∧ s.part.keysw = .asserted) ∧
    (partOpen s who = false ∨ isScript who = true → ∃ e, checkWrite who i v s = .error e) ∧
    (readSetting s i v = .ok x → settingFitted s.ident.part i = true →
      (roleOf s who ≠ .custodian → checkWrite who i v s = .error .e06) ∧
      (roleOf s who = .custodian → isScript who = false → s.part.keysw ≠ .asserted →
        rangeRule i x (pendingCfg s) (putCfg i x (pendingCfg s)) = true → windowRule i (putCfg i x (pendingCfg s)) = true →
        checkWrite who i v s = .error .e07))

/-- A CHANNEL SETTING THAT CHANGES AT THE BOUNDARY LEAVES THE SLICE AS IT IS (02 R49, R55, R70, R71; 01 R18, R20): a MODE write
stages the defaults of the new mode, a RATE or EOL write waits, and a RANGE write marks the slice; what the slice converts by
is unchanged. While its die link delivers no frame, no channel setting but GRP reaches the slice: it waits for the link.

A THRESHOLD WRITE HOLDS A COMPARATOR WHOSE CODE CHANGES (02 R115): in a mode with comparators, over a link that delivers frames
and with no mode change pending, the written thresholds stand in the slice, and a comparator is held exactly where it was
or its DAC code changes; no other slice is touched.

LAMP SETTINGS ACT AS THEIR COLUMN SAYS (03 R154, R177, R189, R190): in LAMP mode and over a link that delivers frames, a CHAR write
restarts the lock, STEADY for F and SEEK else, with no flash predicted, the windows closed and, but for F, the latch
released; a timing write is in force at once, but for a LOCKED channel whose predicted on-start has come or been met, which
takes it up with the next; and with LEARN OFF the baseline follows BASESET. -/
def Obligations.ChannelSettingsAct : Prop :=
  (∀ (who : Sess) (c : Ch) (x : Val) (s : State),
      ((s.linkOf c).held = none →
        (applySetting who (.ch c .mode) x s).slices = s.slices ∧
        ((applySetting who (.ch c .mode) x s).chCfg c).mode = modeList.getD (kwOf x) .off ∧
        (modeList.getD (kwOf x) .off ≠ (s.chCfg c).mode →
          ((applySetting who (.ch c .mode) x s).chCfg c).staged = some (modeDefaults (modeList.getD (kwOf x) .off))) ∧
        (modeList.getD (kwOf x) .off = (s.chCfg c).mode → (applySetting who (.ch c .mode) x s).live = s.live) ∧
        (applySetting who (.ch c .rate) x s).slices = s.slices ∧ (applySetting who (.ch c .eol) x s).slices = s.slices ∧
        ((applySetting who (.ch c .range) x s).slice c).act = (s.slice c).act ∧
        ((applySetting who (.ch c .range) x s).slice c).rangeDue = true ∧
        (∀ d : Ch, d ≠ c → (applySetting who (.ch c .range) x s).slice d = s.slice d)) ∧
      (∀ (f : ChSet) (hd : DieHold), f ≠ .grp → (s.linkOf c).held = some hd →
        (applySetting who (.ch c f) x s).slices = s.slices ∧
        ((applySetting who (.ch c f) x s).linkOf c).held = some { hd with todo := hd.todo ++ [.ch c f] })) ∧
  (∀ (who : Sess) (c : Ch) (f : ChSet) (x : Val) (s t : State), f = .triphi ∨ f = .triplo ∨ f = .tripspan →
      applySetting who (.ch c f) x s = t → (s.linkOf c).held = none → (s.chCfg c).staged = none →
      hasComparators (s.slice c).act.mode = true →
      (t.slice c).trip = { (s.slice c).trip with
        dacHi := (t.chCfg c).set.triphi, dacLo := (t.chCfg c).set.triplo, span := (t.chCfg c).set.tripspan
        hiHold := (s.slice c).trip.hiHold || decide (dacCode (s.slice c).act.mode (s.slice c).trip.span (s.slice c).trip.dacHi ≠
          dacCode (s.slice c).act.mode (t.chCfg c).set.tripspan (t.chCfg c).set.triphi)
        loHold := (s.slice c).trip.loHold || decide (dacCode (s.slice c).act.mode (s.slice c).trip.span (s.slice c).trip.dacLo ≠
          dacCode (s.slice c).act.mode (t.chCfg c).set.tripspan (t.chCfg c).set.triplo) } ∧
      ∀ d : Ch, d ≠ c → t.slice d = s.slice d) ∧
  (∀ (who : Sess) (c : Ch) (x : Val) (s t : State), (s.slice c).act.mode = .lamp → (s.linkOf c).held = none →
      (applySetting who (.ch c .char) x s = t →
        ((t.slice c).lamp.lock = if (t.chCfg c).char = .f then .steady else .seek) ∧ (t.slice c).lamp.flash = {} ∧
        (t.slice c).lamp.onWin = none ∧ (t.slice c).lamp.offWin = none ∧ (t.slice c).lamp.darkSince = none ∧
        ((t.chCfg c).char ≠ .f → (t.slice c).trip.latched = false)) ∧
      (∀ f : ChSet, f = .onlate ∨ f = .edgetol ∨ f = .lamptype → applySetting who (.ch c f) x s = t →
        (t.slice c).lamp.timing =
          if (s.slice c).lamp.lock = .locked ∧ ¬((s.slice c).lamp.flash.edge = none ∧ s.now < (s.slice c).lamp.flash.due)
            then (s.slice c).lamp.timing else timingOf (t.chCfg c)) ∧
      (∀ f : ChSet, f = .learn ∨ f = .baseset → applySetting who (.ch c f) x s = t → (t.chCfg c).learn = .off →
        (t.slice c).lamp.base = (t.chCfg c).baseset))

/-- NODE SETTINGS ACT AS THEIR COLUMN SAYS (04 R248; 05 R301, R311; 06 R328, R392, R393; 08 R461; 11 R603): FIRSTOUT OFF clears the
group's mark; CLASS 0 ends the group's running call while the engine runs, but not one for the unacknowledged dead-man;
DEADMAN.EN ON starts a period in full and OFF stops the timer, while the engine runs; a bit rate takes a controller that is
not sending off its bus; LISTEN moves one that is not sending into listen-only; GO starts the count of a bus-off
controller; a test of the panel lasts 10 s. -/
def Obligations.NodeSettingsAct : Prop :=
  ∀ (who : Sess) (x : Val) (s t : State),
    (∀ g : Grp, applySetting who (.grp g .firstout) x s = t → isOn x = false → t.engine.first[g.val] = none) ∧
    (∀ g : Grp, applySetting who (.grp g .class_) x s = t → (t.grpCfg g).cls = 0 → s.engine.running = true →
      (g ≠ 31 ∨ deadmanUnack s = false) → (t.call s.watch.node g).st = .idle) ∧
    (applySetting who (.deadman .en) x s = t → s.engine.running = true →
      t.caller.dead = if isOn x then
        { periodEnd := some (s.now + s.live.dead.period * usMin), warnUs := s.live.dead.warn * usSec, warning := false }
        else {}) ∧
    (∀ (b : Bus) (f : CanSet), f = .nom ∨ f = .data ∨ f = .nsp ∨ f = .dsp → applySetting who (.can b f) x s = t →
      (s.canOf b).mode = .active → (s.canOf b).sending = none →
      (t.canOf b).mode = .off ∧ (t.canOf b).rejoinDue = true ∧ (t.canOf b).tx = (s.canOf b).tx) ∧
    (∀ b : Bus, applySetting who (.can b .listen) x s = t → (s.canOf b).mode = .active → (s.canOf b).sending = none →
      (t.canOf b).mode = if isOn x then .listen else .active) ∧
    (∀ b : Bus, applySetting who (.can b .recover) x s = t → (s.canOf b).mode = .busOff → (t.canOf b).recovering = true) ∧
    (applySetting who (.panel .test) x s = t → t.panel.testEnd = some (s.now + 10 * usSec) ∧ t.live = s.live)

/-! ## Custody and the safety partition -/

/-- LOGGING IN (12 R639, R640, R647): LOGIN OBSERVER lays down the role and a pending nonce; LOGIN to a role with a key gives a nonce
from the random source, whatever it is, valid for 60 s, with the session at OBSERVER; a role that is locked out is E15.

SESSIONS AND TIMES END (12 R640, R647, R652, R653; 07 R426; 10 R566): LOGOUT is answered OK, then its session is over; a session that
has been idle for its time is over; a nonce is gone after its 60 s; a lock-out ends at its time and leaves the counts of
failures. With a session end the FORCE settings that it made. -/
def Obligations.SessionsBeginAndEnd : Prop :=
  (∀ (h : LineHdr) (s : State), Accepted h (txt "LOGIN") s →
      LineDone (.login h (some .observer)) h (txt "LOGIN") {} s
        (onSess h.sess (fun x => { x with role := .observer, nonce := none }) (lineStart h (txt "LOGIN") s)) ∧
      ∀ (r : Role) (i : Fin 3), keyIdx r = some i →
        ((lineStart h (txt "LOGIN") s).keys.lockEnd[i.val] = none →
          LineDone (.login h (some r)) h (txt "LOGIN")
            { data := [txt "= NONCE " ++ unwords (showGroups 8 (Config.nonce (lineStart h (txt "LOGIN") s).freeCtr).toNat)] } s
            (onSess h.sess (fun x => { x with role := .observer, nonce := some (Nonce.mk
                (Config.nonce (lineStart h (txt "LOGIN") s).freeCtr) r ((lineStart h (txt "LOGIN") s).now + 60 * usSec)) })
              { lineStart h (txt "LOGIN") s with freeCtr := (lineStart h (txt "LOGIN") s).freeCtr + 1 })) ∧
        ((lineStart h (txt "LOGIN") s).keys.lockEnd[i.val] ≠ none → LineRefused (.login h (some r)) h (txt "LOGIN") .e15 s)) ∧
  ((∀ (h : LineHdr) (s : State), Accepted h (txt "LOGOUT") s → Next (.logout h) s fun t =>
      (h.sess = .host → Replied h (txt "LOGOUT") {} s t ∧ t.port.sess.role = .observer ∧ t.port.sess.nonce = none) ∧
      (∀ k, h.sess = .console k → consoleOf t k = none) ∧ (∀ n : Lx, (t.lxOf n).forceBy ≠ some h.sess) ∧
      t.live = s.live ∧ t.keys = s.keys) ∧
    (∀ (who : Sess) (s : State), inProgress s who = true → awaits s who = false →
      (sessOf s who).idleSince + (sessOf s who).timeout * usSec ≤ s.now → Next (.sessionTimeout who) s fun t =>
        (who = .host → t.port.sess.role = .observer ∧ t.port.sess.nonce = none ∧ (t.port.events[7]).latched = true) ∧
        (∀ k, who = .console k → consoleOf t k = none) ∧
        (∀ n : Lx, (t.lxOf n).forceBy ≠ some who) ∧ t.live = s.live ∧ t.keys = s.keys) ∧
    (∀ (who : Sess) (s : State) (n : Nonce), (∀ k, who ≠ .script k) → (sessOf s who).nonce = some n → n.expires ≤ s.now →
      Does (.nonceExpiry who) s (onSess who (fun x => { x with nonce := none }) s)) ∧
    (∀ (r : Role) (i : Fin 3) (s : State) (e : Tick), keyIdx r = some i → s.keys.lockEnd[i.val] = some e → e ≤ s.now →
      Next (.lockOutExpiry r) s fun t =>
        t.keys = { s.keys with lockEnd := upd s.keys.lockEnd i fun _ => none } ∧ t.live = s.live ∧ t.interp = s.interp))

/-- A PROOF DECIDES (12 R641–R648): with a pending nonce that has not expired, the right proof gives the session its role and sets
that role's failures to 0; a wrong one is E14, leaves the role, counts a failure, and from the fifth failure on locks the
role out, for the period of its count of failures. Either way the nonce is spent. A key of zeros proves nothing while the
key switch is not asserted.

THE LOCK-OUT DOUBLES (12 R647): 60 s at the fifth failure, twice as long at each one after it, never over 3,840 s. -/
def Obligations.ProofDecides : Prop :=
  (∀ (h : LineHdr) (s : State) (groups : List Text) (proof : List Byte) (n : Nonce) (i : Fin 3),
      Accepted h (txt "PROVE") s → readGroups groups = some proof → groups.length = 8 →
      (sessOf (lineStart h (txt "PROVE") s) h.sess).nonce = some n → keyIdx n.role = some i →
      (lineStart h (txt "PROVE") s).now ≤ n.expires →
      ((proofMac (lineStart h (txt "PROVE") s) (lineStart h (txt "PROVE") s).keys.role[i.val] n.value).take 16 = proof →
        ((lineStart h (txt "PROVE") s).keys.role[i.val] ≠ 0 ∨ (lineStart h (txt "PROVE") s).part.keysw = .asserted) →
        LineLeaves (.prove h groups) h (txt "PROVE") {} s fun t =>
          (sessOf t h.sess).role = n.role ∧ (sessOf t h.sess).nonce = none ∧ t.keys.fails[i.val] = 0 ∧
          (∀ j : Fin 3, j ≠ i → t.keys.fails[j.val] = s.keys.fails[j.val]) ∧ t.keys.lockEnd = s.keys.lockEnd ∧ t.live = s.live) ∧
      ((proofMac (lineStart h (txt "PROVE") s) (lineStart h (txt "PROVE") s).keys.role[i.val] n.value).take 16 ≠ proof ∨
          ((lineStart h (txt "PROVE") s).keys.role[i.val] = 0 ∧ (lineStart h (txt "PROVE") s).part.keysw ≠ .asserted) →
        LineLeaves (.prove h groups) h (txt "PROVE") { err := some .e14 } s fun t =>
          (sessOf t h.sess).role = (sessOf (lineStart h (txt "PROVE") s) h.sess).role ∧ (sessOf t h.sess).nonce = none ∧
          t.keys.fails[i.val] = s.keys.fails[i.val] + 1 ∧ t.keys.role = s.keys.role ∧ t.live = s.live ∧
          (s.keys.fails[i.val] + 1 < 5 → t.keys.lockEnd = s.keys.lockEnd) ∧
          (5 ≤ s.keys.fails[i.val] + 1 → t.keys.lockEnd[i.val] = some (s.now + lockPeriod (s.keys.fails[i.val] + 1) * usSec)))) ∧
  (lockPeriod 5 = 60 ∧ (∀ n, 5 ≤ n → n < 11 → lockPeriod (n + 1) = 2 * lockPeriod n) ∧ ∀ n, 5 ≤ n → lockPeriod n ≤ 3840)

/-- KEYS CHANGE HANDS ONLY IN CUSTODY (12 R654, R655, R657, R658, R660, R680): a CUSTODIAN's key write, of a full key that is not all zeros,
is held until the key is programmed; the key is then in force, or after a failure the old one stays and the line is E17.
SEC.DEBUG LOCKED closes the debug port at once; OPEN, with the partition open, puts every key back to delivery, leaves the
debug port as it is, and marks it to open at the next POWER reset. -/
def Obligations.KeysAreWritten : Prop :=
  (∀ (h : LineHdr) (s : State) (k : KeyName) (groups : List Text) (bs : List Byte), Accepted h (txt "SET") s →
    readGroups groups = some bs → groups.length = keyGroups k → ofBytesBe bs ≠ 0 →
    mayWriteKeys (setStart h s) h = true → flashBusy (setStart h s) = false →
    LineHeld (.keyWrite h k groups) h (txt "SET") s
      { setStart h s with interp := { (setStart h s).interp with
        flash := some (.key k (ofBytesBe bs) (waiter h (setStart h s))) } }) ∧
  (∀ (s : State) (k : KeyName) (v : Nat) (w : Waiter), s.interp.flash = some (.key k v w) →
    Next (.keyWriteComplete true) s (fun t => t.interp.flash = none ∧ t.keys = (putKey k v s).keys ∧
      t.images = (putKey k v s).images ∧ t.live = s.live ∧ (Awaits s w → AnswerCame w {} s t)) ∧
    Next (.keyWriteComplete false) s (fun t => t.interp.flash = none ∧ t.keys = s.keys ∧ t.images = s.images ∧
      t.live = s.live ∧ (Awaits s w → AnswerCame w { err := some .e17 } s t))) ∧
  (∀ (h : LineHdr) (s : State), Accepted h (txt "SET") s → mayWriteKeys (setStart h s) h = true →
    LineLeaves (.secDebugLocked h) h (txt "SET") {} s (fun t => ∃ u, LogOnly (setStart h s) u ∧
      t = { u with keys := { u.keys with debugLocked := true, debugOpenDue := false } }) ∧
    (partOpen (setStart h s) h.sess = true → flashBusy (setStart h s) = false →
      LineLeaves (.secDebugOpen h) h (txt "SET") {} s fun t =>
        t.keys = { (setStart h s).keys with role := .replicate 3 0, unit := .replicate 64 0, debugOpenDue := true } ∧
        t.images.unitCounters = .replicate 64 0 ∧ t.live = s.live ∧ t.part = s.part))

/-- AN IMAGE DECIDES A PARTITION WRITE (12 R665, R666, R678; 16 R817): when the image of the write at the head of the sequencer's
queue has verified, its value stands in the live settings and in the image in force, whose generation is the next one;
when it has not, the live settings and the image in force stay as they are. Either way the write leaves the queue, and a line
of one write that waits for it has its reply: OK, or E17. -/
def Obligations.ImageDecidesPartitionWrite : Prop :=
  ∀ (s : State) (w : PartWrite) (rest : List PartWrite) (v : Val), s.part.writes = w :: rest →
    readVal s.ident.part s.watch.node (kindOf s.live w.id) w.value = .ok v → w.line = {} →
    Next (.partitionProgramComplete true) s (fun t => t.part.writes = rest ∧ t.live = putCfg w.id v s.live ∧
      (partInForce t).map (fun i => i.cfg) = some (putCfg w.id v s.live) ∧
      (partInForce t).map (fun i => i.gen) = some (((partInForce s).map fun i => i.gen).getD 0 + 1) ∧
      t.stor.partition = false ∧ t.keys = s.keys ∧ t.images = s.images ∧ (Awaits s w.by_ → AnswerCame w.by_ {} s t)) ∧
    Next (.partitionProgramComplete false) s (fun t => t.part.writes = rest ∧ t.live = s.live ∧
      partInForce t = partInForce s ∧ t.keys = s.keys ∧ t.images = s.images ∧
      (Awaits s w.by_ → AnswerCame w.by_ { err := some .e17 } s t))

/-- THE KEY SWITCH IS READ AND THE CHECK PASS ACTS (12 R672–R677; 15 R776): while the safety sequencer works, an asserted or released
switch is taken and ends a fault, and both pads at one level are a fault that latches its flag. A check pass that ends 90 ms
or more after the one before, with no write waiting, marks its end; a word with a single-bit error pulses its flag; a word
with a double-bit error, or a CRC mismatch, resets the whole node, once it is up, as PARTERR. A pass that finds nothing
changes nothing more. -/
def Obligations.KeySwitchAndCheckPass : Prop :=
  ∀ s : State, sequencerRuns s = true →
    (∀ b : Bool, s.part.keysw ≠ (if b then .asserted else .released) →
      DoesLogged (if b then .keySwitchAsserted else .keySwitchReleased) s
        { s with
          pins := { s.pins with keyALow := b, keyBLow := !b }
          part := { s.part with
            keysw := if b then .asserted else .released, flags := upd s.part.flags 0 (Flag.drive false) } }) ∧
    (∀ b : Bool, s.part.keysw ≠ .fault → DoesLogged (.keySwitchFault b) s
      { s with
        pins := { s.pins with keyALow := !b, keyBLow := !b }
        part := { s.part with keysw := .fault, flags := upd s.part.flags 0 (Flag.drive true) } }) ∧
    (s.part.writes = [] → s.part.checkAt + 90000 ≤ s.now →
      Does (.partitionCheckPass .clean) s { s with part := { s.part with checkAt := s.now } } ∧
      (∀ (a : BitVec 16) (w : RawWord) (d : BitVec 32), readWord w = .corrected d →
        DoesLogged (.partitionCheckPass (.singleBit a w)) s
          { s with part := { s.part with checkAt := s.now, flags := upd s.part.flags 1 Flag.pulse } }) ∧
      (∀ f : CheckFinding, (f = .crcMismatch ∨ ∃ a w, f = .doubleBit a w ∧ readWord w = .double) → s.rst.phase = .up →
        Next (.partitionCheckPass f) s fun t =>
          t.rst.level = .system ∧ t.rst.lastSource = .partErr ∧ t.rst.cause.getLsbD 7 = true ∧ t.engine.running = false ∧
          t.watch.joined = false ∧ t.port.opened = false))

/-! ## Images and scripts -/

/-- SAVE KEEPS THE SETTINGS (11 R608–R612, R632): from ENGINEER on, with no flash work under way, SAVE is held while the image of
the live settings is programmed under the next generation number; under way, it is E08. Once the image has verified it is
the one in force, and the reply shows its number; where it has not, the image in force stays and the line is E17.

AN IMAGE HOLDS NO SETTING OF THE PARTITION (11 R608, R610; 12 R662, R669): whatever stands in the partition, the settings that
SAVE programs hold defaults for the settings that always stand there and for each safety setting of a SAFE channel, and the
live value of its other settings. -/
def Obligations.SaveKeepsSettings : Prop :=
  ((∀ (h : LineHdr) (s u : State), Accepted h (txt "SAVE") s → u = lineStart h (txt "SAVE") s →
      (may u h .engineer = true → flashBusy u = false →
        LineHeld (.save h) h (txt "SAVE") s { u with interp := { u.interp with
          flash := some (.save (((imageInForce u).map fun i => i.gen).getD 0 + 1) (imageOf u.live) (waiter h u)) } }) ∧
      (may u h .engineer = true → flashBusy u = true → LineRefused (.save h) h (txt "SAVE") .e08 s) ∧
      (may u h .engineer = false → LineRefused (.save h) h (txt "SAVE") .e06 s)) ∧
    (∀ (s : State) (gen : Nat) (cfg : Settings) (w : Waiter), s.interp.flash = some (.save gen cfg w) →
      (∀ i, imageInForce s = some i → i.gen < gen) →
      Next (.saveComplete true) s (fun t => imageInForce t = some ⟨gen, true, cfg⟩ ∧ t.images.saved = s.nodeTime ∧
        t.interp.flash = none ∧ t.live = s.live ∧ t.keys = s.keys ∧ t.part = s.part ∧ t.stor.config = false ∧
        (Awaits s w → AnswerCame w { data := [dataLine (txt "CONFIG.GEN") (showNat gen)] } s t)) ∧
      Next (.saveComplete false) s (fun t => imageInForce t = imageInForce s ∧ t.images.saved = s.images.saved ∧
        t.interp.flash = none ∧ t.live = s.live ∧ t.keys = s.keys ∧ t.part = s.part ∧ t.stor.config = true ∧
        (Awaits s w → AnswerCame w { err := some .e17 } s t)))) ∧
  (∀ cfg : Settings,
      (imageOf cfg).call.tmax = ({} : Settings).call.tmax ∧ (imageOf cfg).dead.pmax = ({} : Settings).dead.pmax ∧
      (imageOf cfg).remReset = ({} : Settings).remReset ∧ (imageOf cfg).power.wde = ({} : Settings).power.wde ∧
      (imageOf cfg).power.wdi = ({} : Settings).power.wdi ∧
      ∀ (c : Ch) (x d : ChCfg), (cfg.ch[c.val]).safe = true → x = (imageOf cfg).ch[c.val] → d = {} →
        x.mode = d.mode ∧ x.set.range = d.set.range ∧ x.set.triphi = d.set.triphi ∧ x.set.triplo = d.set.triplo ∧
        x.set.tripspan = d.set.tripspan ∧ x.fast = d.fast ∧ x.char = d.char ∧ x.lampsup = d.lampsup ∧ x.acnom = d.acnom ∧
        x.lamptype = d.lamptype ∧ x.onlate = d.onlate ∧ x.edgetol = d.edgetol ∧ x.learn = d.learn ∧ x.baseset = d.baseset ∧
        x.darkfrac = d.darkfrac ∧ x.dimfrac = d.dimfrac ∧ x.darkmin = d.darkmin ∧ x.darkmax = d.darkmax ∧
        (∀ k : Cond, k = .dark ∨ k = .dim ∨ k = .stuck ∨ k = .char → (x.cond[(condIdx k).val]).en = (d.cond[(condIdx k).val]).en ∧
          (x.cond[(condIdx k).val]).steep = (d.cond[(condIdx k).val]).steep ∧
          (x.cond[(condIdx k).val]).unsteep = (d.cond[(condIdx k).val]).unsteep) ∧
        x.rate = (cfg.ch[c.val]).rate ∧ x.eol = (cfg.ch[c.val]).eol ∧ x.floor = (cfg.ch[c.val]).floor ∧ x.grp = (cfg.ch[c.val]).grp)

/-- LOAD WRITES EACH SETTING UNDER ITS OWN RULES (11 R615–R617, R629): from ENGINEER on, LOAD and LOAD DEFAULTS make their writes in
their order, one after the other. One that a SET would refuse changes nothing and is noted; one it would take is the SET's;
one to the partition is waited for, and its line goes on with the rest once its image has verified or, with E17 noted, has
failed. After the last the reply lists the refusals, and its status is the first of them. -/
def Obligations.LoadWritesEachSetting : Prop :=
  (∀ (h : LineHdr) (s u v : State) (xs : List LoadWrite) (cmd : Instr) (d : Bool), u = lineStart h (txt "LOAD") s →
    ((cmd = .load h ∧ d = false ∧ xs = (loadWrites u (imageCfg u)).filter fun x => !inPartition (imageCfg u) x.1) ∨
      (cmd = .loadDefaults h ∧ d = true ∧ xs = (loadWrites u (defaultsFor u.live)).filter
        fun x => !inPartition u.live x.1)) →
    Accepted h (txt "LOAD") s → may u h .engineer = true →
    (∀ r, runWrites (waiter h u) h.sameCycle (some d) xs [] u = (v, some r) →
      LineLeaves cmd h (txt "LOAD") r s fun w => w = v) ∧
    (runWrites (waiter h u) h.sameCycle (some d) xs [] u = (v, none) →
      Next cmd s fun t => Held h (txt "LOAD") s t ∧ t.live = v.live ∧ t.part = v.part ∧ t.images = s.images ∧ t.keys = s.keys)) ∧
  (∀ (w : Waiter) (b d : Bool) (i : SettingId) (x : Text) (rest : List LoadWrite) (bad : List (SettingId × Err)) (s : State),
    (∀ e, checkWrite w.sess i x s = .error e →
      runWrites w b (some d) ((i, x) :: rest) bad s = runWrites w b (some d) rest (bad ++ [(i, e)]) s) ∧
    (∀ v, checkWrite w.sess i x s = .ok v → inPartition (pendingCfg s) i = false → i ≠ .clock .src → i ≠ .clock .panel →
      runWrites w b (some d) ((i, x) :: rest) bad s = runWrites w b (some d) rest bad (writeNow w.sess b i v s)) ∧
    (∀ v, checkWrite w.sess i x s = .ok v → inPartition (pendingCfg s) i = true →
      runWrites w b (some d) ((i, x) :: rest) bad s =
        (writePart w b i x { todo := rest, load := some d, refusals := bad } s, none)) ∧
    (runWrites w b (some d) [] bad s).2 =
      some { data := bad.map fun p => refusalLine p.1 p.2, err := (bad.map fun p => p.2).head? } ∧
    LogOnly s (runWrites w b (some d) [] bad s).1 ∧
    (∀ (y : PartWrite) (failed : Bool), y.line.load = some d → lineGoesOn y failed s =
      runWrites y.by_ false (some d) y.line.todo (y.line.refusals ++ if failed then [(y.id, .e17)] else []) s))

/-- RUN BEGINS A SCRIPT (11 R620, R621, R626, R629): from ENGINEER on and with none running, the saved lines of the script that are
neither empty nor comments are to be run in their order with the role of the session; the reply waits for the script's
end. A script without lines ends at once; a second RUN is E08, an unknown script E03.

A SCRIPT RUNS LINE BY LINE (11 R621, R622, R624, R625; 15 R792): a SCRIPT_LINE takes the next line at its own latch point and does
its work, whose status lets the next line follow, ends the script at a refusal or after the last line, or is awaited; S00
begins at start-up with the role ENGINEER, and a node without one goes on at once.

STOP ENDS A SCRIPT (11 R626): from ENGINEER on, STOP of a script that does not run is OK and changes nothing; of one whose line
is awaited it is noted for the line's end; of any other it ends the script now, after its last line. -/
def Obligations.ScriptsRunLineByLine : Prop :=
  (∀ (h : LineHdr) (s : State), Accepted h (txt "RUN") s →
      LineRefused (.run h none) h (txt "RUN") .e03 s ∧
      (may (lineStart h (txt "RUN") s) h .engineer = true → ∀ n : Script,
        (s.interp.script ≠ none → LineRefused (.run h (some n)) h (txt "RUN") .e08 s) ∧
        (s.interp.script = none → scriptLines s n ≠ [] → Next (.run h (some n)) s fun t => Held h (txt "RUN") s t ∧
          t.interp.script = some
            { script := n, todo := scriptLines s n, role := roleOf (lineStart h (txt "RUN") s) h.sess
              by_ := waiter h (lineStart h (txt "RUN") s) } ∧ t.live = s.live ∧ t.part = s.part ∧ t.slices = s.slices) ∧
        (s.interp.script = none → scriptLines s n = [] → Next (.run h (some n)) s fun t =>
          Replied h (txt "RUN") { data := [txt "= " ++ scriptText n ++ txt " END L00"] } s t ∧
          t.interp.script = none ∧ t.interp.ends[n.val] = some ⟨0, none⟩ ∧ t.live = s.live))) ∧
  ((∀ (s w : State) (run : Running) (l : Nat) (line : Text) (rest : List (Nat × Text)) (r : Option Reply),
      s.interp.running = true → s.power.mode ≠ .deep → s.interp.script = some run → run.waiting = none →
      run.todo = (l, line) :: rest →
      scriptWork { sess := .script run.script } line (thawView { s with interp := { s.interp with
        script := some { run with todo := rest, last := l }, count := s.interp.count + 1 } }) = (w, r) →
      Does .scriptLine s (match r with
        | some x => scriptStatus x w
        | none => awaitLine run.script (s.interp.count + 1) w)) ∧
    (∀ (s : State) (run : Running) (r : Reply), s.interp.script = some run →
      (∀ e, r.err = some e → (scriptStatus r s).interp.script = none ∧
        (scriptStatus r s).interp.ends[run.script.val] = some ⟨run.last, some e⟩) ∧
      (r.err = none → run.stop = false → run.todo ≠ [] → scriptStatus r s =
        { s with interp := { s.interp with script := some { run with waiting := none } } }) ∧
      (r.err = none → (run.stop = true ∨ run.todo = []) → (scriptStatus r s).interp.script = none ∧
        (scriptStatus r s).interp.ends[run.script.val] = some ⟨run.last, none⟩)) ∧
    (∀ s : State, s.rst.phase = .booting → s.interp.script = none →
      (scriptLines s 0 = [] → Does .s00Run s { s with
        interp := { s.interp with running := true }, rst := { s.rst with phase := .opening } }) ∧
      (scriptLines s 0 ≠ [] → DoesLogged .s00Run s { s with interp := { s.interp with
        running := true
        script := some
          { script := 0, todo := scriptLines s 0, role := .engineer, by_ := { sess := .script 0, no := 0, host := false }
            boot := true } } }))) ∧
  (∀ (h : LineHdr) (s : State) (n : Script), Accepted h (txt "STOP") s →
      may (lineStart h (txt "STOP") s) h .engineer = true →
      ((∀ run, s.interp.script = some run → run.script ≠ n) →
        LineDone (.stop h (some n)) h (txt "STOP") {} s (lineStart h (txt "STOP") s)) ∧
      (∀ run, s.interp.script = some run → run.script = n →
        (run.waiting ≠ none → LineDone (.stop h (some n)) h (txt "STOP") {} s
          { lineStart h (txt "STOP") s with interp := { (lineStart h (txt "STOP") s).interp with
            script := some { run with stop := true } } }) ∧
        (run.waiting = none → Next (.stop h (some n)) s fun t => t.interp.script = none ∧
          t.interp.ends[n.val] = some ⟨run.last, none⟩ ∧ t.live = s.live ∧ t.part = s.part ∧
          (run.by_.sess ≠ h.sess → Replied h (txt "STOP") {} s t))))

/-! ## Alarm verbs, flags and time -/

/-- ACK ACKNOWLEDGES ITS TARGET (04 R224–R226, R259; 06 R360): from OPERATOR on and while the engine runs, every unacknowledged
channel alarm and G31 member of the target whose occurrence began before the line's latch point moves on, and every other
stays; a target of another node goes out to it as an ACK frame and leaves the own alarms. Beside its record the line is an
engine step. The condition changes of its engine cycle go before it.

SHELVE AND UNSHELVE (04 R216, R227–R230): from OPERATOR on and while the engine runs, SHELVE shelves every alarm of the target
that is not DISABLED until its time, 1 min to SHELVE.MAX from now, and UNSHELVE takes every shelved alarm of the target to
the state that its condition asks for; every other alarm stays. -/
def Obligations.AlarmVerbsMoveTheirTarget : Prop :=
  (∀ (h : LineHdr) (s u : State) (x : Target), u = lineStart h (txt "ACK") s →
      (Accepted h (txt "ACK") s → may u h .operator = true →
        (∀ node : Option NodeNo, node = none ∨ node = some s.watch.node → targetFitted s.ident.part x = true →
          LineLeaves (.ack h node (some x) {}) h (txt "ACK") {} s fun t => EngineStep u t ∧
            (∀ (c : Ch) (k : Cond), (t.alarm c k).st =
              if s.engine.running = true ∧ (c, k) ∈ targetConds u x then ackedState (latchCycle h u) (s.alarm c k)
              else (s.alarm c k).st) ∧
            (∀ m : Member, (t.member m).st =
              if s.engine.running = true ∧ m ∈ targetMembers u x then ackedMember (latchCycle h u) (u.member m)
              else (u.member m).st)) ∧
        (∀ n : NodeNo, n ≠ s.watch.node → LineLeaves (.ack h (some n) (some x) {}) h (txt "ACK") {} s fun t =>
          t.engine = u.engine ∧ t.slices = s.slices ∧ t.log = u.log)) ∧
      (∀ (node : Option NodeNo) (m : Mates), exec (.ack h node (some x) m) s = exec (.ack h node (some x) {}) (matesChange m s))) ∧
  (∀ (h : LineHdr) (s : State) (x : Target), targetFitted s.ident.part x = true → s.engine.running = true →
      (∀ (minutes : Option Text) (n : Nat), Accepted h (txt "SHELVE") s → may (lineStart h (txt "SHELVE") s) h .operator = true →
        (match minutes with
          | some w => readWhole w = .ok n
          | none => n = s.live.shelveMax) →
        1 ≤ n → n ≤ s.live.shelveMax → shelvable (lineStart h (txt "SHELVE") s) x = true →
        LineLeaves (.shelve h (some x) minutes) h (txt "SHELVE") {} s fun t =>
          EngineStep (lineStart h (txt "SHELVE") s) t ∧ ∀ (c : Ch) (k : Cond),
            if (c, k) ∈ targetConds (lineStart h (txt "SHELVE") s) x ∧ (s.alarm c k).st ≠ .disabled then
              (t.alarm c k).st = .shelved ∧ (t.alarm c k).shelfEnd = some (s.nodeTime + n * usMin)
            else (t.alarm c k).st = (s.alarm c k).st) ∧
      (Accepted h (txt "UNSHELVE") s → may (lineStart h (txt "UNSHELVE") s) h .operator = true →
        LineLeaves (.unshelve h (some x)) h (txt "UNSHELVE") {} s fun t =>
          EngineStep (lineStart h (txt "UNSHELVE") s) t ∧ ∀ (c : Ch) (k : Cond), (t.alarm c k).st =
            if (c, k) ∈ targetConds (lineStart h (txt "UNSHELVE") s) x ∧ (s.alarm c k).st = .shelved then
              unshelvedState s c k else (s.alarm c k).st))

/-- DISABLE AND ENABLE WRITE EN (04 R215, R231, R232): they write EN of every condition of their target in order under the rules
of a SET, up to the first that is refused, whose code is the reply; they wait where a write waits for an image. With one
condition that the partition does not hold, EN is written at once, and while the engine runs DISABLE leaves its alarm
DISABLED and ENABLE takes it out of DISABLED. -/
def Obligations.DisableAndEnable : Prop :=
  (∀ (h : LineHdr) (s u v : State) (x : Target) (on : Bool) (cmd : Instr) (verb word : Text) (ws : List (SettingId × Text)),
    ((on = false ∧ cmd = .disable h (some x) ∧ verb = txt "DISABLE" ∧ word = txt "OFF") ∨
      (on = true ∧ cmd = .enable h (some x) ∧ verb = txt "ENABLE" ∧ word = txt "ON")) →
    Accepted h verb s → u = lineStart h verb s → targetFitted s.ident.part x = true → ableTarget x = true →
    (∀ c k l, targetConds u x = (c, k) :: l → ∃ y, checkWrite h.sess (.cond c k .en) word u = .ok y) →
    ws = (targetConds u x).map (fun p => (SettingId.cond p.1 p.2 .en, word)) →
    v = emitAction (if on then 5 else 4) x (originOf u h.sess).1 (originOf u h.sess).2 0 u →
    (∀ w r, runWrites (waiter h u) h.sameCycle none ws [] v = (w, some r) → LineLeaves cmd h verb r s fun t => t = w) ∧
    (∀ w, runWrites (waiter h u) h.sameCycle none ws [] v = (w, none) →
      Next cmd s fun t => Held h verb s t ∧ t.live = w.live ∧ t.engine = w.engine ∧ t.part = w.part) ∧
    (∀ c k, x = .cond c k → inPartition (pendingCfg u) (.cond c k .en) = false →
      LineLeaves cmd h verb {} s fun t => (t.condCfg c k).en = on ∧
        (s.engine.running = true → ((t.alarm c k).st = .disabled ↔ on = false)))) ∧
  (∀ (w : Waiter) (b : Bool) (i : SettingId) (x : Text) (rest : List (SettingId × Text)) (s : State),
    (∀ e, checkWrite w.sess i x s = .error e → runWrites w b none ((i, x) :: rest) [] s = (s, some { err := some e })) ∧
    (∀ v, checkWrite w.sess i x s = .ok v → inPartition (pendingCfg s) i = false → i ≠ .clock .src → i ≠ .clock .panel →
      runWrites w b none ((i, x) :: rest) [] s = runWrites w b none rest [] (writeNow w.sess b i v s)) ∧
    runWrites w b none [] [] s = (s, some {}))

/-- CLEAR STATUS CLEARS WHAT NO CAUSE HOLDS (02 R120–R123): a flag whose cause is true, or sets it in the same cycle, stays latched
and its AGAIN counter goes up by one, to 255 at most; any other is cleared with its counter. The reply shows what stands,
and nothing else changes; of a channel whose link is down the flag as last received is what is judged and shown. RSTCAUSE
is cleared whole (15 R781). An unknown flag is E03. -/
def Obligations.ClearStatusClears : Prop :=
  ∀ (h : LineHdr) (s u : State) (setNow : Bool), Accepted h (txt "CLEAR") s → u = lineStart h (txt "CLEAR") s →
    LineRefused (.clearStatus h none setNow) h (txt "CLEAR") .e03 s ∧
    (∀ (n : FlagName) (stays : Bool), n ≠ .rstcause → flagFitted s.ident.part n = true → may u h (flagRole n) = true →
      stays = ((flagOf u n).live || setNow || clashRecent n u) →
      ((∀ c b, n = .ch c b → (u.linkOf c).held = none) →
        LineDone (.clearStatus h (some n) setNow) h (txt "CLEAR")
          { data := [dataLine (flagText n) (clearedText (clearedFlag stays (flagOf u n)))] } s (onFlag n (clearedFlag stays) u)) ∧
      (∀ c b hd, n = .ch c b → (u.linkOf c).held = some hd →
        LineLeaves (.clearStatus h (some n) setNow) h (txt "CLEAR")
          { data := [dataLine (flagText n) (clearedText (clearedFlag stays (flagOf u n)))] } s fun t =>
          flagOf t n = clearedFlag stays (flagOf u n) ∧ t.live = s.live)) ∧
    (may u h (flagRole .rstcause) = true →
      LineLeaves (.clearStatus h (some .rstcause) setNow) h (txt "CLEAR") { data := [dataLine (nameText (.ro .rstcause)) (showBits rstTexts 0)] }
        s fun t => t = { u with rst := { u.rst with cause := 0 } })

/-- TIME SET SETS NODE TIME (11 R605; 06 R363, R365; 09 R483): from ENGINEER on, on the lead of its watch or out of a watch, node time
takes the value at once, a slew under way ends, and time counts as set; on another node of a watch the line is E18.

NODE TIME FOLLOWS THE LEAD (06 R334, R335, R361–R365): the lead sends its time, when it is due, on each bus that takes copies and has
room, under one sequence number, each naming the bus's previous frame, and the next is due 1 s later; another node that takes
a TIME frame and holds the capture of the frame named steps its time by the offset where it has not stepped before or is more
than 500 µs off, and slews else; the lead keeps its own time. -/
def Obligations.NodeTimeIsSetAndFollows : Prop :=
  (∀ (h : LineHdr) (s : State) (value : Text) (tm : Tick), Accepted h (txt "TIME") s → readTime value = .ok tm →
      may (lineStart h (txt "TIME") s) h .engineer = true →
      ((inWatch s = false ∨ isLead s = true) → LineLeaves (.timeSet h value) h (txt "TIME") {} s fun t =>
        t = { lineStart h (txt "TIME") s with
          nodeTime := tm % 2 ^ 64
          watch := { (lineStart h (txt "TIME") s).watch with
            slew := 0, timeSet := true, hostSet := true, captures := t.watch.captures } }) ∧
      (inWatch s = true → isLead s = false → LineRefused (.timeSet h value) h (txt "TIME") .e18 s)) ∧
  ((∀ s : State, isLead s = true → s.engine.running = true → canSendMsg s = true → s.watch.nextTime ≤ s.now →
      Next .timeFrameSend s fun t => t.watch.seq = s.watch.seq + 1 ∧ t.watch.nextTime = s.now + usSec ∧
        t.nodeTime = s.nodeTime ∧ t.live = s.live ∧
        ∀ b : Bus, (s.canOf b).sends = true → (s.canOf b).queue.length < 64 →
          (t.canOf b).queue = (s.canOf b).queue ++ [⟨s.watch.node, s.watch.seq, timeMsg s b⟩]) ∧
    (∀ (s : State) (r : RxHdr) (b : TimeBody) (c : Tick),
      (takeFrame r (.time b.hostSet b.prevSeq b.prevTime) false s).2 = true →
      ((s.watch.captures[(busIdx r.bus).val]).byOther.find? fun p => decide (p.1 = captureKey r.src b.prevSeq)).map (fun p => p.2)
        = some c →
      (isLead s = false → (s.watch.stepped = false ∨ 500 < ((b.prevTime : Int) - c).natAbs) → Next (.timeFrame r b) s fun t =>
        t.nodeTime = ((s.nodeTime : Int) + ((b.prevTime : Int) - c)).toNat % 2 ^ 64 ∧ t.watch.stepped = true ∧
        t.watch.timeSet = true ∧ t.watch.slew = 0 ∧ t.live = s.live) ∧
      (isLead s = false → s.watch.stepped = true → ((b.prevTime : Int) - c).natAbs ≤ 500 → Next (.timeFrame r b) s fun t =>
        t.nodeTime = s.nodeTime ∧ t.watch.slew = (b.prevTime : Int) - c ∧ t.watch.timeSet = true) ∧
      (isLead s = true → Next (.timeFrame r b) s fun t => t.nodeTime = s.nodeTime ∧ t.watch.slew = s.watch.slew)))

/-! ## The logbook -/

/-- THE LOG IS OPENED ONCE (09 R485, R497, R514; 15 R793): once the writer runs, LOG_OPEN opens the log, which goes on after the last
own sequence number, or from 0 where there is none, and no reset waits to be recorded any more; an open log is not opened
again. Where the refused counters differ from the saved ones and 10 s have passed since they were last saved, they are saved;
sooner, nothing is done.

THE FIRST RECORD OPENS A SECTOR (09 R490, R500, R502): with no sector in use and the next one erased, an event staged makes that
sector the one in use.

STAGE TAKES, DROPS OR REFUSES AN EVENT (09 R489, R490, R492, R496): while the writer runs and a sector is in use, EVENT_STAGED
takes the oldest event handed over: it enters STAGE behind the others; where STAGE holds 1,023 or more it is dropped and
counted, and where the log is full, sector or none, it is refused and counted in its class. Nothing else of the node is
touched. -/
def Obligations.LogOpensAndStages : Prop :=
  ((∀ s : State, writerRuns s = true → s.log.opened = false → Next .logOpen s fun t => t.log.opened = true ∧
      t.log.seq = (lastOwnSeq s).getD 0 ∧ t.rst.logDue = [] ∧ t.live = s.live ∧ t.images = s.images) ∧
    (∀ s : State, writerRuns s = true → s.log.opened = true → Does .logOpen s s) ∧
    (∀ s : State, writerRuns s = true → s.log.opened = true → s.log.refused ≠ s.log.savedRefused →
      (∀ a, s.log.savedAt = some a → a + 10 * usSec ≤ s.now) → Next .refusedCounterAppend s fun t =>
        t.log.savedRefused = s.log.refused ∧ t.log.savedAt = some s.now ∧ t.log.refused = s.log.refused ∧
        t.log.sectors = s.log.sectors ∧ t.log.stage = s.log.stage) ∧
    (∀ (s : State) (a : Nat), s.log.savedAt = some a → s.now < a + 10 * usSec → Does .refusedCounterAppend s s)) ∧
  (∀ (s : State) (x : Staged) (r : List Staged) (k : Fin 8), writerRuns s = true → s.log.incoming = x :: r →
      s.log.opened = true → s.log.full = false → s.log.filling = none → s.log.clearing = none → s.log.stage.length < 1023 →
      nextSector s = some k → (sectorOf s k).st = .erased → Next .eventStaged s fun t =>
        t.log.filling = some k ∧ (sectorOf t k).st = .filling ∧ (sectorOf t k).slots = [] ∧ t.log.stage = s.log.stage ++ [x] ∧
        (∀ j : Fin 8, j ≠ k → sectorOf t j = sectorOf s j) ∧ t.log.seq = s.log.seq) ∧
  (∀ (s : State) (x : Staged) (r : List Staged) (k : Fin 8), writerRuns s = true → s.log.incoming = x :: r →
      (s.log.full = false → s.log.filling = some k → s.log.stage.length < 1023 →
        Does .eventStaged s { s with log := { s.log with incoming := r, stage := s.log.stage ++ [x] } }) ∧
      (s.log.full = false → s.log.filling = some k → 1023 ≤ s.log.stage.length →
        Does .eventStaged s { s with log := { s.log with
          incoming := r, dropped := min 65535 (s.log.dropped + 1), burst := min 65535 (s.log.burst + 1) } }) ∧
      (s.log.full = true → ∀ j : Fin 7, (stagedCode x).toNat / 256 = j.val + 1 →
        Does .eventStaged s { s with log := { s.log with
          incoming := r, refused := upd s.log.refused j fun n => min 65535 (n + 1) } }))

/-- A RECORD IS PROGRAMMED IN ITS ORDER (09 R480, R485, R490–R492, R501, R524): while the writer may program and the sector in use has
room for more than one record, RECORD_PROGRAMMED that verifies puts the oldest staged record into the next slot of the sector
in use: an own event under the next sequence number, which wraps after 65,535, a copied record as it came and without a
number; where events were dropped, the record of their number is staged behind what STAGE holds. A first slot that does not
verify is left torn and the record waits. Of the log, nothing else changes.

THE LAST SLOT CLOSES THE LOG (09 R495, R496, R498; 04 R250): when only the last slot of the highest sector in use is left, what is
programmed there is the record 0x0705, under its own sequence number; the log is then full, STAGE is empty and LOGFULL
stands. -/
def Obligations.RecordsAreProgrammed : Prop :=
  (∀ (s : State) (k : Fin 8) (x : Staged) (rest : List Staged), s.log.filling = some k → mayProgram s = true →
      lastSlotNext s = false → s.log.stage = x :: rest → (sectorOf s k).slots.length + 1 < sectorSlots →
      (∀ e, x = .own e → Next (.recordProgrammed true) s fun t =>
        t.log = { s.log with
          stage := rest ++ dropsDue s, burst := 0, seq := (s.log.seq + 1) % 65536
          erase := s.log.erase.map fun y => { y with wrote := true }
          sectors := upd s.log.sectors k fun y =>
            { y with slots := y.slots ++ [.record (recordOf s.watch.node ((s.log.seq + 1) % 65536) e)] } } ∧
        t.live = s.live ∧ t.engine = s.engine ∧ t.slices = s.slices ∧ t.port.answer = s.port.answer) ∧
      (∀ c, x = .copied c → Next (.recordProgrammed true) s fun t =>
        t.log = { s.log with
          stage := rest ++ dropsDue s, burst := 0, erase := s.log.erase.map fun y => { y with wrote := true }
          sectors := upd s.log.sectors k fun y => { y with slots := y.slots ++ [.record c] } }) ∧
      ((sectorOf s k).failures = 0 → Does (.recordProgrammed false) s { s with log := { s.log with
        erase := s.log.erase.map fun y => { y with wrote := true }
        sectors := upd s.log.sectors k fun y => { y with failures := 1, slots := y.slots ++ [.torn] } } })) ∧
  (∀ (s : State) (k : Fin 8) (v : Bool), s.log.filling = some k → mayProgram s = true → lastSlotNext s = true →
      Next (.recordProgrammed v) s fun t => t.log.full = true ∧ t.log.stage = [] ∧ t.log.filling = none ∧
        (sectorOf t k).st = .full ∧ (sectorOf t k).slots.length = sectorSlots ∧ t.flags.logFull.live = true ∧
        (s.flags.logFull.live = false → t.flags.logFull.latched = true) ∧ (t.member 0).cause = true ∧
        (v = true → ∃ e, e.code = 0x0705 ∧ (sectorOf t k).slots.getLast? =
          some (.record (recordOf s.watch.node ((s.log.seq + 1) % 65536) e))))

/-- ERASES RUN, YIELD AND GIVE UP (09 R503, R508–R512, R515, R516): with no LOG CLEAR under way, no other erase due and STAGE empty, an
erase that verifies leaves its sector erased, empty and in use, and after the third attempt that does not its sector is out of
use and STORFAULT stands; before the third it is tried again. A background erase is suspended while a record waits, not
within 200 µs of its resumption, and resumed once a record has been programmed or none waits any more, not before. -/
def Obligations.ErasesRunAndYield : Prop :=
  ∀ (s : State) (e : Erase), s.log.erase = some e → writerRuns s = true →
    (e.suspended = false → s.log.clearing = none → s.log.toErase = [] → s.log.stage = [] →
      Next (.eraseComplete true) s fun t => t.log.erase = none ∧ (sectorOf t e.sector).st = .erased ∧
        (sectorOf t e.sector).slots = [] ∧ (sectorOf t e.sector).out = false ∧ t.log.seq = s.log.seq ∧
        (∀ j : Fin 8, j ≠ e.sector → sectorOf t j = sectorOf s j)) ∧
    (e.suspended = false → e.attempts + 1 < 3 → Does (.eraseComplete false) s { s with log := { s.log with
      erase := some { e with attempts := e.attempts + 1, since := s.now, resumed := false } } }) ∧
    (e.suspended = false → 3 ≤ e.attempts + 1 → s.log.clearing = none → s.log.toErase = [] → s.log.stage = [] →
      Next (.eraseComplete false) s fun t => (sectorOf t e.sector).out = true ∧ t.stor.sectorOut = true ∧
        t.flags.storFault.live = true ∧ t.log.erase = none) ∧
    (e.suspended = false → e.foreground = false → (s.log.stage ≠ [] ∨ lastSlotNext s = true) →
      (e.resumed = false ∨ e.since + 200 ≤ s.now) → Does .eraseSuspend s { s with log := { s.log with
        erase := some { e with suspended := true, wrote := false, since := s.now } } }) ∧
    (e.suspended = false → e.resumed = true → s.now < e.since + 200 → Does .eraseSuspend s s) ∧
    (e.suspended = true → (e.wrote = true ∨ (s.log.stage = [] ∧ lastSlotNext s = false)) →
      Does .eraseResume s { s with log := { s.log with
        erase := some { e with suspended := false, since := s.now, resumed := true } } }) ∧
    (e.suspended = true → e.wrote = false → s.log.stage ≠ [] → Does .eraseResume s s)

/-- LOG CLEAR EMPTIES THE LOG (09 R505–R507, R510, R516): of a CUSTODIAN, LOG CLEAR is refused with E16 while LOG.CLEARING is ON; with
no clearing and no flash work under way and the log open, every record is given up at once and the reply waits while the
first sector is erased; once that has verified the log starts again with the three records of a cleared log, sequence number
3, its counts of refused and dropped events are 0, and the line is answered. -/
def Obligations.LogClearEmptiesLog : Prop :=
  (∀ (h : LineHdr) (s : State), Accepted h (txt "LOG") s → may (lineStart h (txt "LOG") s) h .custodian = true →
    (s.log.clearOn = true → LineRefused (.logClear h) h (txt "LOG") .e16 s) ∧
    (s.log.clearOn = false → flashBusy (lineStart h (txt "LOG") s) = false → writerRuns (lineStart h (txt "LOG") s) = true →
      s.log.opened = true → Next (.logClear h) s fun t => Held h (txt "LOG") s t ∧ logCount t = 0 ∧ t.log.clearOn = true ∧
        t.log.filling = none ∧ t.log.full = false ∧ (∃ e, t.log.erase = some e ∧ e.sector = 0 ∧ e.foreground = true) ∧
        (∃ c, t.log.clearing = some c ∧ c.by_ = waiter h (lineStart h (txt "LOG") s) ∧ c.oldCount = logCount s) ∧
        t.live = s.live ∧ t.keys = s.keys ∧ t.images = s.images)) ∧
  (∀ (s : State) (e : Erase) (c : Clearing), s.log.erase = some e → writerRuns s = true → e.suspended = false →
    s.log.clearing = some c → Next (.eraseComplete true) s fun t => t.log.clearing = none ∧ t.log.filling = some e.sector ∧
      t.log.seq = 3 ∧ (sectorOf t e.sector).slots.length = 3 ∧ (sectorOf t e.sector).st = .filling ∧
      t.log.refused = .replicate 7 0 ∧ t.log.dropped = 0 ∧ t.log.full = false ∧
      (Awaits s c.by_ → AnswerCame c.by_ {} s t))

/-! ## Raw CAN and the buses -/

/-- THE HOST TAKES A TRANSMIT ENTRY AND SENDS IT (06 R380–R384; 11 R631): from ENGINEER on, TAKE TX gives the first FREE entry of a bus,
or E11 where there is none; SEND puts a lawful frame into an entry that the host owns and that is neither waiting nor on the
bus, which is then PENDING; an entry that the host does not own is E12, one under way is E08, an unlawful frame E04, words
that are no frame E01, a bus or an entry that is not there E03, and a session below ENGINEER E06.

THE HOST GIVES BACK AND CANCELS (06 R380, R385, R386, R389): DONE TX frees an entry that has ended, and one under way as soon as it
ends; CANCEL of a waiting entry takes it back, of one on the bus is recorded, of one that has ended comes too late, E10;
TAKE RX hands over the oldest frame that the host does not own, or says that there is none; DONE RX frees its entry.

A FRAME RECEIVED IS KEPT OR COUNTED (06 R388–R390; 06 R402, log 23 for how the error counter moves): on a joined link whose
controller receives, a good frame that a filter passes, a Pysel frame too, goes into the first free entry behind those already
there, or is counted as lost where there is none; one that no filter passes does not. Of a frame that is no Pysel frame the
receive error counter alone notes more; one that broke off in an error moves that counter and nothing else; and where the
controller does not receive, nothing is done. -/
def Obligations.RawEntriesServeTheHost : Prop :=
  ((∀ (h : LineHdr) (s : State) (b : Bus) (n : Fin 32) (args : List Text) (f : RawFrame) (one : Bool),
      Accepted h (txt "CAN") s → readSend args = some (f, one) →
      (may (lineStart h (txt "CAN") s) h .engineer = false → LineRefused (.canTakeTx h (some b)) h (txt "CAN") .e06 s ∧
        LineRefused (.canSend h (some b) (some n) args) h (txt "CAN") .e06 s) ∧
      LineRefused (.canTakeTx h none) h (txt "CAN") .e03 s ∧ LineRefused (.canSend h none (some n) args) h (txt "CAN") .e03 s ∧
      LineRefused (.canSend h (some b) none args) h (txt "CAN") .e03 s) ∧
    ∀ (h : LineHdr) (s : State) (b : Bus), Accepted h (txt "CAN") s → may (lineStart h (txt "CAN") s) h .engineer = true →
      (∀ (e : Option (Fin 32)) (args : List Text), readSend args = none →
        LineRefused (.canSend h (some b) e args) h (txt "CAN") .e01 s) ∧
      (∀ n : Fin 32, (txOf s b n).st = .free → (∀ j : Fin 32, j < n → (txOf s b j).st ≠ .free) →
        LineDone (.canTakeTx h (some b)) h (txt "CAN") { data := [txLine b n (txt "OWNED")] } s
          (onTx b n (fun _ => { st := .owned, hostOwned := true }) (lineStart h (txt "CAN") s))) ∧
      ((∀ j : Fin 32, (txOf s b j).st ≠ .free) → LineRefused (.canTakeTx h (some b)) h (txt "CAN") .e11 s) ∧
      (∀ (n : Fin 32) (args : List Text) (f : RawFrame) (one : Bool), readSend args = some (f, one) →
        (rawLawful f = true → (txOf s b n).hostOwned = true → (txOf s b n).st ≠ .pending → (txOf s b n).st ≠ .sending →
          LineDone (.canSend h (some b) (some n) args) h (txt "CAN") { data := [txLine b n (txt "PENDING")] } s
            (onTx b n (fun e => { e with st := .pending, frame := some f, oneShot := one, cancel := false })
              (lineStart h (txt "CAN") s))) ∧
        (rawLawful f = true → (txOf s b n).hostOwned = true → ((txOf s b n).st = .pending ∨ (txOf s b n).st = .sending) →
          LineRefused (.canSend h (some b) (some n) args) h (txt "CAN") .e08 s) ∧
        (rawLawful f = true → (txOf s b n).hostOwned = false →
          LineRefused (.canSend h (some b) (some n) args) h (txt "CAN") .e12 s) ∧
        (rawLawful f = false → LineRefused (.canSend h (some b) (some n) args) h (txt "CAN") .e04 s))) ∧
  (∀ (h : LineHdr) (s : State) (b : Bus), Accepted h (txt "CAN") s → may (lineStart h (txt "CAN") s) h .engineer = true →
      (∀ n : Fin 32, (txOf s b n).hostOwned = true →
        LineDone (.canDoneTx h (some b) (some n)) h (txt "CAN") {} s
          (onTx b n (fun e => if e.st = .pending ∨ e.st = .sending then { e with hostOwned := false } else {})
            (lineStart h (txt "CAN") s)) ∧
        ((txOf s b n).st = .pending → LineDone (.canCancel h (some b) (some n)) h (txt "CAN") {} s
          (onTx b n (fun e => { e with st := .cancelled }) (lineStart h (txt "CAN") s))) ∧
        ((txOf s b n).st = .sending → LineDone (.canCancel h (some b) (some n)) h (txt "CAN")
          { data := [txLine b n (txt "CANCEL RECORDED")] } s
          (onTx b n (fun e => { e with cancel := true }) (lineStart h (txt "CAN") s))) ∧
        (((txOf s b n).st = .sent ∨ (txOf s b n).st = .lost ∨ (txOf s b n).st = .error ∨ (txOf s b n).st = .cancelled) →
          LineRefused (.canCancel h (some b) (some n)) h (txt "CAN") .e10 s)) ∧
      (∀ n : Fin 32, (txOf s b n).hostOwned = false → LineRefused (.canDoneTx h (some b) (some n)) h (txt "CAN") .e12 s ∧
        LineRefused (.canCancel h (some b) (some n)) h (txt "CAN") .e12 s) ∧
      (∀ (i : Fin 64) (e : RxEntry), (s.canOf b).rx[i.val] = some e → e.owned = false →
        (∀ (j : Fin 64) (x : RxEntry), j ≠ i → (s.canOf b).rx[j.val] = some x → x.owned = false → e.order < x.order) →
        LineDone (.canTakeRx h (some b)) h (txt "CAN")
          { data := [unwords ([txt "= " ++ busText b ++ txt ".RX", showPadded 2 i.val] ++ frameTexts e.frame)] } s
          (onCan b (fun c => { c with rx := upd c.rx i fun _ => some { e with owned := true } }) (lineStart h (txt "CAN") s))) ∧
      ((∀ (j : Fin 64) (x : RxEntry), (s.canOf b).rx[j.val] = some x → x.owned = true) →
        LineDone (.canTakeRx h (some b)) h (txt "CAN") { data := [txt "= " ++ busText b ++ txt ".RX EMPTY"] } s
          (lineStart h (txt "CAN") s)) ∧
      (∀ (i : Fin 64) (e : RxEntry), (s.canOf b).rx[i.val] = some e → e.owned = true →
        LineDone (.canDoneRx h (some b) (some i)) h (txt "CAN") {} s
          (onCan b (fun c => { c with rx := upd c.rx i fun _ => none }) (lineStart h (txt "CAN") s)))) ∧
  (∀ (s : State) (b : Bus) (f : RawFrame),
      (busHears s b = false → ∀ ok : Bool, Does (.rawFrameReceived b ok f) s s) ∧
      (busHears s b = true → Does (.rawFrameReceived b false f) s (onCan b (Can.countRx false) s)) ∧
      (busHears s b = true → filtersPass s b f = true →
        (∀ i : Fin 64, (s.canOf b).rx[i.val] = none → (∀ j : Fin 64, j < i → (s.canOf b).rx[j.val] ≠ none) →
          Next (.rawFrameReceived b true f) s fun t =>
            (t.canOf b).rx = upd (s.canOf b).rx i (fun _ => some ⟨f, false, (s.canOf b).rxOrder⟩) ∧
            (t.canOf b).rxOrder = (s.canOf b).rxOrder + 1 ∧ (t.canOf b).rxlost = (s.canOf b).rxlost) ∧
        ((∀ j : Fin 64, (s.canOf b).rx[j.val] ≠ none) → Next (.rawFrameReceived b true f) s fun t =>
          (t.canOf b).rx = (s.canOf b).rx ∧ (t.canOf b).rxlost = min 65535 ((s.canOf b).rxlost + 1))) ∧
      (busHears s b = true → filtersPass s b f = false → Next (.rawFrameReceived b true f) s fun t =>
        (t.canOf b).rx = (s.canOf b).rx ∧ (t.canOf b).rxlost = (s.canOf b).rxlost) ∧
      (busHears s b = true → isPysel f = false → DoesSo (.rawFrameReceived b true f) s fun t =>
        t = onCan b (fun c => { Can.countRx true c with
          rx := (t.canOf b).rx, rxOrder := (t.canOf b).rxOrder, rxlost := (t.canOf b).rxlost }) s))

/-- THE LOWEST IDENTIFIER GOES FIRST (06 R321, R330, R340, R385; log 23 for the order of formats): when a controller that can drive its bus
and is not sending starts a frame, what it starts is waiting there, and nothing that waits there comes before it; a raw entry
is then SENDING; a watch frame has left its queue and stands on the bus with the BRS bit of its setting and the ESI bit of the
controller's state; the other bus is untouched.

A FRAME ENDS AS SENT OR AS A FAILURE (06 R380, R385–R387): FRAME_TRANSMITTED leaves the entry that was being sent SENT even after a
cancel, or free where the host has given it back; after TRANSMIT_FAILURE an entry that the host owns is tried again, unless
it was cancelled or is to be sent once, and a watch frame is back at the head of its queue. No other entry changes, and a
watch frame sent does not come back. -/
def Obligations.FramesContendAndEnd : Prop :=
  (∀ (s : State) (b : Bus) (x : Sending), (s.canOf b).drives = true → (s.canOf b).sending = none → (s.canOf b).best = some x →
      (∃ k, (k, x) ∈ (s.canOf b).waiting ∧ ∀ p ∈ (s.canOf b).waiting, k ≤ p.1) ∧
      Next (.startOfFrame b) s fun t => (t.canOf b).sending = some x ∧ (∀ d : Bus, d ≠ b → t.canOf d = s.canOf d) ∧
        (∀ n, x = .raw n → ((t.canOf b).tx[n.val]).st = .sending ∧ (t.canOf b).queue = (s.canOf b).queue) ∧
        (∀ f, x = .watch f → (t.canOf b).queue = (s.canOf b).queue.erase f ∧ (t.canOf b).tx = (s.canOf b).tx ∧
          (t.canOf b).onBus =
            some (wireFrame f (s.live.can[(busIdx b).val]).brs (decide ((s.canOf b).mode = .passive)))) ∧
        t.live = s.live ∧ t.engine = s.engine) ∧
  (∀ (s : State) (b : Bus),
      (∀ n : Fin 32, (s.canOf b).sending = some (.raw n) →
        Next (.frameTransmitted b) s (fun t => (t.canOf b).sending = none ∧
          (t.canOf b).tx[n.val] = (if ((s.canOf b).tx[n.val]).hostOwned then
            { (s.canOf b).tx[n.val] with st := .sent, cancel := false } else {}) ∧
          (∀ j : Fin 32, j ≠ n → (t.canOf b).tx[j.val] = (s.canOf b).tx[j.val]) ∧ t.live = s.live ∧ t.log = s.log) ∧
        (((s.canOf b).tx[n.val]).hostOwned = true → ∀ lost : Bool, Next (.transmitFailure b lost) s fun t =>
          (t.canOf b).sending = none ∧
          ((t.canOf b).tx[n.val]).st = (if ((s.canOf b).tx[n.val]).cancel then .cancelled
            else if ((s.canOf b).tx[n.val]).oneShot then (if lost then .lost else .error) else .pending) ∧
          (∀ j : Fin 32, j ≠ n → (t.canOf b).tx[j.val] = (s.canOf b).tx[j.val]) ∧ t.live = s.live ∧ t.log = s.log)) ∧
      (∀ f : WatchFrame, (s.canOf b).sending = some (.watch f) →
        Next (.frameTransmitted b) s (fun t => (t.canOf b).sending = none ∧ (t.canOf b).tx = (s.canOf b).tx ∧
          (s.watch.backlog = [] → (t.canOf b).queue = (s.canOf b).queue)) ∧
        ∀ lost : Bool, Next (.transmitFailure b lost) s fun t => (t.canOf b).sending = none ∧
          (t.canOf b).queue = f :: (s.canOf b).queue ∧ (t.canOf b).tx = (s.canOf b).tx))

/-- BUS-OFF AND BACK (06 R328, R393–R396; 04 R250): a controller that drives its bus and goes bus-off stops sending, recovers by itself
where BUSOFF is AUTO, and its G31 member loses its ground; once recovered, and when it rejoins for a setting, it stands on
its bus with fresh error counters and the timing written, in the mode that its settings and the clock ask for. -/
def Obligations.BusOffAndRejoin : Prop :=
  ∀ (s : State) (b : Bus),
    ((s.canOf b).drives = true → Next (.busOff b) s fun t => (t.canOf b).mode = .busOff ∧ (t.canOf b).sending = none ∧
      (t.canOf b).recovering = decide ((s.live.can[(busIdx b).val]).busoff = .auto) ∧ (t.member (busMember b)).cause = true ∧
      t.live = s.live ∧ t.slices = s.slices) ∧
    ((s.canOf b).mode = .busOff → (s.canOf b).recovering = true → Next (.busOffRecovery b) s fun t =>
      (t.canOf b).mode = onBusMode s b ∧ (t.canOf b).tec = 0 ∧ (t.canOf b).recv = 0 ∧
      (t.canOf b).timing = (s.live.can[(busIdx b).val]).timing ∧ (t.member (busMember b)).cause = false ∧ t.live = s.live) ∧
    (s.watch.joined = true → (s.canOf b).mode = .off → (s.canOf b).rejoinDue = true →
      Does (.rejoin b) s (onCan b (fun c => { c with
        mode := onBusMode s b, timing := (s.live.can[(busIdx b).val]).timing, rejoinDue := false, recovering := false
        heldRecessive := false, heldStandby := false, tec := 0, recv := 0, listenDue := false }) s))

/-! ## The watch -/

/-- A WATCH FRAME IS TAKEN ONCE (06 R329, R332, R337, R338): a frame of a message with its own row that is taken has come with that
message's class and length from another node over a controller that receives, and while nothing else comes between, the
number that it took is not taken again from its node, on either bus.

A FRAME OUT OF ORDER OR OF THE OWN NUMBER (06 R332, R337, R349, R388): where the controller receives, a frame of another class or
too short is counted, and stored where a filter passes it, and no more; one with the node's own number is not taken and
latches IDCLASH; one newer than the highest number taken from its node is taken, and its number is the highest from then on;
one that is its highest number is not taken. -/
def Obligations.WatchFramesAreTakenOnce : Prop :=
  (∀ (s t : State) (r q : RxHdr) (m m' : Msg) (restart again : Bool), takeFrame r m restart s = (t, true) →
      busHears s r.bus = true ∧ r.cls = msgClass m ∧ msgLen m ≤ r.len ∧ r.src ≠ s.watch.node ∧
      (q.src = r.src → q.seq = r.seq → (takeFrame q m' again t).2 = false)) ∧
  (∀ (s : State) (r : RxHdr) (m : Msg) (restart : Bool),
      (busHears s r.bus = false → takeFrame r m restart s = (s, false)) ∧
      (busHears s r.bus = true → r.cls ≠ msgClass m ∨ r.len < msgLen m →
        takeFrame r m restart s = (noteReceived r.bus (rxFrame r m) s, false)) ∧
      (busHears s r.bus = true → r.cls = msgClass m → msgLen m ≤ r.len →
        (r.src = s.watch.node → (takeFrame r m restart s).2 = false ∧
          (takeFrame r m restart s).1.flags.idClash.latched = true ∧
          (takeFrame r m restart s).1.watch.peers = s.watch.peers) ∧
        (∀ n, r.src ≠ s.watch.node → (s.watch.peers[r.src.val]).highest = some n →
          (1 ≤ (r.seq.toNat + 65536 - n) % 65536 → (r.seq.toNat + 65536 - n) % 65536 ≤ 32768 →
            (takeFrame r m restart s).2 = true ∧
            ((takeFrame r m restart s).1.watch.peers[r.src.val]).highest = some r.seq.toNat) ∧
          (r.seq.toNat = n → (takeFrame r m restart s).2 = false))))

/-- HEARTBEATS GO OUT AND SILENCE IS NOTICED (06 R335, R336, R342–R344, R350, R351; 04 R250): a heartbeat due goes out on each bus that takes
copies and has room, under one sequence number, and the next is due 100 ms later; RESTART and REBUILD are sent no more after
it. A node from which no heartbeat has come for 300 ms is no longer heard or ready, and not before; the node itself is ready
1 s after its first heartbeat.

A HEARTBEAT IS HEARD (06 R343): a heartbeat taken makes its node heard, with the READY and dead-man bits that it carries, and touches
no other node's entry. -/
def Obligations.HeartbeatsAndSilence : Prop :=
  ((∀ s : State, s.watch.joined = true → s.engine.running = true → s.watch.nextHb ≤ s.now → canSendMsg s = true →
      Next .heartbeat s fun t => t.watch.nextHb = s.now + 100000 ∧ t.watch.seq = s.watch.seq + 1 ∧
        t.watch.sendRestart = false ∧ t.watch.sendRebuild = false ∧ t.watch.firstHb ≠ none ∧
        (∀ b : Bus, (s.canOf b).sends = true → (s.canOf b).queue.length < 64 → (t.canOf b).queue =
          (s.canOf b).queue ++ [⟨s.watch.node, s.watch.seq, .heartbeat (heartbeatBody s)⟩]) ∧
        (∀ b : Bus, (s.canOf b).sends = false → t.canOf b = s.canOf b) ∧ t.live = s.live ∧ t.engine = s.engine) ∧
    (∀ (s : State) (n : NodeNo), (s.watch.peers[n.val]).heard = true → (s.watch.peers[n.val]).lastHb + 300000 ≤ s.now →
      Next (.nodeSilence n) s fun t => (t.watch.peers[n.val]).heard = false ∧ (t.watch.peers[n.val]).ready = false ∧
        (t.watch.peers[n.val]).lost = true ∧ (∀ m : NodeNo, m ≠ n → t.watch.peers[m.val] = s.watch.peers[m.val]) ∧
        (t.member 5).cause = watchCause t ∧ t.live = s.live ∧ t.slices = s.slices) ∧
    (∀ (s : State) (n : NodeNo), s.now < (s.watch.peers[n.val]).lastHb + 300000 → Does (.nodeSilence n) s s) ∧
    (∀ (s : State) (a : Tick), s.watch.firstHb = some a → a + usSec ≤ s.now →
      Does .readyTimeout s { s with watch := { s.watch with ready := true } })) ∧
  (∀ (s w : State) (r : RxHdr) (b : HeartbeatBody) (k : Bool), takeFrame r (.heartbeat b) b.restart s = (w, k) →
      (k = true → Next (.heartbeatReceived r b) s fun t => (t.watch.peers[r.src.val]).heard = true ∧
        (t.watch.peers[r.src.val]).lastHb = s.now ∧ (t.watch.peers[r.src.val]).ready = b.ready ∧
        (t.watch.peers[r.src.val]).deadmanWarning = b.deadmanWarning ∧
        (∀ m : NodeNo, m ≠ r.src → t.watch.peers[m.val] = s.watch.peers[m.val]) ∧ t.live = s.live ∧ t.slices = s.slices) ∧
      (k = false → Does (.heartbeatReceived r b) s w))

/-- THE LEAD IS THE LOWEST READY NODE (06 R346, R365, R395): the lead found is another node that is ready and heard, or this node, ready or
alone and with a link that does not only listen, and no lower node is; while the engine runs, LEAD_EVALUATION makes it the
lead, and a node that becomes lead starts its own time frames. With links that only listen after XO failure there is none. -/
def Obligations.LeadIsLowestReadyNode : Prop :=
  (∀ s : State, linksListenXo s = true → leadOf s = none) ∧
  (∀ (s : State) (n : NodeNo), leadOf s = some n →
    (n ≠ s.watch.node → (s.watch.peers[n.val]).heard = true ∧ (s.watch.peers[n.val]).ready = true) ∧
    (∀ m : NodeNo, m < n → m ≠ s.watch.node →
      ¬ ((s.watch.peers[m.val]).heard = true ∧ (s.watch.peers[m.val]).ready = true)) ∧
    (n = s.watch.node → linksListen s = false ∧ (s.watch.ready = true ∨ inWatch s = false)) ∧
    (s.watch.node < n → s.watch.ready = false ∨ linksListen s = true)) ∧
  (∀ s : State, s.engine.running = true →
    (leadOf s = s.watch.lead → Does .leadEvaluation s s) ∧
    (leadOf s ≠ s.watch.lead → Next .leadEvaluation s fun t => t.watch.lead = leadOf s ∧
      (leadOf s = some s.watch.node → t.watch.hostSet = false ∧ t.watch.nextTime = s.now) ∧
      t.watch.peers = s.watch.peers ∧ t.live = s.live ∧ t.slices = s.slices))

/-- CALLS ARE COPIED AND REFRESHED (06 R334, R348, R352, R353; 05 R316, log 74): a CALL frame taken with a call state of its table is
this node's copy of that call; a CALL of the node's own groups is passed over while the links only listen after XO failure.
As lead, every call that is not idle and whose 10 s have passed goes out again, and its next 10 s begin. No other call is
touched.

THE LEAD KEEPS THE OTHERS' RECORDS (09 R524): a LOGCOPY frame taken by the lead is handed to its logbook as it came; another node
takes nothing from it. -/
def Obligations.CallsAreCopied : Prop :=
  ((∀ (s w : State) (r : RxHdr) (b : CallBody) (st : CallState), takeFrame r (.call b) false s = (w, true) →
      callStateOf b.state = some st →
      (linksListenXo s = false ∨ b.node ≠ s.watch.node → Next (.callFrame r b) s fun t =>
        t.call b.node b.grp = copiedCall s st b ∧
        (∀ (n : NodeNo) (g : Grp), (n, g) ≠ (b.node, b.grp) → t.call n g = s.call n g) ∧ t.engine = s.engine ∧ t.live = s.live) ∧
      (linksListenXo s = true → b.node = s.watch.node → Does (.callFrame r b) s w)) ∧
    (∀ s : State, isLead s = true → s.engine.running = true → Next .callRefresh s fun t =>
      (∀ (n : NodeNo) (g : Grp), t.call n g = if (s.call n g).st ≠ .idle ∧ (s.call n g).refreshAt ≤ s.now then
        { s.call n g with refreshAt := s.now + 10 * usSec } else s.call n g) ∧ t.engine = s.engine ∧ t.live = s.live)) ∧
  (∀ (s w : State) (r : RxHdr) (b : Record), takeFrame r (.logcopy b) false s = (w, true) →
      (isLead s = true → Does (.logcopy r b) s { w with log := { w.log with incoming := s.log.incoming ++ [.copied b] } }) ∧
      (isLead s = false → Does (.logcopy r b) s w))

/-- REMOTE ALARMS AND ACKNOWLEDGEMENTS (06 R332, R333, R360; 04 R224, R225, R243): an ALARM_STATE frame taken is kept as its node's latest word
of that alarm, and one of a reserved number is counted and stored as a frame and no more; while the engine runs, an ACK frame
for this node acknowledges the channel alarms of its target that began before the latch point that it carries, and no other,
and one for another node acknowledges nothing. -/
def Obligations.RemoteAlarmsAndAcks : Prop :=
  (∀ (s w : State) (r : RxHdr) (b : AlarmBody), takeFrame r (.alarm b) false s = (w, true) → b.key ≠ .reserved →
    Next (.alarmState r b) s fun t => remoteState t r.src b.key = some b ∧
      (∀ (n : NodeNo) (x : AlarmKey), (n, x) ≠ (r.src, b.key) → remoteState t n x = remoteState s n x) ∧ t.live = s.live ∧
      t.slices = s.slices) ∧
  (∀ (s : State) (r : RxHdr) (b : AlarmBody), b.key = .reserved →
    Does (.alarmState r b) s (noteReceived r.bus (rxFrame r (.alarm b)) s)) ∧
  (∀ (s w : State) (r : RxHdr) (b : AckBody) (x : Target), takeFrame r (.ack b) false s = (w, true) → b.target = some x →
    (b.node = s.watch.node → s.engine.running = true → targetFitted s.ident.part x = true → Next (.ackFrame r b) s fun t =>
      (∀ (c : Ch) (k : Cond), (t.alarm c k).st = if (c, k) ∈ targetConds s x then
        (match (s.alarm c k).st with
          | .activeUnack => if (s.alarm c k).enteredTime < b.latch then .activeAck else .activeUnack
          | .returnUnack => if (s.alarm c k).enteredTime < b.latch then
              (if (s.alarm c k).steep then .steeping else .normal) else .returnUnack
          | st => st) else (s.alarm c k).st) ∧ t.live = s.live ∧ t.slices = s.slices) ∧
    (b.node ≠ s.watch.node → Does (.ackFrame r b) s w))

/-! ## Calling the engineer -/

/-- THE TIMERS OF A CALL (05 R282–R284, R288, R293, R308, R310): where this node runs the call and its time has come, the expiry of a stage
timer takes a ringing call to its next stage, with the units and the timer of that stage; a repeat timer takes the units anew
and runs on; and the attend timer of an accepted call calls again at the stage that it had reached. None touches another
call. The condition changes and the accepts of its engine cycle go before each.

A STAGE CALLS WHOM IT CAN REACH (05 R273, R282–R284): a call that is to begin stage 1 or 2 comes to rest there only where an engineer
of that stage is reachable; at stage 3 every engineer's units ring, and every unit of the mess and the engine room. -/
def Obligations.CallTimersRun : Prop :=
  (∀ (s : State) (n : NodeNo) (g : Grp) (e : Tick), callerRuns s n = true → (s.call n g).timerEnd = some e → e ≤ s.nodeTime →
      ((s.call n g).rings = true → (s.call n g).repeats = false → Next (.stageTimerExpiry n g {}) s fun t =>
        t.call n g = stageCall s (s.call n g) (stageNo (s.call n g) + 1) ∧
        (∀ (m : NodeNo) (k : Grp), (m, k) ≠ (n, g) → t.call m k = s.call m k) ∧ t.engine = s.engine ∧ t.live = s.live) ∧
      ((s.call n g).repeats = true → Next (.repeatTimerExpiry n g {}) s fun t =>
        t.call n g = { s.call n g with
          ringing := stageMask s (s.call n g).duty (s.call n g).next (stageNo (s.call n g))
          engs := engsRung s (stageMask s (s.call n g).duty (s.call n g).next (stageNo (s.call n g)))
          timerEnd := some (e + (s.call n g).repeatUs) } ∧
        (∀ (m : NodeNo) (k : Grp), (m, k) ≠ (n, g) → t.call m k = s.call m k) ∧ t.engine = s.engine ∧ t.live = s.live) ∧
      ((s.call n g).st = .accepted → Next (.attendTimerExpiry n g {}) s fun t =>
        t.call n g = resumedCall s (s.call n g) ∧
        (∀ (m : NodeNo) (k : Grp), (m, k) ≠ (n, g) → t.call m k = s.call m k) ∧ t.engine = s.engine ∧ t.live = s.live) ∧
      (∀ m : Mates, exec (.stageTimerExpiry n g m) s = exec (.stageTimerExpiry n g {}) (beforeExpiry m s) ∧
        exec (.repeatTimerExpiry n g m) s = exec (.repeatTimerExpiry n g {}) (beforeExpiry m s) ∧
        exec (.attendTimerExpiry n g m) s = exec (.attendTimerExpiry n g {}) (beforeExpiry m s))) ∧
  (∀ (s : State) (c : Call) (k : Nat),
      ((stageCall s c k).st = .stage1 → ∃ d, c.duty = some d ∧ reachable s d = true) ∧
      ((stageCall s c k).st = .stage2 → ∃ d, (c.duty = some d ∨ nextEngineer s c.duty = some d) ∧ reachable s d = true) ∧
      ((stageCall s c k).st = .stage3 →
        (∀ (e : Eng) (u : Unit64), u ∈ (s.live.eng[e.val]).units → (stageCall s c k).ringing.getLsbD u.val = true) ∧
        ∀ u : Unit64, s.live.cu[u.val] = .mess ∨ s.live.cu[u.val] = .engrm → (stageCall s c k).ringing.getLsbD u.val = true))

/-- ACK DEADMAN STARTS A NEW PERIOD (05 R302): from OPERATOR on, with the dead-man timer on and the engine running, a period starts in
full, a warning is over, and G31.DEADMAN loses its cause; with the timer off it changes nothing.

THE DEAD-MAN TIMER WARNS AND MISSES (05 R303, R304; 04 R250): while the engine runs, it warns at its warning time and not before; at
the end of a period that no one confirmed, and not before, G31.DEADMAN has its cause, the period is over and the warning is
left as it stands. -/
def Obligations.DeadmanWarnsAndMisses : Prop :=
  (∀ (h : LineHdr) (s : State), Accepted h (txt "ACK") s → may (lineStart h (txt "ACK") s) h .operator = true →
      (s.live.dead.en = true → s.engine.running = true → LineLeaves (.ackDeadman h) h (txt "ACK") {} s fun t =>
        t.caller.dead = Deadman.mk (some (s.now + s.live.dead.period * usMin)) (s.live.dead.warn * usSec) false ∧ (t.member 10).cause = false ∧ t.live = s.live ∧ t.slices = s.slices) ∧
      (s.live.dead.en = false → LineDone (.ackDeadman h) h (txt "ACK") {} s (lineStart h (txt "ACK") s))) ∧
  (∀ (s : State) (e : Tick), s.caller.dead.periodEnd = some e → s.engine.running = true →
      (e ≤ s.now + s.caller.dead.warnUs → s.caller.dead.warning = false → DoesLogged .deadManWarning s
        { s with caller := { s.caller with dead := { s.caller.dead with warning := true } } }) ∧
      (e ≤ s.now → Next .deadManMissed s fun t => (t.member 10).cause = true ∧
        t.caller.dead = { s.caller.dead with periodEnd := none } ∧ t.live = s.live ∧ t.slices = s.slices) ∧
      (s.now + s.caller.dead.warnUs < e → Does .deadManWarning s s) ∧ (s.now < e → Does .deadManMissed s s))

/-- A UNIT'S FRAME IS TAKEN ONCE (05 R271, R273; 06 R332, R366–R369): a frame taken comes over a controller that receives, in class 2, from
a unit of the installation, with the right MAC and a counter above the last; the unit is then present and its counter stands,
so that the same frame is not taken again; the counter of a key frame is stored.

UNITS COME AND GO (05 R273; 06 R369): a unit unheard for 30 s is no longer present, one heard within them stays; storing the counters
keeps each unit's last one. -/
def Obligations.UnitFramesAreTakenOnce : Prop :=
  (∀ (s t : State) (f : UnitFrame), takeUnit f s = (t, .taken) →
      busHears s f.bus = true ∧ f.cls = 2 ∧ s.live.cu[f.unit.val] ≠ .none ∧ leBytes 4 f.mac.toNat = unitMac s.keys.unit[f.unit.val] f ∧
      (s.caller.units[f.unit.val]).counter < f.counter.toNat ∧ (t.caller.units[f.unit.val]).present = true ∧
      (t.caller.units[f.unit.val]).counter = f.counter.toNat ∧ (takeUnit f t).2 = .ignored ∧
      (f.key ≠ 0 → t.images.unitCounters[f.unit.val] = f.counter.toNat) ∧ t.live = s.live ∧ t.keys = s.keys) ∧
  (∀ (s : State) (u : Unit64),
      ((s.caller.units[u.val]).present = true → (s.caller.units[u.val]).lastHeard + 30 * usSec ≤ s.now →
        Does (.unitPresenceTimeout u) s { s with caller := { s.caller with
          units := upd s.caller.units u fun x => { x with present := false } } }) ∧
      (s.now < (s.caller.units[u.val]).lastHeard + 30 * usSec → Does (.unitPresenceTimeout u) s s) ∧
      Does .unitCounterStore s { s with images := { s.images with
        unitCounters := s.caller.units.map fun x => x.counter } })

/-- THE KEYS OF A UNIT ACT (05 R291, R292, R294, R301, R302, R305, R308; 06 R357, R358): of a frame that is taken, a status frame is
taken as it stands. A key that the unit's kind may send is taken by the node that handles it: an accept, by the lead, takes a
ringing call that the unit was called for to ACCEPTED and no other call; an acknowledge key acknowledges the channel alarms of
its group on the node that it names; and on that node a confirmation starts a new period where the dead-man timer is on, and
start and stop turn it on and off. A key that the kind may not send moves no call, no alarm and no setting. The condition
changes of its engine cycle go before an accept. -/
def Obligations.UnitKeysAct : Prop :=
  (∀ (f : UnitFrame) (m : Mates) (s : State), exec (.accept f m) s = exec (.accept f {}) (matesChange m s)) ∧
  ∀ (s w : State) (f : UnitFrame), takeUnit f s = (w, .taken) →
    (f.key = 0 → Does (.unitStatus f) s w) ∧ (5 < f.key.toNat → DoesLogged (.unitStatus f) s w) ∧
    (∀ i ∈ [((1 : Nat), Instr.accept f {}), (2, .acknowledgeKey f), (3, .deadManConfirm f), (4, .deadManStart f),
        (5, .deadManStop f)], f.key.toNat = i.1 → keyAllowed s.live.cu[f.unit.val] i.1 = false →
      Next i.2 s fun t => t.caller = w.caller ∧ t.engine = s.engine ∧ t.live = s.live) ∧
    (∀ (n : NodeNo) (g : Grp), f.key = 1 → keyAllowed s.live.cu[f.unit.val] 1 = true → isLead s = true →
      s.engine.running = true → namedCall f = some (n, g) →
      ((s.call n g).rings = true → (s.call n g).ringing.getLsbD f.unit.val = true → Next (.accept f {}) s fun t =>
        t.call n g = { s.call n g with
          st := .accepted, ringing := 0, engs := 0
          timerEnd := if s.live.call.attend = 0 then none else some (s.nodeTime + s.live.call.attend * usMin) } ∧
        (∀ (m : NodeNo) (k : Grp), (m, k) ≠ (n, g) → t.call m k = s.call m k) ∧ t.engine = s.engine ∧ t.live = s.live) ∧
      ((s.call n g).rings = false ∨ (s.call n g).ringing.getLsbD f.unit.val = false → Next (.accept f {}) s fun t =>
        t.caller.calls = s.caller.calls ∧ t.engine = s.engine ∧ t.live = s.live)) ∧
    (∀ g : Grp, f.key = 2 → keyAllowed s.live.cu[f.unit.val] 2 = true → namesThis f s = true → f.grp.toNat = g.val →
      Next (.acknowledgeKey f) s fun t => ∀ (c : Ch) (k : Cond), (t.alarm c k).st =
        if (c, k) ∈ targetConds s (.grp g) then ackedState s.cycle (s.alarm c k) else (s.alarm c k).st) ∧
    (f.key = 3 → keyAllowed s.live.cu[f.unit.val] 3 = true → namesThis f s = true → s.live.dead.en = true →
      Next (.deadManConfirm f) s fun t => t.caller.dead =
        Deadman.mk (some (s.now + s.live.dead.period * usMin)) (s.live.dead.warn * usSec) false ∧ (t.member 10).cause = false) ∧
    (f.key = 3 → keyAllowed s.live.cu[f.unit.val] 3 = true → namesThis f s = true → s.live.dead.en = false →
      Next (.deadManConfirm f) s fun t => t.caller.dead = s.caller.dead ∧ t.engine = s.engine) ∧
    (f.key = 4 → keyAllowed s.live.cu[f.unit.val] 4 = true → namesThis f s = true → Next (.deadManStart f) s fun t =>
      t.live.dead.en = true ∧ t.caller.dead =
        Deadman.mk (some (s.now + s.live.dead.period * usMin)) (s.live.dead.warn * usSec) false ∧ (t.member 10).cause = false) ∧
    (f.key = 5 → keyAllowed s.live.cu[f.unit.val] 5 = true → namesThis f s = true → Next (.deadManStop f) s fun t =>
      t.live.dead.en = false ∧ t.caller.dead = {} ∧ (t.member 10).cause = false)

/-! ## The channel slice -/

/-- A CONVERSION MAKES A CODE (02 R51, R54, R57–R61, R63, R66–R68, R73, R124; 04 R206): where no mode change waits, the code is formed in
the slice's range from this period and the one before, with its markers, and its flags follow. Outside LAMP mode, and with no
RANGE write waiting, an AUTO range steps up or down by the code once its lock-out is over. Outside LAMP mode a usable code
judges FAULT and the four thresholds, and any other judges nothing. In OFF mode nothing is converted, marked or judged. No
other slice, no setting and no alarm is touched.

A MODE CHANGE TAKES EFFECT AT A BOUNDARY (02 R42, R49, R51, R78, R902; 04 R200): at the end of the conversion in hand the slice
works in the new mode, with the use of the terminals and the values that go with it, has no code yet, begins with an open
test outside OFF, and every condition that the new mode lacks is false; no latched flag is lost, and its temperature is the
one measured. The settings of no other channel change. -/
def Obligations.ConversionsMakeCodes : Prop :=
  (∀ (s : State) (c : Ch) (r : Reading) (x y : Slice), sliceRuns s c = true → x = s.slice c → y = convert r s.now x →
      (s.sliceCfg c).staged = none → (s.sliceCfg c).mode = x.act.mode →
      (x.act.mode ≠ .off → DoesSo (.conversionEnd c r) s fun w => SliceStep c s w ∧
        (w.slice c).code = (formCode x r).1 ∧ (w.slice c).codeRange = x.range ∧
        (w.slice c).prev = some (codedMeans x.range r.next) ∧
        (w.slice c).marks = Marks.mk (formCode x r).2.1 (formCode x r).2.2 (x.grounds || x.openTest || x.newRate)
          ((r.saturated || x.prevSat) && !(formCode x r).2.1 && !(formCode x r).2.2) ∧
        ((w.slice c).flags[0]).live = y.marks.ovr ∧ ((w.slice c).flags[1]).live = y.marks.unr ∧
        ((w.slice c).flags[2]).live = y.openCause ∧ ((w.slice c).flags[8]).live = y.marks.setl ∧
        ((w.slice c).flags[9]).live = y.marks.dist ∧
        (x.act.mode ≠ .lamp →
          (y.marks.usable = false → (w.slice c).cond = x.cond) ∧
          (y.marks.usable = true →
            w.cond c .fault = CondState.judge (s.sliceCondCfg c .fault)
              ((convFlags c (onSlice c (fun _ => y) s)).slice c).faultRaw x.period s.now s.cycle (s.cond c .fault) ∧
            (∀ z : Int, y.code = some z → ∀ k ∈ thresholdConds,
              w.cond c k = CondState.judge (s.sliceCondCfg c k) (rawOnCode (onSlice c (fun _ => y) s) c k z)
                x.period s.now s.cycle (s.cond c k)) ∧
            (∀ k : Cond, k ∉ thresholdConds → k ≠ .fault → w.cond c k = s.cond c k)) ∧
          (∀ z : Int, x.rangeDue = false → x.act.range = .auto → y.code = some z → y.marks.setl = false → x.lockout ≤ 1 →
            (w.slice c).range = if 116736 ≤ z.natAbs then (rangeUp x.act.mode x.range).getD x.range
              else if z.natAbs ≤ 9830 then (rangeDown x.act.mode x.range).getD x.range else x.range))) ∧
      (x.act.mode = .off → DoesSo (.conversionEnd c r) s fun w => SliceStep c s w ∧
        (w.slice c).code = x.code ∧ (w.slice c).marks = x.marks ∧ (w.slice c).cond = x.cond)) ∧
  (∀ (s : State) (c : Ch) (r : Reading) (cfg : ChCfg), sliceRuns s c = true → cfg = s.sliceCfg c →
      (cfg.staged ≠ none ∨ cfg.mode ≠ (s.slice c).act.mode) →
      DoesSo (.conversionEnd c r) s fun w => SliceStep c { s with live := w.live, dies := w.dies } w ∧
        w.sliceCfg c = { cfg with set := chCheck cfg, staged := none } ∧ (∀ d : Ch, d ≠ c → w.sliceCfg d = s.sliceCfg d) ∧
        (w.slice c).act = activeOf (w.sliceCfg c) (rateInForce s c) ∧ (w.slice c).front = frontOf cfg.mode ∧
        (w.slice c).code = none ∧ (w.slice c).value = none ∧
        (w.slice c).openTest = decide (cfg.mode ≠ .off) ∧ (w.slice c).tj = r.tj ∧
        (∀ k : Cond, condExists k cfg.mode = false → (w.cond c k).raw = false ∧ (w.cond c k).on = false ∧
          (w.cond c k).timer = 0) ∧
        (∀ b : Fin 12, ((s.slice c).flags[b.val]).latched = true → ((w.slice c).flags[b.val]).latched = true))

/-- A SLICE'S TIMERS ACT WHEN THEY HAVE COME (02 R75, R82, R85; 04 R207, R208, R219, R262): an update marks a delay as complete only
where it has run for the STEEP or UNSTEEP in force. STEEP_DELAY_EXPIRY at a usable update that marked it makes a raw-true
condition true, sets its history latch and clears its acknowledge bit; UNSTEEP_DELAY_EXPIRY makes a raw-false one false;
without the mark, or at an update that could not be used, neither does anything. An open channel is tested again after 10 s
and not before; and the current limiter of PASV goes from a clamp, which each new rise begins anew, through its fold-back at
2 ms, which is a miswiring, to a retry at 250 ms and the check 2 ms after that. -/
def Obligations.SliceTimersAct : Prop :=
  (∀ (cfg : CondCfg) (raw : Bool) (dt now cycle : Nat) (y : CondState), (CondState.judge cfg raw dt now cycle y).due = true →
    cfg.delayUs raw ≤ (CondState.judge cfg raw dt now cycle y).timer) ∧
  ∀ (s : State) (c : Ch) (x : Slice), x = s.slice c →
    (∀ k : Cond,
      ((s.cond c k).due = true → x.judges k = true →
        ((s.cond c k).raw = true → (s.cond c k).on = false → Does (.steepDelayExpiry c k) s (onCond c k (fun y => { y with
          on := true, timer := 0, due := false, hist := true, ack := false, since := s.now, occ := y.occ + 1
          roseIn := s.cycle }) s)) ∧
        ((s.cond c k).raw = false → (s.cond c k).on = true →
          Does (.unsteepDelayExpiry c k) s (onCond c k (fun y => { y with on := false, timer := 0, due := false }) s))) ∧
      ((s.cond c k).due = false ∨ x.judges k = false →
        Does (.steepDelayExpiry c k) s s ∧ Does (.unsteepDelayExpiry c k) s s)) ∧
    (sliceRuns s c = true → x.openCause = true → x.act.mode ∈ [Mode.pasv, .loop, .volt, .lamp] →
      x.openTestAt + 10 * usSec ≤ s.now → Does (.openTestRepeat c) s (onSlice c (fun y => { y with openTest := true }) s)) ∧
    (s.now < x.openTestAt + 10 * usSec → Does (.openTestRepeat c) s s) ∧
    (sliceRuns s c = true → x.act.mode = .pasv → ∀ (mA : Rat) (t : Tick),
      (30 < ratAbs mA → x.limiter = .idle ∨ x.limiter = .clamped t →
        Does (.limiterClamp c mA) s (onSlice c (fun y => { y with limiter := .clamped s.now }) s)) ∧
      (x.limiter = .clamped t → t + 2000 ≤ s.now →
        Does (.foldBack c true) s (onChFlag c 3 (Flag.drive true)
          (onSlice c (fun y => { y with misw := true, limiter := .folded s.now }) s)) ∧
        Does (.foldBack c false) s (onSlice c (fun y => { y with limiter := .idle }) s)) ∧
      (x.limiter = .folded t → t + 250000 ≤ s.now →
        Does (.miswRetry c) s (onSlice c (fun y => { y with limiter := .retrying s.now }) s)) ∧
      (x.limiter = .retrying t → t + 2000 ≤ s.now →
        (256 / 10 < ratAbs mA → Does (.miswRetryCheck c mA) s (onChFlag c 3 (Flag.drive true)
          (onSlice c (fun y => { y with misw := true, limiter := .folded s.now }) s))) ∧
        (ratAbs mA ≤ 256 / 10 → Does (.miswRetryCheck c mA) s (onChFlag c 3 (Flag.drive false)
          (onSlice c (fun y => { y with misw := false, limiter := .idle }) s)))))

/-- THE LOOP SUPPLY KEEPS ITS HEADROOM AND ITS HEAT (02 R89–R91, R93, R96–R101, R130, R133; log 147 for the switch loss): with the supply
and the loop that the command carries, a running supply takes each 1 ms, and no sooner, the smallest ratio at or above FLOOR
that leaves 1.0 V, or the supply itself, and PIN follows; below 0.5 V a running or starting supply steps up at once; while it
starts it steps up each 1 ms until 1.0 V is there or the top is reached; COMP follows each time. At 150 °C a channel has THERM
and a loop supply is off, with PIN and COMP off (log 150); at 140 °C it is let go, and a supply that the open test does not
hold starts again. -/
def Obligations.LoopSupplyKeepsHeadroom : Prop :=
  ∀ (s : State) (c : Ch),
    (∀ (l : LoopLoad) (q : Ratio) (t : Tick), loopRuns s c = true →
      ((s.slice c).rss = .running q t → t + 1000 ≤ s.now →
        DoesSo (.rssSelection c l) s fun w => SliceStep c (setVsup l.vsupMv s) w ∧ ∃ p : Ratio, (w.slice c).rss = .running p s.now ∧
          ratioIdx (s.sliceCfg c).floor ≤ ratioIdx p ∧ (1000 ≤ headroom l p ∨ p = .one) ∧
          (∀ a : Ratio, ratioIdx (s.sliceCfg c).floor ≤ ratioIdx a → ratioIdx a < ratioIdx p → headroom l a < 1000) ∧
          ((w.slice c).flags[6]).live = decide (headroom l .one < 1000) ∧
          ((w.slice c).flags[5]).live = (w.slice c).pinCause ∧
          ((w.slice c).pinCause = true ↔ ∃ a : Ratio, ratioIdx a < ratioIdx (s.sliceCfg c).floor ∧ 1000 ≤ headroom l a)) ∧
      ((s.slice c).rss = .running q t → s.now < t + 1000 → Does (.rssSelection c l) s s) ∧
      ((s.slice c).rss = .running q t → DoesSo (.headroomLow c l) s fun w => SliceStep c (setVsup l.vsupMv s) w ∧
        (w.slice c).rss = .running (if headroom l q < 500 then (ratioUp q).getD q else q) t ∧
        ((w.slice c).flags[6]).live = decide (headroom l .one < 1000)) ∧
      ((s.slice c).rss = .starting q t → DoesSo (.headroomLow c l) s fun w => SliceStep c (setVsup l.vsupMv s) w ∧
        (∃ u, (w.slice c).rss = .starting (if headroom l q < 500 then (ratioUp q).getD q else q) u) ∧
        ((w.slice c).flags[6]).live = decide (headroom l .one < 1000)) ∧
      ((s.slice c).rss = .starting q t → t + 1000 ≤ s.now →
        DoesSo (.rssStartStep c l) s fun w => SliceStep c (setVsup l.vsupMv s) w ∧ ∃ p : Ratio,
          p = (if 1000 ≤ headroom l q then q else (ratioUp q).getD q) ∧
          (w.slice c).rss = (if 1000 ≤ headroom l p ∨ p = .one then .running p s.now else .starting p s.now) ∧
          ((w.slice c).flags[6]).live = decide (headroom l .one < 1000)) ∧
      ((s.slice c).rss = .starting q t → s.now < t + 1000 → Does (.rssStartStep c l) s s)) ∧
    (∀ tj : Int,
      (chFitted s.ident.part c = true → 150 ≤ tj → DoesSo (.thermalFoldBack c tj) s fun w => SliceStep c s w ∧
        (w.slice c).thermCause = true ∧ (w.slice c).tj = tj ∧ ((w.slice c).flags[4]).live = true ∧
        ((s.slice c).act.mode = .loop → (w.slice c).rss = .off ∧ ((w.slice c).flags[5]).live = false ∧
          ((w.slice c).flags[6]).live = false)) ∧
      (tj < 150 → Does (.thermalFoldBack c tj) s s) ∧
      (chFitted s.ident.part c = true → (s.slice c).thermCause = true → tj ≤ 140 →
        DoesSo (.thermalRecovery c tj) s fun w => SliceStep c s w ∧ (w.slice c).thermCause = false ∧
          ((w.slice c).flags[4]).live = false ∧ (w.slice c).rss =
            if (s.slice c).act.mode = .loop ∧ (s.slice c).rss = .off ∧ (s.slice c).openTest = false then
              .starting (s.sliceCfg c).floor s.now else (s.slice c).rss) ∧
      (140 < tj → Does (.thermalRecovery c tj) s s))

/-- THE ESPRESSO COMPARATORS TRIP AND RELEASE (02 R88, R106, R110–R113, R115; 03 R164, R166, R168): a comparator whose quantity, as the
limiter lets it through, is past its threshold for 800 ns activates its side, and with it the trip wire outside LAMP mode, for
TRIPHI and inside an open gate; one past it for less than 200 ns, and one not past it, activates nothing; one that has come
back by two steps releases. The TRIPLO comparator of an AC lamp is not activated so. While a comparator's threshold settles it
is held; at the end of the settling it shows what it finds there. A comparator that is held or off does nothing before. Only
its own slice changes. -/
def Obligations.ComparatorsTrip : Prop :=
  ∀ (s : State) (c : Ch) (q q' : Rat) (p : Trip) (x : Slice), x = s.slice c → p = x.trip → q' = limited x.limiter q →
    (∀ (side : Side) (ns : Nat), ns < 200 ∨ comparatorRuns s c side = false → Does (.comparatorActivation c side q ns) s s) ∧
    (∀ side : Side, comparatorRuns s c side = false → Does (.comparatorRelease c side q) s s) ∧
    (∀ (ns : Nat) (t : Rat), comparatorRuns s c .hi = true → p.dacHi = some t →
      (800 ≤ ns → t < q' → DoesSo (.comparatorActivation c .hi q ns) s fun w => SliceStep c s w ∧
        (w.slice c).trip.hiQ = true ∧ (w.slice c).wire = true ∧ ((w.slice c).flags[10]).live = true) ∧
      (q' ≤ t → Does (.comparatorActivation c .hi q ns) s s) ∧
      (q' ≤ t - twoSteps x → DoesSo (.comparatorRelease c .hi q) s fun w => SliceStep c s w ∧
        (w.slice c).trip.hiQ = false ∧ (w.slice c).trip.loQ = p.loQ) ∧
      (t - twoSteps x < q' → Does (.comparatorRelease c .hi q) s s)) ∧
    (∀ (ns : Nat) (t : Rat), comparatorRuns s c .lo = true → p.dacLo = some t →
      (x.ac = true → Does (.comparatorActivation c .lo q ns) s s) ∧
      (x.ac = false → 800 ≤ ns → q' < t → DoesSo (.comparatorActivation c .lo q ns) s fun w => SliceStep c s w ∧
        (w.slice c).trip.loQ = true ∧ (x.act.mode ≠ .lamp ∨ x.gateOpen = true →
          (w.slice c).wire = true ∧ ((w.slice c).flags[10]).live = true)) ∧
      (x.ac = false → t ≤ q' → DoesSo (.comparatorActivation c .lo q ns) s fun w => SliceStep c s w ∧
        (w.slice c).wire = x.wire ∧ (w.slice c).trip.loQ = p.loQ) ∧
      (t + twoSteps x ≤ q' → DoesSo (.comparatorRelease c .lo q) s fun w => SliceStep c s w ∧
        (w.slice c).trip.loQ = false ∧ (w.slice c).trip.hiQ = p.hiQ) ∧
      (q' < t + twoSteps x → DoesSo (.comparatorRelease c .lo q) s fun w => SliceStep c s w ∧
        (w.slice c).wire = x.wire ∧ (w.slice c).trip.loQ = p.loQ)) ∧
    (sliceRuns s c = true → p.hiHold = true ∨ p.loHold = true → DoesSo (.dacSettleEnd c q) s fun w => SliceStep c s w ∧
      (w.slice c).trip.hiHold = false ∧ (w.slice c).trip.loHold = false ∧
      (p.hiHold = false → (w.slice c).trip.hiQ = p.hiQ) ∧ (p.loHold = false → (w.slice c).trip.loQ = p.loQ) ∧
      (p.hiHold = true → (p.dacHi = none → (w.slice c).trip.hiQ = false) ∧
        ∀ t, p.dacHi = some t → (w.slice c).trip.hiQ = hiFinds t (twoSteps x) q' p.hiQ) ∧
      (p.loHold = true → (p.dacLo = none → (w.slice c).trip.loQ = false) ∧
        ∀ t, p.dacLo = some t → (w.slice c).trip.loQ = if x.ac then p.loQ else loFinds t (twoSteps x) q' p.loQ)) ∧
    (p.hiHold = false → p.loHold = false → Does (.dacSettleEnd c q) s s)

/-! ## Lamp proving -/

/-- EDGES LOCK A CHARACTER (03 R151, R154–R158, R904): an edge acts only on a usable update that shows its crossing and the stay on its
side. On such an on-edge, a seeking channel takes a candidate where the dark time before it reaches the longest off-phase
less its on-band; a confirming one counts the predicted on-start met in its on-band, and locks at the last; one out of its
band is judged as a candidate anew; a locked one in its band stays locked, with that edge as its anchor, and one in neither
this flash's band nor the next one's unlocks and is judged as a candidate. Character F stays as it is. An off-edge starts the
dark time and leaves the lock. An on-band of the confirmation that ends without its edge takes the channel back to SEEK, and
one that ends in LOCKED leaves it locked; a rise that crossed in the band and is still to be judged goes first. -/
def Obligations.EdgesLockCharacters : Prop :=
  ∀ (s : State) (c : Ch) (at_ : Tick) (l : Lamp) (cfg : ChCfg), lampRuns s c = true → l = (s.slice c).lamp →
    cfg = s.sliceCfg c →
    (l.fresh = true → l.crossed (s.slice c).ac true at_ = true → DoesSo (.onEdge c at_) s fun w => SliceStep c s w ∧
      (w.slice c).lamp.darkSince = none ∧ (w.slice c).lamp.edgeSince = l.clockAt at_ ∧ (w.slice c).lamp.base = l.base ∧
      (l.lock = .steady → (w.slice c).lamp.lock = .steady) ∧
      (l.lock = .seek → (w.slice c).lamp.lock =
        if ∃ t, l.darkSince = some t ∧ t + candidateDark cfg.char cfg.edgetol ≤ at_ then .confirm else .seek) ∧
      (l.lock = .confirm → (w.slice c).lamp.lock =
        if inBand cfg.char l.timing.edgetol l.flash at_ = true then (if l.flash.toConfirm ≤ 1 then .locked else .confirm)
        else if ∃ t, l.darkSince = some t ∧ t + candidateDark cfg.char cfg.edgetol ≤ at_ then .confirm else .seek) ∧
      (l.lock = .locked → inBand cfg.char l.timing.edgetol l.flash at_ = true →
        (w.slice c).lamp.lock = .locked ∧ (w.slice c).lamp.flash = { l.flash with edge := some at_, offSet := true }) ∧
      (l.lock = .locked → inBand cfg.char l.timing.edgetol l.flash at_ = false →
        inBand cfg.char cfg.edgetol (l.flash.after cfg.char) at_ = false → (w.slice c).lamp.lock =
          if ∃ t, l.darkSince = some t ∧ t + candidateDark cfg.char cfg.edgetol ≤ at_ then .confirm else .seek)) ∧
    (l.fresh = true → l.crossed (s.slice c).ac false at_ = true → Does (.offEdge c at_) s
      (onLamp c (fun x => { x with darkSince := some at_, side := { x.side with judged := true } }) s)) ∧
    (l.fresh = false ∨ l.crossed (s.slice c).ac true at_ = false → Does (.onEdge c at_) s s) ∧
    (l.fresh = false ∨ l.crossed (s.slice c).ac false at_ = false → Does (.offEdge c at_) s s) ∧
    (∀ e : Tick, cfg.char ≠ .f → e = l.flash.due + onBand cfg.char l.timing.edgetol l.flash.idx →
      (e ≤ s.now → l.risePending e = false → DoesSo (.onBandEnd c) s fun w => SliceStep c s w ∧
        (w.slice c).lamp.lock = if l.lock = .confirm ∧ l.flash.edge = none then .seek else l.lock) ∧
      (s.now < e ∨ l.risePending e = true → Does (.onBandEnd c) s s))

/-- WINDOWS PROVE A LOCKED LAMP (03 R145, R159, R160, R172, R180, R183, R184): in LOCKED the expected-on window opens at its time and
lasts to the predicted off-start less its off-band; at its close DARK and DIM, where their EN is ON, end raw where every
value of it held clear of their thresholds, and the baseline learns from it unless LEARN is not ON, none of its codes was
usable, too many were not, or DARK or DIM stood in it. The expected-off window opens and closes at its own times; a lamp lit
in it for longer than ONLATE is STUCK. Out of LOCKED, clocks of two periods judge CHAR, DARK and STUCK. These clocks count
the usable updates alone, and while the update is not usable they judge nothing.

HALF-CYCLES AND THE BASELINE (03 R141–R145, R172–R176): on an AC lamp a half-cycle ends at a zero crossing, or one tracked
half-period after its begin where none came within 1.25 of them, with the RMS of its usable codes as the lamp value; codes
formed after its end belong to the next one. Four crossings measure the half-period, and ACRANGE stands while it is not one
of 16 to 400 Hz. A lamp of character F learns once a second. -/
def Obligations.WindowsProveLamps : Prop :=
  (∀ (s : State) (c : Ch) (x : Slice) (cfg : ChCfg), flashRuns s c = true → x = s.slice c → cfg = s.sliceCfg c →
      (∀ q : Rat, x.lamp.lock = .locked → x.lamp.flash.opened = false → openTime cfg x ≤ s.now →
        DoesSo (.expectedOnWindowOpen c q) s fun w => SliceStep c s w ∧ (w.slice c).lamp.lock = .locked ∧
          ∃ o : OnWindow, (w.slice c).lamp.onWin = some o ∧ o.opens = openTime cfg x ∧ o.codes = 0 ∧ o.usable = 0 ∧
            o.closes = x.lamp.flash.anchor + onLen cfg.char x.lamp.flash.idx -
              offBand cfg.char x.lamp.timing.edgetol x.lamp.flash.idx) ∧
      (∀ q : Rat, s.now < openTime cfg x → Does (.expectedOnWindowOpen c q) s s) ∧
      (∀ o : OnWindow, x.lamp.onWin = some o →
        (o.closes ≤ s.now → DoesSo (.expectedOnWindowClose c) s fun w => SliceStep c s w ∧ (w.slice c).lamp.onWin = none ∧
          (0 < o.usable → o.darkHeld = true → (s.sliceCondCfg c .dark).en = true → (w.cond c .dark).raw = false) ∧
          (0 < o.usable → o.dimHeld = true → (s.sliceCondCfg c .dim).en = true → (w.cond c .dim).raw = false) ∧
          (cfg.learn ≠ .on ∨ o.usable = 0 ∨ o.darkOrDim = true ∨ darkOrDim s c = true ∨ o.codes < 2 * o.badCodes →
            (w.slice c).lamp.base = x.lamp.base) ∧
          (cfg.learn = .on → 0 < o.usable → o.darkOrDim = false → darkOrDim s c = false → 2 * o.badCodes ≤ o.codes →
            (w.slice c).lamp.base = if x.lamp.base = 0 then o.sum / (o.usable : Rat) else x.lamp.base +
              (o.sum / (o.usable : Rat) - x.lamp.base) * (((o.closes - o.opens : Nat) : Rat) / 1000000) / 3600)) ∧
        (s.now < o.closes → Does (.expectedOnWindowClose c) s s)) ∧
      (∀ a b : Tick, x.lamp.offDue = some (a, b) → x.lamp.lock = .locked → a ≤ s.now → Does (.expectedOffWindowOpen c) s
        (onLamp c (fun l => { l with offDue := none, offWin := some { opens := a, closes := b } }) s)) ∧
      (∀ o : OffWindow, x.lamp.offWin = some o →
        (o.closes ≤ s.now → DoesSo (.expectedOffWindowClose c) s fun w => SliceStep c s w ∧ (w.slice c).lamp.offWin = none ∧
          (0 < o.usable → o.low = true → (s.sliceCondCfg c .stuck).en = true → (w.cond c .stuck).raw = false)) ∧
        (s.now < o.closes → Does (.expectedOffWindowClose c) s s) ∧
        (∀ t : Tick, o.litSince = some t →
          (x.lamp.fresh = true → t + stuckOnlate x < x.lamp.clock → (s.sliceCondCfg c .stuck).en = true →
            DoesSo (.stuckOnlateExpiry c) s fun w => SliceStep c s w ∧ (w.cond c .stuck).raw = true) ∧
          (x.lamp.fresh = false ∨ x.lamp.clock ≤ t + stuckOnlate x → Does (.stuckOnlateExpiry c) s s))) ∧
      (x.lamp.fresh = true → x.lamp.lock = .seek ∨ x.lamp.lock = .confirm →
        DoesSo (.twoPeriodExpiry c) s fun w => SliceStep c s w ∧ (w.slice c).lamp = x.lamp ∧
          (∀ t : Tick, x.lamp.unlockedSince = some t → t + 2 * periodLen cfg.char < x.lamp.clock →
            (s.sliceCondCfg c .char).en = true → (w.cond c .char).raw = true) ∧
          (x.lamp.edgeSince + 2 * periodLen cfg.char ≤ x.lamp.clock → (s.sliceCondCfg c .dark).en = true →
            (w.cond c .dark).raw = true) ∧
          (x.lamp.clock < x.lamp.edgeSince + 2 * periodLen cfg.char → (w.cond c .dark) = s.cond c .dark) ∧
          (∀ t : Tick, x.lamp.litSince = some t → t + 2 * periodLen cfg.char ≤ x.lamp.clock →
            (s.sliceCondCfg c .stuck).en = true → (w.cond c .stuck).raw = true)) ∧
      (x.lamp.fresh = false ∨ x.lamp.lock = .locked ∨ x.lamp.lock = .steady → Does (.twoPeriodExpiry c) s s)) ∧
  (∀ (s : State) (c : Ch) (l : Lamp) (us : Tick → List Rat), lampRuns s c = true → l = (s.slice c).lamp →
      us = (fun e => (l.half.codes.filter fun x => decide (x.1 ≤ e) && x.2.2).map fun x => x.2.1) →
      (∀ (at_ : Tick) (peak : Rat), (s.slice c).ac = true → at_ ≤ s.now → l.half.began.getD 0 ≤ at_ →
        DoesSo (.zeroCrossing c at_ peak) s fun w => SliceStep c s w ∧ (w.slice c).lamp.half.began = some at_ ∧
          (w.slice c).lamp.half.codes = (l.half.codes.filter fun x => decide (at_ < x.1)) ∧
          (w.slice c).lamp.half.crossings = (at_ :: l.half.crossings).take 4 ∧
          (w.slice c).lamp.value = (if us at_ = [] then l.value
            else some (rmsOf (((us at_).map fun q => q * q).sum) (us at_).length)) ∧
          (∀ a b d : Tick, ∀ r : List Tick, l.half.crossings = a :: b :: d :: r → ∀ h : Rat, h = ((at_ : Rat) - (d : Rat)) / 3 →
            ((w.slice c).flags[11]).live = !(decide (1250 ≤ h) && decide (h ≤ 31250)) ∧
            (1250 ≤ h → h ≤ 31250 → (w.slice c).lamp.half.halfUs = some h))) ∧
      (∀ (t e : Tick) (peak : Rat), (s.slice c).ac = true → l.half.began = some t → e = t + (roundAway l.trackedHalf).toNat →
        ((t : Rat) + l.trackedHalf * 5 / 4 ≤ (s.now : Rat) → DoesSo (.halfCycleTimeout c peak) s fun w =>
          SliceStep c s w ∧ (w.slice c).lamp.half.began = some e ∧
          (w.slice c).lamp.half.codes = (l.half.codes.filter fun x => decide (e < x.1)) ∧
          (w.slice c).lamp.half.crossings = l.half.crossings ∧
          (w.slice c).lamp.value = (if us e = [] then l.value
            else some (rmsOf (((us e).map fun q => q * q).sum) (us e).length))) ∧
        ((s.now : Rat) < (t : Rat) + l.trackedHalf * 5 / 4 → Does (.halfCycleTimeout c peak) s s)) ∧
      ((s.sliceCfg c).char = .f → l.second.opens + usSec ≤ s.now → DoesSo (.baselineUpdate c) s fun w => SliceStep c s w ∧
        (w.slice c).lamp.second.opens = l.second.opens + usSec ∧ (w.slice c).lamp.second.usable = 0 ∧
        ((s.sliceCfg c).learn ≠ .on ∨ l.second.usable = 0 ∨ darkOrDim s c = true → (w.slice c).lamp.base = l.base) ∧
        ((s.sliceCfg c).learn = .on → 0 < l.second.usable → l.second.darkOrDim = false → darkOrDim s c = false →
          2 * l.second.badCodes ≤ l.second.codes → l.base ≠ 0 → (w.slice c).lamp.base =
            l.base + (l.second.sum / (l.second.usable : Rat) - l.base) / 3600)) ∧
      (s.now < l.second.opens + usSec → Does (.baselineUpdate c) s s))

/-! ## The alarm engine -/

/-- A DIE'S FRAME MOVES ITS ALARMS (01 R18, R19, R22; 04 R215, R217, R247, R257): a frame whose CRC holds, of a die heard by the
running engine, moves the alarms of that die's channels by what their slices hold: a condition newly true makes a NORMAL alarm
ACTIVE_UNACK, or STEEPING while its group's delay runs, and a RETURN_UNACK one ACTIVE_UNACK again; one newly false makes
ACTIVE_UNACK RETURN_UNACK and ACTIVE_ACK NORMAL. The history latches read are cleared. While the engine does not run, a frame
is noted and no more; a frame of a die that does not send or whose link is down does nothing. Said of alarms whose group has
no INHIB and which are not INHIBITED. A frame that fails its CRC leaves what else falls in its engine cycle; one that holds is
taken with it. -/
def Obligations.DieFramesMoveAlarms : Prop :=
  ∀ (s : State) (d : Die),
    (∀ m : Mates, Does (.dieLinkFrame d false m) s (matesChange m s) ∧
      Does (.dieLinkFrame d true m) s (condChanges (d :: m.dies) m.delays s)) ∧
    Does (.dieLinkFrame d false {}) s s ∧
    (dieSends s d = false ∨ (s.dies[d.val]).valid = false → Does (.dieLinkFrame d true {}) s s) ∧
    (dieSends s d = true → (s.dies[d.val]).valid = true → s.engine.running = false →
      Does (.dieLinkFrame d true {}) s (noteFrame d s)) ∧
    (dieHeard s d = true → DoesSo (.dieLinkFrame d true {}) s fun w => w.live = s.live ∧ w.watch.lead = s.watch.lead ∧
      (w.dies[d.val]).lastFrame = s.now ∧
      (∀ (c : Ch) (k : Cond), w.cond c k =
        if dieOf c = d ∧ chFitted s.ident.part c = true then { s.cond c k with hist := false } else s.cond c k) ∧
      (∀ (c : Ch) (k : Cond) (x : CondState) (a : Alarm), dieOf c = d → chFitted s.ident.part c = true →
        x = s.cond c k → a = s.alarm c k → (s.grpCfg (s.chCfg c).grp).inhib = none → a.st ≠ .inhibited →
        ((a.st = .normal ∨ a.st = .returnUnack) → x.on = true → (x.hist = true ∨ a.on = false) →
          (w.alarm c k).st = if a.st = .normal ∧ groupDelay s c ≠ 0 then .steeping else .activeUnack) ∧
        (a.st = .activeUnack → x.on = false → (x.hist = true ∨ a.on = true) → (w.alarm c k).st = .returnUnack) ∧
        (a.st = .activeAck → x.on = false → a.on = true → x.hist = false → steepRuns s c k = false →
          (w.alarm c k).st = .normal) ∧
        (x.on = a.on → x.hist = false → steepRuns s c k = a.steep → w.alarm c k = a)) ∧
      (∀ (c : Ch) (k : Cond), dieOf c ≠ d → (s.grpCfg (s.chCfg c).grp).inhib = none → (s.alarm c k).st ≠ .inhibited →
        w.alarm c k = s.alarm c k))

/-- A DIE LINK FAILS AND COMES BACK (01 R18–R20, R900; 04 R221, R250): a die that sends, and of which no valid frame has come for 1 ms,
fails outside DEEP, and no sooner: its FELINK is true, what was seen of its slices and their settings is held, and the latest
acknowledge-bit write of each condition is kept. When it is back its link is valid and FELINK ends. While the link is up a
slice takes the writes in their order, and drops a set that names an earlier occurrence; a write frame that fails its CRC is
sent again.

THE ENGINE'S TIMERS END (01 R19, R25; 04 R215–R217, R247, R250, R260): with the engine running and the die's link up, a group delay
that has run out makes its alarm ACTIVE_UNACK where its condition still stands, and one that has not leaves it; said of alarms
whose group has no INHIB, and no other of them that is not INHIBITED changes. A shelving that has run out takes its alarm
where its condition asks, after the condition changes of its engine cycle, and no other alarm; an event cause of G31 ends
after its second; and lines held through a core reset are let go after 2 s. -/
def Obligations.LinksFailAndTimersEnd : Prop :=
  (∀ (s : State) (d : Die),
      (dieSends s d = true → (s.dies[d.val]).valid = true → (s.dies[d.val]).lastFrame + 1000 ≤ s.now → s.power.mode ≠ .deep →
        DoesSo (.dieLinkFault d) s fun w => (w.dies[d.val]).valid = false ∧ (w.dies[d.val]).held = some (holdOf d s) ∧
          (w.member (felink d)).cause = true ∧ (w.dies[d.val]).queue = latestWrites (s.dies[d.val]).queue ∧
          w.slices = s.slices ∧ w.engine.alarms = s.engine.alarms ∧ w.live = s.live) ∧
      (s.now < (s.dies[d.val]).lastFrame + 1000 → Does (.dieLinkFault d) s s) ∧
      ((s.dies[d.val]).valid = true →
        Does (.dieLinkRestored d) s s ∧ Does (.ackBitWrite d false) s s ∧
        (∀ (a : AckWrite) (r : List AckWrite), (s.dies[d.val]).queue = a :: r → DoesSo (.ackBitWrite d true) s fun w =>
          (w.dies[d.val]).queue = r ∧ w.engine = s.engine ∧
          (w.cond a.c a.k).ack = (if a.value = true ∧ (s.cond a.c a.k).occ ≠ a.occ then (s.cond a.c a.k).ack else a.value) ∧
          (∀ (c : Ch) (k : Cond), (c, k) ≠ (a.c, a.k) → w.cond c k = s.cond c k))) ∧
      ((s.dies[d.val]).valid = false → Does (.dieLinkFault d) s s ∧ (∀ ok : Bool, Does (.ackBitWrite d ok) s s) ∧
        (dieSends s d = true → DoesSo (.dieLinkRestored d) s fun w => (w.dies[d.val]).valid = true ∧
          (w.dies[d.val]).lastFrame = s.now ∧ (w.member (felink d)).cause = false))) ∧
  (∀ (s : State) (c : Ch) (k : Cond) (m : Member) (e : Tick),
      (∀ x : Mates, Does (.groupDelayExpiry c k x) s (condChanges x.dies ((c, k) :: x.delays) s) ∧
        exec (.shelvingExpiry c k x) s = exec (.shelvingExpiry c k {}) (matesChange x s)) ∧
      (s.engine.running = true → linkUp s c = true →
        ((s.alarm c k).st = .steeping → (s.alarm c k).delayEnd = some e → (s.alarm c k).on = true →
          (s.grpCfg (s.chCfg c).grp).inhib = none → DoesSo (.groupDelayExpiry c k {}) s fun w => EngineStep s w ∧
            (w.alarm c k).st = (if e ≤ s.now then .activeUnack else .steeping) ∧
            (∀ (d : Ch) (j : Cond), (d, j) ≠ (c, k) → (s.grpCfg (s.chCfg d).grp).inhib = none → (s.alarm d j).st ≠ .inhibited →
              w.alarm d j = s.alarm d j)) ∧
        ((s.alarm c k).st = .shelved → (s.alarm c k).shelfEnd = some e →
          (e ≤ s.nodeTime → DoesSo (.shelvingExpiry c k {}) s fun w => EngineStep s w ∧
            (w.alarm c k).st = unshelvedState s c k ∧
            (∀ (d : Ch) (j : Cond), (d, j) ≠ (c, k) → w.alarm d j = s.alarm d j)) ∧
          (s.nodeTime < e → Does (.shelvingExpiry c k {}) s s))) ∧
      ((s.member m).eventEnd = some e →
        (e ≤ s.now → DoesSo (.g31EventExpiry m) s fun w => EngineStep s w ∧ (w.member m).cause = false ∧
          (w.member m).eventEnd = none ∧ w.engine.alarms = s.engine.alarms) ∧
        (s.now < e → Does (.g31EventExpiry m) s s)) ∧
      (∀ h : LineHold, s.engine.coreAt = some e → s.engine.hold = some h → s.engine.running = false →
        s.power.mode ≠ .deep →
        (e + 2 * usSec ≤ s.now → Does .lineHoldExpiry s { s with engine := { s.engine with hold := none } }) ∧
        (s.now < e + 2 * usSec → Does .lineHoldExpiry s s)))

/-- THE ENGINE REBUILDS FROM THE SLICES (01 R19, R22, R26, R41; 04 R222; 15 R792 steps 10 and 11; log 151): once its bank is zeroed, in step
10 of a start-up or after a core reset, the engine runs, no line is held, and the alarm of every condition of a die whose link
is up and whose group has no INHIB stands as the slice's condition and acknowledge bit and its EN setting give it; the history
latches of these slices are read, and one that was set in this very engine cycle stays. The alarms and latches of a die whose
link is down stay. In any other case the event does nothing. -/
def Obligations.EngineRebuildsFromSlices : Prop :=
  ∀ (s : State) (same : Bool),
    (s.engine.running = false → s.power.mode ≠ .deep → (s.bank .engine).st = .on →
      (s.rst.phase = .rebuilding ∨ (s.rst.phase = .up ∧ s.engine.coreAt ≠ none)) → DoesSo (.engineRebuild same) s fun w =>
        w.engine.running = true ∧ w.engine.hold = none ∧ w.live = s.live ∧
        (s.rst.phase = .rebuilding → w.rst.phase = .booting) ∧ (s.rst.phase = .up → w.rst.phase = .up) ∧
        ∀ (c : Ch) (k : Cond), chFitted s.ident.part c = true →
          (linkUp s c = true → (w.cond c k).hist = ((s.cond c k).hist && histStays same s (s.cond c k)) ∧
            ((s.grpCfg (s.chCfg c).grp).inhib = none → (w.alarm c k).st = if (s.condCfg c k).en = false then .disabled
              else if (s.cond c k).on = true then (if (s.cond c k).ack = true then .activeAck else .activeUnack)
              else if (s.cond c k).ack = false then .returnUnack
              else if steepRuns s c k = true then .steeping else .normal)) ∧
          (linkUp s c = false → w.cond c k = s.cond c k ∧ (w.alarm c k).st = (s.alarm c k).st)) ∧
    (s.engine.running = true ∨ s.power.mode = .deep ∨ (s.bank .engine).st ≠ .on ∨
      (s.rst.phase ≠ .rebuilding ∧ (s.rst.phase ≠ .up ∨ s.engine.coreAt = none)) → Does (.engineRebuild same) s s)

/-! ## Memory, clocks, resets and power -/

/-- A MARCH TEST RUNS AND REPORTS (14 R752, R758, R759, R763–R765, R770): from ENGINEER on, with no test and no LOG CLEAR under way, TEST
MARCH takes a bank that is on into its test and its reply waits; a destructive test is only of LINK, STAGE and IMAGE, whose
owner it holds. A test that finds a fault ends there, one that finds none once its cycles have gone and no sooner: the bank is
on, its FAULT cause follows the result, the result's line is kept and is the reply, and a destructive test lets the owner
go.

THE CHECK BITS CORRECT ONE BIT AND FIND TWO (14 R742–R745; log 159 for the code): a word as it is written reads as its data; with any
one bit of its data or its check bits changed it reads corrected, as the data written; with any two changed it reads as a
double-bit error.

BANKS CORRECT, FAIL AND ARE ZEROED (14 R743–R746, R750, R751, R770; 15 R792): in a bank that can be read a read that finds a
single-bit error leaves the corrected word, is counted, to 65,535, and recorded at most once a second; a double-bit error of
any bank but ENGINE sets that bank's FAULT and MEMFAULT and the bank is zeroed, INTERP's closing the host port; a read that
finds no such error is none. A bank that has been zeroed, a word a cycle, is on, and the last one of step 6 lets the
configuration be loaded. -/
def Obligations.BanksAreTestedAndFail : Prop :=
  ((∀ (h : LineHdr) (s : State) (b : Bank) (d : Bool) (cmd : Instr) (u : State),
      cmd = (if d then .testMarchDestructive h (some b) else .testMarchPreserving h (some b)) →
      Accepted h (txt "TEST") s → u = lineStart h (txt "TEST") s → may u h .engineer = true →
      (d = true → b = .engine ∨ b = .interp → LineRefused cmd h (txt "TEST") .e04 s) ∧
      ((d = true → ownerHolds b = true) →
        (s.interp.march ≠ none ∨ (s.bank b).st ≠ .on → LineRefused cmd h (txt "TEST") .e08 s) ∧
        (s.interp.march = none → (s.bank b).st = .on → s.log.clearing = none → Next cmd s fun t => Held h (txt "TEST") s t ∧
          (t.bank b).st = .test ∧ t.interp.march = some (.march b d u.now (waiter h u)) ∧ t.live = s.live ∧
          (t.bank b).ownerHeld = (d || (s.bank b).ownerHeld) ∧ t.slices = s.slices ∧ t.images = s.images))) ∧
    (∀ (s : State) (b : Bank) (d : Bool) (since : Tick) (x : Waiter) (fail : Option MarchFail) (line : Text),
      s.interp.march = some (.march b d since x) → line = marchText b d fail (s.now - since) →
      (fail ≠ none ∨ cyclesGone since (marchCycles b d) s = true →
        Next (.marchTestComplete fail) s fun t => t.interp.march = none ∧
          t.mem.last = some line ∧ (t.bank b).fault.live = fail.isSome ∧
          ((s.bank b).st = .test → (t.bank b).st = .on) ∧ (d = true → (t.bank b).ownerHeld = false) ∧ t.live = s.live ∧
          t.slices = s.slices ∧ (Awaits s x → AnswerCame x { data := [txt "= " ++ line] } s t)) ∧
      (fail = none → cyclesGone since (marchCycles b d) s = false → Does (.marchTestComplete fail) s s))) ∧
  (∀ (d : BitVec 32) (bit : Fin 39 → RawWord → RawWord),
      (∀ (i : Fin 39) (w : RawWord), bit i w = if i.val < 32 then { w with data := w.data ^^^ BitVec.ofNat 32 (2 ^ i.val) }
        else { w with check := w.check ^^^ BitVec.ofNat 7 (2 ^ (i.val - 32)) }) →
      readWord (encodeWord d) = .clean d ∧ (∀ i : Fin 39, readWord (bit i (encodeWord d)) = .corrected d) ∧
      ∀ i j : Fin 39, i ≠ j → readWord (bit i (bit j (encodeWord d))) = .double) ∧
  (∀ (s : State) (b : Bank) (word : Nat) (raw : RawWord),
      (bankReads s b = false ∨ bankWords b ≤ word → Does (.eccSingleBitError b word raw) s s ∧
        Does (.eccDoubleBitError b word raw) s s) ∧
      (singleError raw = false → Does (.eccSingleBitError b word raw) s s) ∧
      (readWord raw ≠ .double → Does (.eccDoubleBitError b word raw) s s) ∧
      (bankReads s b = true → word < bankWords b →
        (∀ d, readWord raw = .corrected d →
          ((s.bank b).sbeLogged = none ∨ (∃ t, (s.bank b).sbeLogged = some t ∧ t + usSec ≤ s.now) →
            DoesLogged (.eccSingleBitError b word raw) s (onBank b (fun x => { x with
              sbe := min 65535 (x.sbe + 1), sbeLogged := some s.now
              errorRead := some { word := word, data := d, back := some (encodeWord d) } }) s)) ∧
          (∀ t, (s.bank b).sbeLogged = some t → s.now < t + usSec → Does (.eccSingleBitError b word raw) s
            (onBank b (fun x => { x with sbe := min 65535 (x.sbe + 1)
                                         errorRead := some { word := word, data := d, back := some (encodeWord d) } }) s))) ∧
        (b ≠ .engine → readWord raw = .double → DoesSo (.eccDoubleBitError b word raw) s fun w =>
          (w.bank b).st = .clearing ∧ (w.bank b).fault.live = true ∧ (w.member 8).cause = true ∧ w.live = s.live ∧
          w.slices = s.slices ∧ (b = .interp → w.port.opened = false ∧ w.interp.running = false ∧ w.port.sess.role = .observer) ∧
          (b ≠ .interp → (w.bank b).ownerHeld = true))) ∧
      (∀ u : State, u = ensureStarted s →
        ((u.bank b).st ≠ .clearing ∨ cyclesGone (u.bank b).since (bankWords b) u = false → Does (.zeroingComplete b) s u) ∧
        ((u.bank b).st = .clearing → cyclesGone (u.bank b).since (bankWords b) u = true →
          DoesSo (.zeroingComplete b) s fun w => (w.bank b).st = .on ∧ (w.bank b).ownerHeld = false ∧
            (u.rst.phase = .zeroing → (∀ x : Bank, x ≠ b → (u.bank x).st ≠ .clearing) → w.rst.phase = .clocking) ∧
            (u.rst.phase ≠ .zeroing → w.rst.phase = u.rst.phase ∧ w.live = u.live))))

/-- A CLOCK SWITCH IS CHECKED, HELD AND WRITTEN (13 R700, R701, R703, R704, R707, R711): a write of CLOCK.SRC that is accepted puts the
domains on the IRC while the PLL locks, and its reply waits; the XO must show 16 edges and have passed its last window, else
E13; a second one meanwhile is E08. At the lock the domains move, the setting is written and the reply is OK; a move that
hangs ends on the IRC with SWHANG, its line with E13. A write of CLOCK.PANEL waits for its move alike, and the LPO is E13
while LPOFAIL is live. -/
def Obligations.ClockSwitchesAreHeld : Prop :=
  (∀ (h : LineHdr) (s : State) (edges : Nat) (toXo : Bool) (cmd : Instr) (u : State) (y : Val),
    cmd = (if toXo then .clockSrcXo h edges else .clockSrcIrc h) → Accepted h (txt "SET") s → u = setStart h s →
    checkWrite h.sess (.clock .src) (srcText toXo) u = .ok y →
    (s.interp.clock ≠ none → LineRefused cmd h (txt "SET") .e08 s) ∧
    (s.interp.clock = none → toXo = true → (edges < 16 ∨ s.clk.xoPassed = false) → LineRefused cmd h (txt "SET") .e13 s) ∧
    (s.interp.clock = none → (toXo = true → 16 ≤ edges ∧ s.clk.xoPassed = true) → LineHeld cmd h (txt "SET") s
      { u with
        clk := { u.clk with chain := .irc, goal := some (if toXo then .xo else .ircChain) }
        interp := { u.interp with clock := some (.clock toXo (waiter h u)) } })) ∧
  (∀ (h : LineHdr) (s : State) (value : Text) (u : State) (y : Val), Accepted h (txt "SET") s → u = setStart h s →
    checkWrite h.sess (.clock .panel) value u = .ok y →
    (s.interp.panelClock ≠ none → LineRefused (.clockPanelWrite h value) h (txt "SET") .e08 s) ∧
    (s.interp.panelClock = none → kwOf y = 1 → s.clk.lpoFail.live = true →
      LineRefused (.clockPanelWrite h value) h (txt "SET") .e13 s) ∧
    (s.interp.panelClock = none → (kwOf y = 1 → s.clk.lpoFail.live = false) →
      LineHeld (.clockPanelWrite h value) h (txt "SET") s { u with
        interp := { u.interp with panelClock := some (.panelClock (decide (kwOf y = 1)) u.now (waiter h u)) } })) ∧
  (∀ (s : State) (g : Chain), s.clk.goal = some g →
    (DoesSo .pllLock s fun w => w.clk.chain = g ∧ w.clk.goal = none ∧ (g = .xo → s.clk.xoFailed = true →
      w.clk.xoFailed = false ∧ w.flags.clkFail.live = false)) ∧
    (∀ (toXo : Bool) (x : Waiter), s.interp.clock = some (.clock toXo x) → Next .pllLock s fun t =>
      t.interp.clock = none ∧ t.live.clock.srcIrc = !toXo ∧ (Awaits s x → AnswerCame x {} s t)) ∧
    (∀ d : Domain, d ≠ .panel → DoesSo (.switchHang d) s fun w => w.flags.swHang.latched = true ∧
      w.flags.swHang.live = false ∧ (w.member 3).cause = true ∧ w.clk.goal = some (if g = .xo then .ircChain else g) ∧
      (g = .xo → w.clk.chain = .irc ∧ w.live = s.live))) ∧
  (∀ s : State, s.clk.goal = none → Does .pllLock s s) ∧
  (∀ (s : State) (toLpo : Bool) (since : Tick) (x : Waiter), s.interp.panelClock = some (.panelClock toLpo since x) →
    Next (.switchHang .panel) s fun t => t.interp.panelClock = none ∧ t.clk.panelLpo = false ∧ t.live = s.live ∧
      t.flags.swHang.latched = true ∧ (Awaits s x → AnswerCame x { err := some .e13 } s t))

/-- THE WATCHMAN GUARDS THE XO (13 R705, R707–R712, R715): a window within 12.5 % of what the XO should count passes and nothing moves;
one further away, or of 0, fails, and with the XO in use the domains go to the IRC, CLKFAIL stands and the PLL locks on
the IRC; after 10 s without a failed window the XO is taken up again, unless the automatic return is stopped.

THE LPO, THE SPREAD AND THE MEASURING COUNTER (13 R713, R719, R720, R724–R726): an LPO window outside 29 to 38 makes LPOFAIL live
and takes the panel to the IRC; a complaint steps the spread down, and at SSC.MIN raises SSCPIN; 100 ms without one step
it up, to SSC.DEPTH at most. MEASURE CLOCK of two clocks that pass waits for its gate, a second one is E08, and its reply gives
the count. -/
def Obligations.WatchmanGuardsClocks : Prop :=
  (∀ (s : State) (count : Nat) (lost : Bool) (f : Nat), f = s.clk.xofreq →
      (∀ inUse : Bool, inUse = (decide (s.clk.chain = .xo) || decide (s.clk.goal = some .xo)) →
        (0 < count → count ≤ 18 * f → 14 * f ≤ count → (lost = true → inUse = false) →
          Does (.xoMonitorWindow count lost) s { s with clk := { s.clk with
            xoCount := count, xoPassed := true, healthySince := some (s.clk.healthySince.getD s.now) } }) ∧
        (count = 0 ∨ 18 * f < count ∨ count < 14 * f ∨ (lost = true ∧ inUse = true) →
          (inUse = false → DoesSo (.xoMonitorWindow count lost) s fun w => w.clk = { s.clk with
            xoCount := count, xoPassed := false, healthySince := none } ∧ w.live = s.live ∧ w.slices = s.slices) ∧
          (inUse = true → s.power.mode ≠ .deep → DoesSo (.xoMonitorWindow count lost) s fun w =>
            w.clk.chain = .irc ∧ w.clk.goal = some .ircChain ∧ w.clk.xoPassed = false ∧ w.live = s.live ∧
            w.slices = s.slices ∧ (s.live.clock.srcIrc = false → s.clk.xoFailed = false → w.clk.xoFailed = true ∧
              w.flags.clkFail.live = true ∧ (w.member 2).cause = true)))) ∧
      (∀ t : Tick, s.clk.healthySince = some t → s.clk.xoFailed = true → s.clk.autoStopped = false → s.clk.chain = .ircChain →
        s.clk.goal = none → s.power.mode ≠ .deep →
        (t + 9850000 ≤ s.now → Does .xoReturn s { s with clk := { s.clk with chain := .irc, goal := some .xo } }) ∧
        (s.now < t + 9850000 → Does .xoReturn s s)) ∧
      (s.clk.autoStopped = true → Does .xoReturn s s)) ∧
  ((∀ (s : State) (count : Nat),
      (29 ≤ count → count ≤ 38 → Does (.lpoMonitorWindow count) s { s with clk := { s.clk with
        lpoCount := count, lpoFail := s.clk.lpoFail.drive false } }) ∧
      (count < 29 ∨ 38 < count → Next (.lpoMonitorWindow count) s fun t =>
        t.clk = { s.clk with lpoCount := count, lpoFail := s.clk.lpoFail.drive true, panelLpo := false } ∧ t.live = s.live ∧
        (∀ (since : Tick) (x : Waiter), s.interp.panelClock = some (.panelClock true since x) →
          t.interp.panelClock = none ∧ (Awaits s x → AnswerCame x { err := some .e13 } s t)))) ∧
    (∀ s : State,
      (s.live.clock.sscMin < s.clk.sscNow → Does .sscComplaint s { s with clk := { s.clk with
        sscNow := s.clk.sscNow - 1, sscAt := s.now } }) ∧
      (s.clk.sscNow ≤ s.live.clock.sscMin → DoesLogged .sscComplaint s { s with clk := { s.clk with
        sscAt := s.now, sscPin := s.clk.sscPin.drive true } }) ∧
      (s.clk.sscAt + 100000 ≤ s.now → s.clk.sscNow < s.live.clock.sscDepth → DoesLogged .sscRaise s { s with clk := { s.clk with
        sscNow := s.clk.sscNow + 1, sscAt := s.now, sscPin := s.clk.sscPin.drive false } }) ∧
      (s.clk.sscAt + 100000 ≤ s.now → s.live.clock.sscDepth ≤ s.clk.sscNow → DoesLogged .sscRaise s { s with clk := { s.clk with
        sscPin := s.clk.sscPin.drive false } }) ∧
      (s.now < s.clk.sscAt + 100000 → Does .sscRaise s s)) ∧
    (∀ (h : LineHdr) (s : State) (a b : ClkName) (word : Option Text) (n ea eb : Nat) (u : State), Accepted h (txt "MEASURE") s →
      u = lineStart h (txt "MEASURE") s → (match word with
        | some w => readWhole w = .ok n
        | none => n = 20) → clkFitted s.ident.part a = true →
      clkFitted s.ident.part b = true → may u h .engineer = true → 8 ≤ n → n ≤ 24 → a ≠ b → 2 ^ n ≤ 10 * clkHz s b →
      clkHz s b ≤ 2 ^ n * 1000 →
      (s.interp.measure ≠ none →
        LineRefused (.measureClock h (some a) (some b) word ea eb) h (txt "MEASURE") .e08 s) ∧
      (s.interp.measure = none → clkPasses s ea a = true → clkPasses s eb b = true →
        LineHeld (.measureClock h (some a) (some b) word ea eb) h (txt "MEASURE") s
          { u with interp := { u.interp with measure := some (.measure a b n u.now (waiter h u)) } }) ∧
      (s.interp.measure = none → clkPasses s ea a = false ∨ clkPasses s eb b = false →
        LineRefused (.measureClock h (some a) (some b) word ea eb) h (txt "MEASURE") .e13 s)) ∧
    (∀ (s : State) (a b : ClkName) (n count : Nat) (since : Tick) (x : Waiter),
      s.interp.measure = some (.measure a b n since x) →
      (gateOver b n since s = false → Does (.measurementGateClose count) s s) ∧
      (gateOver b n since s = true → Next (.measurementGateClose count) s fun t => t.interp.measure = none ∧ t.clk = s.clk ∧ t.live = s.live ∧
        (Awaits s x → AnswerCame x { data := [unwords [txt "= MEASURE", clkText a, txt "AGAINST", clkText b, showNat n,
          showNat count, ppmText s a b n count]] } s t))))

/-- A SYSTEM RESET RESTARTS THE NODE (13 R699; 14 R744; 15 R773, R775, R776, R778, R779, R785): a parity error of the settings, a read
of ENGINE that finds a double-bit error, and a RESET SYSTEM line from ENGINEER on each restart a node that their source
reaches, at SYSTEM level, or at the higher level of the start-up in progress, with their bits in RSTCAUSE; and so does, at
SYSTEM level, a second watchdog within 10 s on a started node.

A CORE RESET LEAVES WHAT WATCHES THE TERMINALS (01 R24, R25; 15 R773, R774, R778, R779, R782–R785): on a started node outside DEEP a
RESET CORE line from ENGINEER on, and a watchdog that has run out and is the first in 10 s, clear the engine, the caller and
the interpreter and nothing below them; a watchdog's G31 member then has its cause. A watchdog that has not run out, and a
stopped one, do nothing. -/
def Obligations.ResetsClearAndRestart : Prop :=
  (∀ (s : State) (level : ResetLevel), level = (if s.rst.phase = .up then .system else higher .system s.rst.level) →
      (sourceActs .cfgPar s = true →
        DoesSo .configParityError s (Restarted level .cfgPar (s.rst.cause ||| causeMask .cfgPar) s)) ∧
      (sourceActs .cfgPar s = false → Does .configParityError s s) ∧
      (∀ (word : Nat) (raw : RawWord),
        (sourceActs .eccEng s = true → bankReads s .engine = true → word < bankWords .engine → readWord raw = .double →
          DoesSo (.eccEngineError word raw) s (Restarted level .eccEng (s.rst.cause ||| causeMask .eccEng) s) ∧
          DoesSo (.eccDoubleBitError .engine word raw) s (Restarted level .eccEng (s.rst.cause ||| causeMask .eccEng) s)) ∧
        (bankReads s .engine = false ∨ bankWords .engine ≤ word ∨ readWord raw ≠ .double →
          Does (.eccEngineError word raw) s s)) ∧
      (∀ (h : LineHdr) (u : State) (src : ResetSource), Accepted h (txt "RESET") s → u = lineStart h (txt "RESET") s →
        src = lineSource u h.sess true →
        (may u h .engineer = true → remoteBarred u h.sess true = false → sourceActs src s = true →
          DoesSo (.resetSystem h) s (Restarted level src (s.rst.cause ||| causeMask src) s)) ∧
        (may u h .engineer = true → remoteBarred u h.sess true = true → LineRefused (.resetSystem h) h (txt "RESET") .e07 s) ∧
        (may u h .engineer = false → LineRefused (.resetSystem h) h (txt "RESET") .e06 s)) ∧
      (∀ (t : Tick) (cycles : Nat), s.rst.phase = .up → s.rst.wdCoreAt = some t → s.now ≤ t + 10 * usSec → s.power.mode ≠ .deep →
        (s.engine.running = true → s.engine.ranAt + s.live.power.wde * 1000 ≤ s.now → DoesSo .engineWatchdogExpiry s
          (Restarted .system .wdesc (s.rst.cause ||| (causeMask .wde ||| causeMask .wdesc)) s)) ∧
        (s.interp.running = true → s.interp.wdi ≤ cycles → DoesSo (.interpreterWatchdogExpiry cycles) s
          (Restarted .system .wdesc (s.rst.cause ||| (causeMask .wdi ||| causeMask .wdesc)) s)))) ∧
  (∀ (s : State) (cycles : Nat),
      (s.rst.phase = .up → s.power.mode ≠ .deep →
        (∀ (h : LineHdr) (u : State) (src : ResetSource), Accepted h (txt "RESET") s → u = lineStart h (txt "RESET") s →
          src = lineSource u h.sess false →
          (may u h .engineer = false → LineRefused (.resetCore h) h (txt "RESET") .e06 s) ∧
          (may u h .engineer = true → remoteBarred u h.sess false = true → LineRefused (.resetCore h) h (txt "RESET") .e07 s) ∧
          (may u h .engineer = true → remoteBarred u h.sess false = false → DoesSo (.resetCore h) s (CoreCleared src u))) ∧
        ((∀ t : Tick, s.rst.wdCoreAt = some t → t + 10 * usSec < s.now) →
          (s.engine.running = true → s.engine.ranAt + s.live.power.wde * 1000 ≤ s.now →
            DoesSo .engineWatchdogExpiry s fun w => CoreCleared .wde s w ∧ (w.member 9).cause = true ∧
              w.rst.wdCoreAt = some s.now) ∧
          (s.interp.running = true → s.interp.wdi ≤ cycles →
            DoesSo (.interpreterWatchdogExpiry cycles) s fun w => CoreCleared .wdi s w ∧ (w.member 9).cause = true ∧
              w.rst.wdCoreAt = some s.now))) ∧
      (s.engine.running = false ∨ s.power.mode = .deep ∨ s.now < s.engine.ranAt + s.live.power.wde * 1000 →
        Does .engineWatchdogExpiry s s) ∧
      (s.interp.running = false ∨ s.power.mode = .deep ∨ cycles < s.interp.wdi → Does (.interpreterWatchdogExpiry cycles) s s))

/-- POWER COMES AND GOES, AND RESET_N HOLDS (02 R129; 15 R773, R775–R777, R780; 17 R849; log 18): a supply that has risen to 5.6 V, and
a rail fault of 5 µs, restart the node at POWER level with RSTCAUSE anew; below 5.2 V every alarm line and call output is
de-energised, the node has no power and no flash content is lost where no flash work is under way; RESET_N low for 10 µs, and
for 1 µs to 10 µs where the node takes the pulse, restarts a powered node at SYSTEM level or at the higher one in progress,
and the start-up begins when it is let go.

THE ORDER OUT OF RESET (13 R733; 14 R752, R754–R757; 15 R792; 10 R569, R571; log 154): a start-up test that ENGINE and INTERP pass,
and that has run its cycles where no bank failed, loads the configuration, with FAULT of each bank that failed; one that
either of them fails stops the node, which restarts after 1 s where it has not failed three times; then CLOCK.SRC is applied,
at a full start once the XO runs or 600 ms have gone, falling back to the IRC where the XO does not run; and at the last step
the port opens, with PORTOPEN. Out of its turn none of them does its work. -/
def Obligations.PowerComesAndStartUpRuns : Prop :=
  (∀ (s : State) (mV us : Nat) (b : Bool),
      (s.rst.phase = .unpowered → 5600 ≤ mV → DoesSo (.powerOn mV b) s fun w =>
        Restarted .power .por (causeMask .por ||| causeMask .por) s w ∧ w.port.async = b ∧ w.pins.vsup = mV) ∧
      (s.rst.phase ≠ .unpowered ∨ mV < 5600 → Does (.powerOn mV b) s s) ∧
      (s.rst.phase ≠ .unpowered →
        (5 ≤ us → DoesSo (.railFault us) s (Restarted .power .rail (causeMask .por ||| causeMask .rail) s)) ∧
        (mV < 5200 → Next (.powerLoss mV) s fun t => t.rst.phase = .unpowered ∧ t.pads.al = .replicate 16 false ∧
          t.pads.co = .replicate 8 false ∧ t.log.sectors = s.log.sectors ∧
          (s.interp.flash = none → s.part.writes = [] → t.images = s.images ∧ t.keys.role = s.keys.role))) ∧
      (us < 5 → Does (.railFault us) s s) ∧ (5200 ≤ mV → Does (.powerLoss mV) s s) ∧
      (s.rst.phase ≠ .unpowered → 10 ≤ us ∨ (1 ≤ us ∧ b = true) → DoesSo (.resetN us b) s fun w => w.pins.resetLow = true ∧
        Restarted (if s.rst.phase = .up then .system else higher .system s.rst.level) .extrst
          (s.rst.cause ||| causeMask .extrst) { s with pins := { s.pins with resetLow := true } } w) ∧
      (us < 1 ∨ (us < 10 ∧ b = false) → Does (.resetN us b) s s) ∧
      (s.rst.phase = .held → DoesSo .resetNRelease s fun w => w.pins.resetLow = false ∧
        w.rst.phase = if s.rst.full then .marching else .zeroing) ∧
      (s.rst.phase ≠ .held → Does .resetNRelease s { s with pins := { s.pins with resetLow := false } })) ∧
  (∀ (s : State) (rs : List (Bank × Option MarchFail)) (edges : Nat),
      (∀ u : State, u = ensureStarted s →
        (u.rst.phase = .marching →
          (resultOf rs .engine ≠ none ∨ resultOf rs .interp ≠ none → DoesSo (.startupTestComplete rs) s fun w =>
            w.rst.phase = .stopped ∧ w.mem.marchFails = s.mem.marchFails + 1 ∧
            w.rst.marchStopAt = (if s.mem.marchFails + 1 < 3 then some s.now else none) ∧ w.live = u.live) ∧
          (resultOf rs .engine = none → resultOf rs .interp = none →
            ((∃ b : Bank, resultOf rs b ≠ none) ∨ u.rst.since + testMicros ≤ s.now) →
            DoesSo (.startupTestComplete rs) s fun w =>
              w.rst.phase = .clocking ∧ w.mem.marchFails = 0 ∧ (∀ b : Bank, (w.bank b).st = .on) ∧
              (∀ b ∈ [Bank.link, .stage, .image], resultOf rs b ≠ none →
                (w.bank b).fault.live = true ∧ (w.bank b).ownerHeld = true) ∧
              w.live.hp = (imageCfg s).hp ∧ w.live.grp = (imageCfg s).grp ∧ w.live.remReset = (partCfg s).remReset ∧
              (∀ c : Ch, (w.chCfg c).safe = ((partCfg s).ch[c.val]).safe)) ∧
          ((∀ b : Bank, resultOf rs b = none) → s.now < u.rst.since + testMicros → Does (.startupTestComplete rs) s u)) ∧
        (u.rst.phase ≠ .marching → Does (.startupTestComplete rs) s u)) ∧
      (∀ t : Tick, s.rst.phase = .stopped → s.rst.marchStopAt = some t →
        (t + usSec ≤ s.now → DoesSo .marchFailureRestart s fun w => w.rst.lastSource = .marchRt ∧ w.rst.phase = .held) ∧
        (s.now < t + usSec → Does .marchFailureRestart s s)) ∧
      (s.rst.phase ≠ .stopped ∨ s.rst.marchStopAt = none → Does .marchFailureRestart s s) ∧
      (s.rst.phase = .clocking → waitsForXo edges s = false → DoesSo (.clockSrcApply edges) s fun w =>
        w.rst.phase = .rebuilding ∧ w.live = s.live ∧
        w.clk.chain = (if s.live.clock.srcIrc then .ircChain else if 16 ≤ edges ∧ s.clk.xoPassed = true then .xo else .ircChain) ∧
        (s.live.clock.srcIrc = false → (edges < 16 ∨ s.clk.xoPassed = false) → w.flags.clkFail.live = true ∧
          w.clk.xoFailed = true)) ∧
      (s.rst.phase ≠ .clocking ∨ waitsForXo edges s = true → Does (.clockSrcApply edges) s s) ∧
      ((s.bank .interp).st = .on → s.power.mode ≠ .deep →
        (s.rst.phase = .opening ∨ (s.rst.phase = .up ∧ s.port.opened = false)) → DoesSo .portOpen s fun w =>
          w.rst.phase = .up ∧ w.port.opened = true ∧ w.interp.running = true ∧ (w.port.events[0]).latched = true ∧
          w.live = s.live ∧ w.engine = s.engine) ∧
      (s.rst.phase ≠ .opening → (s.rst.phase ≠ .up ∨ s.port.opened = true) → Does .portOpen s s))

/-- THE SUPPLY WARNS, AND A BLOCK RESETS ALONE (02 R128; 04 R250; 07 R424; 15 R779, R786–R789, R794, R795): below 5.6 V PWRWARN and its G31
member stand until the supply has been above 5.8 V for 10 ms. RESET BLOCK, from ENGINEER on, and of a SAFE channel with the
partition open, clears the one block that it names: a slice starts in its settings without a code and with no condition true,
a controller is off its bus with its queues empty, the writer, with no LOG CLEAR under way, has nothing staged and keeps its
flash, and a loop output's island holds its current. -/
def Obligations.SupplyWarnsAndBlocksReset : Prop :=
  (∀ (s : State) (mV : Nat), s.rst.phase ≠ .unpowered →
    (s.flags.pwrWarn.live = false → mV < 5600 → DoesSo (.pwrwarn mV) s fun w => w.pins.vsup = mV ∧
      w.flags.pwrWarn = s.flags.pwrWarn.drive true ∧ (w.member 4).cause = true ∧ w.live = s.live ∧ w.slices = s.slices) ∧
    (5600 ≤ mV → Does (.pwrwarn mV) s s) ∧
    (s.flags.pwrWarn.live = true → 5800 < mV → s.pins.vsupLowAt + 10000 ≤ s.now → DoesSo (.pwrwarnEnd mV) s fun w => w.pins.vsup = mV ∧
      w.flags.pwrWarn = s.flags.pwrWarn.drive false ∧ (w.member 4).cause = false ∧ w.live = s.live ∧ w.slices = s.slices) ∧
    (mV ≤ 5800 ∨ s.now < s.pins.vsupLowAt + 10000 → Does (.pwrwarnEnd mV) s s)) ∧
  (∀ (h : LineHdr) (s u : State) (b : BlockName), Accepted h (txt "RESET") s → u = lineStart h (txt "RESET") s →
    blockFitted s.ident.part b = true →
    (may u h .engineer = false → LineRefused (.resetBlock h (some b)) h (txt "RESET") .e06 s) ∧
    (may u h .engineer = true → remoteBarred u h.sess false = true → LineRefused (.resetBlock h (some b)) h (txt "RESET") .e07 s) ∧
    (may u h .engineer = true → remoteBarred u h.sess false = false →
      (blockSafe u b = true → partOpen u h.sess = false → LineRefused (.resetBlock h (some b)) h (txt "RESET") .e07 s) ∧
      ((blockSafe u b = true → partOpen u h.sess = true) → blockHeld u b = false → (b = .logw → s.log.clearing = none) →
        LineLeaves (.resetBlock h (some b)) h (txt "RESET") {} s fun w =>
          w.rst = u.rst ∧ w.keys = u.keys ∧ w.images = u.images ∧ w.part = u.part ∧ w.log.sectors = u.log.sectors ∧
          (∀ c : Ch, b = .ch c → (w.slice c).code = none ∧ (w.slice c).act = activeOf (w.sliceCfg c) (rateInForce s c) ∧
            (∀ k : Cond, (w.cond c k).on = false ∧ (w.cond c k).occ = (s.cond c k).occ) ∧
            (∀ d : Ch, d ≠ c → w.slice d = s.slice d)) ∧
          (∀ x : Bus, b = .can x → (w.canOf x).mode = .off ∧ (w.canOf x).tx = .replicate 32 {} ∧
            (w.canOf x).rx = .replicate 64 none ∧ (w.canOf x).rxlost = (s.canOf x).rxlost) ∧
          (b = .logw → w.log.stage = [] ∧ w.log.seq = s.log.seq ∧ w.log.refused = s.log.refused) ∧
          (b = .panel → w.panel.type = s.live.panel.type ∧ (w.panel.flags[0]).live = false ∧
            (w.panel.flags[1]).live = false) ∧
          (∀ n : Lx, b = .lx n → (w.lxOf n).island = (s.lxOf n).island ∧ (w.lxOf n).inFlight = none ∧
            (w.lxOf n).lost = (s.lxOf n).lost) ∧
          ((∀ c : Ch, b ≠ .ch c) → w.live = s.live ∧ w.slices = s.slices))))

/-- THE NODE GOES TO SLEEP, AND DEEPER (08 R471; 14 R747; 15 R796–R799, R806): from ENGINEER on, RUN and SLEEP only change the mode, SLEEP
with the panel's light off. DEEP is E04 in SLEEP (log 161); else E08 with the dead-man timer on, a call running or a march test under way, and E13 while
LPOFAIL is live; else OK goes out, every line holds its level, the engine and the interpreter stop, the links leave their
buses and each bank is kept or off as its setting says. Settings and slices stay.

THE NODE WAKES (04 R265; 10 R573; 14 R749; 15 R801–R803): in DEEP a trip wire that is active, and any other source that DEEP.WAKE enables and that
stands, wakes the node: it runs, every bank is on, the engine is rebuilt and lets the lines go, the port is open again and WAKE is set; the links wait
for the XO where it is to be used. After DEEP.RETURN the node goes back where no alarm is unacknowledged and nothing refuses
DEEP, else it tries again in a minute. -/
def Obligations.PowerModesEnterAndWake : Prop :=
  (∀ (h : LineHdr) (s u : State), Accepted h (txt "SET") s → u = setStart h s →
      (may u h .engineer = false → LineRefused (.powerModeRun h) h (txt "SET") .e06 s ∧
        LineRefused (.powerModeSleep h) h (txt "SET") .e06 s ∧ LineRefused (.powerModeDeep h) h (txt "SET") .e06 s) ∧
      (may u h .engineer = true →
        (LineLeaves (.powerModeRun h) h (txt "SET") {} s fun w =>
          LogOnly { u with power := { u.power with mode := .run } } w) ∧
        (LineLeaves (.powerModeSleep h) h (txt "SET") {} s fun w =>
          LogOnly { u with power := { u.power with mode := .sleep }, panel := w.panel } w ∧ w.panel.backlight = false) ∧
        (s.power.mode = .sleep → LineRefused (.powerModeDeep h) h (txt "SET") .e04 s) ∧
        (s.power.mode ≠ .sleep → s.live.dead.en = true ∨ callRuns s = true ∨ s.interp.march ≠ none →
          LineRefused (.powerModeDeep h) h (txt "SET") .e08 s) ∧
        (s.power.mode ≠ .sleep → s.live.dead.en = false → callRuns s = false → s.interp.march = none →
          (s.clk.lpoFail.live = true → LineRefused (.powerModeDeep h) h (txt "SET") .e13 s) ∧
          (s.clk.lpoFail.live = false → Next (.powerModeDeep h) s fun t => t.power.mode = .deep ∧ t.power.deepAt = s.now ∧
            t.power.deepWake = s.live.power.deepWake ∧ t.power.deepPeriod = s.live.power.deepPeriod ∧
            t.engine.running = false ∧
            (s.rst.phase = .up →
              t.engine.hold = some { al := Vector.ofFn (alLevel s), co := Vector.ofFn (coLevel s) }) ∧
            t.port.opened = false ∧ t.interp.running = false ∧ (∀ b : Bus, (t.canOf b).mode = .off ∧
              (t.canOf b).heldStandby = true) ∧
            (∀ b : Bank, (t.bank b).st = if s.live.memOff[(bankIdx b).val] then .off else .ret) ∧
            t.live = s.live ∧ t.slices = s.slices ∧ t.nodeTime = s.nodeTime ∧
            (h.sess = .host → Replied h (txt "SET") {} s t))))) ∧
  (∀ s : State,
      (∀ src : WakeSource,
        (s.power.mode = .deep → src = .trip ∨ s.power.deepWake.getLsbD (wakeNo src) = true → sourceStands src s = true → DoesSo (.wake src) s fun w =>
          w.power.mode = .run ∧ w.live = s.live ∧ (w.port.events[1]).latched = true ∧ w.clk.chain = .ircChain ∧
          (s.rst.coreDeep = false → w.engine.running = true ∧ w.engine.hold = none ∧ w.interp.running = true ∧
            w.port.opened = decide (s.rst.phase = .up) ∧ ∀ b : Bank, (w.bank b).st = .on) ∧
          (s.rst.coreDeep = true → w.engine.running = false ∧ (w.bank .engine).st = .clearing ∧ w.rst.coreDeep = false) ∧
          (s.live.power.deepReturn ≠ 0 → w.power.returnAt = some (s.now + s.live.power.deepReturn * usMin))) ∧
        (s.power.mode ≠ .deep ∨ sourceStands src s = false → Does (.wake src) s s) ∧
        (src ≠ .trip → s.power.deepWake.getLsbD (wakeNo src) = false → Does (.wake src) s s)) ∧
      (s.power.mode = .deep → s.power.deepWake.getLsbD 4 = true →
        (s.power.deepAt + s.power.deepPeriod * usMin ≤ s.now → DoesSo .deepTimerWake s fun w => w.power.mode = .run ∧
          (w.port.events[1]).latched = true ∧ w.live = s.live) ∧
        (s.now < s.power.deepAt + s.power.deepPeriod * usMin → Does .deepTimerWake s s)) ∧
      (∀ edges : Nat, s.power.mode ≠ .deep → s.clk.xoWaking = true → s.clk.xoPassed = true →
        (16 ≤ edges → DoesSo (.wakeXoReady edges) s fun w => w.clk.chain = .xo ∧ w.clk.xoWaking = false ∧ w.live = s.live ∧
          ((s.bank .link).ownerHeld = false → w.watch.joined = true ∧ w.watch.sendRebuild = true)) ∧
        (edges < 16 → Does (.wakeXoReady edges) s s)) ∧
      (∀ t : Tick, s.power.returnAt = some t → s.power.mode ≠ .deep →
        (s.now < t → Does .deepReturn s s) ∧
        (t ≤ s.now → anyUnacked s = false → deepRefusal s = none → DoesSo .deepReturn s fun w => w.power.mode = .deep ∧
          w.engine.running = false ∧ w.live = s.live ∧ w.slices = s.slices) ∧
        (t ≤ s.now → anyUnacked s = true ∨ deepRefusal s ≠ none → Does .deepReturn s
          { s with power := { s.power with returnAt := some (t + usMin) } })))

/-! ## Loop outputs and panel -/

/-- A LOOP OUTPUT FOLLOWS ITS SOURCE (07 R408, R410, R412–R417, R422, R425, R433, R435; 16 R821): when a link's frame is due it carries
START after a POWER reset, else the setpoint built from the forced value or from the scaled source, and while the source is not
available the last one, in HOLD. An island discards a frame whose check fails. START sets 4 mA; a setpoint is processed in its
time at the current that flows (log 79), waits in the one-frame buffer while another is, is only stored while the island folds
back, and then is its current. Nothing but the output and its records is touched.

AN ISLAND REPORTS, IS LOST AND FOLDS BACK (07 R406, R421, R423, R424, R430, R433, R435; 16 R821): a status frame that passes its
check is what the node shows of the island, LOWV below 8 V at the pads and THERM while it folds back; 100 ms without one is
NOLOOP; an island that powers up is at 4 mA; at 150 °C it folds back to 3.8 mA with the latest setpoint it was sent stored, and at 130 °C
returns to what is stored. Nothing but the output and its records is touched. -/
def Obligations.LoopOutputsFollow : Prop :=
  (∀ (s : State) (n : Lx) (x : LoopOut) (cfg : LxCfg), x = s.lxOf n → cfg = s.live.lx[n.val] →
      (∀ v i : Rat, x.force = none → cfg.src ≠ .none → lxSource s n cfg.src = some v →
        i = max 40000 (min 205000 (40000 + 160000 * (v - cfg.low) / (cfg.high - cfg.low))) →
        buildSetpoint s n = some (roundAway i,
          roundAway (i + (cfg.trim4 : Rat) + ((cfg.trim20 - cfg.trim4 : Int) : Rat) * (i - 40000) / 160000))) ∧
      (linkSends s n = true → x.nextFrame ≤ s.now →
        (x.startDue = true → Does (.setpointFrame n) s (onLx n (fun y => { y with
          nextFrame := s.now + 10000, startDue := false, inFlight := some .start }) s)) ∧
        (x.startDue = false →
          (∀ i v : Int, buildSetpoint s n = some (i, v) → DoesLogged (.setpointFrame n) s (onLx n (fun y => { y with
            nextFrame := s.now + 10000, out := i, last := v, hold := false, inFlight := some (.setpoint v) }) s)) ∧
          (buildSetpoint s n = none → DoesLogged (.setpointFrame n) s (onLx n (fun y => { y with
            nextFrame := s.now + 10000, hold := true, inFlight := some (.setpoint y.last) }) s)))) ∧
      (linkSends s n = false ∨ s.now < x.nextFrame → Does (.setpointFrame n) s s) ∧
      (∀ f : SetFrame, x.inFlight = some f →
        Does (.setpointArrival n false) s (onLx n (fun y => { y with inFlight := none }) s) ∧
        (f = .start → Does (.setpointArrival n true) s (onLx n (fun y => { y with
          inFlight := none, island := { y.island with
            current := if y.island.folded then y.island.current else 40000, stored := 40000
            processing := none, buffer := none } }) s)) ∧
        (∀ v : Int, f = .setpoint v →
          (x.island.folded = true → Does (.setpointArrival n true) s (onLx n (fun y => { y with
            inFlight := none, island := { y.island with stored := v } }) s)) ∧
          (x.island.folded = false → x.island.processing ≠ none → Does (.setpointArrival n true) s (onLx n (fun y => { y with
            inFlight := none, island := { y.island with buffer := some v } }) s)) ∧
          (x.island.folded = false → x.island.processing = none → Does (.setpointArrival n true) s (onLx n (fun y => { y with
            inFlight := none, island := { y.island with
              processing := some ⟨v, s.now + processingUs y.island.current⟩ } }) s)))) ∧
      (x.inFlight = none → ∀ b : Bool, Does (.setpointArrival n b) s s) ∧
      (∀ p : Processing, x.island.processing = some p →
        (p.ends ≤ s.now → Does (.setpointProcessed n) s (onLx n (fun y => { y with
          island := { y.island with
            current := p.setpoint, stored := p.setpoint, buffer := none
            processing := y.island.buffer.map fun v => ⟨v, s.now + processingUs p.setpoint⟩ } }) s)) ∧
        (s.now < p.ends → Does (.setpointProcessed n) s s)) ∧
      (x.island.processing = none → Does (.setpointProcessed n) s s)) ∧
  (∀ (s : State) (n : Lx) (x : LoopOut) (volts : Nat) (tj : Int), x = s.lxOf n →
      (x.running = true → s.power.mode ≠ .deep →
        DoesLogged (.statusFrame n true volts) s (onLx n (fun y => { y with
          lost := false, lowv := decide (volts < 80), therm := y.island.folded, termv := volts, lastStatus := s.now }) s) ∧
        (x.lost = false → x.lastStatus + 100000 ≤ s.now →
          DoesLogged (.islandLost n) s (onLx n (fun y => { y with lost := true }) s)) ∧
        (x.lost = true ∨ s.now < x.lastStatus + 100000 → Does (.islandLost n) s s)) ∧
      (x.running = false ∨ s.power.mode = .deep → Does (.statusFrame n true volts) s s ∧ Does (.islandLost n) s s) ∧
      Does (.statusFrame n false volts) s s ∧
      Does (.islandPowerUp n) s (onLx n (fun y => { y with island := { current := 40000, stored := 40000 } }) s) ∧
      (150 ≤ tj → x.island.folded = false → Does (.islandThermalFoldBack n tj) s (onLx n (fun y => { y with
        island := { current := 38000, folded := true
                    stored := (y.island.buffer.or (y.island.processing.map fun p => p.setpoint)).getD y.island.stored } }) s)) ∧
      (tj < 150 ∨ x.island.folded = true → Does (.islandThermalFoldBack n tj) s s) ∧
      (tj ≤ 130 → x.island.folded = true → Does (.islandThermalRecovery n tj) s (onLx n (fun y => { y with
        island := { y.island with folded := false, current := y.island.stored } }) s)) ∧
      (130 < tj ∨ x.island.folded = false → Does (.islandThermalRecovery n tj) s s))

/-- THE RAILS RISE, FAIL AND FALL (08 R448–R451, R462, R463, R472, R479): a panel that waits raises VLCD once nothing forbids it, with
DIRTY; a BCH panel then VHV, which it measures and which is ready within 2 % of its setting; then the clear frame starts. VLCD not
ready in 5 ms is VLCDF, VHV not in 25 ms VHVF, with a new try after 10 s. Powering down lets the slot or line in progress end, with the picture of a TN panel gone then; a TN panel next
drives 2 frames at 200 Hz, in 10 ms, and shorts its ladder for 20 ms; at the end the panel stands in the type written.

THE PANEL SHOWS ITS SOURCES (08 R443, R445, R449, R450, R454, R458, R459, R461, R468, R472, R479; 16 R822): when a TN frame's period is over
the polarity turns and the whole image is read from what the engine shows of the segments' sources. When a BCH
line's time is over, the next line of the clear or image frame, or in RUN the next that has changed or is dirty, is written as
the image of its sources, VHV being measured; a line written out of VHV's band is dirty. The light comes on when the first image
is complete. A new type discharges the panel at that boundary instead. The panel test ends at its time. -/
def Obligations.PanelRaisesRailsAndShows : Prop :=
  (∀ (s : State) (p : Panel), p = s.panel →
      (p.phase = .waiting → railsMayRise s = true → Does .railStart s
        { s with panel := { p with
          phase := .risingVlcd s.now, backlight := false, flags := upd p.flags 2 (Flag.drive true) } }) ∧
      (p.phase ≠ .waiting ∨ railsMayRise s = false → Does .railStart s s) ∧
      (∀ t : Tick, p.phase = .risingVlcd t →
        (p.type = .bch → Does .vlcdReady s { s with panel := { p with phase := .risingVhv t } }) ∧
        (p.type ≠ .bch → Does .vlcdReady s { s with panel := { p with
          phase := .clearFrame 0, parity := false, line := 0, startAt := s.now, writing := false, glass := .replicate 8 0 } }) ∧
        (t + 5000 ≤ s.now → DoesLogged .railTimeout s { s with panel := { p with
          phase := .fault s.now, flags := upd p.flags 0 (Flag.drive true) } }) ∧
        (s.now < t + 5000 → Does .railTimeout s s)) ∧
      ((∀ t : Tick, p.phase ≠ .risingVlcd t) → Does .vlcdReady s s) ∧
      (∀ (t : Tick) (v : Nat), p.phase = .risingVhv t →
        (p.type = .bch → p.drive.vhv * 980 ≤ v * 100 → v * 100 ≤ p.drive.vhv * 1020 → Does (.vhvReady v) s
          { s with panel := { p with
            vhvTenths := v, phase := .clearFrame 0, parity := false, line := 0, startAt := s.now, writing := true
            glass := upd p.glass 0 fun _ => 0 } }) ∧
        (p.type = .bch → v * 100 < p.drive.vhv * 980 ∨ p.drive.vhv * 1020 < v * 100 → Does (.vhvReady v) s
          { s with panel := { p with vhvTenths := v } }) ∧
        (t + 25000 ≤ s.now → DoesLogged .railTimeout s { s with panel := { p with
          phase := .fault s.now, flags := upd p.flags 1 (Flag.drive true) } }) ∧
        (s.now < t + 25000 → Does .railTimeout s s)) ∧
      ((∀ t : Tick, p.phase ≠ .risingVhv t) → ∀ v : Nat, Does (.vhvReady v) s s) ∧
      ((∀ t : Tick, p.phase ≠ .risingVlcd t ∧ p.phase ≠ .risingVhv t) → Does .railTimeout s s) ∧
      (∀ t : Tick, p.phase = .fault t →
        (t + 10 * usSec ≤ s.now → railsMayRise s = true → Does .railRetry s { s with panel := { p with
          phase := .risingVlcd s.now, vhvTenths := 0
          flags := upd (upd (upd p.flags 1 (Flag.drive false)) 0 (Flag.drive false)) 2 (Flag.drive true) } }) ∧
        (s.now < t + 10 * usSec ∨ railsMayRise s = false → Does .railRetry s s)) ∧
      ((∀ t : Tick, p.phase ≠ .fault t) → Does .railRetry s s) ∧
      (∀ t : Tick, p.phase = .discharging 0 t →
        ((if p.type = .tn then slotEnded p t s.now else lineOver s) = true → Does .dischargeStepEnd s { s with panel := { p with
          backlight := false, writing := false, phase := .discharging 1 s.now
          glass := if p.type = .tn then .replicate 8 0 else p.glass } }) ∧
        ((if p.type = .tn then slotEnded p t s.now else lineOver s) = false → Does .dischargeStepEnd s s)) ∧
      (∀ t : Tick, p.phase = .discharging 1 t → p.type = .tn →
        (t + 10000 ≤ s.now → Does .dischargeStepEnd s { s with panel := { p with phase := .discharging 2 s.now } }) ∧
        (s.now < t + 10000 → Does .dischargeStepEnd s s)) ∧
      (∀ t : Tick, p.phase = .discharging 2 t → s.now < t + 20000 → Does .dischargeStepEnd s s) ∧
      (∀ t : Tick, (p.phase = .discharging 1 t ∧ p.type ≠ .tn) ∨ (p.phase = .discharging 2 t ∧ t + 20000 ≤ s.now) →
        DoesSo .dischargeStepEnd s fun w => w = { s with panel := w.panel } ∧
          w.panel.phase = (if s.live.panel.type = .off then .off else .waiting) ∧ w.panel.type = s.live.panel.type ∧
          w.panel.drive = s.live.panel ∧ w.panel.backlight = false ∧ w.panel.vhvTenths = 0 ∧
          (p.type = .tn → w.panel.glass = .replicate 8 0) ∧ (p.type ≠ .tn → w.panel.glass = p.glass)) ∧
      ((∀ (k : Nat) (t : Tick), p.phase ≠ .discharging k t) → Does .dischargeStepEnd s s)) ∧
  (∀ (s : State) (p : Panel) (k : Fin 8) (v : Nat), p = s.panel →
      (p.type = .tn → usSec ≤ (s.now - p.startAt) * p.drive.frame →
        (p.typeDue = false → p.phase = .clearFrame k ∨ p.phase = .imageFrame k ∨ p.phase = .run →
          DoesSo .frameBoundary s fun w => w = { s with panel := w.panel } ∧ w.panel.parity = !p.parity ∧
            w.panel.startAt = s.now ∧
            (∀ j : Fin 8, w.panel.glass[j.val] = imageLine w j ∧
              (s.engine.running = true → w.panel.bankActive[j.val] =
                rowBits ((s.live.panel.seg[j.val]).toList.map fun x => (segShows s x).1) ∧
                w.panel.bankUnack[j.val] =
                rowBits ((s.live.panel.seg[j.val]).toList.map fun x => (segShows s x).2))) ∧
            (p.phase = .clearFrame k → w.panel.phase = .imageFrame 0 ∧ w.panel.backlight = p.backlight) ∧
            (p.phase = .imageFrame k → w.panel.phase = .run ∧ w.panel.backlight = true ∧ (w.panel.flags[2]).live = false) ∧
            (p.phase = .run → w.panel.phase = .run ∧ w.panel.backlight = p.backlight)) ∧
        (p.typeDue = true → p.phase = .clearFrame k ∨ p.phase = .imageFrame k ∨ p.phase = .run →
          DoesSo .frameBoundary s fun w => w = { s with panel := w.panel } ∧ w.panel.phase = .discharging 1 s.now ∧
            w.panel.backlight = false ∧ w.panel.glass = .replicate 8 0)) ∧
      (p.type ≠ .tn ∨ (s.now - p.startAt) * p.drive.frame < usSec → Does .frameBoundary s s) ∧
      (p.type = .bch → p.writing = false ∨ p.startAt + p.drive.bchline * 1000 ≤ s.now →
        (p.typeDue = true → p.phase = .clearFrame k ∨ p.phase = .imageFrame k ∨ p.phase = .run →
          DoesSo (.bchLineWriteEnd v) s fun w => w = { s with panel := w.panel } ∧ w.panel.phase = .discharging 1 s.now ∧
            w.panel.backlight = false ∧ w.panel.glass = p.glass ∧ w.panel.vhvTenths = v) ∧
        (p.typeDue = false →
          (p.phase = .clearFrame k → k ≠ 7 → Does (.bchLineWriteEnd v) s { s with panel := { p with
            vhvTenths := v, phase := .clearFrame (k + 1), line := k + 1, startAt := s.now, writing := true
            glass := upd p.glass (k + 1) fun _ => 0 } }) ∧
          (p.phase = .clearFrame k → k = 7 → DoesSo (.bchLineWriteEnd v) s fun w => w = { s with panel := w.panel } ∧
            w.panel.phase = .imageFrame 0 ∧ w.panel.line = 0 ∧ w.panel.glass = upd p.glass 0 (fun _ => imageLine w 0) ∧
            w.panel.backlight = p.backlight ∧ w.panel.vhvTenths = v) ∧
          (p.phase = .imageFrame k → k ≠ 7 → DoesSo (.bchLineWriteEnd v) s fun w => w = { s with panel := w.panel } ∧
            w.panel.phase = .imageFrame (k + 1) ∧ w.panel.line = k + 1 ∧
            w.panel.glass = upd p.glass (k + 1) (fun _ => imageLine w (k + 1)) ∧ w.panel.backlight = p.backlight ∧
            w.panel.vhvTenths = v ∧
            (p.writing = true → vhvInBand p.drive v = false → p.line ≠ k + 1 →
              w.panel.dirtyLines.getLsbD p.line.val = true ∧ (w.panel.flags[2]).live = true)) ∧
          (p.phase = .imageFrame k ∧ k = 7 ∨ p.phase = .run →
            DoesSo (.bchLineWriteEnd v) s fun w => w = { s with panel := w.panel } ∧ w.panel.phase = .run ∧
              (p.phase = .imageFrame k → w.panel.backlight = true) ∧ (p.phase = .run → w.panel.backlight = p.backlight) ∧
              w.panel.vhvTenths = v ∧
              (w.panel.writing = true → w.panel.glass = upd p.glass w.panel.line (fun _ => imageLine w w.panel.line)) ∧
              (w.panel.writing = false → w.panel.glass = p.glass ∧ ∀ j : Fin 8, imageLine w j = p.glass[j.val]) ∧
              (p.writing = true → vhvInBand p.drive v = false → (w.panel.flags[2]).live = true ∧ w.panel.writing = true) ∧
              (p.writing = false ∨ vhvInBand p.drive v = true → p.dirtyLines = 0 → p.driveDue = false →
                s.flags.pwrWarn.live = false → (w.panel.flags[2]).live = false)))) ∧
      (p.type ≠ .bch ∨ (p.writing = true ∧ s.now < p.startAt + p.drive.bchline * 1000) → Does (.bchLineWriteEnd v) s s) ∧
      (∀ t : Tick, p.testEnd = some t →
        (t ≤ s.now → Does .panelTestExpiry s { s with panel := { p with testEnd := none } }) ∧
        (s.now < t → Does .panelTestExpiry s s)) ∧
      (p.testEnd = none → Does .panelTestExpiry s s))

/-! ## The host port and the consoles -/

/-- A TRANSACTION CARRIES LINES (10 R534, R537–R542, R562, R563, R569; 11 R578, R588, R628; the bytes of a transaction come as characters, log
158): a clocked port that is open begins one at the fall of the select. A byte 0x00 outside a line is ignored; any other begins
or extends a line and goes back as an echo with HP.ECHO ON; LF ends the line, and goes on to its latch point where it holds
words. At the rise a line without its terminator is discarded, and one whose reply is not yet complete is abandoned.

CHARACTERS MAKE A LINE (10 R545, R546, R548–R550, R552, R553, R556, R569): an asynchronous port takes characters once it has measured
a CR of 1,200 to 460,800 baud; a printable character joins the line to 255, and the next one marks it too long; BS and DEL take
the last away, Ctrl-U all; CR and LF end it, where a line of words is at its latch point; a framing error marks it corrupt.
While a reply is awaited every character is discarded. A break and 60 s of silence discard a partial line. Nothing but the
port is touched. -/
def Obligations.HostPortCarriesLines : Prop :=
  (∀ (s : State) (b : Byte) (fe : Bool) (p : Port), p = s.port →
      (p.opened = true → p.async = false → Does .transactionStart s
        { s with port := { p with transaction := true, line := [], out := 0 } }) ∧
      (p.opened = false ∨ p.async = true → Does .transactionStart s s) ∧
      (p.opened = true → p.async = false → p.transaction = true → awaits s .host = false →
        (b = 0 → p.inLine = false → Does (.characterReceived b fe) s { s with port := { p with
          out := if p.out = 0x04 then 0x04 else 0 } }) ∧
        (b ≠ 0x0A → b ≠ 0 ∨ p.inLine = true → Does (.characterReceived b fe) s { s with port := { p with
          inLine := true, out := if p.echoOn then b else 0
          badChar := p.badChar || !decide (0x20 ≤ b.toNat ∧ b.toNat ≤ 0x7E)
          line := if p.line.length < 255 then p.line ++ [Char.ofNat b.toNat] else p.line
          tooLong := p.tooLong || decide (255 ≤ p.line.length) } }) ∧
        (b = 0x0A → Does (.characterReceived b fe) s { s with port := { p with
          line := [], inLine := false, tooLong := false, badChar := false
          latched := if noLine p.line then none else some p.line
          out := if noLine p.line then 0x04 else 0x16 } })) ∧
      (p.transaction = true → awaits s .host = false → Does .transactionEnd s { s with port := { p with
        transaction := false, line := [], inLine := false, tooLong := false, corrupt := false, badChar := false
        lastCr := false, latched := none, out := 0 } }) ∧
      (p.transaction = true → awaits s .host = true → DoesSo .transactionEnd s fun w =>
        w.port = { p with
          transaction := false, line := [], inLine := false, tooLong := false, corrupt := false, badChar := false
          lastCr := false, latched := none, out := 0, sess := { p.sess with idleSince := s.now }
          answer := { p.answer with abandoned := true, no := 0 } } ∧
        w.live = s.live ∧ w.part = s.part ∧ w.interp.flash = s.interp.flash ∧
        (∀ run : Running, s.interp.script = some run → run.boot = false → run.by_.sess = .host → run.by_.no = p.answer.no →
          (run.waiting ≠ none → w.interp.script = some { run with stop := true }) ∧
          (run.waiting = none → w.interp.script = none)) ∧
        (s.interp.script = none → w.interp = s.interp ∧ w.log = s.log)) ∧
      (p.transaction = false → Does .transactionEnd s s)) ∧
  (∀ (s : State) (b : Byte) (fe : Bool) (p : Port), p = s.port →
      (p.opened = true → p.async = true → p.baud ≠ none → awaits s .host = false →
        DoesSo (.characterReceived b fe) s fun w => w = { s with port := w.port } ∧
          (0x20 ≤ b.toNat → b.toNat ≤ 0x7E → w.port.inLine = true ∧ w.port.lastCharAt = s.now ∧
            w.port.echo = (if p.echoOn then [if p.line.length < 255 then b else 7] else []) ∧
            w.port.corrupt = (p.corrupt || fe) ∧ w.port.line =
              (if p.line.length < 255 then p.line ++ [Char.ofNat b.toNat] else p.line) ∧
            w.port.tooLong = (p.tooLong || decide (255 ≤ p.line.length))) ∧
          (b = 0x08 ∨ b = 0x7F → w.port.line = p.line.dropLast ∧ w.port.corrupt = (p.corrupt || fe) ∧
            w.port.echo = if p.echoOn && decide (p.line ≠ []) then [0x08, 0x20, 0x08] else []) ∧
          (b = 0x15 → w.port.line = [] ∧ w.port.tooLong = false ∧
            w.port.echo = if p.echoOn then [0x5E, 0x55, 0x0D, 0x0A] else []) ∧
          (b = 0x0D ∨ (b = 0x0A ∧ p.lastCr = false) → w.port.line = [] ∧ w.port.inLine = false ∧
            w.port.latched = if noLine p.line then none else some p.line) ∧
          (b = 0x0A → p.lastCr = true → w.port = { p with lastCr := false, echo := [] }) ∧
          w.port.sess = p.sess ∧ w.port.answer = p.answer ∧ w.port.baud = p.baud) ∧
      (p.opened = false ∨ (p.async = true ∧ p.baud = none) ∨ (p.async = false ∧ p.transaction = false) ∨
        awaits s .host = true → Does (.characterReceived b fe) s s) ∧
      (∀ span : Nat,
        (p.opened = true → p.async = true → p.baud = none → 1200 * span ≤ 5000000000 → 5000000000 ≤ 460800 * span →
          Does (.baudMeasurement span) s { s with port := { p with
            baud := some (roundAway (5000000000 / (span : Rat))).natAbs, line := [], inLine := false, lastCr := true } }) ∧
        (p.opened = false ∨ p.async = false ∨ p.baud ≠ none ∨ 5000000000 < 1200 * span ∨ 460800 * span < 5000000000 →
          Does (.baudMeasurement span) s s)) ∧
      (∀ us : Nat,
        (p.async = true → 20000 ≤ us → Does (.breakReceived us) s { s with port := { p with
          baud := none, line := [], inLine := false, tooLong := false, corrupt := false, badChar := false, lastCr := false } }) ∧
        (p.async = false ∨ us < 20000 → Does (.breakReceived us) s s)) ∧
      (p.async = true → p.inLine = true → p.lastCharAt + 60 * usSec ≤ s.now →
        Does .partialLineTimeout s { s with port := { p with
          line := [], inLine := false, tooLong := false, corrupt := false, badChar := false, lastCr := false } }) ∧
      (p.async = false ∨ p.inLine = false ∨ s.now < p.lastCharAt + 60 * usSec → Does .partialLineTimeout s s))

/-- A CONSOLE'S SESSION IS OPENED, CARRIED AND ENDED (06 R370–R375, R377, R378, R388; 12 R651–R653): a frame heard is first kept as a raw
frame where a filter passes it; one that is not for this node goes no further. OPEN, without a session and with counter 1, opens one where
fewer than two are served, and is answered busy else. A DATA frame with the right MAC and a new counter joins the session's line, at
segment 0 anew, and the last segment completes it; one without a session is answered with ABORT; one of an old counter does nothing
more. A wrong MAC is counted and recorded, and the fifth ends the session, as CLOSE and ABORT do. A session whose idle time is
over has ended before OPEN or DATA reaches it. -/
def Obligations.ConsoleSessionsRun : Prop :=
  ∀ (s : State) (f : ConsoleFrame) (kept : Nat → State), kept = (fun kind => noteReceived f.bus (consoleRaw f kind) s) →
    (consoleHeard f s = false → Does (.consoleOpen f) s (kept 1) ∧ Does (.consoleData f) s (kept 0) ∧
      Does (.consoleClose f) s (kept 2) ∧ Does (.consoleAbort f) s (kept 3)) ∧
    (consoleHeard f s = true →
      (∀ u : State, u = consoleTimeout f.console (kept 1) →
        (consoleOf u f.console = none → f.counter = 1 → u.interp.consoles.length < 2 → DoesSo (.consoleOpen f) s fun w =>
          w.live = s.live ∧ w.port = u.port ∧ (∃ c, consoleOf w f.console = some c ∧ c.sess.role = .observer ∧ c.key = none ∧
            c.rxCounter = 1 ∧ c.sess.idleSince = s.now ∧ c.sess.timeout = s.live.secTimeout) ∧
          (∀ k : Fin 16, k ≠ f.console → consoleOf w k = consoleOf u k)) ∧
        (consoleOf u f.console = none → f.counter = 1 → 2 ≤ u.interp.consoles.length → DoesSo (.consoleOpen f) s fun w =>
          w.live = s.live ∧ w.interp = u.interp ∧ w.port = u.port) ∧
        (consoleOf u f.console = none → f.counter ≠ 1 → Does (.consoleOpen f) s u) ∧
        (∀ c : Console, consoleOf u f.console = some c → c.key = none ∨ frameMac f 1 c = f.mac →
          Does (.consoleOpen f) s (if f.counter.toNat ≤ c.rxCounter then u
            else onConsole f.console (fun c => { c with rxCounter := f.counter.toNat }) u))) ∧
      (∀ u : State, u = consoleTimeout f.console (kept 0) →
        (consoleOf u f.console = none → DoesSo (.consoleData f) s fun w => w.interp = u.interp ∧ w.live = s.live ∧
          w.port = u.port) ∧
        (∀ c : Console, consoleOf u f.console = some c →
          (c.key = none ∨ frameMac f 0 c = f.mac →
            (f.counter.toNat ≤ c.rxCounter → Does (.consoleData f) s u) ∧
            (c.rxCounter < f.counter.toNat → DoesSo (.consoleData f) s fun w => w = { u with interp := w.interp } ∧
              consoleOf w f.console = some { c with
                rxCounter := f.counter.toNat, buf := if f.segment = 0 then f.data else c.buf ++ f.data
                complete := f.last } ∧
              (∀ k : Fin 16, k ≠ f.console → consoleOf w k = consoleOf u k))) ∧
          (c.key ≠ none → frameMac f 0 c ≠ f.mac → DoesSo (.consoleData f) s fun w => w.live = s.live ∧
            (w.log.incoming = u.log.incoming → s.power.mode = .deep) ∧
            (c.wrongMacs < 4 → consoleOf w f.console = some { c with wrongMacs := c.wrongMacs + 1 }) ∧
            (4 ≤ c.wrongMacs → consoleOf w f.console = none) ∧
            (∀ k : Fin 16, k ≠ f.console → consoleOf w k = consoleOf u k)))) ∧
      (consoleOf s f.console = none → Does (.consoleClose f) s (kept 2) ∧ Does (.consoleAbort f) s (kept 3)) ∧
      (∀ c : Console, consoleOf s f.console = some c →
        (c.key = none ∨ frameMac f 2 c = f.mac →
          (f.counter.toNat ≤ c.rxCounter → Does (.consoleClose f) s (kept 2)) ∧
          (c.rxCounter < f.counter.toNat → DoesSo (.consoleClose f) s fun w => w.live = s.live ∧
            consoleOf w f.console = none ∧ (∀ k : Fin 16, k ≠ f.console → consoleOf w k = consoleOf s k))) ∧
        (c.key = none ∨ frameMac f 3 c = f.mac →
          (f.counter.toNat ≤ c.rxCounter → Does (.consoleAbort f) s (kept 3)) ∧
          (c.rxCounter < f.counter.toNat → DoesSo (.consoleAbort f) s fun w => w.live = s.live ∧
            consoleOf w f.console = none ∧ (∀ k : Fin 16, k ≠ f.console → consoleOf w k = consoleOf s k))) ∧
        (c.key ≠ none → (frameMac f 2 c ≠ f.mac → DoesSo (.consoleClose f) s fun w => w.live = s.live ∧
            (4 ≤ c.wrongMacs ↔ consoleOf w f.console = none)) ∧
          (frameMac f 3 c ≠ f.mac → DoesSo (.consoleAbort f) s fun w => w.live = s.live ∧
            (4 ≤ c.wrongMacs ↔ consoleOf w f.console = none)))))
end

