-- ==== Sys2Proof/Laws/State.lean ====
section
/-! SUPPORT. One lemma for each part of the state that an operation leaves, and for the part it changes. -/

namespace Sys2Proof.Machine

/-! ## onSlice -/

@[simp] theorem onSlice_pending (c : Ch) (f : Slice → Slice) (s : State) : (onSlice c f s).pending = s.pending := rfl
@[simp] theorem onSlice_now (c : Ch) (f : Slice → Slice) (s : State) : (onSlice c f s).now = s.now := rfl
@[simp] theorem onSlice_cycle (c : Ch) (f : Slice → Slice) (s : State) : (onSlice c f s).cycle = s.cycle := rfl
@[simp] theorem onSlice_freeCtr (c : Ch) (f : Slice → Slice) (s : State) : (onSlice c f s).freeCtr = s.freeCtr := rfl
@[simp] theorem onSlice_nodeTime (c : Ch) (f : Slice → Slice) (s : State) : (onSlice c f s).nodeTime = s.nodeTime := rfl
@[simp] theorem onSlice_ident (c : Ch) (f : Slice → Slice) (s : State) : (onSlice c f s).ident = s.ident := rfl
@[simp] theorem onSlice_pins (c : Ch) (f : Slice → Slice) (s : State) : (onSlice c f s).pins = s.pins := rfl
@[simp] theorem onSlice_pads (c : Ch) (f : Slice → Slice) (s : State) : (onSlice c f s).pads = s.pads := rfl
@[simp] theorem onSlice_live (c : Ch) (f : Slice → Slice) (s : State) : (onSlice c f s).live = s.live := rfl
@[simp] theorem onSlice_store (c : Ch) (f : Slice → Slice) (s : State) : (onSlice c f s).store = s.store := rfl
@[simp] theorem onSlice_images (c : Ch) (f : Slice → Slice) (s : State) : (onSlice c f s).images = s.images := rfl
@[simp] theorem onSlice_part (c : Ch) (f : Slice → Slice) (s : State) : (onSlice c f s).part = s.part := rfl
@[simp] theorem onSlice_keys (c : Ch) (f : Slice → Slice) (s : State) : (onSlice c f s).keys = s.keys := rfl
@[simp] theorem onSlice_dies (c : Ch) (f : Slice → Slice) (s : State) : (onSlice c f s).dies = s.dies := rfl
@[simp] theorem onSlice_engine (c : Ch) (f : Slice → Slice) (s : State) : (onSlice c f s).engine = s.engine := rfl
@[simp] theorem onSlice_caller (c : Ch) (f : Slice → Slice) (s : State) : (onSlice c f s).caller = s.caller := rfl
@[simp] theorem onSlice_watch (c : Ch) (f : Slice → Slice) (s : State) : (onSlice c f s).watch = s.watch := rfl
@[simp] theorem onSlice_can (c : Ch) (f : Slice → Slice) (s : State) : (onSlice c f s).can = s.can := rfl
@[simp] theorem onSlice_lx (c : Ch) (f : Slice → Slice) (s : State) : (onSlice c f s).lx = s.lx := rfl
@[simp] theorem onSlice_panel (c : Ch) (f : Slice → Slice) (s : State) : (onSlice c f s).panel = s.panel := rfl
@[simp] theorem onSlice_log (c : Ch) (f : Slice → Slice) (s : State) : (onSlice c f s).log = s.log := rfl
@[simp] theorem onSlice_port (c : Ch) (f : Slice → Slice) (s : State) : (onSlice c f s).port = s.port := rfl
@[simp] theorem onSlice_interp (c : Ch) (f : Slice → Slice) (s : State) : (onSlice c f s).interp = s.interp := rfl
@[simp] theorem onSlice_clk (c : Ch) (f : Slice → Slice) (s : State) : (onSlice c f s).clk = s.clk := rfl
@[simp] theorem onSlice_mem (c : Ch) (f : Slice → Slice) (s : State) : (onSlice c f s).mem = s.mem := rfl
@[simp] theorem onSlice_rst (c : Ch) (f : Slice → Slice) (s : State) : (onSlice c f s).rst = s.rst := rfl
@[simp] theorem onSlice_power (c : Ch) (f : Slice → Slice) (s : State) : (onSlice c f s).power = s.power := rfl
@[simp] theorem onSlice_flags (c : Ch) (f : Slice → Slice) (s : State) : (onSlice c f s).flags = s.flags := rfl
@[simp] theorem onSlice_stor (c : Ch) (f : Slice → Slice) (s : State) : (onSlice c f s).stor = s.stor := rfl

/-! ## onChFlag -/

@[simp] theorem onChFlag_pending (c : Ch) (b : Fin 12) (f : Flag → Flag) (s : State) : (onChFlag c b f s).pending = s.pending := rfl
@[simp] theorem onChFlag_now (c : Ch) (b : Fin 12) (f : Flag → Flag) (s : State) : (onChFlag c b f s).now = s.now := rfl
@[simp] theorem onChFlag_cycle (c : Ch) (b : Fin 12) (f : Flag → Flag) (s : State) : (onChFlag c b f s).cycle = s.cycle := rfl
@[simp] theorem onChFlag_freeCtr (c : Ch) (b : Fin 12) (f : Flag → Flag) (s : State) : (onChFlag c b f s).freeCtr = s.freeCtr := rfl
@[simp] theorem onChFlag_nodeTime (c : Ch) (b : Fin 12) (f : Flag → Flag) (s : State) : (onChFlag c b f s).nodeTime = s.nodeTime := rfl
@[simp] theorem onChFlag_ident (c : Ch) (b : Fin 12) (f : Flag → Flag) (s : State) : (onChFlag c b f s).ident = s.ident := rfl
@[simp] theorem onChFlag_pins (c : Ch) (b : Fin 12) (f : Flag → Flag) (s : State) : (onChFlag c b f s).pins = s.pins := rfl
@[simp] theorem onChFlag_pads (c : Ch) (b : Fin 12) (f : Flag → Flag) (s : State) : (onChFlag c b f s).pads = s.pads := rfl
@[simp] theorem onChFlag_live (c : Ch) (b : Fin 12) (f : Flag → Flag) (s : State) : (onChFlag c b f s).live = s.live := rfl
@[simp] theorem onChFlag_store (c : Ch) (b : Fin 12) (f : Flag → Flag) (s : State) : (onChFlag c b f s).store = s.store := rfl
@[simp] theorem onChFlag_images (c : Ch) (b : Fin 12) (f : Flag → Flag) (s : State) : (onChFlag c b f s).images = s.images := rfl
@[simp] theorem onChFlag_part (c : Ch) (b : Fin 12) (f : Flag → Flag) (s : State) : (onChFlag c b f s).part = s.part := rfl
@[simp] theorem onChFlag_keys (c : Ch) (b : Fin 12) (f : Flag → Flag) (s : State) : (onChFlag c b f s).keys = s.keys := rfl
@[simp] theorem onChFlag_dies (c : Ch) (b : Fin 12) (f : Flag → Flag) (s : State) : (onChFlag c b f s).dies = s.dies := rfl
@[simp] theorem onChFlag_engine (c : Ch) (b : Fin 12) (f : Flag → Flag) (s : State) : (onChFlag c b f s).engine = s.engine := rfl
@[simp] theorem onChFlag_caller (c : Ch) (b : Fin 12) (f : Flag → Flag) (s : State) : (onChFlag c b f s).caller = s.caller := rfl
@[simp] theorem onChFlag_watch (c : Ch) (b : Fin 12) (f : Flag → Flag) (s : State) : (onChFlag c b f s).watch = s.watch := rfl
@[simp] theorem onChFlag_can (c : Ch) (b : Fin 12) (f : Flag → Flag) (s : State) : (onChFlag c b f s).can = s.can := rfl
@[simp] theorem onChFlag_lx (c : Ch) (b : Fin 12) (f : Flag → Flag) (s : State) : (onChFlag c b f s).lx = s.lx := rfl
@[simp] theorem onChFlag_panel (c : Ch) (b : Fin 12) (f : Flag → Flag) (s : State) : (onChFlag c b f s).panel = s.panel := rfl
@[simp] theorem onChFlag_log (c : Ch) (b : Fin 12) (f : Flag → Flag) (s : State) : (onChFlag c b f s).log = s.log := rfl
@[simp] theorem onChFlag_port (c : Ch) (b : Fin 12) (f : Flag → Flag) (s : State) : (onChFlag c b f s).port = s.port := rfl
@[simp] theorem onChFlag_interp (c : Ch) (b : Fin 12) (f : Flag → Flag) (s : State) : (onChFlag c b f s).interp = s.interp := rfl
@[simp] theorem onChFlag_clk (c : Ch) (b : Fin 12) (f : Flag → Flag) (s : State) : (onChFlag c b f s).clk = s.clk := rfl
@[simp] theorem onChFlag_mem (c : Ch) (b : Fin 12) (f : Flag → Flag) (s : State) : (onChFlag c b f s).mem = s.mem := rfl
@[simp] theorem onChFlag_rst (c : Ch) (b : Fin 12) (f : Flag → Flag) (s : State) : (onChFlag c b f s).rst = s.rst := rfl
@[simp] theorem onChFlag_power (c : Ch) (b : Fin 12) (f : Flag → Flag) (s : State) : (onChFlag c b f s).power = s.power := rfl
@[simp] theorem onChFlag_flags (c : Ch) (b : Fin 12) (f : Flag → Flag) (s : State) : (onChFlag c b f s).flags = s.flags := rfl
@[simp] theorem onChFlag_stor (c : Ch) (b : Fin 12) (f : Flag → Flag) (s : State) : (onChFlag c b f s).stor = s.stor := rfl

/-! ## onCond -/

@[simp] theorem onCond_pending (c : Ch) (k : Cond) (f : CondState → CondState) (s : State) : (onCond c k f s).pending = s.pending := rfl
@[simp] theorem onCond_now (c : Ch) (k : Cond) (f : CondState → CondState) (s : State) : (onCond c k f s).now = s.now := rfl
@[simp] theorem onCond_cycle (c : Ch) (k : Cond) (f : CondState → CondState) (s : State) : (onCond c k f s).cycle = s.cycle := rfl
@[simp] theorem onCond_freeCtr (c : Ch) (k : Cond) (f : CondState → CondState) (s : State) : (onCond c k f s).freeCtr = s.freeCtr := rfl
@[simp] theorem onCond_nodeTime (c : Ch) (k : Cond) (f : CondState → CondState) (s : State) : (onCond c k f s).nodeTime = s.nodeTime := rfl
@[simp] theorem onCond_ident (c : Ch) (k : Cond) (f : CondState → CondState) (s : State) : (onCond c k f s).ident = s.ident := rfl
@[simp] theorem onCond_pins (c : Ch) (k : Cond) (f : CondState → CondState) (s : State) : (onCond c k f s).pins = s.pins := rfl
@[simp] theorem onCond_pads (c : Ch) (k : Cond) (f : CondState → CondState) (s : State) : (onCond c k f s).pads = s.pads := rfl
@[simp] theorem onCond_live (c : Ch) (k : Cond) (f : CondState → CondState) (s : State) : (onCond c k f s).live = s.live := rfl
@[simp] theorem onCond_store (c : Ch) (k : Cond) (f : CondState → CondState) (s : State) : (onCond c k f s).store = s.store := rfl
@[simp] theorem onCond_images (c : Ch) (k : Cond) (f : CondState → CondState) (s : State) : (onCond c k f s).images = s.images := rfl
@[simp] theorem onCond_part (c : Ch) (k : Cond) (f : CondState → CondState) (s : State) : (onCond c k f s).part = s.part := rfl
@[simp] theorem onCond_keys (c : Ch) (k : Cond) (f : CondState → CondState) (s : State) : (onCond c k f s).keys = s.keys := rfl
@[simp] theorem onCond_dies (c : Ch) (k : Cond) (f : CondState → CondState) (s : State) : (onCond c k f s).dies = s.dies := rfl
@[simp] theorem onCond_engine (c : Ch) (k : Cond) (f : CondState → CondState) (s : State) : (onCond c k f s).engine = s.engine := rfl
@[simp] theorem onCond_caller (c : Ch) (k : Cond) (f : CondState → CondState) (s : State) : (onCond c k f s).caller = s.caller := rfl
@[simp] theorem onCond_watch (c : Ch) (k : Cond) (f : CondState → CondState) (s : State) : (onCond c k f s).watch = s.watch := rfl
@[simp] theorem onCond_can (c : Ch) (k : Cond) (f : CondState → CondState) (s : State) : (onCond c k f s).can = s.can := rfl
@[simp] theorem onCond_lx (c : Ch) (k : Cond) (f : CondState → CondState) (s : State) : (onCond c k f s).lx = s.lx := rfl
@[simp] theorem onCond_panel (c : Ch) (k : Cond) (f : CondState → CondState) (s : State) : (onCond c k f s).panel = s.panel := rfl
@[simp] theorem onCond_log (c : Ch) (k : Cond) (f : CondState → CondState) (s : State) : (onCond c k f s).log = s.log := rfl
@[simp] theorem onCond_port (c : Ch) (k : Cond) (f : CondState → CondState) (s : State) : (onCond c k f s).port = s.port := rfl
@[simp] theorem onCond_interp (c : Ch) (k : Cond) (f : CondState → CondState) (s : State) : (onCond c k f s).interp = s.interp := rfl
@[simp] theorem onCond_clk (c : Ch) (k : Cond) (f : CondState → CondState) (s : State) : (onCond c k f s).clk = s.clk := rfl
@[simp] theorem onCond_mem (c : Ch) (k : Cond) (f : CondState → CondState) (s : State) : (onCond c k f s).mem = s.mem := rfl
@[simp] theorem onCond_rst (c : Ch) (k : Cond) (f : CondState → CondState) (s : State) : (onCond c k f s).rst = s.rst := rfl
@[simp] theorem onCond_power (c : Ch) (k : Cond) (f : CondState → CondState) (s : State) : (onCond c k f s).power = s.power := rfl
@[simp] theorem onCond_flags (c : Ch) (k : Cond) (f : CondState → CondState) (s : State) : (onCond c k f s).flags = s.flags := rfl
@[simp] theorem onCond_stor (c : Ch) (k : Cond) (f : CondState → CondState) (s : State) : (onCond c k f s).stor = s.stor := rfl

/-! ## onLamp -/

@[simp] theorem onLamp_pending (c : Ch) (f : Lamp → Lamp) (s : State) : (onLamp c f s).pending = s.pending := rfl
@[simp] theorem onLamp_now (c : Ch) (f : Lamp → Lamp) (s : State) : (onLamp c f s).now = s.now := rfl
@[simp] theorem onLamp_cycle (c : Ch) (f : Lamp → Lamp) (s : State) : (onLamp c f s).cycle = s.cycle := rfl
@[simp] theorem onLamp_freeCtr (c : Ch) (f : Lamp → Lamp) (s : State) : (onLamp c f s).freeCtr = s.freeCtr := rfl
@[simp] theorem onLamp_nodeTime (c : Ch) (f : Lamp → Lamp) (s : State) : (onLamp c f s).nodeTime = s.nodeTime := rfl
@[simp] theorem onLamp_ident (c : Ch) (f : Lamp → Lamp) (s : State) : (onLamp c f s).ident = s.ident := rfl
@[simp] theorem onLamp_pins (c : Ch) (f : Lamp → Lamp) (s : State) : (onLamp c f s).pins = s.pins := rfl
@[simp] theorem onLamp_pads (c : Ch) (f : Lamp → Lamp) (s : State) : (onLamp c f s).pads = s.pads := rfl
@[simp] theorem onLamp_live (c : Ch) (f : Lamp → Lamp) (s : State) : (onLamp c f s).live = s.live := rfl
@[simp] theorem onLamp_store (c : Ch) (f : Lamp → Lamp) (s : State) : (onLamp c f s).store = s.store := rfl
@[simp] theorem onLamp_images (c : Ch) (f : Lamp → Lamp) (s : State) : (onLamp c f s).images = s.images := rfl
@[simp] theorem onLamp_part (c : Ch) (f : Lamp → Lamp) (s : State) : (onLamp c f s).part = s.part := rfl
@[simp] theorem onLamp_keys (c : Ch) (f : Lamp → Lamp) (s : State) : (onLamp c f s).keys = s.keys := rfl
@[simp] theorem onLamp_dies (c : Ch) (f : Lamp → Lamp) (s : State) : (onLamp c f s).dies = s.dies := rfl
@[simp] theorem onLamp_engine (c : Ch) (f : Lamp → Lamp) (s : State) : (onLamp c f s).engine = s.engine := rfl
@[simp] theorem onLamp_caller (c : Ch) (f : Lamp → Lamp) (s : State) : (onLamp c f s).caller = s.caller := rfl
@[simp] theorem onLamp_watch (c : Ch) (f : Lamp → Lamp) (s : State) : (onLamp c f s).watch = s.watch := rfl
@[simp] theorem onLamp_can (c : Ch) (f : Lamp → Lamp) (s : State) : (onLamp c f s).can = s.can := rfl
@[simp] theorem onLamp_lx (c : Ch) (f : Lamp → Lamp) (s : State) : (onLamp c f s).lx = s.lx := rfl
@[simp] theorem onLamp_panel (c : Ch) (f : Lamp → Lamp) (s : State) : (onLamp c f s).panel = s.panel := rfl
@[simp] theorem onLamp_log (c : Ch) (f : Lamp → Lamp) (s : State) : (onLamp c f s).log = s.log := rfl
@[simp] theorem onLamp_port (c : Ch) (f : Lamp → Lamp) (s : State) : (onLamp c f s).port = s.port := rfl
@[simp] theorem onLamp_interp (c : Ch) (f : Lamp → Lamp) (s : State) : (onLamp c f s).interp = s.interp := rfl
@[simp] theorem onLamp_clk (c : Ch) (f : Lamp → Lamp) (s : State) : (onLamp c f s).clk = s.clk := rfl
@[simp] theorem onLamp_mem (c : Ch) (f : Lamp → Lamp) (s : State) : (onLamp c f s).mem = s.mem := rfl
@[simp] theorem onLamp_rst (c : Ch) (f : Lamp → Lamp) (s : State) : (onLamp c f s).rst = s.rst := rfl
@[simp] theorem onLamp_power (c : Ch) (f : Lamp → Lamp) (s : State) : (onLamp c f s).power = s.power := rfl
@[simp] theorem onLamp_flags (c : Ch) (f : Lamp → Lamp) (s : State) : (onLamp c f s).flags = s.flags := rfl
@[simp] theorem onLamp_stor (c : Ch) (f : Lamp → Lamp) (s : State) : (onLamp c f s).stor = s.stor := rfl

/-! ## onAlarm -/

@[simp] theorem onAlarm_pending (c : Ch) (k : Cond) (f : Alarm → Alarm) (s : State) : (onAlarm c k f s).pending = s.pending := rfl
@[simp] theorem onAlarm_now (c : Ch) (k : Cond) (f : Alarm → Alarm) (s : State) : (onAlarm c k f s).now = s.now := rfl
@[simp] theorem onAlarm_cycle (c : Ch) (k : Cond) (f : Alarm → Alarm) (s : State) : (onAlarm c k f s).cycle = s.cycle := rfl
@[simp] theorem onAlarm_freeCtr (c : Ch) (k : Cond) (f : Alarm → Alarm) (s : State) : (onAlarm c k f s).freeCtr = s.freeCtr := rfl
@[simp] theorem onAlarm_nodeTime (c : Ch) (k : Cond) (f : Alarm → Alarm) (s : State) : (onAlarm c k f s).nodeTime = s.nodeTime := rfl
@[simp] theorem onAlarm_ident (c : Ch) (k : Cond) (f : Alarm → Alarm) (s : State) : (onAlarm c k f s).ident = s.ident := rfl
@[simp] theorem onAlarm_pins (c : Ch) (k : Cond) (f : Alarm → Alarm) (s : State) : (onAlarm c k f s).pins = s.pins := rfl
@[simp] theorem onAlarm_pads (c : Ch) (k : Cond) (f : Alarm → Alarm) (s : State) : (onAlarm c k f s).pads = s.pads := rfl
@[simp] theorem onAlarm_live (c : Ch) (k : Cond) (f : Alarm → Alarm) (s : State) : (onAlarm c k f s).live = s.live := rfl
@[simp] theorem onAlarm_store (c : Ch) (k : Cond) (f : Alarm → Alarm) (s : State) : (onAlarm c k f s).store = s.store := rfl
@[simp] theorem onAlarm_images (c : Ch) (k : Cond) (f : Alarm → Alarm) (s : State) : (onAlarm c k f s).images = s.images := rfl
@[simp] theorem onAlarm_part (c : Ch) (k : Cond) (f : Alarm → Alarm) (s : State) : (onAlarm c k f s).part = s.part := rfl
@[simp] theorem onAlarm_keys (c : Ch) (k : Cond) (f : Alarm → Alarm) (s : State) : (onAlarm c k f s).keys = s.keys := rfl
@[simp] theorem onAlarm_slices (c : Ch) (k : Cond) (f : Alarm → Alarm) (s : State) : (onAlarm c k f s).slices = s.slices := rfl
@[simp] theorem onAlarm_dies (c : Ch) (k : Cond) (f : Alarm → Alarm) (s : State) : (onAlarm c k f s).dies = s.dies := rfl
@[simp] theorem onAlarm_caller (c : Ch) (k : Cond) (f : Alarm → Alarm) (s : State) : (onAlarm c k f s).caller = s.caller := rfl
@[simp] theorem onAlarm_watch (c : Ch) (k : Cond) (f : Alarm → Alarm) (s : State) : (onAlarm c k f s).watch = s.watch := rfl
@[simp] theorem onAlarm_can (c : Ch) (k : Cond) (f : Alarm → Alarm) (s : State) : (onAlarm c k f s).can = s.can := rfl
@[simp] theorem onAlarm_lx (c : Ch) (k : Cond) (f : Alarm → Alarm) (s : State) : (onAlarm c k f s).lx = s.lx := rfl
@[simp] theorem onAlarm_panel (c : Ch) (k : Cond) (f : Alarm → Alarm) (s : State) : (onAlarm c k f s).panel = s.panel := rfl
@[simp] theorem onAlarm_log (c : Ch) (k : Cond) (f : Alarm → Alarm) (s : State) : (onAlarm c k f s).log = s.log := rfl
@[simp] theorem onAlarm_port (c : Ch) (k : Cond) (f : Alarm → Alarm) (s : State) : (onAlarm c k f s).port = s.port := rfl
@[simp] theorem onAlarm_interp (c : Ch) (k : Cond) (f : Alarm → Alarm) (s : State) : (onAlarm c k f s).interp = s.interp := rfl
@[simp] theorem onAlarm_clk (c : Ch) (k : Cond) (f : Alarm → Alarm) (s : State) : (onAlarm c k f s).clk = s.clk := rfl
@[simp] theorem onAlarm_mem (c : Ch) (k : Cond) (f : Alarm → Alarm) (s : State) : (onAlarm c k f s).mem = s.mem := rfl
@[simp] theorem onAlarm_rst (c : Ch) (k : Cond) (f : Alarm → Alarm) (s : State) : (onAlarm c k f s).rst = s.rst := rfl
@[simp] theorem onAlarm_power (c : Ch) (k : Cond) (f : Alarm → Alarm) (s : State) : (onAlarm c k f s).power = s.power := rfl
@[simp] theorem onAlarm_flags (c : Ch) (k : Cond) (f : Alarm → Alarm) (s : State) : (onAlarm c k f s).flags = s.flags := rfl
@[simp] theorem onAlarm_stor (c : Ch) (k : Cond) (f : Alarm → Alarm) (s : State) : (onAlarm c k f s).stor = s.stor := rfl

/-! ## onMember -/

@[simp] theorem onMember_pending (m : Member) (f : G31Alarm → G31Alarm) (s : State) : (onMember m f s).pending = s.pending := rfl
@[simp] theorem onMember_now (m : Member) (f : G31Alarm → G31Alarm) (s : State) : (onMember m f s).now = s.now := rfl
@[simp] theorem onMember_cycle (m : Member) (f : G31Alarm → G31Alarm) (s : State) : (onMember m f s).cycle = s.cycle := rfl
@[simp] theorem onMember_freeCtr (m : Member) (f : G31Alarm → G31Alarm) (s : State) : (onMember m f s).freeCtr = s.freeCtr := rfl
@[simp] theorem onMember_nodeTime (m : Member) (f : G31Alarm → G31Alarm) (s : State) : (onMember m f s).nodeTime = s.nodeTime := rfl
@[simp] theorem onMember_ident (m : Member) (f : G31Alarm → G31Alarm) (s : State) : (onMember m f s).ident = s.ident := rfl
@[simp] theorem onMember_pins (m : Member) (f : G31Alarm → G31Alarm) (s : State) : (onMember m f s).pins = s.pins := rfl
@[simp] theorem onMember_pads (m : Member) (f : G31Alarm → G31Alarm) (s : State) : (onMember m f s).pads = s.pads := rfl
@[simp] theorem onMember_live (m : Member) (f : G31Alarm → G31Alarm) (s : State) : (onMember m f s).live = s.live := rfl
@[simp] theorem onMember_store (m : Member) (f : G31Alarm → G31Alarm) (s : State) : (onMember m f s).store = s.store := rfl
@[simp] theorem onMember_images (m : Member) (f : G31Alarm → G31Alarm) (s : State) : (onMember m f s).images = s.images := rfl
@[simp] theorem onMember_part (m : Member) (f : G31Alarm → G31Alarm) (s : State) : (onMember m f s).part = s.part := rfl
@[simp] theorem onMember_keys (m : Member) (f : G31Alarm → G31Alarm) (s : State) : (onMember m f s).keys = s.keys := rfl
@[simp] theorem onMember_slices (m : Member) (f : G31Alarm → G31Alarm) (s : State) : (onMember m f s).slices = s.slices := rfl
@[simp] theorem onMember_dies (m : Member) (f : G31Alarm → G31Alarm) (s : State) : (onMember m f s).dies = s.dies := rfl
@[simp] theorem onMember_caller (m : Member) (f : G31Alarm → G31Alarm) (s : State) : (onMember m f s).caller = s.caller := rfl
@[simp] theorem onMember_watch (m : Member) (f : G31Alarm → G31Alarm) (s : State) : (onMember m f s).watch = s.watch := rfl
@[simp] theorem onMember_can (m : Member) (f : G31Alarm → G31Alarm) (s : State) : (onMember m f s).can = s.can := rfl
@[simp] theorem onMember_lx (m : Member) (f : G31Alarm → G31Alarm) (s : State) : (onMember m f s).lx = s.lx := rfl
@[simp] theorem onMember_panel (m : Member) (f : G31Alarm → G31Alarm) (s : State) : (onMember m f s).panel = s.panel := rfl
@[simp] theorem onMember_log (m : Member) (f : G31Alarm → G31Alarm) (s : State) : (onMember m f s).log = s.log := rfl
@[simp] theorem onMember_port (m : Member) (f : G31Alarm → G31Alarm) (s : State) : (onMember m f s).port = s.port := rfl
@[simp] theorem onMember_interp (m : Member) (f : G31Alarm → G31Alarm) (s : State) : (onMember m f s).interp = s.interp := rfl
@[simp] theorem onMember_clk (m : Member) (f : G31Alarm → G31Alarm) (s : State) : (onMember m f s).clk = s.clk := rfl
@[simp] theorem onMember_mem (m : Member) (f : G31Alarm → G31Alarm) (s : State) : (onMember m f s).mem = s.mem := rfl
@[simp] theorem onMember_rst (m : Member) (f : G31Alarm → G31Alarm) (s : State) : (onMember m f s).rst = s.rst := rfl
@[simp] theorem onMember_power (m : Member) (f : G31Alarm → G31Alarm) (s : State) : (onMember m f s).power = s.power := rfl
@[simp] theorem onMember_flags (m : Member) (f : G31Alarm → G31Alarm) (s : State) : (onMember m f s).flags = s.flags := rfl
@[simp] theorem onMember_stor (m : Member) (f : G31Alarm → G31Alarm) (s : State) : (onMember m f s).stor = s.stor := rfl

/-! ## onCall -/

@[simp] theorem onCall_pending (n : NodeNo) (g : Grp) (f : Call → Call) (s : State) : (onCall n g f s).pending = s.pending := rfl
@[simp] theorem onCall_now (n : NodeNo) (g : Grp) (f : Call → Call) (s : State) : (onCall n g f s).now = s.now := rfl
@[simp] theorem onCall_cycle (n : NodeNo) (g : Grp) (f : Call → Call) (s : State) : (onCall n g f s).cycle = s.cycle := rfl
@[simp] theorem onCall_freeCtr (n : NodeNo) (g : Grp) (f : Call → Call) (s : State) : (onCall n g f s).freeCtr = s.freeCtr := rfl
@[simp] theorem onCall_nodeTime (n : NodeNo) (g : Grp) (f : Call → Call) (s : State) : (onCall n g f s).nodeTime = s.nodeTime := rfl
@[simp] theorem onCall_ident (n : NodeNo) (g : Grp) (f : Call → Call) (s : State) : (onCall n g f s).ident = s.ident := rfl
@[simp] theorem onCall_pins (n : NodeNo) (g : Grp) (f : Call → Call) (s : State) : (onCall n g f s).pins = s.pins := rfl
@[simp] theorem onCall_pads (n : NodeNo) (g : Grp) (f : Call → Call) (s : State) : (onCall n g f s).pads = s.pads := rfl
@[simp] theorem onCall_live (n : NodeNo) (g : Grp) (f : Call → Call) (s : State) : (onCall n g f s).live = s.live := rfl
@[simp] theorem onCall_store (n : NodeNo) (g : Grp) (f : Call → Call) (s : State) : (onCall n g f s).store = s.store := rfl
@[simp] theorem onCall_images (n : NodeNo) (g : Grp) (f : Call → Call) (s : State) : (onCall n g f s).images = s.images := rfl
@[simp] theorem onCall_part (n : NodeNo) (g : Grp) (f : Call → Call) (s : State) : (onCall n g f s).part = s.part := rfl
@[simp] theorem onCall_keys (n : NodeNo) (g : Grp) (f : Call → Call) (s : State) : (onCall n g f s).keys = s.keys := rfl
@[simp] theorem onCall_slices (n : NodeNo) (g : Grp) (f : Call → Call) (s : State) : (onCall n g f s).slices = s.slices := rfl
@[simp] theorem onCall_dies (n : NodeNo) (g : Grp) (f : Call → Call) (s : State) : (onCall n g f s).dies = s.dies := rfl
@[simp] theorem onCall_engine (n : NodeNo) (g : Grp) (f : Call → Call) (s : State) : (onCall n g f s).engine = s.engine := rfl
@[simp] theorem onCall_watch (n : NodeNo) (g : Grp) (f : Call → Call) (s : State) : (onCall n g f s).watch = s.watch := rfl
@[simp] theorem onCall_can (n : NodeNo) (g : Grp) (f : Call → Call) (s : State) : (onCall n g f s).can = s.can := rfl
@[simp] theorem onCall_lx (n : NodeNo) (g : Grp) (f : Call → Call) (s : State) : (onCall n g f s).lx = s.lx := rfl
@[simp] theorem onCall_panel (n : NodeNo) (g : Grp) (f : Call → Call) (s : State) : (onCall n g f s).panel = s.panel := rfl
@[simp] theorem onCall_log (n : NodeNo) (g : Grp) (f : Call → Call) (s : State) : (onCall n g f s).log = s.log := rfl
@[simp] theorem onCall_port (n : NodeNo) (g : Grp) (f : Call → Call) (s : State) : (onCall n g f s).port = s.port := rfl
@[simp] theorem onCall_interp (n : NodeNo) (g : Grp) (f : Call → Call) (s : State) : (onCall n g f s).interp = s.interp := rfl
@[simp] theorem onCall_clk (n : NodeNo) (g : Grp) (f : Call → Call) (s : State) : (onCall n g f s).clk = s.clk := rfl
@[simp] theorem onCall_mem (n : NodeNo) (g : Grp) (f : Call → Call) (s : State) : (onCall n g f s).mem = s.mem := rfl
@[simp] theorem onCall_rst (n : NodeNo) (g : Grp) (f : Call → Call) (s : State) : (onCall n g f s).rst = s.rst := rfl
@[simp] theorem onCall_power (n : NodeNo) (g : Grp) (f : Call → Call) (s : State) : (onCall n g f s).power = s.power := rfl
@[simp] theorem onCall_flags (n : NodeNo) (g : Grp) (f : Call → Call) (s : State) : (onCall n g f s).flags = s.flags := rfl
@[simp] theorem onCall_stor (n : NodeNo) (g : Grp) (f : Call → Call) (s : State) : (onCall n g f s).stor = s.stor := rfl

/-! ## onCan -/

@[simp] theorem onCan_pending (b : Bus) (f : Can → Can) (s : State) : (onCan b f s).pending = s.pending := rfl
@[simp] theorem onCan_now (b : Bus) (f : Can → Can) (s : State) : (onCan b f s).now = s.now := rfl
@[simp] theorem onCan_cycle (b : Bus) (f : Can → Can) (s : State) : (onCan b f s).cycle = s.cycle := rfl
@[simp] theorem onCan_freeCtr (b : Bus) (f : Can → Can) (s : State) : (onCan b f s).freeCtr = s.freeCtr := rfl
@[simp] theorem onCan_nodeTime (b : Bus) (f : Can → Can) (s : State) : (onCan b f s).nodeTime = s.nodeTime := rfl
@[simp] theorem onCan_ident (b : Bus) (f : Can → Can) (s : State) : (onCan b f s).ident = s.ident := rfl
@[simp] theorem onCan_pins (b : Bus) (f : Can → Can) (s : State) : (onCan b f s).pins = s.pins := rfl
@[simp] theorem onCan_pads (b : Bus) (f : Can → Can) (s : State) : (onCan b f s).pads = s.pads := rfl
@[simp] theorem onCan_live (b : Bus) (f : Can → Can) (s : State) : (onCan b f s).live = s.live := rfl
@[simp] theorem onCan_store (b : Bus) (f : Can → Can) (s : State) : (onCan b f s).store = s.store := rfl
@[simp] theorem onCan_images (b : Bus) (f : Can → Can) (s : State) : (onCan b f s).images = s.images := rfl
@[simp] theorem onCan_part (b : Bus) (f : Can → Can) (s : State) : (onCan b f s).part = s.part := rfl
@[simp] theorem onCan_keys (b : Bus) (f : Can → Can) (s : State) : (onCan b f s).keys = s.keys := rfl
@[simp] theorem onCan_slices (b : Bus) (f : Can → Can) (s : State) : (onCan b f s).slices = s.slices := rfl
@[simp] theorem onCan_dies (b : Bus) (f : Can → Can) (s : State) : (onCan b f s).dies = s.dies := rfl
@[simp] theorem onCan_engine (b : Bus) (f : Can → Can) (s : State) : (onCan b f s).engine = s.engine := rfl
@[simp] theorem onCan_caller (b : Bus) (f : Can → Can) (s : State) : (onCan b f s).caller = s.caller := rfl
@[simp] theorem onCan_watch (b : Bus) (f : Can → Can) (s : State) : (onCan b f s).watch = s.watch := rfl
@[simp] theorem onCan_lx (b : Bus) (f : Can → Can) (s : State) : (onCan b f s).lx = s.lx := rfl
@[simp] theorem onCan_panel (b : Bus) (f : Can → Can) (s : State) : (onCan b f s).panel = s.panel := rfl
@[simp] theorem onCan_log (b : Bus) (f : Can → Can) (s : State) : (onCan b f s).log = s.log := rfl
@[simp] theorem onCan_port (b : Bus) (f : Can → Can) (s : State) : (onCan b f s).port = s.port := rfl
@[simp] theorem onCan_interp (b : Bus) (f : Can → Can) (s : State) : (onCan b f s).interp = s.interp := rfl
@[simp] theorem onCan_clk (b : Bus) (f : Can → Can) (s : State) : (onCan b f s).clk = s.clk := rfl
@[simp] theorem onCan_mem (b : Bus) (f : Can → Can) (s : State) : (onCan b f s).mem = s.mem := rfl
@[simp] theorem onCan_rst (b : Bus) (f : Can → Can) (s : State) : (onCan b f s).rst = s.rst := rfl
@[simp] theorem onCan_power (b : Bus) (f : Can → Can) (s : State) : (onCan b f s).power = s.power := rfl
@[simp] theorem onCan_flags (b : Bus) (f : Can → Can) (s : State) : (onCan b f s).flags = s.flags := rfl
@[simp] theorem onCan_stor (b : Bus) (f : Can → Can) (s : State) : (onCan b f s).stor = s.stor := rfl

/-! ## onLx -/

@[simp] theorem onLx_pending (n : Lx) (f : LoopOut → LoopOut) (s : State) : (onLx n f s).pending = s.pending := rfl
@[simp] theorem onLx_now (n : Lx) (f : LoopOut → LoopOut) (s : State) : (onLx n f s).now = s.now := rfl
@[simp] theorem onLx_cycle (n : Lx) (f : LoopOut → LoopOut) (s : State) : (onLx n f s).cycle = s.cycle := rfl
@[simp] theorem onLx_freeCtr (n : Lx) (f : LoopOut → LoopOut) (s : State) : (onLx n f s).freeCtr = s.freeCtr := rfl
@[simp] theorem onLx_nodeTime (n : Lx) (f : LoopOut → LoopOut) (s : State) : (onLx n f s).nodeTime = s.nodeTime := rfl
@[simp] theorem onLx_ident (n : Lx) (f : LoopOut → LoopOut) (s : State) : (onLx n f s).ident = s.ident := rfl
@[simp] theorem onLx_pins (n : Lx) (f : LoopOut → LoopOut) (s : State) : (onLx n f s).pins = s.pins := rfl
@[simp] theorem onLx_pads (n : Lx) (f : LoopOut → LoopOut) (s : State) : (onLx n f s).pads = s.pads := rfl
@[simp] theorem onLx_live (n : Lx) (f : LoopOut → LoopOut) (s : State) : (onLx n f s).live = s.live := rfl
@[simp] theorem onLx_store (n : Lx) (f : LoopOut → LoopOut) (s : State) : (onLx n f s).store = s.store := rfl
@[simp] theorem onLx_images (n : Lx) (f : LoopOut → LoopOut) (s : State) : (onLx n f s).images = s.images := rfl
@[simp] theorem onLx_part (n : Lx) (f : LoopOut → LoopOut) (s : State) : (onLx n f s).part = s.part := rfl
@[simp] theorem onLx_keys (n : Lx) (f : LoopOut → LoopOut) (s : State) : (onLx n f s).keys = s.keys := rfl
@[simp] theorem onLx_slices (n : Lx) (f : LoopOut → LoopOut) (s : State) : (onLx n f s).slices = s.slices := rfl
@[simp] theorem onLx_dies (n : Lx) (f : LoopOut → LoopOut) (s : State) : (onLx n f s).dies = s.dies := rfl
@[simp] theorem onLx_engine (n : Lx) (f : LoopOut → LoopOut) (s : State) : (onLx n f s).engine = s.engine := rfl
@[simp] theorem onLx_caller (n : Lx) (f : LoopOut → LoopOut) (s : State) : (onLx n f s).caller = s.caller := rfl
@[simp] theorem onLx_watch (n : Lx) (f : LoopOut → LoopOut) (s : State) : (onLx n f s).watch = s.watch := rfl
@[simp] theorem onLx_can (n : Lx) (f : LoopOut → LoopOut) (s : State) : (onLx n f s).can = s.can := rfl
@[simp] theorem onLx_panel (n : Lx) (f : LoopOut → LoopOut) (s : State) : (onLx n f s).panel = s.panel := rfl
@[simp] theorem onLx_log (n : Lx) (f : LoopOut → LoopOut) (s : State) : (onLx n f s).log = s.log := rfl
@[simp] theorem onLx_port (n : Lx) (f : LoopOut → LoopOut) (s : State) : (onLx n f s).port = s.port := rfl
@[simp] theorem onLx_interp (n : Lx) (f : LoopOut → LoopOut) (s : State) : (onLx n f s).interp = s.interp := rfl
@[simp] theorem onLx_clk (n : Lx) (f : LoopOut → LoopOut) (s : State) : (onLx n f s).clk = s.clk := rfl
@[simp] theorem onLx_mem (n : Lx) (f : LoopOut → LoopOut) (s : State) : (onLx n f s).mem = s.mem := rfl
@[simp] theorem onLx_rst (n : Lx) (f : LoopOut → LoopOut) (s : State) : (onLx n f s).rst = s.rst := rfl
@[simp] theorem onLx_power (n : Lx) (f : LoopOut → LoopOut) (s : State) : (onLx n f s).power = s.power := rfl
@[simp] theorem onLx_flags (n : Lx) (f : LoopOut → LoopOut) (s : State) : (onLx n f s).flags = s.flags := rfl
@[simp] theorem onLx_stor (n : Lx) (f : LoopOut → LoopOut) (s : State) : (onLx n f s).stor = s.stor := rfl

/-! ## onPeer -/

@[simp] theorem onPeer_pending (n : NodeNo) (f : Peer → Peer) (s : State) : (onPeer n f s).pending = s.pending := rfl
@[simp] theorem onPeer_now (n : NodeNo) (f : Peer → Peer) (s : State) : (onPeer n f s).now = s.now := rfl
@[simp] theorem onPeer_cycle (n : NodeNo) (f : Peer → Peer) (s : State) : (onPeer n f s).cycle = s.cycle := rfl
@[simp] theorem onPeer_freeCtr (n : NodeNo) (f : Peer → Peer) (s : State) : (onPeer n f s).freeCtr = s.freeCtr := rfl
@[simp] theorem onPeer_nodeTime (n : NodeNo) (f : Peer → Peer) (s : State) : (onPeer n f s).nodeTime = s.nodeTime := rfl
@[simp] theorem onPeer_ident (n : NodeNo) (f : Peer → Peer) (s : State) : (onPeer n f s).ident = s.ident := rfl
@[simp] theorem onPeer_pins (n : NodeNo) (f : Peer → Peer) (s : State) : (onPeer n f s).pins = s.pins := rfl
@[simp] theorem onPeer_pads (n : NodeNo) (f : Peer → Peer) (s : State) : (onPeer n f s).pads = s.pads := rfl
@[simp] theorem onPeer_live (n : NodeNo) (f : Peer → Peer) (s : State) : (onPeer n f s).live = s.live := rfl
@[simp] theorem onPeer_store (n : NodeNo) (f : Peer → Peer) (s : State) : (onPeer n f s).store = s.store := rfl
@[simp] theorem onPeer_images (n : NodeNo) (f : Peer → Peer) (s : State) : (onPeer n f s).images = s.images := rfl
@[simp] theorem onPeer_part (n : NodeNo) (f : Peer → Peer) (s : State) : (onPeer n f s).part = s.part := rfl
@[simp] theorem onPeer_keys (n : NodeNo) (f : Peer → Peer) (s : State) : (onPeer n f s).keys = s.keys := rfl
@[simp] theorem onPeer_slices (n : NodeNo) (f : Peer → Peer) (s : State) : (onPeer n f s).slices = s.slices := rfl
@[simp] theorem onPeer_dies (n : NodeNo) (f : Peer → Peer) (s : State) : (onPeer n f s).dies = s.dies := rfl
@[simp] theorem onPeer_engine (n : NodeNo) (f : Peer → Peer) (s : State) : (onPeer n f s).engine = s.engine := rfl
@[simp] theorem onPeer_caller (n : NodeNo) (f : Peer → Peer) (s : State) : (onPeer n f s).caller = s.caller := rfl
@[simp] theorem onPeer_can (n : NodeNo) (f : Peer → Peer) (s : State) : (onPeer n f s).can = s.can := rfl
@[simp] theorem onPeer_lx (n : NodeNo) (f : Peer → Peer) (s : State) : (onPeer n f s).lx = s.lx := rfl
@[simp] theorem onPeer_panel (n : NodeNo) (f : Peer → Peer) (s : State) : (onPeer n f s).panel = s.panel := rfl
@[simp] theorem onPeer_log (n : NodeNo) (f : Peer → Peer) (s : State) : (onPeer n f s).log = s.log := rfl
@[simp] theorem onPeer_port (n : NodeNo) (f : Peer → Peer) (s : State) : (onPeer n f s).port = s.port := rfl
@[simp] theorem onPeer_interp (n : NodeNo) (f : Peer → Peer) (s : State) : (onPeer n f s).interp = s.interp := rfl
@[simp] theorem onPeer_clk (n : NodeNo) (f : Peer → Peer) (s : State) : (onPeer n f s).clk = s.clk := rfl
@[simp] theorem onPeer_mem (n : NodeNo) (f : Peer → Peer) (s : State) : (onPeer n f s).mem = s.mem := rfl
@[simp] theorem onPeer_rst (n : NodeNo) (f : Peer → Peer) (s : State) : (onPeer n f s).rst = s.rst := rfl
@[simp] theorem onPeer_power (n : NodeNo) (f : Peer → Peer) (s : State) : (onPeer n f s).power = s.power := rfl
@[simp] theorem onPeer_flags (n : NodeNo) (f : Peer → Peer) (s : State) : (onPeer n f s).flags = s.flags := rfl
@[simp] theorem onPeer_stor (n : NodeNo) (f : Peer → Peer) (s : State) : (onPeer n f s).stor = s.stor := rfl

/-! ## onBank -/

@[simp] theorem onBank_pending (b : Bank) (f : BankSt → BankSt) (s : State) : (onBank b f s).pending = s.pending := rfl
@[simp] theorem onBank_now (b : Bank) (f : BankSt → BankSt) (s : State) : (onBank b f s).now = s.now := rfl
@[simp] theorem onBank_cycle (b : Bank) (f : BankSt → BankSt) (s : State) : (onBank b f s).cycle = s.cycle := rfl
@[simp] theorem onBank_freeCtr (b : Bank) (f : BankSt → BankSt) (s : State) : (onBank b f s).freeCtr = s.freeCtr := rfl
@[simp] theorem onBank_nodeTime (b : Bank) (f : BankSt → BankSt) (s : State) : (onBank b f s).nodeTime = s.nodeTime := rfl
@[simp] theorem onBank_ident (b : Bank) (f : BankSt → BankSt) (s : State) : (onBank b f s).ident = s.ident := rfl
@[simp] theorem onBank_pins (b : Bank) (f : BankSt → BankSt) (s : State) : (onBank b f s).pins = s.pins := rfl
@[simp] theorem onBank_pads (b : Bank) (f : BankSt → BankSt) (s : State) : (onBank b f s).pads = s.pads := rfl
@[simp] theorem onBank_live (b : Bank) (f : BankSt → BankSt) (s : State) : (onBank b f s).live = s.live := rfl
@[simp] theorem onBank_store (b : Bank) (f : BankSt → BankSt) (s : State) : (onBank b f s).store = s.store := rfl
@[simp] theorem onBank_images (b : Bank) (f : BankSt → BankSt) (s : State) : (onBank b f s).images = s.images := rfl
@[simp] theorem onBank_part (b : Bank) (f : BankSt → BankSt) (s : State) : (onBank b f s).part = s.part := rfl
@[simp] theorem onBank_keys (b : Bank) (f : BankSt → BankSt) (s : State) : (onBank b f s).keys = s.keys := rfl
@[simp] theorem onBank_slices (b : Bank) (f : BankSt → BankSt) (s : State) : (onBank b f s).slices = s.slices := rfl
@[simp] theorem onBank_dies (b : Bank) (f : BankSt → BankSt) (s : State) : (onBank b f s).dies = s.dies := rfl
@[simp] theorem onBank_engine (b : Bank) (f : BankSt → BankSt) (s : State) : (onBank b f s).engine = s.engine := rfl
@[simp] theorem onBank_caller (b : Bank) (f : BankSt → BankSt) (s : State) : (onBank b f s).caller = s.caller := rfl
@[simp] theorem onBank_watch (b : Bank) (f : BankSt → BankSt) (s : State) : (onBank b f s).watch = s.watch := rfl
@[simp] theorem onBank_can (b : Bank) (f : BankSt → BankSt) (s : State) : (onBank b f s).can = s.can := rfl
@[simp] theorem onBank_lx (b : Bank) (f : BankSt → BankSt) (s : State) : (onBank b f s).lx = s.lx := rfl
@[simp] theorem onBank_panel (b : Bank) (f : BankSt → BankSt) (s : State) : (onBank b f s).panel = s.panel := rfl
@[simp] theorem onBank_log (b : Bank) (f : BankSt → BankSt) (s : State) : (onBank b f s).log = s.log := rfl
@[simp] theorem onBank_port (b : Bank) (f : BankSt → BankSt) (s : State) : (onBank b f s).port = s.port := rfl
@[simp] theorem onBank_interp (b : Bank) (f : BankSt → BankSt) (s : State) : (onBank b f s).interp = s.interp := rfl
@[simp] theorem onBank_clk (b : Bank) (f : BankSt → BankSt) (s : State) : (onBank b f s).clk = s.clk := rfl
@[simp] theorem onBank_rst (b : Bank) (f : BankSt → BankSt) (s : State) : (onBank b f s).rst = s.rst := rfl
@[simp] theorem onBank_power (b : Bank) (f : BankSt → BankSt) (s : State) : (onBank b f s).power = s.power := rfl
@[simp] theorem onBank_flags (b : Bank) (f : BankSt → BankSt) (s : State) : (onBank b f s).flags = s.flags := rfl
@[simp] theorem onBank_stor (b : Bank) (f : BankSt → BankSt) (s : State) : (onBank b f s).stor = s.stor := rfl

/-! ## onHpEvent -/

@[simp] theorem onHpEvent_pending (b : Fin 8) (f : Flag → Flag) (s : State) : (onHpEvent b f s).pending = s.pending := rfl
@[simp] theorem onHpEvent_now (b : Fin 8) (f : Flag → Flag) (s : State) : (onHpEvent b f s).now = s.now := rfl
@[simp] theorem onHpEvent_cycle (b : Fin 8) (f : Flag → Flag) (s : State) : (onHpEvent b f s).cycle = s.cycle := rfl
@[simp] theorem onHpEvent_freeCtr (b : Fin 8) (f : Flag → Flag) (s : State) : (onHpEvent b f s).freeCtr = s.freeCtr := rfl
@[simp] theorem onHpEvent_nodeTime (b : Fin 8) (f : Flag → Flag) (s : State) : (onHpEvent b f s).nodeTime = s.nodeTime := rfl
@[simp] theorem onHpEvent_ident (b : Fin 8) (f : Flag → Flag) (s : State) : (onHpEvent b f s).ident = s.ident := rfl
@[simp] theorem onHpEvent_pins (b : Fin 8) (f : Flag → Flag) (s : State) : (onHpEvent b f s).pins = s.pins := rfl
@[simp] theorem onHpEvent_pads (b : Fin 8) (f : Flag → Flag) (s : State) : (onHpEvent b f s).pads = s.pads := rfl
@[simp] theorem onHpEvent_live (b : Fin 8) (f : Flag → Flag) (s : State) : (onHpEvent b f s).live = s.live := rfl
@[simp] theorem onHpEvent_store (b : Fin 8) (f : Flag → Flag) (s : State) : (onHpEvent b f s).store = s.store := rfl
@[simp] theorem onHpEvent_images (b : Fin 8) (f : Flag → Flag) (s : State) : (onHpEvent b f s).images = s.images := rfl
@[simp] theorem onHpEvent_part (b : Fin 8) (f : Flag → Flag) (s : State) : (onHpEvent b f s).part = s.part := rfl
@[simp] theorem onHpEvent_keys (b : Fin 8) (f : Flag → Flag) (s : State) : (onHpEvent b f s).keys = s.keys := rfl
@[simp] theorem onHpEvent_slices (b : Fin 8) (f : Flag → Flag) (s : State) : (onHpEvent b f s).slices = s.slices := rfl
@[simp] theorem onHpEvent_dies (b : Fin 8) (f : Flag → Flag) (s : State) : (onHpEvent b f s).dies = s.dies := rfl
@[simp] theorem onHpEvent_engine (b : Fin 8) (f : Flag → Flag) (s : State) : (onHpEvent b f s).engine = s.engine := rfl
@[simp] theorem onHpEvent_caller (b : Fin 8) (f : Flag → Flag) (s : State) : (onHpEvent b f s).caller = s.caller := rfl
@[simp] theorem onHpEvent_watch (b : Fin 8) (f : Flag → Flag) (s : State) : (onHpEvent b f s).watch = s.watch := rfl
@[simp] theorem onHpEvent_can (b : Fin 8) (f : Flag → Flag) (s : State) : (onHpEvent b f s).can = s.can := rfl
@[simp] theorem onHpEvent_lx (b : Fin 8) (f : Flag → Flag) (s : State) : (onHpEvent b f s).lx = s.lx := rfl
@[simp] theorem onHpEvent_panel (b : Fin 8) (f : Flag → Flag) (s : State) : (onHpEvent b f s).panel = s.panel := rfl
@[simp] theorem onHpEvent_log (b : Fin 8) (f : Flag → Flag) (s : State) : (onHpEvent b f s).log = s.log := rfl
@[simp] theorem onHpEvent_interp (b : Fin 8) (f : Flag → Flag) (s : State) : (onHpEvent b f s).interp = s.interp := rfl
@[simp] theorem onHpEvent_clk (b : Fin 8) (f : Flag → Flag) (s : State) : (onHpEvent b f s).clk = s.clk := rfl
@[simp] theorem onHpEvent_mem (b : Fin 8) (f : Flag → Flag) (s : State) : (onHpEvent b f s).mem = s.mem := rfl
@[simp] theorem onHpEvent_rst (b : Fin 8) (f : Flag → Flag) (s : State) : (onHpEvent b f s).rst = s.rst := rfl
@[simp] theorem onHpEvent_power (b : Fin 8) (f : Flag → Flag) (s : State) : (onHpEvent b f s).power = s.power := rfl
@[simp] theorem onHpEvent_flags (b : Fin 8) (f : Flag → Flag) (s : State) : (onHpEvent b f s).flags = s.flags := rfl
@[simp] theorem onHpEvent_stor (b : Fin 8) (f : Flag → Flag) (s : State) : (onHpEvent b f s).stor = s.stor := rfl

/-! ## setVsup -/

@[simp] theorem setVsup_pending (mV : Nat) (s : State) : (setVsup mV s).pending = s.pending := rfl
@[simp] theorem setVsup_now (mV : Nat) (s : State) : (setVsup mV s).now = s.now := rfl
@[simp] theorem setVsup_cycle (mV : Nat) (s : State) : (setVsup mV s).cycle = s.cycle := rfl
@[simp] theorem setVsup_freeCtr (mV : Nat) (s : State) : (setVsup mV s).freeCtr = s.freeCtr := rfl
@[simp] theorem setVsup_nodeTime (mV : Nat) (s : State) : (setVsup mV s).nodeTime = s.nodeTime := rfl
@[simp] theorem setVsup_ident (mV : Nat) (s : State) : (setVsup mV s).ident = s.ident := rfl
@[simp] theorem setVsup_pads (mV : Nat) (s : State) : (setVsup mV s).pads = s.pads := rfl
@[simp] theorem setVsup_live (mV : Nat) (s : State) : (setVsup mV s).live = s.live := rfl
@[simp] theorem setVsup_store (mV : Nat) (s : State) : (setVsup mV s).store = s.store := rfl
@[simp] theorem setVsup_images (mV : Nat) (s : State) : (setVsup mV s).images = s.images := rfl
@[simp] theorem setVsup_part (mV : Nat) (s : State) : (setVsup mV s).part = s.part := rfl
@[simp] theorem setVsup_keys (mV : Nat) (s : State) : (setVsup mV s).keys = s.keys := rfl
@[simp] theorem setVsup_slices (mV : Nat) (s : State) : (setVsup mV s).slices = s.slices := rfl
@[simp] theorem setVsup_dies (mV : Nat) (s : State) : (setVsup mV s).dies = s.dies := rfl
@[simp] theorem setVsup_engine (mV : Nat) (s : State) : (setVsup mV s).engine = s.engine := rfl
@[simp] theorem setVsup_caller (mV : Nat) (s : State) : (setVsup mV s).caller = s.caller := rfl
@[simp] theorem setVsup_watch (mV : Nat) (s : State) : (setVsup mV s).watch = s.watch := rfl
@[simp] theorem setVsup_can (mV : Nat) (s : State) : (setVsup mV s).can = s.can := rfl
@[simp] theorem setVsup_lx (mV : Nat) (s : State) : (setVsup mV s).lx = s.lx := rfl
@[simp] theorem setVsup_panel (mV : Nat) (s : State) : (setVsup mV s).panel = s.panel := rfl
@[simp] theorem setVsup_log (mV : Nat) (s : State) : (setVsup mV s).log = s.log := rfl
@[simp] theorem setVsup_port (mV : Nat) (s : State) : (setVsup mV s).port = s.port := rfl
@[simp] theorem setVsup_interp (mV : Nat) (s : State) : (setVsup mV s).interp = s.interp := rfl
@[simp] theorem setVsup_clk (mV : Nat) (s : State) : (setVsup mV s).clk = s.clk := rfl
@[simp] theorem setVsup_mem (mV : Nat) (s : State) : (setVsup mV s).mem = s.mem := rfl
@[simp] theorem setVsup_rst (mV : Nat) (s : State) : (setVsup mV s).rst = s.rst := rfl
@[simp] theorem setVsup_power (mV : Nat) (s : State) : (setVsup mV s).power = s.power := rfl
@[simp] theorem setVsup_flags (mV : Nat) (s : State) : (setVsup mV s).flags = s.flags := rfl
@[simp] theorem setVsup_stor (mV : Nat) (s : State) : (setVsup mV s).stor = s.stor := rfl

/-! ## clearBank -/

@[simp] theorem clearBank_pending (b : Bank) (s : State) : (clearBank b s).pending = s.pending := rfl
@[simp] theorem clearBank_now (b : Bank) (s : State) : (clearBank b s).now = s.now := rfl
@[simp] theorem clearBank_cycle (b : Bank) (s : State) : (clearBank b s).cycle = s.cycle := rfl
@[simp] theorem clearBank_freeCtr (b : Bank) (s : State) : (clearBank b s).freeCtr = s.freeCtr := rfl
@[simp] theorem clearBank_nodeTime (b : Bank) (s : State) : (clearBank b s).nodeTime = s.nodeTime := rfl
@[simp] theorem clearBank_ident (b : Bank) (s : State) : (clearBank b s).ident = s.ident := rfl
@[simp] theorem clearBank_pins (b : Bank) (s : State) : (clearBank b s).pins = s.pins := rfl
@[simp] theorem clearBank_pads (b : Bank) (s : State) : (clearBank b s).pads = s.pads := rfl
@[simp] theorem clearBank_live (b : Bank) (s : State) : (clearBank b s).live = s.live := rfl
@[simp] theorem clearBank_store (b : Bank) (s : State) : (clearBank b s).store = s.store := rfl
@[simp] theorem clearBank_images (b : Bank) (s : State) : (clearBank b s).images = s.images := rfl
@[simp] theorem clearBank_part (b : Bank) (s : State) : (clearBank b s).part = s.part := rfl
@[simp] theorem clearBank_keys (b : Bank) (s : State) : (clearBank b s).keys = s.keys := rfl
@[simp] theorem clearBank_slices (b : Bank) (s : State) : (clearBank b s).slices = s.slices := rfl
@[simp] theorem clearBank_dies (b : Bank) (s : State) : (clearBank b s).dies = s.dies := rfl
@[simp] theorem clearBank_engine (b : Bank) (s : State) : (clearBank b s).engine = s.engine := rfl
@[simp] theorem clearBank_caller (b : Bank) (s : State) : (clearBank b s).caller = s.caller := rfl
@[simp] theorem clearBank_watch (b : Bank) (s : State) : (clearBank b s).watch = s.watch := rfl
@[simp] theorem clearBank_can (b : Bank) (s : State) : (clearBank b s).can = s.can := rfl
@[simp] theorem clearBank_lx (b : Bank) (s : State) : (clearBank b s).lx = s.lx := rfl
@[simp] theorem clearBank_panel (b : Bank) (s : State) : (clearBank b s).panel = s.panel := rfl
@[simp] theorem clearBank_log (b : Bank) (s : State) : (clearBank b s).log = s.log := rfl
@[simp] theorem clearBank_port (b : Bank) (s : State) : (clearBank b s).port = s.port := rfl
@[simp] theorem clearBank_interp (b : Bank) (s : State) : (clearBank b s).interp = s.interp := rfl
@[simp] theorem clearBank_clk (b : Bank) (s : State) : (clearBank b s).clk = s.clk := rfl
@[simp] theorem clearBank_rst (b : Bank) (s : State) : (clearBank b s).rst = s.rst := rfl
@[simp] theorem clearBank_power (b : Bank) (s : State) : (clearBank b s).power = s.power := rfl
@[simp] theorem clearBank_flags (b : Bank) (s : State) : (clearBank b s).flags = s.flags := rfl
@[simp] theorem clearBank_stor (b : Bank) (s : State) : (clearBank b s).stor = s.stor := rfl

/-! ## noteRead -/

@[simp] theorem noteRead_pending (b : Bank) (word : Nat) (w : RawWord) (s : State) : (noteRead b word w s).pending = s.pending := rfl
@[simp] theorem noteRead_now (b : Bank) (word : Nat) (w : RawWord) (s : State) : (noteRead b word w s).now = s.now := rfl
@[simp] theorem noteRead_cycle (b : Bank) (word : Nat) (w : RawWord) (s : State) : (noteRead b word w s).cycle = s.cycle := rfl
@[simp] theorem noteRead_freeCtr (b : Bank) (word : Nat) (w : RawWord) (s : State) : (noteRead b word w s).freeCtr = s.freeCtr := rfl
@[simp] theorem noteRead_nodeTime (b : Bank) (word : Nat) (w : RawWord) (s : State) : (noteRead b word w s).nodeTime = s.nodeTime := rfl
@[simp] theorem noteRead_ident (b : Bank) (word : Nat) (w : RawWord) (s : State) : (noteRead b word w s).ident = s.ident := rfl
@[simp] theorem noteRead_pins (b : Bank) (word : Nat) (w : RawWord) (s : State) : (noteRead b word w s).pins = s.pins := rfl
@[simp] theorem noteRead_pads (b : Bank) (word : Nat) (w : RawWord) (s : State) : (noteRead b word w s).pads = s.pads := rfl
@[simp] theorem noteRead_live (b : Bank) (word : Nat) (w : RawWord) (s : State) : (noteRead b word w s).live = s.live := rfl
@[simp] theorem noteRead_store (b : Bank) (word : Nat) (w : RawWord) (s : State) : (noteRead b word w s).store = s.store := rfl
@[simp] theorem noteRead_images (b : Bank) (word : Nat) (w : RawWord) (s : State) : (noteRead b word w s).images = s.images := rfl
@[simp] theorem noteRead_part (b : Bank) (word : Nat) (w : RawWord) (s : State) : (noteRead b word w s).part = s.part := rfl
@[simp] theorem noteRead_keys (b : Bank) (word : Nat) (w : RawWord) (s : State) : (noteRead b word w s).keys = s.keys := rfl
@[simp] theorem noteRead_slices (b : Bank) (word : Nat) (w : RawWord) (s : State) : (noteRead b word w s).slices = s.slices := rfl
@[simp] theorem noteRead_dies (b : Bank) (word : Nat) (w : RawWord) (s : State) : (noteRead b word w s).dies = s.dies := rfl
@[simp] theorem noteRead_engine (b : Bank) (word : Nat) (w : RawWord) (s : State) : (noteRead b word w s).engine = s.engine := rfl
@[simp] theorem noteRead_caller (b : Bank) (word : Nat) (w : RawWord) (s : State) : (noteRead b word w s).caller = s.caller := rfl
@[simp] theorem noteRead_watch (b : Bank) (word : Nat) (w : RawWord) (s : State) : (noteRead b word w s).watch = s.watch := rfl
@[simp] theorem noteRead_can (b : Bank) (word : Nat) (w : RawWord) (s : State) : (noteRead b word w s).can = s.can := rfl
@[simp] theorem noteRead_lx (b : Bank) (word : Nat) (w : RawWord) (s : State) : (noteRead b word w s).lx = s.lx := rfl
@[simp] theorem noteRead_panel (b : Bank) (word : Nat) (w : RawWord) (s : State) : (noteRead b word w s).panel = s.panel := rfl
@[simp] theorem noteRead_log (b : Bank) (word : Nat) (w : RawWord) (s : State) : (noteRead b word w s).log = s.log := rfl
@[simp] theorem noteRead_port (b : Bank) (word : Nat) (w : RawWord) (s : State) : (noteRead b word w s).port = s.port := rfl
@[simp] theorem noteRead_interp (b : Bank) (word : Nat) (w : RawWord) (s : State) : (noteRead b word w s).interp = s.interp := rfl
@[simp] theorem noteRead_clk (b : Bank) (word : Nat) (w : RawWord) (s : State) : (noteRead b word w s).clk = s.clk := rfl
@[simp] theorem noteRead_rst (b : Bank) (word : Nat) (w : RawWord) (s : State) : (noteRead b word w s).rst = s.rst := rfl
@[simp] theorem noteRead_power (b : Bank) (word : Nat) (w : RawWord) (s : State) : (noteRead b word w s).power = s.power := rfl
@[simp] theorem noteRead_flags (b : Bank) (word : Nat) (w : RawWord) (s : State) : (noteRead b word w s).flags = s.flags := rfl
@[simp] theorem noteRead_stor (b : Bank) (word : Nat) (w : RawWord) (s : State) : (noteRead b word w s).stor = s.stor := rfl

/-! ## onPanel -/

@[simp] theorem onPanel_pending (f : Panel → Panel) (s : State) : (onPanel f s).pending = s.pending := rfl
@[simp] theorem onPanel_now (f : Panel → Panel) (s : State) : (onPanel f s).now = s.now := rfl
@[simp] theorem onPanel_cycle (f : Panel → Panel) (s : State) : (onPanel f s).cycle = s.cycle := rfl
@[simp] theorem onPanel_freeCtr (f : Panel → Panel) (s : State) : (onPanel f s).freeCtr = s.freeCtr := rfl
@[simp] theorem onPanel_nodeTime (f : Panel → Panel) (s : State) : (onPanel f s).nodeTime = s.nodeTime := rfl
@[simp] theorem onPanel_ident (f : Panel → Panel) (s : State) : (onPanel f s).ident = s.ident := rfl
@[simp] theorem onPanel_pins (f : Panel → Panel) (s : State) : (onPanel f s).pins = s.pins := rfl
@[simp] theorem onPanel_pads (f : Panel → Panel) (s : State) : (onPanel f s).pads = s.pads := rfl
@[simp] theorem onPanel_live (f : Panel → Panel) (s : State) : (onPanel f s).live = s.live := rfl
@[simp] theorem onPanel_store (f : Panel → Panel) (s : State) : (onPanel f s).store = s.store := rfl
@[simp] theorem onPanel_images (f : Panel → Panel) (s : State) : (onPanel f s).images = s.images := rfl
@[simp] theorem onPanel_part (f : Panel → Panel) (s : State) : (onPanel f s).part = s.part := rfl
@[simp] theorem onPanel_keys (f : Panel → Panel) (s : State) : (onPanel f s).keys = s.keys := rfl
@[simp] theorem onPanel_slices (f : Panel → Panel) (s : State) : (onPanel f s).slices = s.slices := rfl
@[simp] theorem onPanel_dies (f : Panel → Panel) (s : State) : (onPanel f s).dies = s.dies := rfl
@[simp] theorem onPanel_engine (f : Panel → Panel) (s : State) : (onPanel f s).engine = s.engine := rfl
@[simp] theorem onPanel_caller (f : Panel → Panel) (s : State) : (onPanel f s).caller = s.caller := rfl
@[simp] theorem onPanel_watch (f : Panel → Panel) (s : State) : (onPanel f s).watch = s.watch := rfl
@[simp] theorem onPanel_can (f : Panel → Panel) (s : State) : (onPanel f s).can = s.can := rfl
@[simp] theorem onPanel_lx (f : Panel → Panel) (s : State) : (onPanel f s).lx = s.lx := rfl
@[simp] theorem onPanel_log (f : Panel → Panel) (s : State) : (onPanel f s).log = s.log := rfl
@[simp] theorem onPanel_port (f : Panel → Panel) (s : State) : (onPanel f s).port = s.port := rfl
@[simp] theorem onPanel_interp (f : Panel → Panel) (s : State) : (onPanel f s).interp = s.interp := rfl
@[simp] theorem onPanel_clk (f : Panel → Panel) (s : State) : (onPanel f s).clk = s.clk := rfl
@[simp] theorem onPanel_mem (f : Panel → Panel) (s : State) : (onPanel f s).mem = s.mem := rfl
@[simp] theorem onPanel_rst (f : Panel → Panel) (s : State) : (onPanel f s).rst = s.rst := rfl
@[simp] theorem onPanel_power (f : Panel → Panel) (s : State) : (onPanel f s).power = s.power := rfl
@[simp] theorem onPanel_flags (f : Panel → Panel) (s : State) : (onPanel f s).flags = s.flags := rfl
@[simp] theorem onPanel_stor (f : Panel → Panel) (s : State) : (onPanel f s).stor = s.stor := rfl

/-! ## onLog -/

@[simp] theorem onLog_pending (f : Log → Log) (s : State) : (onLog f s).pending = s.pending := rfl
@[simp] theorem onLog_now (f : Log → Log) (s : State) : (onLog f s).now = s.now := rfl
@[simp] theorem onLog_cycle (f : Log → Log) (s : State) : (onLog f s).cycle = s.cycle := rfl
@[simp] theorem onLog_freeCtr (f : Log → Log) (s : State) : (onLog f s).freeCtr = s.freeCtr := rfl
@[simp] theorem onLog_nodeTime (f : Log → Log) (s : State) : (onLog f s).nodeTime = s.nodeTime := rfl
@[simp] theorem onLog_ident (f : Log → Log) (s : State) : (onLog f s).ident = s.ident := rfl
@[simp] theorem onLog_pins (f : Log → Log) (s : State) : (onLog f s).pins = s.pins := rfl
@[simp] theorem onLog_pads (f : Log → Log) (s : State) : (onLog f s).pads = s.pads := rfl
@[simp] theorem onLog_live (f : Log → Log) (s : State) : (onLog f s).live = s.live := rfl
@[simp] theorem onLog_store (f : Log → Log) (s : State) : (onLog f s).store = s.store := rfl
@[simp] theorem onLog_images (f : Log → Log) (s : State) : (onLog f s).images = s.images := rfl
@[simp] theorem onLog_part (f : Log → Log) (s : State) : (onLog f s).part = s.part := rfl
@[simp] theorem onLog_keys (f : Log → Log) (s : State) : (onLog f s).keys = s.keys := rfl
@[simp] theorem onLog_slices (f : Log → Log) (s : State) : (onLog f s).slices = s.slices := rfl
@[simp] theorem onLog_dies (f : Log → Log) (s : State) : (onLog f s).dies = s.dies := rfl
@[simp] theorem onLog_engine (f : Log → Log) (s : State) : (onLog f s).engine = s.engine := rfl
@[simp] theorem onLog_caller (f : Log → Log) (s : State) : (onLog f s).caller = s.caller := rfl
@[simp] theorem onLog_watch (f : Log → Log) (s : State) : (onLog f s).watch = s.watch := rfl
@[simp] theorem onLog_can (f : Log → Log) (s : State) : (onLog f s).can = s.can := rfl
@[simp] theorem onLog_lx (f : Log → Log) (s : State) : (onLog f s).lx = s.lx := rfl
@[simp] theorem onLog_panel (f : Log → Log) (s : State) : (onLog f s).panel = s.panel := rfl
@[simp] theorem onLog_port (f : Log → Log) (s : State) : (onLog f s).port = s.port := rfl
@[simp] theorem onLog_interp (f : Log → Log) (s : State) : (onLog f s).interp = s.interp := rfl
@[simp] theorem onLog_clk (f : Log → Log) (s : State) : (onLog f s).clk = s.clk := rfl
@[simp] theorem onLog_mem (f : Log → Log) (s : State) : (onLog f s).mem = s.mem := rfl
@[simp] theorem onLog_rst (f : Log → Log) (s : State) : (onLog f s).rst = s.rst := rfl
@[simp] theorem onLog_power (f : Log → Log) (s : State) : (onLog f s).power = s.power := rfl
@[simp] theorem onLog_flags (f : Log → Log) (s : State) : (onLog f s).flags = s.flags := rfl
@[simp] theorem onLog_stor (f : Log → Log) (s : State) : (onLog f s).stor = s.stor := rfl

/-! ## portTakes -/

@[simp] theorem portTakes_pending (s : State) : (portTakes s).pending = s.pending := rfl
@[simp] theorem portTakes_now (s : State) : (portTakes s).now = s.now := rfl
@[simp] theorem portTakes_cycle (s : State) : (portTakes s).cycle = s.cycle := rfl
@[simp] theorem portTakes_freeCtr (s : State) : (portTakes s).freeCtr = s.freeCtr := rfl
@[simp] theorem portTakes_nodeTime (s : State) : (portTakes s).nodeTime = s.nodeTime := rfl
@[simp] theorem portTakes_ident (s : State) : (portTakes s).ident = s.ident := rfl
@[simp] theorem portTakes_pins (s : State) : (portTakes s).pins = s.pins := rfl
@[simp] theorem portTakes_pads (s : State) : (portTakes s).pads = s.pads := rfl
@[simp] theorem portTakes_live (s : State) : (portTakes s).live = s.live := rfl
@[simp] theorem portTakes_store (s : State) : (portTakes s).store = s.store := rfl
@[simp] theorem portTakes_images (s : State) : (portTakes s).images = s.images := rfl
@[simp] theorem portTakes_part (s : State) : (portTakes s).part = s.part := rfl
@[simp] theorem portTakes_keys (s : State) : (portTakes s).keys = s.keys := rfl
@[simp] theorem portTakes_slices (s : State) : (portTakes s).slices = s.slices := rfl
@[simp] theorem portTakes_dies (s : State) : (portTakes s).dies = s.dies := rfl
@[simp] theorem portTakes_engine (s : State) : (portTakes s).engine = s.engine := rfl
@[simp] theorem portTakes_caller (s : State) : (portTakes s).caller = s.caller := rfl
@[simp] theorem portTakes_watch (s : State) : (portTakes s).watch = s.watch := rfl
@[simp] theorem portTakes_can (s : State) : (portTakes s).can = s.can := rfl
@[simp] theorem portTakes_lx (s : State) : (portTakes s).lx = s.lx := rfl
@[simp] theorem portTakes_panel (s : State) : (portTakes s).panel = s.panel := rfl
@[simp] theorem portTakes_log (s : State) : (portTakes s).log = s.log := rfl
@[simp] theorem portTakes_interp (s : State) : (portTakes s).interp = s.interp := rfl
@[simp] theorem portTakes_clk (s : State) : (portTakes s).clk = s.clk := rfl
@[simp] theorem portTakes_mem (s : State) : (portTakes s).mem = s.mem := rfl
@[simp] theorem portTakes_rst (s : State) : (portTakes s).rst = s.rst := rfl
@[simp] theorem portTakes_power (s : State) : (portTakes s).power = s.power := rfl
@[simp] theorem portTakes_flags (s : State) : (portTakes s).flags = s.flags := rfl
@[simp] theorem portTakes_stor (s : State) : (portTakes s).stor = s.stor := rfl

/-! ## settle -/

@[simp] theorem settle_pending (s : State) : (settle s).pending = s.pending := rfl
@[simp] theorem settle_now (s : State) : (settle s).now = s.now := rfl
@[simp] theorem settle_freeCtr (s : State) : (settle s).freeCtr = s.freeCtr := rfl
@[simp] theorem settle_nodeTime (s : State) : (settle s).nodeTime = s.nodeTime := rfl
@[simp] theorem settle_ident (s : State) : (settle s).ident = s.ident := rfl
@[simp] theorem settle_pins (s : State) : (settle s).pins = s.pins := rfl
@[simp] theorem settle_live (s : State) : (settle s).live = s.live := rfl
@[simp] theorem settle_store (s : State) : (settle s).store = s.store := rfl
@[simp] theorem settle_images (s : State) : (settle s).images = s.images := rfl
@[simp] theorem settle_part (s : State) : (settle s).part = s.part := rfl
@[simp] theorem settle_keys (s : State) : (settle s).keys = s.keys := rfl
@[simp] theorem settle_slices (s : State) : (settle s).slices = s.slices := rfl
@[simp] theorem settle_dies (s : State) : (settle s).dies = s.dies := rfl
@[simp] theorem settle_engine (s : State) : (settle s).engine = s.engine := rfl
@[simp] theorem settle_caller (s : State) : (settle s).caller = s.caller := rfl
@[simp] theorem settle_watch (s : State) : (settle s).watch = s.watch := rfl
@[simp] theorem settle_can (s : State) : (settle s).can = s.can := rfl
@[simp] theorem settle_lx (s : State) : (settle s).lx = s.lx := rfl
@[simp] theorem settle_panel (s : State) : (settle s).panel = s.panel := rfl
@[simp] theorem settle_log (s : State) : (settle s).log = s.log := rfl
@[simp] theorem settle_interp (s : State) : (settle s).interp = s.interp := rfl
@[simp] theorem settle_clk (s : State) : (settle s).clk = s.clk := rfl
@[simp] theorem settle_mem (s : State) : (settle s).mem = s.mem := rfl
@[simp] theorem settle_rst (s : State) : (settle s).rst = s.rst := rfl
@[simp] theorem settle_power (s : State) : (settle s).power = s.power := rfl
@[simp] theorem settle_flags (s : State) : (settle s).flags = s.flags := rfl
@[simp] theorem settle_stor (s : State) : (settle s).stor = s.stor := rfl

/-! ## emit -/

@[simp] theorem emit_pending (e : Event) (s : State) : (emit e s).pending = s.pending := by unfold emit; split <;> rfl
@[simp] theorem emit_now (e : Event) (s : State) : (emit e s).now = s.now := by unfold emit; split <;> rfl
@[simp] theorem emit_cycle (e : Event) (s : State) : (emit e s).cycle = s.cycle := by unfold emit; split <;> rfl
@[simp] theorem emit_freeCtr (e : Event) (s : State) : (emit e s).freeCtr = s.freeCtr := by unfold emit; split <;> rfl
@[simp] theorem emit_nodeTime (e : Event) (s : State) : (emit e s).nodeTime = s.nodeTime := by unfold emit; split <;> rfl
@[simp] theorem emit_ident (e : Event) (s : State) : (emit e s).ident = s.ident := by unfold emit; split <;> rfl
@[simp] theorem emit_pins (e : Event) (s : State) : (emit e s).pins = s.pins := by unfold emit; split <;> rfl
@[simp] theorem emit_pads (e : Event) (s : State) : (emit e s).pads = s.pads := by unfold emit; split <;> rfl
@[simp] theorem emit_live (e : Event) (s : State) : (emit e s).live = s.live := by unfold emit; split <;> rfl
@[simp] theorem emit_store (e : Event) (s : State) : (emit e s).store = s.store := by unfold emit; split <;> rfl
@[simp] theorem emit_images (e : Event) (s : State) : (emit e s).images = s.images := by unfold emit; split <;> rfl
@[simp] theorem emit_part (e : Event) (s : State) : (emit e s).part = s.part := by unfold emit; split <;> rfl
@[simp] theorem emit_keys (e : Event) (s : State) : (emit e s).keys = s.keys := by unfold emit; split <;> rfl
@[simp] theorem emit_slices (e : Event) (s : State) : (emit e s).slices = s.slices := by unfold emit; split <;> rfl
@[simp] theorem emit_dies (e : Event) (s : State) : (emit e s).dies = s.dies := by unfold emit; split <;> rfl
@[simp] theorem emit_engine (e : Event) (s : State) : (emit e s).engine = s.engine := by unfold emit; split <;> rfl
@[simp] theorem emit_caller (e : Event) (s : State) : (emit e s).caller = s.caller := by unfold emit; split <;> rfl
@[simp] theorem emit_watch (e : Event) (s : State) : (emit e s).watch = s.watch := by unfold emit; split <;> rfl
@[simp] theorem emit_can (e : Event) (s : State) : (emit e s).can = s.can := by unfold emit; split <;> rfl
@[simp] theorem emit_lx (e : Event) (s : State) : (emit e s).lx = s.lx := by unfold emit; split <;> rfl
@[simp] theorem emit_panel (e : Event) (s : State) : (emit e s).panel = s.panel := by unfold emit; split <;> rfl
@[simp] theorem emit_port (e : Event) (s : State) : (emit e s).port = s.port := by unfold emit; split <;> rfl
@[simp] theorem emit_interp (e : Event) (s : State) : (emit e s).interp = s.interp := by unfold emit; split <;> rfl
@[simp] theorem emit_clk (e : Event) (s : State) : (emit e s).clk = s.clk := by unfold emit; split <;> rfl
@[simp] theorem emit_mem (e : Event) (s : State) : (emit e s).mem = s.mem := by unfold emit; split <;> rfl
@[simp] theorem emit_rst (e : Event) (s : State) : (emit e s).rst = s.rst := by unfold emit; split <;> rfl
@[simp] theorem emit_power (e : Event) (s : State) : (emit e s).power = s.power := by unfold emit; split <;> rfl
@[simp] theorem emit_flags (e : Event) (s : State) : (emit e s).flags = s.flags := by unfold emit; split <;> rfl
@[simp] theorem emit_stor (e : Event) (s : State) : (emit e s).stor = s.stor := by unfold emit; split <;> rfl

/-! ## emitBlock -/

@[simp] theorem emitBlock_pending (i : Nat) (c : BitVec 16) (v : BitVec 32) (b : List Nat) (s : State) : (emitBlock i c v b s).pending = s.pending := emit_pending _ s
@[simp] theorem emitBlock_now (i : Nat) (c : BitVec 16) (v : BitVec 32) (b : List Nat) (s : State) : (emitBlock i c v b s).now = s.now := emit_now _ s
@[simp] theorem emitBlock_cycle (i : Nat) (c : BitVec 16) (v : BitVec 32) (b : List Nat) (s : State) : (emitBlock i c v b s).cycle = s.cycle := emit_cycle _ s
@[simp] theorem emitBlock_freeCtr (i : Nat) (c : BitVec 16) (v : BitVec 32) (b : List Nat) (s : State) : (emitBlock i c v b s).freeCtr = s.freeCtr := emit_freeCtr _ s
@[simp] theorem emitBlock_nodeTime (i : Nat) (c : BitVec 16) (v : BitVec 32) (b : List Nat) (s : State) : (emitBlock i c v b s).nodeTime = s.nodeTime := emit_nodeTime _ s
@[simp] theorem emitBlock_ident (i : Nat) (c : BitVec 16) (v : BitVec 32) (b : List Nat) (s : State) : (emitBlock i c v b s).ident = s.ident := emit_ident _ s
@[simp] theorem emitBlock_pins (i : Nat) (c : BitVec 16) (v : BitVec 32) (b : List Nat) (s : State) : (emitBlock i c v b s).pins = s.pins := emit_pins _ s
@[simp] theorem emitBlock_pads (i : Nat) (c : BitVec 16) (v : BitVec 32) (b : List Nat) (s : State) : (emitBlock i c v b s).pads = s.pads := emit_pads _ s
@[simp] theorem emitBlock_live (i : Nat) (c : BitVec 16) (v : BitVec 32) (b : List Nat) (s : State) : (emitBlock i c v b s).live = s.live := emit_live _ s
@[simp] theorem emitBlock_store (i : Nat) (c : BitVec 16) (v : BitVec 32) (b : List Nat) (s : State) : (emitBlock i c v b s).store = s.store := emit_store _ s
@[simp] theorem emitBlock_images (i : Nat) (c : BitVec 16) (v : BitVec 32) (b : List Nat) (s : State) : (emitBlock i c v b s).images = s.images := emit_images _ s
@[simp] theorem emitBlock_part (i : Nat) (c : BitVec 16) (v : BitVec 32) (b : List Nat) (s : State) : (emitBlock i c v b s).part = s.part := emit_part _ s
@[simp] theorem emitBlock_keys (i : Nat) (c : BitVec 16) (v : BitVec 32) (b : List Nat) (s : State) : (emitBlock i c v b s).keys = s.keys := emit_keys _ s
@[simp] theorem emitBlock_slices (i : Nat) (c : BitVec 16) (v : BitVec 32) (b : List Nat) (s : State) : (emitBlock i c v b s).slices = s.slices := emit_slices _ s
@[simp] theorem emitBlock_dies (i : Nat) (c : BitVec 16) (v : BitVec 32) (b : List Nat) (s : State) : (emitBlock i c v b s).dies = s.dies := emit_dies _ s
@[simp] theorem emitBlock_engine (i : Nat) (c : BitVec 16) (v : BitVec 32) (b : List Nat) (s : State) : (emitBlock i c v b s).engine = s.engine := emit_engine _ s
@[simp] theorem emitBlock_caller (i : Nat) (c : BitVec 16) (v : BitVec 32) (b : List Nat) (s : State) : (emitBlock i c v b s).caller = s.caller := emit_caller _ s
@[simp] theorem emitBlock_watch (i : Nat) (c : BitVec 16) (v : BitVec 32) (b : List Nat) (s : State) : (emitBlock i c v b s).watch = s.watch := emit_watch _ s
@[simp] theorem emitBlock_can (i : Nat) (c : BitVec 16) (v : BitVec 32) (b : List Nat) (s : State) : (emitBlock i c v b s).can = s.can := emit_can _ s
@[simp] theorem emitBlock_lx (i : Nat) (c : BitVec 16) (v : BitVec 32) (b : List Nat) (s : State) : (emitBlock i c v b s).lx = s.lx := emit_lx _ s
@[simp] theorem emitBlock_panel (i : Nat) (c : BitVec 16) (v : BitVec 32) (b : List Nat) (s : State) : (emitBlock i c v b s).panel = s.panel := emit_panel _ s
@[simp] theorem emitBlock_port (i : Nat) (c : BitVec 16) (v : BitVec 32) (b : List Nat) (s : State) : (emitBlock i c v b s).port = s.port := emit_port _ s
@[simp] theorem emitBlock_interp (i : Nat) (c : BitVec 16) (v : BitVec 32) (b : List Nat) (s : State) : (emitBlock i c v b s).interp = s.interp := emit_interp _ s
@[simp] theorem emitBlock_clk (i : Nat) (c : BitVec 16) (v : BitVec 32) (b : List Nat) (s : State) : (emitBlock i c v b s).clk = s.clk := emit_clk _ s
@[simp] theorem emitBlock_mem (i : Nat) (c : BitVec 16) (v : BitVec 32) (b : List Nat) (s : State) : (emitBlock i c v b s).mem = s.mem := emit_mem _ s
@[simp] theorem emitBlock_rst (i : Nat) (c : BitVec 16) (v : BitVec 32) (b : List Nat) (s : State) : (emitBlock i c v b s).rst = s.rst := emit_rst _ s
@[simp] theorem emitBlock_power (i : Nat) (c : BitVec 16) (v : BitVec 32) (b : List Nat) (s : State) : (emitBlock i c v b s).power = s.power := emit_power _ s
@[simp] theorem emitBlock_flags (i : Nat) (c : BitVec 16) (v : BitVec 32) (b : List Nat) (s : State) : (emitBlock i c v b s).flags = s.flags := emit_flags _ s
@[simp] theorem emitBlock_stor (i : Nat) (c : BitVec 16) (v : BitVec 32) (b : List Nat) (s : State) : (emitBlock i c v b s).stor = s.stor := emit_stor _ s

/-! ## emitCh -/

@[simp] theorem emitCh_pending (c : Ch) (k : BitVec 16) (b : List Nat) (s : State) : (emitCh c k b s).pending = s.pending := emit_pending _ s
@[simp] theorem emitCh_now (c : Ch) (k : BitVec 16) (b : List Nat) (s : State) : (emitCh c k b s).now = s.now := emit_now _ s
@[simp] theorem emitCh_cycle (c : Ch) (k : BitVec 16) (b : List Nat) (s : State) : (emitCh c k b s).cycle = s.cycle := emit_cycle _ s
@[simp] theorem emitCh_freeCtr (c : Ch) (k : BitVec 16) (b : List Nat) (s : State) : (emitCh c k b s).freeCtr = s.freeCtr := emit_freeCtr _ s
@[simp] theorem emitCh_nodeTime (c : Ch) (k : BitVec 16) (b : List Nat) (s : State) : (emitCh c k b s).nodeTime = s.nodeTime := emit_nodeTime _ s
@[simp] theorem emitCh_ident (c : Ch) (k : BitVec 16) (b : List Nat) (s : State) : (emitCh c k b s).ident = s.ident := emit_ident _ s
@[simp] theorem emitCh_pins (c : Ch) (k : BitVec 16) (b : List Nat) (s : State) : (emitCh c k b s).pins = s.pins := emit_pins _ s
@[simp] theorem emitCh_pads (c : Ch) (k : BitVec 16) (b : List Nat) (s : State) : (emitCh c k b s).pads = s.pads := emit_pads _ s
@[simp] theorem emitCh_live (c : Ch) (k : BitVec 16) (b : List Nat) (s : State) : (emitCh c k b s).live = s.live := emit_live _ s
@[simp] theorem emitCh_store (c : Ch) (k : BitVec 16) (b : List Nat) (s : State) : (emitCh c k b s).store = s.store := emit_store _ s
@[simp] theorem emitCh_images (c : Ch) (k : BitVec 16) (b : List Nat) (s : State) : (emitCh c k b s).images = s.images := emit_images _ s
@[simp] theorem emitCh_part (c : Ch) (k : BitVec 16) (b : List Nat) (s : State) : (emitCh c k b s).part = s.part := emit_part _ s
@[simp] theorem emitCh_keys (c : Ch) (k : BitVec 16) (b : List Nat) (s : State) : (emitCh c k b s).keys = s.keys := emit_keys _ s
@[simp] theorem emitCh_slices (c : Ch) (k : BitVec 16) (b : List Nat) (s : State) : (emitCh c k b s).slices = s.slices := emit_slices _ s
@[simp] theorem emitCh_dies (c : Ch) (k : BitVec 16) (b : List Nat) (s : State) : (emitCh c k b s).dies = s.dies := emit_dies _ s
@[simp] theorem emitCh_engine (c : Ch) (k : BitVec 16) (b : List Nat) (s : State) : (emitCh c k b s).engine = s.engine := emit_engine _ s
@[simp] theorem emitCh_caller (c : Ch) (k : BitVec 16) (b : List Nat) (s : State) : (emitCh c k b s).caller = s.caller := emit_caller _ s
@[simp] theorem emitCh_watch (c : Ch) (k : BitVec 16) (b : List Nat) (s : State) : (emitCh c k b s).watch = s.watch := emit_watch _ s
@[simp] theorem emitCh_can (c : Ch) (k : BitVec 16) (b : List Nat) (s : State) : (emitCh c k b s).can = s.can := emit_can _ s
@[simp] theorem emitCh_lx (c : Ch) (k : BitVec 16) (b : List Nat) (s : State) : (emitCh c k b s).lx = s.lx := emit_lx _ s
@[simp] theorem emitCh_panel (c : Ch) (k : BitVec 16) (b : List Nat) (s : State) : (emitCh c k b s).panel = s.panel := emit_panel _ s
@[simp] theorem emitCh_port (c : Ch) (k : BitVec 16) (b : List Nat) (s : State) : (emitCh c k b s).port = s.port := emit_port _ s
@[simp] theorem emitCh_interp (c : Ch) (k : BitVec 16) (b : List Nat) (s : State) : (emitCh c k b s).interp = s.interp := emit_interp _ s
@[simp] theorem emitCh_clk (c : Ch) (k : BitVec 16) (b : List Nat) (s : State) : (emitCh c k b s).clk = s.clk := emit_clk _ s
@[simp] theorem emitCh_mem (c : Ch) (k : BitVec 16) (b : List Nat) (s : State) : (emitCh c k b s).mem = s.mem := emit_mem _ s
@[simp] theorem emitCh_rst (c : Ch) (k : BitVec 16) (b : List Nat) (s : State) : (emitCh c k b s).rst = s.rst := emit_rst _ s
@[simp] theorem emitCh_power (c : Ch) (k : BitVec 16) (b : List Nat) (s : State) : (emitCh c k b s).power = s.power := emit_power _ s
@[simp] theorem emitCh_flags (c : Ch) (k : BitVec 16) (b : List Nat) (s : State) : (emitCh c k b s).flags = s.flags := emit_flags _ s
@[simp] theorem emitCh_stor (c : Ch) (k : BitVec 16) (b : List Nat) (s : State) : (emitCh c k b s).stor = s.stor := emit_stor _ s

/-! ## emitSess -/

@[simp] theorem emitSess_pending (w : Sess) (c : BitVec 16) (v : BitVec 32) (b : List Nat) (s : State) : (emitSess w c v b s).pending = s.pending := emit_pending _ s
@[simp] theorem emitSess_now (w : Sess) (c : BitVec 16) (v : BitVec 32) (b : List Nat) (s : State) : (emitSess w c v b s).now = s.now := emit_now _ s
@[simp] theorem emitSess_cycle (w : Sess) (c : BitVec 16) (v : BitVec 32) (b : List Nat) (s : State) : (emitSess w c v b s).cycle = s.cycle := emit_cycle _ s
@[simp] theorem emitSess_freeCtr (w : Sess) (c : BitVec 16) (v : BitVec 32) (b : List Nat) (s : State) : (emitSess w c v b s).freeCtr = s.freeCtr := emit_freeCtr _ s
@[simp] theorem emitSess_nodeTime (w : Sess) (c : BitVec 16) (v : BitVec 32) (b : List Nat) (s : State) : (emitSess w c v b s).nodeTime = s.nodeTime := emit_nodeTime _ s
@[simp] theorem emitSess_ident (w : Sess) (c : BitVec 16) (v : BitVec 32) (b : List Nat) (s : State) : (emitSess w c v b s).ident = s.ident := emit_ident _ s
@[simp] theorem emitSess_pins (w : Sess) (c : BitVec 16) (v : BitVec 32) (b : List Nat) (s : State) : (emitSess w c v b s).pins = s.pins := emit_pins _ s
@[simp] theorem emitSess_pads (w : Sess) (c : BitVec 16) (v : BitVec 32) (b : List Nat) (s : State) : (emitSess w c v b s).pads = s.pads := emit_pads _ s
@[simp] theorem emitSess_live (w : Sess) (c : BitVec 16) (v : BitVec 32) (b : List Nat) (s : State) : (emitSess w c v b s).live = s.live := emit_live _ s
@[simp] theorem emitSess_store (w : Sess) (c : BitVec 16) (v : BitVec 32) (b : List Nat) (s : State) : (emitSess w c v b s).store = s.store := emit_store _ s
@[simp] theorem emitSess_images (w : Sess) (c : BitVec 16) (v : BitVec 32) (b : List Nat) (s : State) : (emitSess w c v b s).images = s.images := emit_images _ s
@[simp] theorem emitSess_part (w : Sess) (c : BitVec 16) (v : BitVec 32) (b : List Nat) (s : State) : (emitSess w c v b s).part = s.part := emit_part _ s
@[simp] theorem emitSess_keys (w : Sess) (c : BitVec 16) (v : BitVec 32) (b : List Nat) (s : State) : (emitSess w c v b s).keys = s.keys := emit_keys _ s
@[simp] theorem emitSess_slices (w : Sess) (c : BitVec 16) (v : BitVec 32) (b : List Nat) (s : State) : (emitSess w c v b s).slices = s.slices := emit_slices _ s
@[simp] theorem emitSess_dies (w : Sess) (c : BitVec 16) (v : BitVec 32) (b : List Nat) (s : State) : (emitSess w c v b s).dies = s.dies := emit_dies _ s
@[simp] theorem emitSess_engine (w : Sess) (c : BitVec 16) (v : BitVec 32) (b : List Nat) (s : State) : (emitSess w c v b s).engine = s.engine := emit_engine _ s
@[simp] theorem emitSess_caller (w : Sess) (c : BitVec 16) (v : BitVec 32) (b : List Nat) (s : State) : (emitSess w c v b s).caller = s.caller := emit_caller _ s
@[simp] theorem emitSess_watch (w : Sess) (c : BitVec 16) (v : BitVec 32) (b : List Nat) (s : State) : (emitSess w c v b s).watch = s.watch := emit_watch _ s
@[simp] theorem emitSess_can (w : Sess) (c : BitVec 16) (v : BitVec 32) (b : List Nat) (s : State) : (emitSess w c v b s).can = s.can := emit_can _ s
@[simp] theorem emitSess_lx (w : Sess) (c : BitVec 16) (v : BitVec 32) (b : List Nat) (s : State) : (emitSess w c v b s).lx = s.lx := emit_lx _ s
@[simp] theorem emitSess_panel (w : Sess) (c : BitVec 16) (v : BitVec 32) (b : List Nat) (s : State) : (emitSess w c v b s).panel = s.panel := emit_panel _ s
@[simp] theorem emitSess_port (w : Sess) (c : BitVec 16) (v : BitVec 32) (b : List Nat) (s : State) : (emitSess w c v b s).port = s.port := emit_port _ s
@[simp] theorem emitSess_interp (w : Sess) (c : BitVec 16) (v : BitVec 32) (b : List Nat) (s : State) : (emitSess w c v b s).interp = s.interp := emit_interp _ s
@[simp] theorem emitSess_clk (w : Sess) (c : BitVec 16) (v : BitVec 32) (b : List Nat) (s : State) : (emitSess w c v b s).clk = s.clk := emit_clk _ s
@[simp] theorem emitSess_mem (w : Sess) (c : BitVec 16) (v : BitVec 32) (b : List Nat) (s : State) : (emitSess w c v b s).mem = s.mem := emit_mem _ s
@[simp] theorem emitSess_rst (w : Sess) (c : BitVec 16) (v : BitVec 32) (b : List Nat) (s : State) : (emitSess w c v b s).rst = s.rst := emit_rst _ s
@[simp] theorem emitSess_power (w : Sess) (c : BitVec 16) (v : BitVec 32) (b : List Nat) (s : State) : (emitSess w c v b s).power = s.power := emit_power _ s
@[simp] theorem emitSess_flags (w : Sess) (c : BitVec 16) (v : BitVec 32) (b : List Nat) (s : State) : (emitSess w c v b s).flags = s.flags := emit_flags _ s
@[simp] theorem emitSess_stor (w : Sess) (c : BitVec 16) (v : BitVec 32) (b : List Nat) (s : State) : (emitSess w c v b s).stor = s.stor := emit_stor _ s

/-! ## send -/

@[simp] theorem send_pending (m : Msg) (s : State) : (send m s).pending = s.pending := by unfold send; split <;> rfl
@[simp] theorem send_now (m : Msg) (s : State) : (send m s).now = s.now := by unfold send; split <;> rfl
@[simp] theorem send_cycle (m : Msg) (s : State) : (send m s).cycle = s.cycle := by unfold send; split <;> rfl
@[simp] theorem send_freeCtr (m : Msg) (s : State) : (send m s).freeCtr = s.freeCtr := by unfold send; split <;> rfl
@[simp] theorem send_nodeTime (m : Msg) (s : State) : (send m s).nodeTime = s.nodeTime := by unfold send; split <;> rfl
@[simp] theorem send_ident (m : Msg) (s : State) : (send m s).ident = s.ident := by unfold send; split <;> rfl
@[simp] theorem send_pins (m : Msg) (s : State) : (send m s).pins = s.pins := by unfold send; split <;> rfl
@[simp] theorem send_pads (m : Msg) (s : State) : (send m s).pads = s.pads := by unfold send; split <;> rfl
@[simp] theorem send_live (m : Msg) (s : State) : (send m s).live = s.live := by unfold send; split <;> rfl
@[simp] theorem send_store (m : Msg) (s : State) : (send m s).store = s.store := by unfold send; split <;> rfl
@[simp] theorem send_images (m : Msg) (s : State) : (send m s).images = s.images := by unfold send; split <;> rfl
@[simp] theorem send_part (m : Msg) (s : State) : (send m s).part = s.part := by unfold send; split <;> rfl
@[simp] theorem send_keys (m : Msg) (s : State) : (send m s).keys = s.keys := by unfold send; split <;> rfl
@[simp] theorem send_slices (m : Msg) (s : State) : (send m s).slices = s.slices := by unfold send; split <;> rfl
@[simp] theorem send_dies (m : Msg) (s : State) : (send m s).dies = s.dies := by unfold send; split <;> rfl
@[simp] theorem send_engine (m : Msg) (s : State) : (send m s).engine = s.engine := by unfold send; split <;> rfl
@[simp] theorem send_caller (m : Msg) (s : State) : (send m s).caller = s.caller := by unfold send; split <;> rfl
@[simp] theorem send_lx (m : Msg) (s : State) : (send m s).lx = s.lx := by unfold send; split <;> rfl
@[simp] theorem send_panel (m : Msg) (s : State) : (send m s).panel = s.panel := by unfold send; split <;> rfl
@[simp] theorem send_log (m : Msg) (s : State) : (send m s).log = s.log := by unfold send; split <;> rfl
@[simp] theorem send_port (m : Msg) (s : State) : (send m s).port = s.port := by unfold send; split <;> rfl
@[simp] theorem send_interp (m : Msg) (s : State) : (send m s).interp = s.interp := by unfold send; split <;> rfl
@[simp] theorem send_clk (m : Msg) (s : State) : (send m s).clk = s.clk := by unfold send; split <;> rfl
@[simp] theorem send_mem (m : Msg) (s : State) : (send m s).mem = s.mem := by unfold send; split <;> rfl
@[simp] theorem send_rst (m : Msg) (s : State) : (send m s).rst = s.rst := by unfold send; split <;> rfl
@[simp] theorem send_power (m : Msg) (s : State) : (send m s).power = s.power := by unfold send; split <;> rfl
@[simp] theorem send_flags (m : Msg) (s : State) : (send m s).flags = s.flags := by unfold send; split <;> rfl
@[simp] theorem send_stor (m : Msg) (s : State) : (send m s).stor = s.stor := by unfold send; split <;> rfl

end Sys2Proof.Machine
end

