-- ==== Sys2Proof/Laws/Lines.lean ====
section
/-! SUPPORT. What a line's reply can do, said once: the lemmas by which every statement about a line is shown. -/

namespace Sys2Proof.Machine

/-! ## Vectors -/

@[simp] theorem upd_same {α : Type} {n : Nat} (v : Vector α n) (i : Fin n) (f : α → α) : (upd v i f)[i.val] = f v[i.val] := by
  simp [upd]

theorem upd_other {α : Type} {n : Nat} (v : Vector α n) (i j : Fin n) (f : α → α) (h : i ≠ j) :
    (upd v i f)[j.val] = v[j.val] := by
  have : i.val ≠ j.val := fun e => h (Fin.ext e)
  simp [upd, this]

theorem upd_get {α : Type} {n : Nat} (v : Vector α n) (i j : Fin n) (f : α → α) :
    (upd v i f)[j.val] = if i = j then f v[j.val] else v[j.val] := by
  split
  · subst_vars; exact upd_same ..
  · exact upd_other _ _ _ _ ‹_›

theorem upd_nat {α : Type} {n : Nat} (v : Vector α n) (i : Fin n) (f : α → α) (m : Nat) (h : m < n) :
    (upd v i f)[m] = if i.val = m then f v[m] else v[m] := by
  unfold upd
  rw [Vector.getElem_set]
  split
  · subst_vars; rfl
  · rfl

/-! ## Consoles -/

theorem find_map {α : Type} (p : α → Bool) (g : α → α) (hg : ∀ a, p (g a) = p a) (l : List α) :
    (l.map g).find? p = (l.find? p).map g := by
  induction l with
  | nil => rfl
  | cons a l ih =>
    simp only [List.map_cons, List.find?_cons, hg]
    split <;> simp_all

/-- A console's session after a change of one. -/
theorem consoleOf_onConsole (k j : Fin 16) (f : Console → Console) (s : State) (hf : ∀ c, (f c).k = c.k) :
    consoleOf (onConsole k f s) j = (consoleOf s j).map fun c => if j = k then f c else c := by
  unfold consoleOf onConsole
  simp only
  rw [find_map (fun c => decide (c.k = j)) (fun c => if c.k = k then f c else c)]
  · cases hc : s.interp.consoles.find? fun c => decide (c.k = j) with
    | none => rfl
    | some c =>
      have := List.find?_some hc
      simp only [decide_eq_true_eq] at this
      simp only [Option.map_some, this]
  · intro a; split <;> simp [hf]

theorem onConsole_consoles_other (k : Fin 16) (f : Console → Console) (s : State) :
    onConsole k f s = { s with interp := { s.interp with consoles := (onConsole k f s).interp.consoles } } := rfl

/-! ## Queues -/

theorem QueueOnly.refl (a : Can) : QueueOnly a a := rfl

theorem QueueOnly.trans {a b c : Can} (h : QueueOnly a b) (h' : QueueOnly b c) : QueueOnly a c := by
  unfold QueueOnly at *
  rw [h'] ; rw [h]

theorem push_queueOnly (f : WatchFrame) (c : Can) : QueueOnly c (c.push f) := by
  unfold Can.push QueueOnly
  repeat' split
  all_goals rfl

theorem send_queueOnly (m : Msg) (s : State) (b : Bus) : QueueOnly (s.canOf b) ((send m s).canOf b) := by
  unfold send State.canOf
  split
  · simp only [Vector.getElem_map]
    exact push_queueOnly _ _
  · exact QueueOnly.refl _

/-- What sending to a console leaves. -/
structure ConsoleSent (k : Fin 16) (u t : State) : Prop where
  rest : t = { u with
    interp := { u.interp with consoles := t.interp.consoles }, watch := { u.watch with seq := t.watch.seq }, can := t.can }
  others : ∀ j, j ≠ k → consoleOf t j = consoleOf u j
  own : consoleOf t k = (consoleOf u k).map fun c => { c with txCounter := ((consoleOf t k).getD c).txCounter }
  queues : ∀ b, QueueOnly (u.canOf b) (t.canOf b)

theorem ConsoleSent.refl (k : Fin 16) (u : State) : ConsoleSent k u u where
  rest := rfl
  others := fun _ _ => rfl
  own := by cases consoleOf u k <;> rfl
  queues := fun _ => QueueOnly.refl _

theorem ConsoleSent.trans {k : Fin 16} {u v t : State} (h : ConsoleSent k u v) (h' : ConsoleSent k v t) :
    ConsoleSent k u t where
  rest := by rw [h'.rest, h.rest]
  others := fun j hj => (h'.others j hj).trans (h.others j hj)
  own := by
    rw [h'.own, h.own]
    cases consoleOf u k <;> simp
  queues := fun b => (h.queues b).trans (h'.queues b)

theorem send_consoleOf (m : Msg) (s : State) (k : Fin 16) : consoleOf (send m s) k = consoleOf s k := by
  unfold consoleOf; rw [send_interp]

theorem send_rest (m : Msg) (s : State) :
    send m s = { s with watch := { s.watch with seq := (send m s).watch.seq }, can := (send m s).can } := by
  unfold send; split <;> rfl

theorem sendConsole_sent (k : Fin 16) (kind segment : Nat) (last : Bool) (data : List Byte) (s : State) :
    ConsoleSent k s (sendConsole k kind segment last data s) where
  rest := by
    unfold sendConsole
    simp only
    rw [onConsole_consoles_other, send_rest]
  others := fun j hj => by
    unfold sendConsole
    simp only
    rw [consoleOf_onConsole, send_consoleOf]
    · simp [hj]
    · intro _; rfl
  own := by
    unfold sendConsole
    simp only
    rw [consoleOf_onConsole, send_consoleOf]
    · cases consoleOf s k <;> simp
    · intro _; rfl
  queues := fun b => by
    unfold sendConsole
    exact send_queueOnly _ s b

theorem foldl_sent {α : Type} (k : Fin 16) (f : State → α → State) (hf : ∀ s a, ConsoleSent k s (f s a)) (l : List α)
    (s : State) : ConsoleSent k s (l.foldl f s) := by
  induction l generalizing s with
  | nil => exact ConsoleSent.refl k s
  | cons a l ih => exact (hf s a).trans (ih _)

theorem sendConsoleLine_sent (k : Fin 16) (line : Text) (s : State) : ConsoleSent k s (sendConsoleLine k line s) := by
  unfold sendConsoleLine
  exact foldl_sent k _ (fun s p => sendConsole_sent ..) _ s

/-! ## Taking a line -/

theorem lineStart_count (h : LineHdr) (verb : Text) (s : State) :
    (lineStart h verb s).interp.count = s.interp.count + 1 := by
  have h1 : (latchPoint h s).interp.count = s.interp.count := by
    unfold latchPoint thawView timeoutFirst
    cases h.sess with
    | host =>
      simp only
      have : (endSession .host 1 s).interp.count = s.interp.count := by
        unfold endSession; split <;> simp [onSess]
      split <;> split <;> simp_all
    | console k => simp only; split <;> rfl
    | script n => simp only; split <;> rfl
  unfold lineStart takeLine
  cases h.sess <;> simp [h1, onConsole]

theorem thawView_consoles (s : State) : (thawView s).interp = s.interp := by unfold thawView; split <;> rfl
theorem thawView_port (s : State) : (thawView s).port = s.port := by unfold thawView; split <;> rfl

/-- The present line of the session in the state in which its work begins. -/
theorem lineStart_answer (h : LineHdr) (verb : Text) (s : State) (hs : lineHeard s h.sess = true) :
    answerAt (lineStart h verb s) h.sess =
      some { verb := verb, tag := h.tag, reply := none, no := s.interp.count + 1 } := by
  have hc := lineStart_count h verb s
  unfold lineStart at *
  unfold takeLine at *
  cases hh : h.sess with
  | host => simp only [hh, answerAt] at *; rw [hc]
  | console k =>
    have h2 : (latchPoint h s).interp = s.interp := by
      unfold latchPoint timeoutFirst; rw [thawView_consoles]; simp [hh]
    simp only [hh, lineHeard, Bool.and_eq_true] at hs
    obtain ⟨_, hk⟩ := hs
    simp only [answerAt]
    rw [consoleOf_onConsole]
    · cases hco : consoleOf s k with
      | none => simp [hco] at hk
      | some c =>
        have hf : s.interp.consoles.find? (fun c => decide (c.k = k)) = some c := hco
        simp [consoleOf, h2, hf]
    · intro _; rfl
  | script n => simp [hh, lineHeard] at hs

/-- The number of a line, as its waiter carries it. -/
theorem lineStart_port_async (h : LineHdr) (verb : Text) (s : State) :
    (lineStart h verb s).port.async = s.port.async := by
  have h1 : (latchPoint h s).port.async = s.port.async := by
    unfold latchPoint; rw [thawView_port]; unfold timeoutFirst
    cases h.sess with
    | host =>
      simp only
      have : (endSession .host 1 s).port.async = s.port.async := by
        unfold endSession; split <;> simp [onSess]
      split
      · simpa [onHpEvent] using this
      · rfl
    | console k => rfl
    | script n => rfl
  unfold lineStart takeLine
  cases h.sess <;> simp [h1, onConsole]

/-- The work of a line keeps what its reply needs: the present line at its session. -/
structure KeepsLine (who : Sess) (v u : State) : Prop where
  answer : answerAt u who = answerAt v who
  count : u.interp.count = v.interp.count
  async : u.port.async = v.port.async

theorem KeepsLine.refl (who : Sess) (v : State) : KeepsLine who v v := ⟨rfl, rfl, rfl⟩

theorem KeepsLine.trans {who : Sess} {a b c : State} (h : KeepsLine who a b) (h' : KeepsLine who b c) : KeepsLine who a c :=
  ⟨h'.answer.trans h.answer, h'.count.trans h.count, h'.async.trans h.async⟩

/-- Work that touches neither the port nor the interpreter keeps the line. -/
theorem KeepsLine.of_eq {who : Sess} {v u : State} (hp : u.port = v.port) (hi : u.interp = v.interp) : KeepsLine who v u := by
  refine ⟨?_, by rw [hi], by rw [hp]⟩
  unfold answerAt consoleOf
  rw [hp, hi]

/-! ## The reply -/

theorem rawWaiting_congr {u t : State} (h : ∀ b, QueueOnly (u.canOf b) (t.canOf b)) : rawWaiting t = rawWaiting u := by
  have key : ∀ i : Fin 2, (t.can[i.val]).rx = (u.can[i.val]).rx := by
    intro i
    match i with
    | 0 => have := h .canA; unfold QueueOnly State.canOf at this; simp only [busIdx] at this; rw [this]
    | 1 => have := h .canB; unfold QueueOnly State.canOf at this; simp only [busIdx] at this; rw [this]
  have hl : ∀ v : Vector Can 2, v.toList = [v[0], v[1]] := by
    intro v
    apply List.ext_getElem
    · simp
    · intro n h1 h2
      simp at h1
      interval_cases n <;> simp
  unfold rawWaiting
  rw [hl, hl]
  have k0 := key 0
  have k1 := key 1
  simp only [Fin.val_zero, Fin.val_one] at k0 k1
  simp only [List.any_cons, List.any_nil, Bool.or_false]
  rw [k0, k1]

theorem settle_pads (s : State) : PadsFollow (settle s) := by
  unfold PadsFollow settle padsOf
  rfl

/-- The reply to a line of the host port. -/
theorem answer_host (w : Waiter) (r : Reply) (u : State) (hw : w.sess = .host) (hn : w.no ≠ 0)
    (ha : u.port.answer.no = w.no) (hr : u.port.answer.reply = none) :
    answer w r u = { u with port := { u.port with
      answer := { u.port.answer with reply := some (fitReply (lineEnd u .host) u.port.answer.tag r) }
      out := if u.port.async then 0 else 0x04
      sess := { u.port.sess with idleSince := u.now, timeout := u.live.secTimeout }
      crcRequired := u.live.hp.crcRequired, attn := u.live.hp.attn } } := by
  unfold answer
  simp only [hw]
  rw [if_pos ⟨hn, ha, hr⟩]
  rfl

/-- The reply to a line of a console: its frames, its answer and the end of the reply. -/
theorem answer_console (w : Waiter) (r : Reply) (u : State) (k : Fin 16) (c : Console) (hw : w.sess = .console k)
    (hn : w.no ≠ 0) (hc : consoleOf u k = some c) (ha : c.answer.no = w.no) (hr : c.answer.reply = none) :
    ∃ v, ConsoleSent k (onConsole k (fun d => { d with
        answer := { d.answer with reply := some (fitReply 1 c.answer.tag r) }
        key := match d.newKey with
          | some x => some x
          | none => d.key
        newKey := none }) u) v ∧ answer w r u = replyEnds (.console k) v := by
  unfold answer
  simp only [hw, hc]
  rw [if_pos ⟨hn, ha, hr⟩]
  refine ⟨_, ?_, rfl⟩
  exact foldl_sent k _ (fun s l => sendConsoleLine_sent k l s) _ _

/-- What `deliver` does for a line that is taken. -/
theorem deliver_waiter (h : LineHdr) (r : Reply) (u : State) (hh : ∀ n, h.sess ≠ .script n) :
    deliver (waiter h u) r u = answer (waiter h u) r u := by
  unfold deliver waiter
  cases hs : h.sess with
  | host => rfl
  | console k => rfl
  | script n => exact absurd hs (hh n)

theorem finish_next (s : State) : finish s = .next (settle s) := rfl

/-- The end of a reply at a console, settled. -/
theorem settle_replyEnds_console (k : Fin 16) (v : State) :
    settle (replyEnds (.console k) v) = { v with
      port := { v.port with
        crcRequired := v.live.hp.crcRequired, attn := v.live.hp.attn
        events := upd v.port.events 5 (Flag.drive (rawWaiting v)) }
      interp := (onConsole k (fun c => { c with
        sess := { c.sess with idleSince := v.now, timeout := v.live.secTimeout } }) v).interp
      pads := (settle (replyEnds (.console k) v)).pads, cycle := v.cycle + 1 } := rfl

theorem consoleOf_congr {u t : State} (h : t.interp.consoles = u.interp.consoles) (j : Fin 16) :
    consoleOf t j = consoleOf u j := by
  unfold consoleOf; rw [h]

/-- What stands at a console once its reply has gone out. -/
theorem console_end (k : Fin 16) (u v : State) (c : Console) (R : Reply) (hc : consoleOf u k = some c)
    (hv : ConsoleSent k (onConsole k (fun d => { d with
        answer := { d.answer with reply := some R }
        key := match d.newKey with
          | some x => some x
          | none => d.key
        newKey := none }) u) v) :
    answerAt (settle (replyEnds (.console k) v)) (.console k) = some { c.answer with reply := some R } ∧
    ReplyOnly (.console k) u (settle (replyEnds (.console k) v)) := by
  have hcv : consoleOf v k = some { c with
      answer := { c.answer with reply := some R }
      key := match c.newKey with
        | some x => some x
        | none => c.key
      newKey := none
      txCounter := ((consoleOf v k).getD c).txCounter } := by
    have hown := hv.own
    rw [consoleOf_onConsole, hc] at hown
    · cases hcv : consoleOf v k with
      | none => rw [hcv] at hown; simp at hown
      | some d =>
        rw [hcv] at hown
        simpa using hown
    · intro _; rfl
  have hvr := hv.rest
  have hvl : v.live = u.live := by rw [hvr]; rfl
  have hvn : v.now = u.now := by rw [hvr]; rfl
  have hvp : v.port = u.port := by rw [hvr]; rfl
  have hvc : v.cycle = u.cycle := by rw [hvr]; rfl
  have hother : ∀ j, j ≠ k → consoleOf v j = consoleOf u j := by
    intro j hj
    rw [hv.others j hj, consoleOf_onConsole]
    · simp [hj]
    · intro _; rfl
  have hset := settle_replyEnds_console k v
  have hpads := settle_pads (replyEnds (.console k) v)
  generalize settle (replyEnds (.console k) v) = z at *
  have hco : ∀ j, consoleOf z j = (consoleOf v j).map fun c => if j = k then { c with
      sess := { c.sess with idleSince := u.now, timeout := u.live.secTimeout } } else c := by
    intro j
    have : consoleOf z j = consoleOf (onConsole k (fun c => { c with
      sess := { c.sess with idleSince := v.now, timeout := v.live.secTimeout } }) v) j := by
        apply consoleOf_congr; rw [hset]
    rw [this, consoleOf_onConsole, hvl, hvn]
    intro _; rfl
  have hrx : rawWaiting v = rawWaiting u := rawWaiting_congr hv.queues
  have hzp : z.port = { v.port with
        crcRequired := v.live.hp.crcRequired, attn := v.live.hp.attn
        events := upd v.port.events 5 (Flag.drive (rawWaiting v)) } := by rw [hset]
  have hzc : z.can = v.can := by rw [hset]
  refine ⟨?_, ?_⟩
  · rw [answerAt, hco, hcv]; simp
  · exact {
      rest := by
        have hzi : z.interp = { v.interp with consoles := z.interp.consoles } := by rw [hset]; rfl
        have hvi : v.interp = { u.interp with consoles := v.interp.consoles } := by rw [hvr]; rfl
        have hzw : z.watch = v.watch := by rw [hset]
        have hzy : z.cycle = u.cycle + 1 := by rw [hset, ← hvc]
        have hz : z = { v with port := z.port, interp := z.interp, pads := z.pads, cycle := z.cycle } := by rw [hset]
        have hv' : v = { u with
            interp := v.interp, watch := { u.watch with seq := v.watch.seq }, can := v.can } := by rw [hvr]; rfl
        rw [hvi] at hzi
        rw [hzw, hzc, ← hzy, ← hzi]
        calc z = _ := hz
          _ = _ := by
            generalize z.port = zp at *
            generalize z.interp = zi at *
            generalize z.pads = zd at *
            generalize z.cycle = zy at *
            rw [hv']
      port := by rw [hzp, hvl, hvp, hrx]
      host := fun hh => by cases hh
      console := fun j _ => by rw [hzp, hvp]; exact ⟨rfl, rfl, rfl⟩
      others := fun j hj => by
        have hjk : j ≠ k := fun e => hj (by rw [e])
        rw [hco, hother j hjk]
        cases consoleOf u j <;> simp [hjk]
      own := fun j d hd => by
        by_cases hjk : j = k
        · subst hjk
          rw [hc] at hd
          obtain rfl := Option.some.inj hd
          rw [hco, hcv]
          exact ⟨_, rfl, by simp [SameConsole]⟩
        · rw [hco, hother j hjk, hd]
          exact ⟨d, by simp [hjk], rfl⟩
      queues := fun b => by
        have : QueueOnly (u.canOf b) (v.canOf b) := hv.queues b
        unfold State.canOf at *
        rw [hzc]; exact this
      pads := hpads }

/-- The reply to a line taken in `s`, whose work has left `u`. -/
theorem reply_stands (h : LineHdr) (verb : Text) (s u : State) (r : Reply) (hl : lineHeard s h.sess = true)
    (hk : KeepsLine h.sess (lineStart h verb s) u) :
    Replied h verb r s (settle (deliver (waiter h (lineStart h verb s)) r u)) ∧
      ReplyOnly h.sess u (settle (deliver (waiter h (lineStart h verb s)) r u)) := by
  have hns : ∀ n, h.sess ≠ .script n := by
    intro n hn; simp [lineHeard, hn] at hl
  have hrun : deliver (waiter h (lineStart h verb s)) r u = answer (waiter h (lineStart h verb s)) r u := by
    unfold deliver
    cases hs : h.sess with
    | host => simp [waiter, hs]
    | console k => simp [waiter, hs]
    | script n => exact absurd hs (hns n)
  rw [hrun]
  have hans := lineStart_answer h verb s hl
  have hno : (waiter h (lineStart h verb s)).no = s.interp.count + 1 := lineStart_count h verb s
  have hws : (waiter h (lineStart h verb s)).sess = h.sess := rfl
  have hasync : u.port.async = s.port.async := hk.async.trans (lineStart_port_async h verb s)
  rw [← hk.answer] at hans
  cases hs : h.sess with
  | host =>
    rw [hs] at hans hws
    simp only [answerAt, Option.some.injEq] at hans
    rw [answer_host _ r u hws (by omega) (by rw [hans, hno]) (by rw [hans])]
    refine ⟨?_, ?_⟩
    · simp only [Replied, hs, answerAt, settle, onHpEvent, hans, lineEnd, hasync]
    · exact {
        rest := rfl
        port := rfl
        host := fun _ => ⟨rfl, rfl, rfl, rfl, rfl⟩
        console := fun k hk => by cases hk
        others := fun _ _ => rfl
        own := fun j c hc => ⟨c, hc, rfl⟩
        queues := fun _ => rfl
        pads := settle_pads _ }
  | console k =>
    rw [hs] at hans hws
    simp only [answerAt] at hans
    obtain ⟨c, hc, hca⟩ : ∃ c, consoleOf u k = some c ∧ c.answer =
        { verb := verb, tag := h.tag, reply := none, no := s.interp.count + 1 } := by
      cases hcu : consoleOf u k with
      | none => simp [hcu] at hans
      | some c => exact ⟨c, rfl, by simpa [hcu] using hans⟩
    obtain ⟨v, hv, hav⟩ := answer_console _ r u k c hws (by omega) hc (by rw [hca, hno]) (by rw [hca])
    rw [hav]
    generalize hR : fitReply 1 c.answer.tag r = R at hv
    obtain ⟨h1, h2⟩ := console_end k u v c R hc hv
    refine ⟨?_, h2⟩
    simp only [Replied, hs, lineEnd]
    rw [h1, hca, ← hR, hca]
  | script n => exact absurd hs (hns n)

/-- THE REPLY OF A LINE. A line that its session takes and whose work answers `r` in a state `u` that keeps the line has
its reply there, and is else `u`. -/
theorem line_replies (h : LineHdr) (verb : Text) (body : State → State × Option Reply) (s u : State) (r : Reply)
    (ha : Accepted h verb s) (hb : body (lineStart h verb s) = (u, some r))
    (hk : KeepsLine h.sess (lineStart h verb s) u) :
    ∃ t, finish (runLine h verb body s) = .next t ∧ Replied h verb r s t ∧ ReplyOnly h.sess u t := by
  obtain ⟨hl, hcheck⟩ := ha
  have hcheck' : lineCheck h verb (thawView (timeoutFirst h.sess s)) = none := hcheck
  have hb' : body (takeLine h verb (thawView (timeoutFirst h.sess s))) = (u, some r) := hb
  refine ⟨_, rfl, ?_⟩
  unfold runLine
  simp only [hl, if_true, hcheck', hb']
  exact reply_stands h verb s u r hl hk

/-- A LINE THAT FAILS ITS CHECK is refused and changes nothing else. -/
theorem line_fails_check (h : LineHdr) (verb : Text) (body : State → State × Option Reply) (s : State) (e : Err)
    (hl : lineHeard s h.sess = true) (hcheck : lineCheck h verb (latchPoint h s) = some e) :
    ∃ t, finish (runLine h verb body s) = .next t ∧ Replied h verb { err := some e } s t ∧
      ReplyOnly h.sess (lineStart h verb s) t := by
  have hcheck' : lineCheck h verb (thawView (timeoutFirst h.sess s)) = some e := hcheck
  refine ⟨_, rfl, ?_⟩
  unfold runLine
  simp only [hl, if_true, hcheck']
  exact reply_stands h verb s _ _ hl (KeepsLine.refl _ _)

theorem answerAt_settle (u : State) (who : Sess) : answerAt (settle u) who = answerAt u who := by
  cases who <;> rfl

/-- A LINE WHOSE REPLY IS HELD BACK leaves its work's state, settled. -/
theorem line_held (h : LineHdr) (verb : Text) (body : State → State × Option Reply) (s u : State)
    (ha : Accepted h verb s) (hb : body (lineStart h verb s) = (u, none))
    (hk : KeepsLine h.sess (lineStart h verb s) u) :
    ∃ t, finish (runLine h verb body s) = .next t ∧ Held h verb s t ∧ Settled u t := by
  obtain ⟨hl, hcheck⟩ := ha
  have hrun : runLine h verb body s = u := by
    have hcheck' : lineCheck h verb (thawView (timeoutFirst h.sess s)) = none := hcheck
    have hb' : body (takeLine h verb (thawView (timeoutFirst h.sess s))) = (u, none) := hb
    unfold runLine
    simp only [hl, if_true, hcheck', hb']
  rw [hrun, finish_next]
  refine ⟨_, rfl, ?_, rfl⟩
  unfold Held
  rw [answerAt_settle, hk.answer]
  exact lineStart_answer h verb s hl

/-- A line whose work refuses it and changes nothing. -/
theorem line_refused (h : LineHdr) (verb : Text) (body : State → State × Option Reply) (s : State) (e : Err)
    (ha : Accepted h verb s) (hb : body (lineStart h verb s) = refused e (lineStart h verb s)) :
    ∃ t, finish (runLine h verb body s) = .next t ∧ Replied h verb { err := some e } s t ∧
      ReplyOnly h.sess (lineStart h verb s) t :=
  line_replies h verb body s _ _ ha hb (KeepsLine.refl _ _)

/-! ## Replies to lines that have waited -/

theorem DeliverStep.refl (u : State) : DeliverStep u u := ⟨rfl, fun _ => QueueOnly.refl _⟩

theorem DeliverStep.trans {u v t : State} (h : DeliverStep u v) (h' : DeliverStep v t) : DeliverStep u t where
  rest := by rw [h'.rest, h.rest]
  queues := fun b => (h.queues b).trans (h'.queues b)

theorem deliverStep_emit (e : Event) (s : State) : DeliverStep s (emit e s) := by
  unfold emit
  split
  · exact DeliverStep.refl s
  · exact ⟨rfl, fun _ => QueueOnly.refl _⟩

theorem deliverStep_interp (f : Interp → Interp) (s : State)
    (h : ∀ i, f i = { f i with
      running := i.running, flash := i.flash, march := i.march, measure := i.measure, clock := i.clock
      panelClock := i.panelClock, count := i.count }) : DeliverStep s { s with interp := f s.interp } where
  rest := by
    have := h s.interp
    generalize f s.interp = x at *
    rw [this]
  queues := fun _ => QueueOnly.refl _

theorem ConsoleSent.deliver {k : Fin 16} {u t : State} (h : ConsoleSent k u t) : DeliverStep u t where
  rest := by rw [h.rest]
  queues := h.queues

theorem deliverStep_onConsole (k : Fin 16) (f : Console → Console) (s : State) : DeliverStep s (onConsole k f s) :=
  ⟨rfl, fun _ => QueueOnly.refl _⟩

theorem deliverStep_replyEnds (who : Sess) (s : State) : DeliverStep s (replyEnds who s) := by
  unfold replyEnds
  cases who <;> exact ⟨rfl, fun _ => QueueOnly.refl _⟩

theorem deliverStep_foldl {α : Type} (f : State → α → State) (hf : ∀ s a, DeliverStep s (f s a)) (l : List α) (s : State) :
    DeliverStep s (l.foldl f s) := by
  induction l generalizing s with
  | nil => exact DeliverStep.refl s
  | cons a l ih => exact (hf s a).trans (ih _)

theorem deliverStep_answer (w : Waiter) (r : Reply) (s : State) : DeliverStep s (answer w r s) := by
  unfold answer
  split
  · split
    · refine DeliverStep.trans ?_ (deliverStep_replyEnds ..)
      exact ⟨rfl, fun _ => QueueOnly.refl _⟩
    · exact DeliverStep.refl s
  · split
    · split
      · refine DeliverStep.trans ?_ (deliverStep_replyEnds ..)
        refine DeliverStep.trans ?_ (deliverStep_foldl _ (fun s l => (sendConsoleLine_sent _ l s).deliver) _ _)
        exact deliverStep_onConsole ..
      · exact DeliverStep.refl s
    · exact DeliverStep.refl s
  · exact DeliverStep.refl s

theorem deliverStep_endScript (run : Running) (err : Option Err) (cause : Nat) (s : State) :
    DeliverStep s (endScript run err cause s) := by
  unfold endScript
  simp only
  have h1 : ∀ x : State, DeliverStep s x → DeliverStep s { x with
      interp := { x.interp with script := none, ends := upd x.interp.ends run.script fun _ => some ⟨run.last, err⟩ }
      rst := if run.boot then { x.rst with phase := .opening } else x.rst } := by
    intro x hx
    refine hx.trans ?_
    split <;> exact ⟨rfl, fun _ => QueueOnly.refl _⟩
  have h0 : DeliverStep s (emitSess (.script run.script) 0x0407 0 [run.script.val, run.last, errNo err, cause] s) :=
    deliverStep_emit ..
  have h2 := h1 _ h0
  by_cases hb : run.boot = true
  · simp only [hb, if_true] at h2 ⊢
    exact h2
  · simp only [hb, if_false, Bool.false_eq_true] at h2 ⊢
    exact h2.trans (deliverStep_answer ..)

theorem deliverStep_scriptStatus (r : Reply) (s : State) : DeliverStep s (scriptStatus r s) := by
  unfold scriptStatus
  split
  · exact DeliverStep.refl s
  · simp only
    split
    · exact deliverStep_endScript ..
    · split
      · exact deliverStep_endScript ..
      · split
        · exact deliverStep_endScript ..
        · exact ⟨rfl, fun _ => QueueOnly.refl _⟩

/-- THE REPLY TO ANY WAITING LINE is a `DeliverStep`. -/
theorem deliverStep_deliver (w : Waiter) (r : Reply) (s : State) : DeliverStep s (deliver w r s) := by
  unfold deliver
  split
  · split
    · split
      · exact (⟨rfl, fun _ => QueueOnly.refl _⟩ : DeliverStep s (portTakes s)).trans (deliverStep_scriptStatus ..)
      · exact DeliverStep.refl s
    · exact DeliverStep.refl s
  · exact deliverStep_answer ..

/-- The reply to a host or console line that waits comes to its session. -/
theorem deliver_came (w : Waiter) (r : Reply) (s : State) (h : Awaits s w) :
    AnswerCame w r s (settle (deliver w r s)) := by
  obtain ⟨hn, a, ha, hno, hr⟩ := h
  unfold AnswerCame
  cases hw : w.sess with
  | host =>
    rw [hw] at ha
    simp only [answerAt, Option.some.injEq] at ha
    subst ha
    have hd : deliver w r s = answer w r s := by unfold deliver; rw [hw]
    rw [hd, answer_host w r s hw hn hno hr]
    rfl
  | console k =>
    rw [hw] at ha
    have hd : deliver w r s = answer w r s := by unfold deliver; rw [hw]
    obtain ⟨c, hc, rfl⟩ : ∃ c, consoleOf s k = some c ∧ c.answer = a := by
      simp only [answerAt] at ha
      cases hcs : consoleOf s k with
      | none => simp [hcs] at ha
      | some c => exact ⟨c, rfl, by simpa [hcs] using ha⟩
    obtain ⟨v, hv, hav⟩ := answer_console w r s k c hw hn hc hno hr
    rw [hd, hav]
    generalize hR : fitReply 1 c.answer.tag r = R at hv
    obtain ⟨h1, _⟩ := console_end k s v c R hc hv
    rw [h1]
    simp [answerAt, hc, lineEnd, hR]
  | script n => rw [hw] at ha; simp [answerAt] at ha

end Sys2Proof.Machine
end

