-- ==== Sys2Proof/Laws/Engine.lean ====
section
/-! SUPPORT. What the operations of the engine and the caller can do, said once: each is an `EngineStep`. -/

namespace Sys2Proof.Machine

namespace EngineStep

theorem refl (u : State) : EngineStep u u := ⟨rfl, fun _ => rfl, fun _ => QueueOnly.refl _⟩

theorem trans {u v t : State} (h : EngineStep u v) (h' : EngineStep v t) : EngineStep u t where
  rest := by rw [h'.rest, h.rest]
  links := fun k => (h'.links k).trans (h.links k)
  queues := fun b => (h.queues b).trans (h'.queues b)

theorem live {u t : State} (h : EngineStep u t) : t.live = u.live := by rw [h.rest]
theorem interp {u t : State} (h : EngineStep u t) : t.interp = u.interp := by rw [h.rest]
theorem slices {u t : State} (h : EngineStep u t) : t.slices = u.slices := by rw [h.rest]
theorem answer {u t : State} (h : EngineStep u t) : t.port.answer = u.port.answer := by rw [h.rest]
theorem async {u t : State} (h : EngineStep u t) : t.port.async = u.port.async := by rw [h.rest]

/-- An engine step keeps the line that asked for it. -/
theorem keeps {u t : State} (h : EngineStep u t) (who : Sess) : KeepsLine who u t := by
  refine ⟨?_, by rw [h.interp], h.async⟩
  unfold answerAt consoleOf
  rw [h.interp, h.answer]

end EngineStep

/-! ## The parts of a step -/

theorem engineStep_onAlarm (c : Ch) (k : Cond) (f : Alarm → Alarm) (s : State) : EngineStep s (onAlarm c k f s) :=
  ⟨rfl, fun _ => rfl, fun _ => QueueOnly.refl _⟩

theorem engineStep_onMember (m : Member) (f : G31Alarm → G31Alarm) (s : State) : EngineStep s (onMember m f s) :=
  ⟨rfl, fun _ => rfl, fun _ => QueueOnly.refl _⟩

theorem engineStep_onCall (n : NodeNo) (g : Grp) (f : Call → Call) (s : State) : EngineStep s (onCall n g f s) :=
  ⟨rfl, fun _ => rfl, fun _ => QueueOnly.refl _⟩

theorem engineStep_onHpEvent (b : Fin 8) (f : Flag → Flag) (s : State) : EngineStep s (onHpEvent b f s) :=
  ⟨rfl, fun _ => rfl, fun _ => QueueOnly.refl _⟩

theorem engineStep_emit (e : Event) (s : State) : EngineStep s (emit e s) := by
  unfold emit
  split
  · exact EngineStep.refl s
  · exact ⟨rfl, fun _ => rfl, fun _ => QueueOnly.refl _⟩

theorem engineStep_send (m : Msg) (s : State) : EngineStep s (send m s) where
  rest := by rw [send_rest]
  links := fun _ => by rw [send_dies]
  queues := fun b => send_queueOnly m s b

theorem engineStep_pushAck (c : Ch) (k : Cond) (v : Bool) (s : State) : EngineStep s (pushAck c k v s) where
  rest := rfl
  links := fun j => by
    unfold pushAck
    simp only
    rw [upd_get]
    split <;> rfl
  queues := fun _ => QueueOnly.refl _

theorem engineStep_foldl {α : Type} (f : State → α → State) (hf : ∀ s a, EngineStep s (f s a)) (l : List α) (s : State) :
    EngineStep s (l.foldl f s) := by
  induction l generalizing s with
  | nil => exact EngineStep.refl s
  | cons a l ih => exact (hf s a).trans (ih _)

/-- A fold over moves, each of them a step. -/
theorem engineStep_foldl_moving {α : Type} (f : Moving → α → Moving) (hf : ∀ w a, EngineStep w.1 (f w a).1) (l : List α)
    (w : Moving) : EngineStep w.1 (l.foldl f w).1 := by
  induction l generalizing w with
  | nil => exact EngineStep.refl _
  | cons a l ih => exact (hf w a).trans (ih _)

/-! ## Moves -/

theorem engineStep_move (c : Ch) (k : Cond) (new : AlarmState) (w : Moving) : EngineStep w.1 (move c k new w).1 := by
  unfold move
  simp only
  split
  · exact EngineStep.refl _
  · split
    · exact (engineStep_onAlarm ..).trans (engineStep_pushAck ..)
    · split
      · exact (engineStep_onAlarm ..).trans (engineStep_pushAck ..)
      · exact engineStep_onAlarm ..

theorem engineStep_moveMember (m : Member) (new : AlarmState) (w : Moving) : EngineStep w.1 (moveMember m new w).1 := by
  unfold moveMember
  simp only
  split
  · exact EngineStep.refl _
  · exact engineStep_onMember ..

theorem engineStep_startDelay (c : Ch) (k : Cond) (w : Moving) : EngineStep w.1 (startDelay c k w).1 := by
  unfold startDelay
  split
  · exact engineStep_move ..
  · exact (engineStep_move ..).trans (engineStep_onAlarm ..)

theorem engineStep_becameTrue (c : Ch) (k : Cond) (w : Moving) : EngineStep w.1 (becameTrue c k w).1 := by
  unfold becameTrue
  split
  all_goals first | exact engineStep_startDelay .. | exact engineStep_move .. | exact EngineStep.refl _

theorem engineStep_becameFalse (c : Ch) (k : Cond) (w : Moving) : EngineStep w.1 (becameFalse c k w).1 := by
  unfold becameFalse
  split
  · exact engineStep_move ..
  · exact engineStep_move ..
  · split
    · exact engineStep_move ..
    · exact EngineStep.refl _
  · exact EngineStep.refl _

theorem engineStep_steepStarted (c : Ch) (k : Cond) (w : Moving) : EngineStep w.1 (steepStarted c k w).1 := by
  unfold steepStarted
  split
  · exact engineStep_move ..
  · exact EngineStep.refl _

theorem engineStep_steepEnded (c : Ch) (k : Cond) (w : Moving) : EngineStep w.1 (steepEnded c k w).1 := by
  unfold steepEnded
  split
  · split
    · exact EngineStep.refl _
    · exact engineStep_move ..
  · exact EngineStep.refl _

theorem engineStep_leave (b : Bool) (c : Ch) (k : Cond) (w : Moving) : EngineStep w.1 (leave b c k w).1 := by
  unfold leave
  simp only
  split
  · exact engineStep_move ..
  · split
    · split
      · exact engineStep_move ..
      · exact engineStep_startDelay ..
    · split <;> exact engineStep_move ..

theorem engineStep_evalInhibit1 (c : Ch) (k : Cond) (w : Moving) : EngineStep w.1 (evalInhibit1 c k w).1 := by
  unfold evalInhibit1
  simp only
  split
  · exact EngineStep.refl _
  · split
    · split
      · exact engineStep_move ..
      · exact EngineStep.refl _
    · split
      · exact engineStep_leave ..
      · exact EngineStep.refl _

theorem engineStep_evalInhibit (w : Moving) : EngineStep w.1 (evalInhibit w).1 := by
  unfold evalInhibit
  exact engineStep_foldl_moving _ (fun w c => engineStep_foldl_moving _ (fun w k => engineStep_evalInhibit1 ..) _ w) _ w

theorem engineStep_ackCond (p : Alarm → Bool) (c : Ch) (k : Cond) (w : Moving) : EngineStep w.1 (ackCond p c k w).1 := by
  unfold ackCond
  simp only
  split
  · split
    · exact engineStep_move ..
    · exact EngineStep.refl _
  · split
    · exact engineStep_move ..
    · exact EngineStep.refl _
  · exact EngineStep.refl _

theorem engineStep_ackMember (p : G31Alarm → Bool) (m : Member) (w : Moving) : EngineStep w.1 (ackMember p m w).1 := by
  unfold ackMember
  simp only
  split
  · split
    · exact engineStep_moveMember ..
    · exact EngineStep.refl _
  · split
    · exact engineStep_moveMember ..
    · exact EngineStep.refl _
  · exact EngineStep.refl _

/-! ## Records, marks, groups -/

theorem engineStep_publish (x : Change) (s : State) : EngineStep s (publish x s) := by
  unfold publish
  simp only
  have h1 : EngineStep s (if x.new = .activeUnack then onHpEvent 2 Flag.pulse s else s) := by
    split
    · exact engineStep_onHpEvent ..
    · exact EngineStep.refl s
  refine h1.trans ?_
  cases x.of with
  | cond c k => exact (engineStep_emit ..).trans (engineStep_send ..)
  | member m => exact (engineStep_emit ..).trans (engineStep_send ..)

theorem engineStep_markFirst (chs : List Change) (g : Grp) (s : State) : EngineStep s (markFirst chs g s) := by
  unfold markFirst
  split
  · exact EngineStep.refl s
  · simp only
    split
    · exact EngineStep.refl s
    · refine EngineStep.trans ?_ (engineStep_emit ..)
      exact ⟨rfl, fun _ => rfl, fun _ => QueueOnly.refl _⟩

theorem engineStep_first (f : Engine → Vector (Option FirstOut) 32) (s : State) :
    EngineStep s { s with engine := { s.engine with first := f s.engine } } :=
  ⟨rfl, fun _ => rfl, fun _ => QueueOnly.refl _⟩

theorem engineStep_gstate (f : Engine → Vector AlarmState 32) (g : State → Vector Tick 32) (s : State) :
    EngineStep s { s with engine := { s.engine with gstate := f s.engine, gchanged := g s } } :=
  ⟨rfl, fun _ => rfl, fun _ => QueueOnly.refl _⟩

theorem engineStep_updateGroup (g : Grp) (s : State) : EngineStep s (updateGroup g s) := by
  unfold updateGroup
  simp only
  have hf := engineStep_first (fun e => upd e.first g fun _ => none) s
  split <;> split
  · exact hf
  · exact EngineStep.refl s
  · refine EngineStep.trans ?_ (engineStep_send ..)
    refine EngineStep.trans ?_ (engineStep_emit ..)
    exact hf.trans (engineStep_gstate (fun e => upd e.gstate g fun _ => _) (fun s => upd s.engine.gchanged g fun _ => _) _)
  · refine EngineStep.trans ?_ (engineStep_send ..)
    refine EngineStep.trans ?_ (engineStep_emit ..)
    exact engineStep_gstate (fun e => upd e.gstate g fun _ => _) (fun s => upd s.engine.gchanged g fun _ => _) _

theorem engineStep_publishAll (gs : List Grp) (w : Moving) : EngineStep w.1 (publishAll gs w) := by
  unfold publishAll
  exact ((engineStep_foldl _ (fun s x => engineStep_publish x s) _ _).trans
    (engineStep_foldl _ (fun s g => engineStep_markFirst _ g s) _ _)).trans
    (engineStep_foldl _ (fun s g => engineStep_updateGroup g s) _ _)

/-! ## Calls -/

theorem engineStep_sendCall (n : NodeNo) (g : Grp) (a b : Bool) (s : State) : EngineStep s (sendCall n g a b s) :=
  engineStep_send ..

theorem engineStep_emitCall (g : Grp) (code : BitVec 16) (c : Call) (u : Nat) (s : State) :
    EngineStep s (emitCall g code c u s) := engineStep_emit ..

theorem engineStep_callChanged (s : State) : EngineStep s (callChanged s) := engineStep_onHpEvent ..

theorem engineStep_beginStage (n : NodeNo) (g : Grp) (k : Nat) (code : BitVec 16) (s : State) :
    EngineStep s (beginStage n g k code s) := by
  unfold beginStage
  exact (((engineStep_onCall ..).trans (engineStep_sendCall ..)).trans (engineStep_emitCall ..)).trans
    (engineStep_callChanged _)

theorem engineStep_startCall (n : NodeNo) (g : Grp) (cls : Fin 4) (s : State) : EngineStep s (startCall n g cls s) := by
  unfold startCall
  exact (engineStep_onCall ..).trans (engineStep_beginStage ..)

theorem engineStep_restartCall (n : NodeNo) (g : Grp) (s : State) : EngineStep s (restartCall n g s) := by
  unfold restartCall
  exact (engineStep_onCall ..).trans (engineStep_beginStage ..)

theorem engineStep_endCall (n : NodeNo) (g : Grp) (s : State) : EngineStep s (endCall n g s) := by
  unfold endCall
  exact (((engineStep_onCall ..).trans (engineStep_sendCall ..)).trans (engineStep_emitCall ..)).trans
    (engineStep_callChanged _)

theorem engineStep_takeCall (n : NodeNo) (g : Grp) (s : State) : EngineStep s (takeCall n g s) := by
  unfold takeCall
  simp only
  split
  · exact EngineStep.refl s
  · exact (((engineStep_onCall ..).trans (engineStep_sendCall ..)).trans (engineStep_emitCall ..)).trans
      (engineStep_onCall ..)

theorem engineStep_reclassCall (n : NodeNo) (g : Grp) (cls : Fin 4) (s : State) : EngineStep s (reclassCall n g cls s) := by
  unfold reclassCall
  exact (engineStep_onCall ..).trans (engineStep_sendCall ..)

theorem engineStep_groupCall (n : NodeNo) (g : Grp) (old new : AlarmState) (e d m : Bool) (s : State) :
    EngineStep s (groupCall n g old new e d m s) := by
  unfold groupCall
  split
  · exact EngineStep.refl s
  · simp only
    split
    · split
      · exact engineStep_startCall ..
      · exact EngineStep.refl s
    · have h1 : ∀ p : Prop, ∀ _ : Decidable p, ∀ cls, EngineStep s (if p then reclassCall n g cls s else s) := by
        intro p _ cls
        split
        · exact engineStep_reclassCall ..
        · exact EngineStep.refl s
      have h3 : ∀ x, EngineStep s x →
          EngineStep s (if e = true ∧ (s.call n g).st = .accepted then restartCall n g x else x) := by
        intro x hx
        split
        · exact hx.trans (engineStep_restartCall ..)
        · exact hx
      have h2 : ∀ b : Bool, EngineStep s (if b = true then endCall n g s else
          if e = true ∧ (s.call n g).st = .accepted then
            restartCall n g (if g = 31 ∧ m = true ∧ (s.call n g).cls ≠ callClass s n g d then
              reclassCall n g (callClass s n g d) s else s)
          else if g = 31 ∧ m = true ∧ (s.call n g).cls ≠ callClass s n g d then
            reclassCall n g (callClass s n g d) s else s) := by
        intro b
        cases b
        · exact h3 _ (h1 _ _ _)
        · exact engineStep_endCall ..
      exact h2 _

/-! ## The end of a step -/

theorem engineStep_commit (more : List Grp) (w : Moving) : EngineStep w.1 (commit more w) := by
  unfold commit
  refine (engineStep_publishAll ..).trans (engineStep_foldl _ (fun s p => ?_) _ _)
  refine EngineStep.trans ?_ (engineStep_groupCall ..)
  split
  · exact engineStep_send ..
  · exact EngineStep.refl s

theorem engineStep_setCause (m : Member) (v : Bool) (s : State) : EngineStep s (setCause m v s) := by
  unfold setCause
  simp only
  split
  · exact engineStep_onMember ..
  · split
    · refine ((engineStep_onMember m (fun a => { a with cause := v }) s).trans (engineStep_onHpEvent 3 Flag.pulse _)).trans ?_
      split
      · exact (engineStep_moveMember _ _ (_, [])).trans (engineStep_commit ..)
      · exact (engineStep_moveMember _ _ (_, [])).trans (engineStep_commit ..)
      · exact engineStep_commit [] (_, [])
    · refine (engineStep_onMember m (fun a => { a with cause := v }) s).trans ?_
      split
      · exact (engineStep_moveMember _ _ (_, [])).trans (engineStep_commit ..)
      · exact (engineStep_moveMember _ _ (_, [])).trans (engineStep_commit ..)
      · exact engineStep_commit [] (_, [])

theorem engineStep_eventCause (m : Member) (s : State) : EngineStep s (eventCause m s) :=
  (engineStep_onMember ..).trans (engineStep_setCause ..)

theorem engineStep_ackTarget (p : Alarm → Bool) (q : G31Alarm → Bool) (t : Target) (s : State) :
    EngineStep s (ackTarget p q t s) := by
  unfold ackTarget
  exact ((engineStep_foldl_moving _ (fun w p => engineStep_ackCond ..) _ (s, [])).trans
    (engineStep_foldl_moving _ (fun w m => engineStep_ackMember ..) _ _)).trans (engineStep_commit ..)

theorem engineStep_emitAction (a : Nat) (t : Target) (o n m : Nat) (s : State) : EngineStep s (emitAction a t o n m s) :=
  engineStep_emit ..

theorem engineStep_stage3Own (s : State) : EngineStep s (stage3Own s) := by
  unfold stage3Own
  refine engineStep_foldl _ ?_ _ _
  intro s g
  split
  · exact engineStep_beginStage ..
  · exact EngineStep.refl s

end Sys2Proof.Machine
end

