-- ==== Sys2Proof/Laws/Step.lean ====
section
/-! SUPPORT. What holds of every command: it is answered with a settled state. -/

namespace Sys2Proof.Machine

/-- Every command is answered with a settled state. -/
theorem exec_settled (i : Instr) (s : State) : ∃ u, exec i s = .next (settle u) := by
  cases i <;> exact ⟨_, rfl⟩

/-- So is every step. -/
theorem step_settled (s : State) : ∃ u, step s = .next (settle u) := by
  unfold step
  cases s.pending with
  | nil => exact ⟨_, rfl⟩
  | cons c rest => exact exec_settled c _

/-- A step's next state is a settled one. -/
theorem step_next_settled {s t : State} (h : step s = .next t) : ∃ u, t = settle u := by
  obtain ⟨u, hu⟩ := step_settled s
  rw [hu] at h
  exact ⟨u, (Host.Outcome.next.inj h).symm⟩

/-- The pads that a step leaves are those that its state asks for. -/
theorem padsFollow_of_step {s t : State} (h : step s = .next t) : PadsFollow t := by
  obtain ⟨u, rfl⟩ := step_next_settled h
  exact settle_pads u

end Sys2Proof.Machine
end

