-- ==== Sys2Proof/Laws/Slice.lean ====
section
/-! SUPPORT. What the operations on one channel slice do: the slice that each leaves, and that they leave the rest (02, 03). -/

namespace Sys2Proof.Machine

/-! ## Settling -/

theorem does_of {i : Instr} {s u : State} (h : exec i s = finish u) : Does i s u := ⟨_, h, rfl⟩

theorem doesSo_of {i : Instr} {s u : State} {P : State → Prop} (h : exec i s = finish u) (hp : P u) : DoesSo i s P :=
  ⟨_, h, u, rfl, hp⟩

theorem doesLogged_of {i : Instr} {s u w : State} (h : exec i s = finish w) (hl : LogOnly u w) : DoesLogged i s u :=
  ⟨_, h, w, hl, rfl⟩

theorem LogOnly.refl (u : State) : LogOnly u u := rfl

theorem logOnly_emit (e : Event) (s : State) : LogOnly s (emit e s) := by
  unfold emit LogOnly
  split <;> rfl

theorem LogOnly.trans {a b c : State} (h : LogOnly a b) (h' : LogOnly b c) : LogOnly a c := by
  unfold LogOnly at *
  rw [h', h]

/-! ## The slice that is left -/

theorem slice_onSlice (c d : Ch) (f : Slice → Slice) (s : State) :
    (onSlice c f s).slice d = if c = d then f (s.slice d) else s.slice d := by
  unfold onSlice State.slice
  exact upd_get ..

@[simp] theorem slice_onSlice_same (c : Ch) (f : Slice → Slice) (s : State) : (onSlice c f s).slice c = f (s.slice c) := by
  rw [slice_onSlice, if_pos rfl]

theorem onSlice_congr {c : Ch} {f g : Slice → Slice} {s : State} (h : f (s.slice c) = g (s.slice c)) :
    onSlice c f s = onSlice c g s := by
  unfold onSlice upd
  unfold State.slice at h
  rw [h]

@[simp] theorem slice_send (m : Msg) (s : State) (c : Ch) : (send m s).slice c = s.slice c := by
  unfold send State.slice; split <;> rfl

theorem onChFlag_eq (c : Ch) (b : Fin 12) (f : Flag → Flag) (s : State) :
    onChFlag c b f s = onSlice c (fun x => { x with flags := upd x.flags b f }) s := rfl

theorem onCond_eq (c : Ch) (k : Cond) (f : CondState → CondState) (s : State) :
    onCond c k f s = onSlice c (fun x => { x with cond := upd x.cond (condIdx k) f }) s := rfl

theorem onLamp_eq (c : Ch) (f : Lamp → Lamp) (s : State) :
    onLamp c f s = onSlice c (fun x => { x with lamp := f x.lamp }) s := rfl

theorem condIdx_inj {j k : Cond} (h : condIdx j = condIdx k) : j = k := by
  cases j <;> cases k <;> first | rfl | exact absurd h (by decide)

theorem cond_onCond (c d : Ch) (k j : Cond) (f : CondState → CondState) (s : State) :
    (onCond c k f s).cond d j = if c = d ∧ k = j then f (s.cond d j) else s.cond d j := by
  unfold State.cond
  rw [onCond_eq, slice_onSlice]
  by_cases hc : c = d
  · subst hc
    rw [if_pos rfl]
    show (upd (s.slice c).cond (condIdx k) f)[(condIdx j).val] = _
    rw [upd_get]
    by_cases hk : k = j
    · subst hk; simp
    · rw [if_neg (fun e => hk (condIdx_inj e)), if_neg (fun e => hk e.2)]
  · simp [hc]

@[simp] theorem drive_live (v : Bool) (f : Flag) : (Flag.drive v f).live = v := by
  unfold Flag.drive; split
  · simp_all
  · rfl

/-- What a change of one slice with its trip wire leaves of that slice (02 R113, R124). -/
theorem slice_wireStep (c : Ch) (f : Slice → Slice) (s : State) :
    (wireStep c f s).slice c = { f (s.slice c) with
      flags := upd (f (s.slice c)).flags 10 (Flag.drive (f (s.slice c)).wire) } := by
  unfold wireStep
  dsimp only
  split <;> simp [onChFlag_eq]

/-- The TRIP flag follows the trip wire (02 R124). -/
theorem wireStep_flag (c : Ch) (f : Slice → Slice) (s : State) :
    (((wireStep c f s).slice c).flags[10]).live = (f (s.slice c)).wire := by
  rw [slice_wireStep]
  have e : (upd (f (s.slice c)).flags 10 (Flag.drive (f (s.slice c)).wire))[(10 : Fin 12).val] = _ := upd_same ..
  exact (congrArg Flag.live e).trans (drive_live ..)

/-! ## What an event of one slice leaves -/

namespace SliceStep

theorem refl (c : Ch) (u : State) : SliceStep c u u := ⟨rfl, fun _ _ => rfl, fun _ => QueueOnly.refl _⟩

theorem trans {c : Ch} {u v t : State} (h : SliceStep c u v) (h' : SliceStep c v t) : SliceStep c u t where
  rest := by rw [h'.rest, h.rest]
  others d hd := (h'.others d hd).trans (h.others d hd)
  queues b := (h.queues b).trans (h'.queues b)

theorem live {c : Ch} {u t : State} (h : SliceStep c u t) : t.live = u.live := by rw [h.rest]
theorem now {c : Ch} {u t : State} (h : SliceStep c u t) : t.now = u.now := by rw [h.rest]
theorem ident {c : Ch} {u t : State} (h : SliceStep c u t) : t.ident = u.ident := by rw [h.rest]
theorem engine {c : Ch} {u t : State} (h : SliceStep c u t) : t.engine = u.engine := by rw [h.rest]
theorem power {c : Ch} {u t : State} (h : SliceStep c u t) : t.power = u.power := by rw [h.rest]
theorem rst {c : Ch} {u t : State} (h : SliceStep c u t) : t.rst = u.rst := by rw [h.rest]
theorem pins {c : Ch} {u t : State} (h : SliceStep c u t) : t.pins = u.pins := by rw [h.rest]

end SliceStep

theorem sliceStep_onSlice (c : Ch) (f : Slice → Slice) (s : State) : SliceStep c s (onSlice c f s) where
  rest := rfl
  others d hd := by rw [slice_onSlice, if_neg (fun e => hd e.symm)]
  queues _ := QueueOnly.refl _

theorem sliceStep_onChFlag (c : Ch) (b : Fin 12) (f : Flag → Flag) (s : State) : SliceStep c s (onChFlag c b f s) :=
  sliceStep_onSlice ..

theorem sliceStep_onCond (c : Ch) (k : Cond) (f : CondState → CondState) (s : State) : SliceStep c s (onCond c k f s) :=
  sliceStep_onSlice ..

theorem sliceStep_onLamp (c : Ch) (f : Lamp → Lamp) (s : State) : SliceStep c s (onLamp c f s) := sliceStep_onSlice ..

theorem sliceStep_send (c : Ch) (m : Msg) (s : State) : SliceStep c s (send m s) where
  rest := by unfold send; split <;> rfl
  others d _ := slice_send ..
  queues b := send_queueOnly ..

theorem sliceStep_wireStep (c : Ch) (f : Slice → Slice) (s : State) : SliceStep c s (wireStep c f s) := by
  unfold wireStep
  dsimp only
  split
  · exact (sliceStep_onSlice ..).trans (sliceStep_onChFlag ..)
  · exact ((sliceStep_onSlice ..).trans (sliceStep_onChFlag ..)).trans (sliceStep_send ..)

theorem sliceStep_onTrip (c : Ch) (f : Trip → Trip) (s : State) : SliceStep c s (onTrip c f s) := sliceStep_wireStep ..

theorem sliceStep_judgeCond (c : Ch) (k : Cond) (raw : Bool) (dt : Nat) (s : State) : SliceStep c s (judgeCond c k raw dt s) :=
  sliceStep_onCond ..

theorem sliceStep_foldl {α : Type} (c : Ch) (f : State → α → State) (hf : ∀ s a, SliceStep c s (f s a)) (l : List α) (s : State) :
    SliceStep c s (l.foldl f s) := by
  induction l generalizing s with
  | nil => exact .refl c s
  | cons a l ih => exact (hf s a).trans (ih _)

theorem sliceStep_setComp (c : Ch) (v : Bool) (s : State) : SliceStep c s (setComp c v s) :=
  (sliceStep_onSlice ..).trans (sliceStep_onChFlag ..)

theorem sliceStep_setPin (c : Ch) (v : Bool) (s : State) : SliceStep c s (setPin c v s) :=
  (sliceStep_onSlice ..).trans (sliceStep_onChFlag ..)

theorem sliceStep_judgeComp (c : Ch) (l : LoopLoad) (s : State) : SliceStep c s (judgeComp c l s) := sliceStep_setComp ..

theorem sliceStep_startRss (c : Ch) (s : State) : SliceStep c s (startRss c s) := by
  unfold startRss; dsimp only; split
  · exact sliceStep_onSlice ..
  · exact .refl ..

theorem sliceStep_takeLimits (c : Ch) (s : State) : SliceStep c s (takeLimits c s) :=
  (sliceStep_onLamp ..).trans (sliceStep_onChFlag ..)

theorem sliceStep_judgeLamp (c : Ch) (dt at_ : Nat) (s : State) : SliceStep c s (judgeLamp c dt at_ s) := by
  unfold judgeLamp
  split
  · exact .refl ..
  · exact ((sliceStep_onSlice ..).trans (sliceStep_foldl c _ (fun _ _ => sliceStep_judgeCond ..) _ _)).trans (sliceStep_onLamp ..)

theorem sliceStep_lampUpdate (c : Ch) (b : Bool) (dt at_ : Nat) (s : State) : SliceStep c s (lampUpdate c b dt at_ s) := by
  unfold lampUpdate
  dsimp only
  split
  · exact ((sliceStep_onLamp ..).trans (sliceStep_takeLimits ..)).trans (sliceStep_judgeLamp ..)
  · exact (sliceStep_onLamp ..).trans (sliceStep_takeLimits ..)

theorem sliceStep_convFlags (c : Ch) (s : State) : SliceStep c s (convFlags c s) :=
  sliceStep_foldl c _ (fun _ _ => sliceStep_onChFlag ..) _ _

theorem sliceStep_judgeCode (c : Ch) (s : State) : SliceStep c s (judgeCode c s) := by
  unfold judgeCode
  dsimp only
  split
  · exact .refl ..
  · split
    · exact sliceStep_judgeCond ..
    · split
      · exact sliceStep_judgeCond ..
      · exact ((sliceStep_judgeCond ..).trans (sliceStep_foldl c _ (fun _ _ => sliceStep_judgeCond ..) _ _)).trans
          (sliceStep_onSlice ..)

theorem sliceStep_lampCode (c : Ch) (r : Reading) (s : State) : SliceStep c s (lampCode c r s) := by
  unfold lampCode
  dsimp only
  split
  · refine SliceStep.trans ?_ (sliceStep_onSlice ..)
    split
    · exact (sliceStep_onLamp ..).trans (sliceStep_onLamp ..)
    · exact (((sliceStep_onLamp ..).trans (sliceStep_onSlice ..)).trans (sliceStep_onLamp ..)).trans (sliceStep_lampUpdate ..)
  · exact .refl ..

theorem sliceStep_setRaw (c : Ch) (k : Cond) (raw : Bool) (s : State) : SliceStep c s (setRaw c k raw s) := by
  unfold setRaw
  split
  · exact sliceStep_judgeCond ..
  · split
    · exact sliceStep_onCond ..
    · exact .refl ..

theorem sliceStep_relock (c : Ch) (f : Lamp → Lamp) (s : State) : SliceStep c s (relock c f s) := by
  unfold relock
  dsimp only
  split
  · exact (sliceStep_wireStep ..).trans (sliceStep_setRaw ..)
  · exact sliceStep_wireStep ..

end Sys2Proof.Machine
end

