-- ==== Sys2Proof/Laws/Store.lean ====
section
/-! SUPPORT. What a write of a setting can do, said once: it is a `WriteStep` that puts the value into the live settings. -/

namespace Sys2Proof.Machine

namespace WriteStep

theorem refl (u : State) : WriteStep u u := ⟨rfl⟩

theorem trans {u v t : State} (h : WriteStep u v) (h' : WriteStep v t) : WriteStep u t where
  rest := by rw [h'.rest, h.rest]

theorem keeps {u t : State} (h : WriteStep u t) (who : Sess) : KeepsLine who u t := by
  have hi : t.interp = u.interp := by rw [h.rest]
  have ha : t.port.answer = u.port.answer := by rw [h.rest]
  refine ⟨?_, by rw [hi], by rw [h.rest]⟩
  unfold answerAt consoleOf
  rw [hi, ha]

end WriteStep

theorem EngineStep.write {u t : State} (h : EngineStep u t) : WriteStep u t where
  rest := by rw [h.rest]

/-- A write that leaves the live settings as they are, or puts them first. -/
structure Puts (f : Settings → Settings) (u t : State) : Prop where
  step : WriteStep u t
  live : t.live = f u.live
  store : t.store = u.store

theorem Puts.trans_same {f : Settings → Settings} {u v t : State} (h : Puts f u v) (h' : Puts id v t) : Puts f u t :=
  ⟨h.step.trans h'.step, by rw [h'.live, id, h.live], h'.store.trans h.store⟩

theorem Puts.same_trans {f : Settings → Settings} {u v t : State} (h : Puts id u v) (h' : Puts f v t) : Puts f u t :=
  ⟨h.step.trans h'.step, by rw [h'.live, h.live, id], h'.store.trans h.store⟩

theorem puts_refl (u : State) : Puts id u u := ⟨WriteStep.refl u, rfl, rfl⟩

theorem puts_put (f : Settings → Settings) (s : State) : Puts f s { s with live := f s.live } := ⟨⟨rfl⟩, rfl, rfl⟩

theorem EngineStep.puts {u t : State} (h : EngineStep u t) : Puts id u t := ⟨h.write, h.live, by rw [h.rest]⟩

theorem puts_onSlice (c : Ch) (f : Slice → Slice) (s : State) : Puts id s (onSlice c f s) := ⟨⟨rfl⟩, rfl, rfl⟩

theorem puts_onCan (b : Bus) (f : Can → Can) (s : State) : Puts id s (onCan b f s) := ⟨⟨rfl⟩, rfl, rfl⟩

theorem puts_onLx (n : Lx) (f : LoopOut → LoopOut) (s : State) : Puts id s (onLx n f s) := ⟨⟨rfl⟩, rfl, rfl⟩

theorem puts_onPanel (f : Panel → Panel) (s : State) : Puts id s (onPanel f s) := ⟨⟨rfl⟩, rfl, rfl⟩

theorem puts_onPanelFlag (b : Fin 3) (f : Flag → Flag) (s : State) : Puts id s (onPanelFlag b f s) := ⟨⟨rfl⟩, rfl, rfl⟩

/-! ## What each write does at once -/

theorem puts_applyTrip (c : Ch) (s : State) : Puts id s (applyTrip c s) := by
  unfold applyTrip
  simp only
  split
  · exact puts_refl s
  · exact puts_onSlice ..

theorem puts_wireStep (c : Ch) (f : Slice → Slice) (s : State) : Puts id s (wireStep c f s) := by
  unfold wireStep
  simp only
  have h : Puts id s (onChFlag c 10 (Flag.drive ((onSlice c f s).slice c).wire) (onSlice c f s)) :=
    (puts_onSlice c f s).trans_same (puts_onSlice ..)
  split
  · exact h
  · exact h.trans_same (engineStep_send ..).puts

theorem puts_applyChar (c : Ch) (s : State) : Puts id s (applyChar c s) := by
  unfold applyChar
  simp only
  split
  · exact puts_refl s
  · split
    · exact ((puts_wireStep ..).trans_same (puts_onSlice ..)).trans_same (puts_onSlice ..)
    · exact puts_wireStep ..

theorem puts_applyTiming (c : Ch) (s : State) : Puts id s (applyTiming c s) := by
  unfold applyTiming
  exact puts_onSlice ..

theorem puts_applyBase (c : Ch) (s : State) : Puts id s (applyBase c s) := by
  unfold applyBase
  simp only
  split
  · exact puts_onSlice ..
  · exact puts_refl s

theorem puts_sliceTakes (i : SettingId) (s : State) : Puts id s (sliceTakes i s) := by
  unfold sliceTakes
  split
  all_goals first
    | exact puts_onSlice ..
    | exact puts_applyTrip ..
    | exact puts_applyChar ..
    | exact puts_applyTiming ..
    | exact puts_applyBase ..
    | exact puts_refl s

theorem puts_sendSetting (c : Ch) (i : SettingId) (s : State) : Puts id s (sendSetting c i s) := by
  unfold sendSetting
  split
  · exact ⟨⟨rfl⟩, rfl, rfl⟩
  · exact puts_sliceTakes ..

theorem puts_applyGrp (old : Grp) (c : Ch) (s : State) : Puts id s (applyGrp old c s) := by
  unfold applyGrp
  simp only
  split
  · exact puts_refl s
  · refine EngineStep.puts ?_
    refine EngineStep.trans ?_ (engineStep_commit ..)
    refine EngineStep.trans ?_ (engineStep_evalInhibit _)
    refine engineStep_foldl_moving _ ?_ _ (s, [])
    intro w k
    split
    · exact engineStep_startDelay ..
    · exact EngineStep.refl _

theorem puts_applyInhib (s : State) : Puts id s (applyInhib s) := by
  unfold applyInhib
  split
  · exact ((engineStep_evalInhibit (s, [])).trans (engineStep_commit ..)).puts
  · exact puts_refl s

theorem puts_applyFirstout (g : Grp) (s : State) : Puts id s (applyFirstout g s) := by
  unfold applyFirstout
  split
  · exact puts_refl s
  · exact ⟨⟨rfl⟩, rfl, rfl⟩

theorem puts_applyClass (g : Grp) (s : State) : Puts id s (applyClass g s) := by
  unfold applyClass
  split
  · exact (engineStep_endCall ..).puts
  · exact puts_refl s

theorem puts_applyEn (c : Ch) (k : Cond) (s : State) : Puts id s (applyEn c k s) := by
  unfold applyEn
  split
  · exact puts_refl s
  · refine EngineStep.puts ?_
    refine EngineStep.trans ?_ (engineStep_commit ..)
    refine EngineStep.trans ?_ (engineStep_evalInhibit _)
    split
    · exact engineStep_move c k .disabled (s, [])
    · split
      · exact engineStep_move c k .normal (s, [])
      · exact EngineStep.refl s

theorem puts_applyBitTiming (b : Bus) (s : State) : Puts id s (applyBitTiming b s) := by
  unfold applyBitTiming
  simp only
  split
  all_goals first
    | exact puts_refl s
    | (split
       · exact puts_onCan ..
       · exact puts_onCan ..)

theorem puts_applyListen (b : Bus) (s : State) : Puts id s (applyListen b s) := by
  unfold applyListen
  simp only
  split
  all_goals first
    | exact puts_refl s
    | (split
       · exact puts_onCan ..
       · exact puts_onCan ..)

theorem puts_setDirty (v : Bool) (s : State) : Puts id s (setDirty v s) := puts_onPanelFlag ..

theorem puts_applyDrive (f : PanelSet) (s : State) : Puts id s (applyDrive f s) := by
  have h1 : ∀ f, Puts id s (onPanel f s) := fun f => puts_onPanel f s
  have h2 : ∀ x y, Puts id s x → Puts id s y → Puts id s (match f with
      | .vlcd | .vhv => if x.panel.type = .bch then y else x
      | _ => x) := by
    intro x y hx hy
    split
    all_goals first
      | exact hx
      | (split
         · exact hy
         · exact hx)
  unfold applyDrive
  refine h2 _ _ ?_ ?_
  · split <;> exact h1 _
  · refine Puts.trans_same ?_ (puts_setDirty ..)
    refine Puts.trans_same ?_ (puts_onPanel ..)
    split <;> exact h1 _

theorem puts_discharge (s : State) : Puts id s (discharge s) := puts_onPanel ..

theorem puts_railsForgiven (s : State) : Puts id s (railsForgiven s) :=
  (puts_onPanelFlag ..).trans_same (puts_onPanelFlag ..)

theorem puts_takeDrive (s : State) : Puts id s (takeDrive s) := puts_onPanel ..

theorem puts_atRest (s : State) : Puts id s (atRest s) := by
  unfold atRest
  exact (((puts_onPanel ..).trans_same (puts_railsForgiven _)).trans_same (puts_takeDrive _)).trans_same (puts_onPanel ..)

theorem puts_powerDown (s : State) : Puts id s (powerDown s) := by
  have h1 : ∀ f, Puts id s (onPanel f s) := fun f => puts_onPanel f s
  have h2 := puts_atRest s
  have h3 := puts_discharge s
  unfold powerDown
  split
  · exact h1 _
  · exact h1 _
  · exact h1 _
  · exact h2
  · split
    · exact h1 _
    · exact h3

theorem puts_takeType (s : State) : Puts id s (takeType s) := by
  unfold takeType
  split
  all_goals first
    | exact puts_atRest ..
    | (simp only
       split
       · exact puts_onPanel ..
       · exact (puts_onPanel ..).trans_same (puts_powerDown _))

theorem puts_applySsc (f : ClockSet) (s : State) : Puts id s (applySsc f s) := by
  unfold applySsc
  simp only
  split
  · exact ⟨⟨rfl⟩, rfl, rfl⟩
  · exact ⟨⟨rfl⟩, rfl, rfl⟩
  · exact puts_refl s

theorem puts_setDeadEn (v : Val) (s : State) : Puts (putCfg (.deadman .en) v) s (setDeadEn (isOn v) 0 s) := by
  unfold setDeadEn
  simp only
  have h1 := puts_put (putCfg (.deadman .en) v) s
  split
  · refine h1.trans_same (Puts.trans_same ?_ (engineStep_setCause ..).puts)
    split
    · exact (engineStep_emitCall ..).puts.trans_same ⟨⟨rfl⟩, rfl, rfl⟩
    · exact (engineStep_emitCall ..).puts.trans_same ⟨⟨rfl⟩, rfl, rfl⟩
  · exact h1

theorem puts_applyCh (c : Ch) (f : ChSet) (v : Val) (s : State) : Puts (putCfg (.ch c f) v) s (applyCh c f v s) := by
  have h := puts_put (putCfg (.ch c f) v) s
  unfold applyCh
  cases f
  all_goals first
    | exact h.trans_same (puts_sendSetting ..)
    | exact h.trans_same (puts_applyGrp ..)

/-- THE EFFECT OF A WRITE. It puts the value into the live settings and acts on what the setting's column names. -/
theorem puts_applySetting (who : Sess) (i : SettingId) (v : Val) (s : State) :
    Puts (putCfg i v) s (applySetting who i v s) := by
  have h := puts_put (putCfg i v) s
  unfold applySetting
  cases i with
  | ch c f => exact puts_applyCh c f v s
  | cond c k f =>
    cases f
    all_goals first
      | exact h
      | exact h.trans_same (puts_applyEn ..)
  | grp g f =>
    cases f
    all_goals first
      | exact h
      | exact h.trans_same (puts_applyInhib _)
      | exact h.trans_same (puts_applyFirstout ..)
      | exact h.trans_same (puts_applyClass ..)
  | deadman f =>
    cases f
    all_goals first
      | exact h
      | exact puts_setDeadEn v s
  | watchNodes => exact h.trans_same (engineStep_setCause ..).puts
  | can b f =>
    cases f
    all_goals first
      | exact h
      | exact h.trans_same (puts_applyBitTiming ..)
      | exact h.trans_same (puts_applyListen ..)
      | exact puts_onCan ..
  | lx n f =>
    cases f
    all_goals first
      | exact h
      | exact puts_onLx ..
  | panel f =>
    cases f
    all_goals first
      | exact h
      | exact h.trans_same (puts_takeType _)
      | exact puts_onPanel ..
      | exact h.trans_same (puts_applyDrive ..)
  | hp f =>
    cases f
    all_goals first
      | exact h
      | exact h.trans_same ⟨⟨rfl⟩, rfl, rfl⟩
  | clock f => exact h.trans_same (puts_applySsc ..)
  | _ => exact h

/-- The store's record of a write leaves the settings as they are. -/
theorem served_step (src : Nat × Nat) (coll : Option (Nat × Nat)) (i : SettingId) (s : State) :
    WriteStep s (served src coll i s) ∧ (served src coll i s).live = s.live ∧
      (served src coll i s).store.lastWrite = some (i, src, s.cycle) := by
  unfold served
  cases coll <;> exact ⟨⟨rfl⟩, rfl, rfl⟩

theorem puts_logCollision (src : Nat × Nat) (coll : Option (Nat × Nat)) (i : SettingId) (w : BitVec 32) (s : State) :
    Puts id s (logCollision src coll i w s) := by
  unfold logCollision
  cases coll with
  | none => exact puts_refl s
  | some first => exact (engineStep_emit ..).puts

theorem puts_commitWrite (who : Sess) (src : Nat × Nat) (i : SettingId) (v : Val) (s : State) :
    Puts (putCfg i v) s (commitWrite who src i v s) := by
  unfold commitWrite
  exact (engineStep_emit ..).puts.same_trans (puts_applySetting ..)

/-- A WRITE THAT NEEDS NO IMAGE puts its value into the live settings, is recorded as the store's last write, and is else a
`WriteStep`. -/
theorem writeNow_step (who : Sess) (b : Bool) (i : SettingId) (v : Val) (s : State) :
    WriteStep s (writeNow who b i v s) ∧ (writeNow who b i v s).live = putCfg i v s.live ∧
      (writeNow who b i v s).store.lastWrite = some (i, sessSource s who, s.cycle) := by
  have h := fun coll => served_step (sessSource s who) coll i s
  have h2 := fun coll => (puts_commitWrite who (sessSource s who) i v (served (sessSource s who) coll i s)).trans_same
    (puts_logCollision (sessSource s who) coll i (encodeVal (kindOf (putCfg i v s.live) i) v) _)
  unfold writeNow
  simp only
  refine ⟨(h _).1.trans (h2 _).step, ?_, ?_⟩
  · rw [(h2 _).live, (h _).2.1]
  · rw [(h2 _).store, (h _).2.2]

/-- A write that needs no image notes itself, acts, and logs a collision. -/
theorem writeNow_acts (who : Sess) (b : Bool) (i : SettingId) (v : Val) (s : State) :
    ∃ u, WriteNoted s u ∧ LogOnly (applySetting who i v u) (writeNow who b i v s) := by
  have hs : ∀ src coll, WriteNoted s (served src coll i s) := by
    intro src coll
    unfold served WriteNoted
    cases coll <;> rfl
  have hl : ∀ e u, WriteNoted s u → WriteNoted s (emit e u) := by
    intro e u hu
    unfold WriteNoted at *
    have he : emit e u = { u with log := { u.log with incoming := (emit e u).log.incoming } } := by
      unfold emit; split <;> rfl
    rw [he, hu]
  have hc : ∀ src coll w u, LogOnly u (logCollision src coll i w u) := by
    intro src coll w u
    unfold logCollision LogOnly
    cases coll with
    | none => rfl
    | some f => simp only; unfold emitBlock emit; split <;> rfl
  exact ⟨_, hl _ _ (hs _ _), hc _ _ _ _⟩

/-- A ROW THAT IS A SET OF ONE SETTING sets it, in each of the three ways in which a SET can end. -/
theorem setsSetting_setLine (h : LineHdr) (i : SettingId) (v : Text) (s : State) (cmd : Instr)
    (hc : exec cmd s = finish (runLine h (txt "SET") (writeSetting h i v) s)) : SetsSetting cmd h i v s := by
  refine ⟨?_, ?_, ?_⟩
  · intro x ha hx hp
    obtain ⟨hw, hl, hs⟩ := writeNow_step h.sess h.sameCycle i x (setStart h s)
    obtain ⟨t, h1, h2, h3⟩ := line_replies h (txt "SET") (writeSetting h i v) s _ _ ha
      (by unfold writeSetting; have : lineStart h (txt "SET") s = setStart h s := rfl
          rw [this, hx]; simp only [hp]; rfl) (hw.keeps _)
    exact ⟨t, hc.trans h1, h2, _, h3, hw, hl, hs, writeNow_acts ..⟩
  · intro x ha hx hp
    have hcs : ∀ (u : State) src coll, served src coll i u = { u with
        store := (served src coll i u).store
        flags := { u.flags with setColl := (served src coll i u).flags.setColl } } := by
      intro u src coll
      unfold served
      cases coll <;> rfl
    generalize hsrc : sessSource (setStart h s) h.sess = src at *
    generalize hcoll : collides src h.sameCycle i (setStart h s) = coll
    have hb : writeSetting h i v (setStart h s) =
        (writePart (waiter h (setStart h s)) h.sameCycle i v {} (setStart h s), none) := by
      unfold writeSetting
      rw [hx]
      simp only [hp, if_true]
      rfl
    have hws : sessSource (setStart h s) (waiter h (setStart h s)).sess = src := hsrc
    have hu : writePart (waiter h (setStart h s)) h.sameCycle i v {} (setStart h s) =
        { setStart h s with
          part := { (setStart h s).part with writes := (setStart h s).part.writes ++ [({
            id := i, value := unwords (tokens v), by_ := waiter h (setStart h s), src := src,
            coll := coll } : PartWrite)] }
          store := (served src coll i (setStart h s)).store
          flags := { (setStart h s).flags with setColl := (served src coll i (setStart h s)).flags.setColl } } := by
      unfold writePart
      simp only
      rw [hws, hcoll, hcs]
    rw [hu] at hb
    obtain ⟨t, h1, h2, h3⟩ := line_held h (txt "SET") (writeSetting h i v) s _ ha hb (KeepsLine.of_eq rfl rfl)
    exact ⟨t, hc.trans h1, h2, _, _, _, rfl, rfl, rfl, rfl, h3, (served_step _ _ i _).2.2⟩
  · intro e ha he
    obtain ⟨t, h1, h2, h3⟩ := line_refused h (txt "SET") (writeSetting h i v) s e ha
      (by unfold writeSetting; have : lineStart h (txt "SET") s = setStart h s := rfl
          rw [this, he])
    exact ⟨t, hc.trans h1, h2, h3⟩

end Sys2Proof.Machine
end

