-- ==== Sys2Proof/Laws/All.lean ====
section
/-! SUPPORT. Every lemma file. -/
end

