-- ==== Sys2Proof/Tests/Slice0.lean ====
section
/-! SUPPORT. The model's own tests: ill-formed commands are refused by WellFormed, worked figures of the manual come out, and the
hypotheses of the statements can be met. -/

namespace Sys2Proof.Tests

set_option Elab.async false

open Sys2Proof.Machine

/-! ## Ill-formed commands -/

/-- A tag has 1 to 5 digits. -/
theorem test_wf_tag : Instr.wf (.time { sess := .host, tag := some (txt "123456") }) = false ∧
    Instr.wf (.time { sess := .host, tag := some (txt "12a") }) = false ∧
    Instr.wf (.time { sess := .host, tag := some (txt "12345") }) = true := by decide +kernel

/-- A script's line does not come by the row of its verb. -/
theorem test_wf_session : Instr.wf (.time { sess := .script 3 }) = false := by decide +kernel

/-- GET takes 1 to 8 names. -/
theorem test_wf_get : Instr.wf (.get { sess := .host } []) = false ∧
    Instr.wf (.get { sess := .host } (List.replicate 9 none)) = false := by decide +kernel

/-- A value is of printable characters and fits a line. -/
theorem test_wf_text : Instr.wf (.set { sess := .host } none [Char.ofNat 7]) = false ∧
    Instr.wf (.set { sess := .host } none (List.replicate 256 'a')) = false := by decide +kernel

/-- A raw frame. -/
def raw (ext : Bool) (id : Nat) (fd brs rtr : Bool) (n : Nat) : RawFrame :=
  { ext := ext, id := id, fd := fd, brs := brs, esi := false, rtr := rtr, data := List.replicate n 0 }

/-- A base identifier has 11 bits, a classic frame 8 bytes at most, and FD has no remote request. -/
theorem test_wf_raw : Instr.wf (.rawFrameReceived .canA true (raw false 2048 false false false 0)) = false ∧
    Instr.wf (.rawFrameReceived .canA true (raw true 2048 false false false 9)) = false ∧
    Instr.wf (.rawFrameReceived .canA true (raw true 2048 true false true 0)) = false ∧
    Instr.wf (.rawFrameReceived .canA true (raw true 2048 false true false 0)) = false ∧
    Instr.wf (.rawFrameReceived .canA true (raw true 2048 true true false 12)) = true := by decide +kernel

/-- A Pysel frame has a class below 8 and a length that CAN FD has. -/
theorem test_wf_rx (b : AlarmBody) :
    Instr.wf (.alarmState { bus := .canA, cls := 8, len := 16, src := 1, seq := 0, brs := true, esi := false } b) = false ∧
    Instr.wf (.alarmState { bus := .canA, cls := 1, len := 17, src := 1, seq := 0, brs := true, esi := false } b) = false := ⟨rfl, rfl⟩

/-- A console frame has 48 bytes of data at most beside its first 16. -/
theorem test_wf_console (m : BitVec 64) :
    Instr.wf (.consoleData { bus := .canA, node := 0, console := 0, cls := 3, brs := true, esi := false, len := 64, segment := 0, counter := 1, last := true, mac := m, data := List.replicate 49 0 }) = false ∧
    Instr.wf (.consoleData { bus := .canA, node := 0, console := 0, cls := 3, brs := true, esi := false, len := 16, segment := 0, counter := 1, last := true, mac := m, data := [0] }) = false := ⟨rfl, rfl⟩

/-- ENGINE has 32,768 words. -/
theorem test_wf_word : Instr.wf (.eccEngineError 32768 ⟨0, 0⟩) = false ∧ Instr.wf (.eccEngineError 32767 ⟨0, 0⟩) = true := by decide +kernel


/-! ## Figures of the manual, worked -/

/-- The checks of the lines STATUS and STATUS #5. -/
theorem test_line_checks : crc8 (txt "STATUS") = 0x17#8 ∧ crc8 (txt "STATUS #5") = 0xED#8 := by decide +kernel

/-- The lock-out grows from 60 s to 3,840 s. -/
theorem test_lock_periods : (List.range 9).map (fun n => lockPeriod (n + 5)) =
    [60, 120, 240, 480, 960, 1920, 3840, 3840, 3840] := by decide +kernel

/-! ## The hypotheses of the statements can be met

For each statement with hypotheses, states and operands that meet those of its clauses together. -/

/-- A started node: the port open within a transaction, the session at CUSTODIAN, the partition open. -/
def up : State :=
  { State.reset with
    rst := { phase := .up }
    engine := { State.reset.engine with running := true }
    interp := { running := true }
    port := { opened := true, async := false, transaction := true, sess := { role := .custodian } }
    part := { keysw := .asserted }
    mem := {}
    watch := { joined := true, lead := some 0, ready := true }
    can := .replicate 2 { mode := .active }
    log := { State.reset.log with opened := true, filling := some 0 } }

/-- The same node with its session at OBSERVER. -/
def low : State := { up with port := { up.port with sess := {} } }

/-- A plain line of the host. -/
def line : LineHdr := { sess := .host }

/-- A change of the settings of a channel. -/
def chSet (c : Ch) (f : ChCfg → ChCfg) (s : State) : State :=
  { s with live := { s.live with ch := upd s.live.ch c f } }

theorem witness_IdleStepIsOneTick : State.reset.pending = [] ∧ State.reset.interp.panelClock = none ∧
    State.reset.watch.slew = 0 := by decide +kernel

/-- Lines of the host are accepted, whatever their verb. -/
theorem witness_accepted : Accepted line (txt "GET") up ∧ Accepted line (txt "SET") low ∧
    Accepted line (upper (txt "nosuch")) up := by unfold Accepted; decide +kernel

/-- A step that leaves the node running, without a held level, an ANNUN line and a CALL line. -/
theorem witness_OutputPinsNeverLag :
    (∃ t, step { up with live := { up.live with al := (.replicate 16 .annun : Vector AlMode 16).set 3 .call } } = .next t ∧
      t.engine.hold = none ∧ t.engine.running = true ∧ t.live.al[0] = .annun ∧ t.live.al[3] = .call ∧
      (t.canOf .canA).mode ≠ .off ∧ t.panel.phase = .off) := ⟨_, rfl, by decide +kernel⟩

/-- A channel whose comparator trips, routed to the lowest and the highest FAST line. -/
theorem witness_FastLineTrips :
    ∃ t, step { chSet 127 (fun c => { c with fast := 0x8001 }) up with
      slices := up.slices.set 127 { act := { mode := .volt }, trip := { hiQ := true } } } = .next t ∧
      t.live.al[15] = .fast ∧ chFitted t.ident.part 127 = true ∧ (t.chCfg 127).fast.getLsbD 15 = true ∧
      (t.chCfg 127).fast.getLsbD 0 = true ∧ (t.slice 127).wire = true := ⟨_, rfl, by decide +kernel⟩

theorem witness_BadLinesChangeNothing :
    lineHeard up .host = true ∧
    lineHeard { up with port := { up.port with crcRequired := true } } .host = true ∧
    (latchPoint line { up with port := { up.port with crcRequired := true } }).port.crcRequired = true ∧ 255 < lineLength { line with text := List.replicate 256 (Char.ofNat 65) } ∧ crc8 (txt "STATUS") ≠ 0 ∧ printable (Char.ofNat 7) = false ∧
    (latchPoint line up).port.crcRequired = false := by decide +kernel

theorem witness_ReadingLinesAnswer :
    (∀ n ∈ [Name.ro .nodePart, .setting .watchNode], nameFitted (lineStart line (txt "GET") up).ident.part n = true) ∧
    ownName (lineStart line (txt "SHOW") up) (txt "CANA") = some (txt "CANA") ∧
    (namesUnder (lineStart line (txt "SHOW") up).ident.part (txt "CANA")).length = 30 ∧
    (readWhole (txt "30") = .ok 30 ∧ readWhole (txt "1") = .ok 1 ∧ readWhole (txt "40") = .ok 40) ∧
    (verbForms.find? fun p => p.1 = upper (txt "get")).isSome = true := by decide +kernel

theorem witness_SettingsAreWritten :
    Accepted line (txt "SET") up ∧ settingFitted up.ident.part (.ch 127 .safe) = true ∧
    nameFitted up.ident.part (.ro .nodePart) = true ∧
    checkWrite .host (.ch 0 .mode) (txt "VOLT") (setStart line up) = .ok (.kw 2) ∧
    inPartition (pendingCfg (setStart line up)) (.ch 0 .mode) = false ∧
    (checkWrite .host (.ch 0 .safe) (txt "1") (setStart line up)).isOk = true ∧
    inPartition (pendingCfg (setStart line up)) (.ch 0 .safe) = true ∧
    checkWrite .host (.ch 0 .mode) (txt "VOLT") (setStart line low) = .error .e06 := by
  unfold Accepted; decide +kernel

theorem witness_PartitionNeedsCustodianAndKey :
    inPartition (pendingCfg up) (.ch 0 .safe) = true ∧ partOpen low .host = false ∧ isScript (.script 0) = true ∧
    readSetting up (.ch 0 .safe) (txt "1") = .ok (.num 1) ∧ roleOf low .host ≠ .custodian ∧
    roleOf up .host = .custodian ∧ { up with part := {} }.part.keysw ≠ .asserted ∧
    rangeRule (.ch 0 .safe) (.num 1) (pendingCfg up) (putCfg (.ch 0 .safe) (.num 1) (pendingCfg up)) = true ∧
    windowRule (.ch 0 .safe) (putCfg (.ch 0 .safe) (.num 1) (pendingCfg up)) = true := by decide +kernel

/-- A channel in VOLT mode with its comparators, and one in LAMP mode, no mode change waiting. -/
def measuring : State :=
  chSet 1 (fun c => { c with mode := .lamp, char := .fl 1 40 })
    { chSet 0 (fun c => { c with mode := .volt }) up with
      slices := (up.slices.set 0 { act := { mode := .volt, range := .v10 }, range := .v10 }).set 1
        { act := { mode := .lamp, range := .v10 }, range := .v10, lamp := { lock := .locked } } }

theorem witness_ChannelSettingsAct :
    (modeList.getD (kwOf (.kw 2)) .off ≠ (up.chCfg 0).mode) ∧ modeList.getD (kwOf (.kw 2)) .off = (measuring.chCfg 0).mode ∧
    (measuring.chCfg 0).staged = none ∧ hasComparators (measuring.slice 0).act.mode = true ∧
    (measuring.slice 1).act.mode = .lamp ∧ ((applySetting .host (.ch 1 .learn) (.kw 2) measuring).chCfg 1).learn = .off := by
  decide +kernel

theorem witness_NodeSettingsAct :
    isOn (.kw 1) = false ∧ up.engine.running = true ∧ (up.canOf .canB).mode = .active ∧ (up.canOf .canB).sending = none ∧
    ({ up with can := .replicate 2 { mode := .busOff } }.canOf .canA).mode = .busOff := by decide +kernel

theorem witness_SessionsBeginAndEnd :
    Accepted line (txt "LOGIN") low ∧ keyIdx .operator = some 0 ∧ keyIdx .custodian = some 2 ∧
    (lineStart line (txt "LOGIN") low).keys.lockEnd[2] = none ∧ Accepted line (txt "LOGOUT") up ∧
    (inProgress up .host = true ∧ awaits up .host = false ∧
      (sessOf up .host).idleSince + (sessOf up .host).timeout * usSec ≤ { up with now := 300000000 }.now) ∧
    (sessOf { up with port := { up.port with sess := { nonce := some ⟨1, .custodian, 60⟩ } } } .host).nonce =
      some ⟨1, .custodian, 60⟩ ∧
    { up with keys := { lockEnd := (.replicate 3 none : Vector (Option Tick) 3).set 2 (some 5) } }.keys.lockEnd[2] = some 5 := by
  unfold Accepted; decide +kernel

/-- A nonce pending for ENGINEER. -/
def proving : State := { low with port := { low.port with sess := { nonce := some ⟨7, .engineer, 60000000⟩ } } }

/-- The key is delivered, 0, and the key switch is asserted: the MAC over the nonce is the right proof; zeros are a wrong one. -/
theorem witness_ProofDecides : Accepted line (txt "PROVE") proving ∧
    readGroups (List.replicate 8 (txt "0000")) = some (List.replicate 16 0) ∧
    (sessOf (lineStart line (txt "PROVE") proving) .host).nonce = some ⟨7, .engineer, 60000000⟩ ∧ keyIdx .engineer = some 1 ∧
    (lineStart line (txt "PROVE") proving).now ≤ 60000000 ∧
    (proofMac (lineStart line (txt "PROVE") proving) 0 7).take 16 ≠ List.replicate 16 0 ∧
    readGroups (showGroups 8 (ofBytesBe ((proofMac (lineStart line (txt "PROVE") proving) 0 7).take 16))) =
      some ((proofMac (lineStart line (txt "PROVE") proving) 0 7).take 16) := by
  unfold Accepted; decide +kernel

theorem witness_KeysAreWritten :
    readGroups (List.replicate 16 (txt "ABCD")) = some (List.replicate 16 [0xAB, 0xCD]).flatten ∧ keyGroups .custodian = 16 ∧
    mayWriteKeys (setStart line up) line = true ∧ flashBusy (setStart line up) = false ∧ partOpen (setStart line up) .host = true ∧
    { up with interp := { up.interp with flash := some (.key (.unit 63) 1 ⟨.host, 1, true⟩) } }.interp.flash =
      some (.key (.unit 63) 1 ⟨.host, 1, true⟩) := by decide +kernel

/-- A SET of CH128.SAFE that waits for its image, its reply held back. -/
def writing : State :=
  { up with
    part := { up.part with writes := [{ id := .ch 127 .safe, value := txt "1", by_ := ⟨.host, 1, true⟩, src := (6, 0), coll := none }] }
    port := { up.port with answer := { verb := txt "SET", no := 1 } } }

theorem witness_ImageDecidesPartitionWrite :
    readVal writing.ident.part writing.watch.node (kindOf writing.live (.ch 127 .safe)) (txt "1") = .ok (.num 1) ∧
    Awaits writing ⟨.host, 1, true⟩ :=
  ⟨by decide +kernel, by decide +kernel, { verb := txt "SET", no := 1 }, by decide +kernel⟩

theorem witness_KeySwitchAndCheckPass : sequencerRuns up = true ∧ up.part.keysw ≠ .released ∧ low.part.keysw ≠ .fault ∧
    { up with part := {} }.part.keysw ≠ .asserted ∧ up.rst.phase = .up ∧
    up.part.writes = [] ∧ up.part.checkAt + 90000 ≤ { up with now := 90000 }.now ∧
    readWord { encodeWord 5 with data := 4 } = .corrected 5 ∧ readWord { encodeWord 5 with check := 0x7F } = .double := by decide +kernel

/-- SAVE under way, its line awaited. -/
def saving : State :=
  { up with
    interp := { up.interp with flash := some (.save 2 {} ⟨.host, 1, true⟩) }
    port := { up.port with answer := { verb := txt "SAVE", no := 1 } } }

theorem witness_SaveKeepsSettings :
    may (lineStart line (txt "SAVE") up) line .engineer = true ∧ flashBusy (lineStart line (txt "SAVE") up) = false ∧
    flashBusy (lineStart line (txt "SAVE") { saving with port := up.port }) = true ∧
    may (lineStart line (txt "SAVE") low) line .engineer = false ∧ (∀ i, imageInForce saving = some i → i.gen < 2) ∧
    Awaits saving ⟨.host, 1, true⟩ ∧ ((chSet 0 (fun c => { c with safe := true }) up).live.ch[0]).safe = true :=
  ⟨by decide +kernel, by decide +kernel, by decide +kernel, by decide +kernel, by decide +kernel,
    ⟨by decide +kernel, { verb := txt "SAVE", no := 1 }, by decide +kernel⟩, by decide +kernel⟩

/-- Settings that differ from the saved image in one setting: LOAD writes it, with or without a wait. -/
def changed : State := chSet 0 (fun c => { c with grp := 31 }) up

theorem witness_LoadWritesEachSetting :
    Accepted line (txt "LOAD") changed ∧ may (lineStart line (txt "LOAD") changed) line .engineer = true ∧
    checkWrite .host (.ch 0 .grp) (txt "G00") changed = .ok (.kw 0) ∧ inPartition (pendingCfg changed) (.ch 0 .grp) = false := by
  unfold Accepted; decide +kernel

/-- An image whose S00 and S15 hold one line each. -/
def scripted : State :=
  { up with images := { slot0 := some ⟨1, true,
    { scripts := ((.replicate 16 (.replicate 64 []) : Vector (Vector Text 64) 16).set 15
        ((.replicate 64 [] : Vector Text 64).set 63 (txt "TIME"))).set 0 ((.replicate 64 [] : Vector Text 64).set 0 (txt "TIME")) }⟩ } }

/-- S15 being run. -/
def running : State :=
  { scripted with interp := { scripted.interp with
    script := some { script := 15, todo := [(64, txt "TIME")], role := .engineer, by_ := ⟨.console 0, 1, false⟩ } } }

theorem witness_ScriptsRunLineByLine :
    (Accepted line (txt "RUN") scripted ∧ may (lineStart line (txt "RUN") scripted) line .engineer = true ∧
      scriptLines scripted 15 = [(64, txt "TIME")] ∧ scriptLines scripted 1 = [] ∧ scripted.interp.script = none ∧
      running.interp.script ≠ none) ∧
    (running.interp.running = true ∧ running.power.mode ≠ .deep ∧
      ({ scripted with rst := { phase := .booting } } : State).rst.phase = .booting) ∧
    (Accepted line (txt "STOP") running ∧ may (lineStart line (txt "STOP") running) line .engineer = true) := by
  unfold Accepted; decide +kernel

/-- The alarms of CH001 after an occurrence: HI unacknowledged, LO returned, FAULT shelved; the link and the log at work. -/
def alarmed : State :=
  { up with
    engine := { up.engine with alarms := up.engine.alarms.set 0 ((((.replicate 9 {} : Vector Alarm 9).set 1
      { st := .activeUnack, on := true }).set 2 { st := .returnUnack }).set 4 { st := .shelved, shelfEnd := some 60000000 }) }
    cycle := 5 }

theorem witness_AlarmVerbsMoveTheirTarget :
    Accepted line (txt "ACK") alarmed ∧ may (lineStart line (txt "ACK") alarmed) line .operator = true ∧
    targetFitted alarmed.ident.part (.ch 0) = true ∧ (0, .hi) ∈ targetConds (lineStart line (txt "ACK") alarmed) (.ch 0) ∧
    (alarmed.alarm 0 .hi).entered < latchCycle line (lineStart line (txt "ACK") alarmed) ∧ (7 : NodeNo) ≠ alarmed.watch.node ∧
    shelvable (lineStart line (txt "SHELVE") alarmed) (.ch 0) = true ∧ readWhole (txt "480") = .ok 480 ∧
    alarmed.live.shelveMax = 480 := by unfold Accepted; decide +kernel

theorem witness_DisableAndEnable :
    Accepted line (txt "DISABLE") up ∧ targetFitted up.ident.part (.cond 127 .char) = true ∧ ableTarget (.cond 127 .char) = true ∧
    targetConds (lineStart line (txt "DISABLE") up) (.cond 127 .char) = [(127, .char)] ∧
    (checkWrite .host (.cond 127 .char .en) (txt "OFF") (lineStart line (txt "DISABLE") up)).isOk = true ∧
    inPartition (pendingCfg (lineStart line (txt "DISABLE") up)) (.cond 127 .char .en) = false := by
  unfold Accepted; decide +kernel

theorem witness_ClearStatusClears : Accepted line (txt "CLEAR") up ∧ flagFitted up.ident.part (.ch 127 11) = true ∧
    may (lineStart line (txt "CLEAR") up) line (flagRole (.ch 127 11)) = true ∧
    may (lineStart line (txt "CLEAR") up) line (flagRole .rstcause) = true := by unfold Accepted; decide +kernel

/-- Another node that is lead, with a capture of its last TIME frame. -/
def follower : State :=
  { up with watch := { up.watch with
    lead := some 1, peers := (.replicate 8 {} : Vector Peer 8).set 1 { heard := true, ready := true }
    captures := .replicate 2 { byOther := [(captureKey 1 9, 400)] } } }

theorem witness_NodeTimeIsSetAndFollows :
    (Accepted line (txt "TIME") up ∧ readTime (txt "2001-01-01T00:00:00.000001Z") = .ok 31622400000001 ∧
      may (lineStart line (txt "TIME") up) line .engineer = true ∧ inWatch up = false ∧
      inWatch follower = true ∧ isLead follower = false) ∧
    (isLead up = true ∧ canSendMsg up = true ∧ up.watch.nextTime ≤ up.now ∧ (up.canOf .canA).sends = true) ∧
    ((takeFrame ⟨.canA, 4, 1, 10, 16, true, false⟩ (.time false 9 500) false follower).2 = true ∧
      (takeFrame ⟨.canA, 4, 1, 10, 16, true, false⟩ (.time false 9 500) false { follower with watch := { follower.watch with lead := some 0 } }).2 = true ∧
      ((follower.watch.captures[0]).byOther.find? fun p => decide (p.1 = captureKey 1 9)).map (fun p => p.2) = some 400 ∧
      100 ≤ 500 ∧ ((500 : Int) - 400).natAbs ≤ 500 ∧ 500 < ((501 : Int) - 0).natAbs) ∧ up.engine.running = true ∧
    (up.canOf .canA).queue.length < 64 := by
  unfold Accepted; decide +kernel

/-- An event. -/
def event : Event := { time := 1, tunset := false, kind := 3, index := 4, code := 0x0701 }

/-- The log at work: an event handed over and one staged. -/
def logging : State := { up with log := { up.log with incoming := [.own event], stage := [.own event] } }

/-- The log with its last slot next, in the highest sector. -/
def lastSlot : State :=
  { up with
    part := {}
    log := { up.log with
      filling := some 7
      sectors := (.replicate 8 { st := .full } : Vector Sector 8).set 7
        { st := .filling, slots := List.replicate (sectorSlots - 1) .torn } } }

/-- The log full. -/
def logFull : State := { logging with log := { logging.log with full := true } }

theorem witness_LogOpensAndStages :
    (writerRuns up = true ∧ ({ up with log := {} } : State).log.opened = false ∧
      ({ up with log := { up.log with refused := (.replicate 7 0 : Vector Nat 7).set 6 1 } } : State).log.refused ≠
        up.log.savedRefused) ∧
    (nextSector { logging with log := { logging.log with
        filling := none, sectors := .replicate 8 {}, stage := [] } } = some 0 ∧ (sectorOf (up : State) 1).st = .erased) ∧
    (logging.log.stage.length < 1023 ∧
      1023 ≤ ({ up with log := { up.log with stage := List.replicate 1023 (.own event) } } : State).log.stage.length ∧
      logFull.log.full = true ∧ (stagedCode (.own event)).toNat / 256 = 6 + 1) := by decide +kernel

theorem witness_RecordsAreProgrammed :
    (mayProgram logging = true ∧ lastSlotNext logging = false ∧
      (sectorOf logging 0).slots.length + 1 < sectorSlots ∧ (sectorOf logging 0).failures = 0) ∧
    (mayProgram lastSlot = true ∧ lastSlotNext lastSlot = true ∧ lastSlot.flags.logFull.live = false) := by decide +kernel

/-- A background erase of sector 7, begun 200 µs ago. -/
def erasing : State := { up with now := 200, log := { up.log with erase := some { sector := 7, foreground := false, since := 0 } } }

theorem witness_ErasesRunAndYield : writerRuns erasing = true ∧ erasing.log.clearing = none ∧ erasing.log.toErase = [] ∧
    erasing.log.stage = [] ∧ (1 + 1 < 3 ∧ 3 ≤ 2 + 1) ∧ (0 + 200 ≤ erasing.now ∧ ¬ 0 + 200 ≤ (199 : Tick)) ∧
    ({ erasing with log := { erasing.log with stage := [.own event] } } : State).log.stage ≠ [] ∧
    ({ up with log := { up.log with erase := some { sector := 7, foreground := false, since := 0, suspended := true, wrote := true } } }
      : State).log.erase.any (fun e => e.suspended && e.wrote) = true ∧ lastSlotNext erasing = false := by decide +kernel

/-- A LOG CLEAR in its first erase, its line awaited. -/
def clearing : State :=
  { up with
    log := { up.log with
      filling := none, clearOn := true, erase := some { sector := 0, foreground := true, since := 0 }
      clearing := some ⟨⟨.host, 1, true⟩, (6, 0), 0, true, 3⟩ }
    port := { up.port with answer := { verb := txt "LOG", no := 1 } } }

theorem witness_LogClearEmptiesLog :
    (Accepted line (txt "LOG") up ∧ may (lineStart line (txt "LOG") up) line .custodian = true ∧ up.log.clearOn = false ∧
      flashBusy (lineStart line (txt "LOG") up) = false ∧ writerRuns (lineStart line (txt "LOG") up) = true ∧
      up.log.opened = true ∧ lineHeard { clearing with port := up.port } .host = true) ∧
    writerRuns clearing = true ∧ Awaits clearing ⟨.host, 1, true⟩ :=
  ⟨by unfold Accepted; decide +kernel, by decide +kernel, by decide +kernel, { verb := txt "LOG", no := 1 }, by decide +kernel⟩

/-- A lawful frame of identifier 2,047 and 8 bytes. -/
def frame : RawFrame := raw false 2047 false false false 8

/-- The first controller with its entry 31 pending, entries 0–30 of the host, a frame received and room for one more. -/
def raws : State :=
  { up with can := up.can.set 0 { mode := .active
                                  tx := (.replicate 32 { st := .owned, hostOwned := true } : Vector TxEntry 32).set 31
                                    { st := .pending, hostOwned := true, frame := some frame }
                                  rx := (.replicate 64 none : Vector (Option RxEntry) 64).set 63 (some ⟨frame, false, 0⟩) } }

/-- The same with its receive queue full. -/
def rxFull : State :=
  { raws with
    live := { raws.live with can := raws.live.can.set 0 { filters := .replicate 16 (some ⟨.any, 0, 0, false⟩) } }
    can := up.can.set 0 { mode := .active, rx := .replicate 64 (some ⟨frame, true, 0⟩) } }

theorem witness_RawEntriesServeTheHost :
    (Accepted line (txt "CAN") up ∧ may (lineStart line (txt "CAN") up) line .engineer = true ∧
      (∀ j : Fin 32, (txOf raws .canA j).st ≠ .free) ∧ (txOf raws .canB 0).st = .free ∧ rawLawful frame = true ∧
      (txOf raws .canA 0).hostOwned = true ∧ (txOf raws .canA 0).st ≠ .pending ∧ (txOf raws .canA 31).st = .pending ∧
      (txOf raws .canB 0).hostOwned = false) ∧
    ((raws.canOf .canA).rx[63] = some ⟨frame, false, 0⟩ ∧ (∀ j : Fin 64, j ≠ 63 → (raws.canOf .canA).rx[j.val] = none)) ∧
    (busHears rxFull .canA = true ∧ busHears State.reset .canA = false ∧ isPysel frame = false ∧ readSend [] = none ∧
      may (lineStart line (txt "CAN") low) line .engineer = false ∧ filtersPass rxFull .canA frame = true ∧ filtersPass raws .canB frame = false ∧
      (∀ j : Fin 64, (rxFull.canOf .canA).rx[j.val] ≠ none)) := by unfold Accepted; decide +kernel

/-- The words of a SEND are read. -/
theorem witness_readSend :
    readSend ([txt "BASE", txt "0x7FF", txt "ONESHOT"] ++ List.replicate 8 (txt "00")) = some (frame, true) := by decide +kernel

/-- The node sending: entry 0 of CANA waits below a watch frame; CANB sends its entry 31. -/
def sendingRaw : State :=
  let a : Can :=
    { mode := .active, queue := [⟨0, 0, .time false 0 0⟩]
      tx := (.replicate 32 {} : Vector TxEntry 32).set 0 { st := .pending, hostOwned := true, frame := some frame } }
  let b : Can :=
    { mode := .passive, sending := some (.raw 31)
      tx := (.replicate 32 {} : Vector TxEntry 32).set 31 { st := .sending, hostOwned := true, frame := some frame } }
  { up with can := #v[a, b] }

theorem witness_FramesContendAndEnd :
    ((sendingRaw.canOf .canA).drives = true ∧ (sendingRaw.canOf .canA).sending = none ∧
      (sendingRaw.canOf .canA).best = some (.watch ⟨0, 0, .time false 0 0⟩) ∧
      ({ (sendingRaw.canOf .canA) with queue := [] } : Can).best = some (.raw 0)) ∧
    ((sendingRaw.canOf .canB).listenDue = false ∧ (sendingRaw.canOf .canB).rejoinDue = false ∧ sendingRaw.watch.backlog = [] ∧
      (sendingRaw.canOf .canB).sending = some (.raw 31) ∧ ((sendingRaw.canOf .canB).tx[31]).hostOwned = true) := by
  decide +kernel

theorem witness_BusOffAndRejoin : (up.canOf .canA).drives = true ∧
    (({ up with can := .replicate 2 { mode := .busOff, recovering := true } } : State).canOf .canB).recovering = true ∧
    (up.watch.joined = true ∧ (({ up with can := .replicate 2 { rejoinDue := true } } : State).canOf .canA).mode = .off) := by
  decide +kernel

/-- A header of a frame of node 7. -/
def header (cls len : Nat) (seq : BitVec 16) : RxHdr :=
  { bus := .canB, cls := cls, src := 7, seq := seq, len := len, brs := true, esi := false }

/-- A TIME frame's content. -/
def timeIs : Msg := .time false 0 0

theorem witness_WatchFramesAreTakenOnce :
    (takeFrame (header 4 16 10) timeIs false up).2 = true ∧
    (up.watch.joined = true ∧ (up.canOf .canB).receives = true ∧
      (({ up with watch := { up.watch with peers := .replicate 8 { highest := some 65535 } } } : State).watch.peers[7]).highest =
        some 65535 ∧ (1 ≤ ((0 : BitVec 16).toNat + 65536 - 65535) % 65536) ∧
      (32767 + 65536 - 65535) % 65536 = 32768) := by decide +kernel

/-- What a node's first heartbeat carries. -/
def heartbeat : HeartbeatBody :=
  { part := .ev064, ready := true, restart := true, rebuild := true, lead := false, deadmanWarning := false, hears := 0,
    leadSeen := 0xFF, serialTail := 0, time := 0 }

theorem witness_HeartbeatsAndSilence :
    (up.watch.joined = true ∧ up.engine.running = true ∧ up.watch.nextHb ≤ up.now ∧ canSendMsg up = true ∧
      (up.canOf .canA).sends = true ∧ (up.canOf .canA).queue.length < 64) ∧
    (({ up with now := 300000, watch := { up.watch with peers := .replicate 8 { heard := true } } } : State).watch.peers[7].heard
        = true ∧ 0 + 300000 ≤ (300000 : Tick)) ∧
    ({ up with now := 1000000, watch := { up.watch with firstHb := some 0 } } : State).watch.firstHb = some 0 ∧
    (takeFrame (header 4 24 0) (.heartbeat heartbeat) heartbeat.restart up).2 = true ∧
    (takeFrame (header 4 15 0) (.heartbeat heartbeat) heartbeat.restart up).2 = false := by decide +kernel

theorem witness_LeadIsLowestReadyNode :
    linksListenXo { up with can := up.can.set 1 { mode := .listenXo } } = true ∧ leadOf up = some 0 ∧
    up.engine.running = true ∧ leadOf up = up.watch.lead ∧
    leadOf follower ≠ follower.watch.lead := by decide +kernel

/-- A call at stage 1, refreshed at 0. -/
def callBody : CallBody :=
  { node := 7, grp := 31, state := 1, cls := 0, duty := 1, next := 0, isRepeat := false, stage := 1, refresh := false,
    resumed := false, ringing := 1, start := 0, timerEnd := 0 }

/-- A remote alarm, and an acknowledgement for this node. -/
def alarmBody : AlarmBody :=
  { key := .member 18, state := 2, condTrue := true, firstOut := false, ackBit := false, refresh := false, code := 0, time := 5 }
def ackBody : AckBody := { node := 0, target := some (.ch 127), origin := 0, originNo := 0, latch := 9 }

theorem witness_CallsAreCopied :
    (takeFrame (header 1 32 1) (.call callBody) false up).2 = true ∧ callStateOf callBody.state = some .stage1 ∧
    linksListenXo up = false ∧ callBody.node ≠ up.watch.node ∧
    (let xo : State := { up with can := up.can.set 1 { mode := .listenXo } }
     linksListenXo xo = true ∧ (takeFrame (header 1 32 1) (.call { callBody with node := 0 }) false xo).2 = true ∧
       ({ callBody with node := 0 } : CallBody).node = xo.watch.node) ∧
    (isLead up = true ∧ up.engine.running = true ∧ isLead follower = false) ∧
    ∃ r : Record, (takeFrame (header 5 48 1) (.logcopy r) false up).2 = true ∧
      (takeFrame (header 5 48 1) (.logcopy r) false follower).2 = true :=
  ⟨by decide +kernel, by decide +kernel, by decide +kernel, by decide +kernel, by decide +kernel, by decide +kernel,
    recordOf 3 1 event, by decide +kernel⟩

theorem witness_RemoteAlarmsAndAcks :
    (takeFrame (header 1 16 1) (.alarm alarmBody) false up).2 = true ∧ alarmBody.key ≠ .reserved ∧
    (takeFrame (header 2 16 1) (.ack ackBody) false alarmed).2 = true ∧ alarmed.engine.running = true ∧
    ackBody.node = alarmed.watch.node ∧ (7 : NodeNo) ≠ alarmed.watch.node ∧
    targetFitted alarmed.ident.part (.ch 127) = true := by decide +kernel

/-- Four calls of node 0: one ringing at stage 1, one repeating at stage 3, one accepted, and one of another node. -/
def calling : State :=
  let a : Call := { st := .stage1, duty := some 15, ringing := 1 <<< 63, timerEnd := some 100 }
  let b : Call := { st := .stage3, timerEnd := some 99, repeatUs := 60000000 }
  let c : Call := { st := .accepted, duty := some 15, stage := 1, timerEnd := some 0 }
  { up with
    nodeTime := 100
    live := { up.live with cu := up.live.cu.set 63 .cabin, eng := up.live.eng.set 15 { units := [63] } }
    caller := { up.caller with
      units := up.caller.units.set 63 { present := true }
      calls := up.caller.calls.set 0 ((((.replicate 32 {} : Vector Call 32).set 0 a).set 1 b).set 31 c) } }

theorem witness_CallTimersRun :
    (callerRuns calling 0 = true ∧ (calling.call 0 0).rings = true ∧ (calling.call 0 0).repeats = false ∧
      (calling.call 0 1).repeats = true ∧ (calling.call 0 31).st = .accepted) ∧
    ((stageCall calling (calling.call 0 0) 1).st = .stage1 ∧ (stageCall calling {} 3).st = .stage3 ∧
      calling.live.cu[63] = .cabin) := by decide +kernel

/-- The node with its dead-man timer on, 60 s before the end of a period. -/
def watched : State :=
  { up with
    now := 540000000
    live := { up.live with dead := { en := true } }
    port := { up.port with sess := { up.port.sess with idleSince := 540000000 } }
    caller := { up.caller with dead := { periodEnd := some 600000000, warnUs := 60000000 } } }

theorem witness_DeadmanWarnsAndMisses :
    Accepted line (txt "ACK") watched ∧ may (lineStart line (txt "ACK") watched) line .operator = true ∧
    watched.live.dead.en = true ∧ watched.engine.running = true ∧ up.live.dead.en = false ∧
    (600000000 ≤ watched.now + watched.caller.dead.warnUs ∧ watched.caller.dead.warning = false ∧ watched.now < 600000000) := by
  unfold Accepted; decide +kernel

/-- A frame of unit 64 with its MAC, from the node and group named. -/
def unitFrame (key : BitVec 8) (node grp : Nat) : UnitFrame :=
  let f : UnitFrame := { bus := .canA, unit := 63, cls := 2, len := 16, counter := 1, key := key, node := BitVec.ofNat 8 node
                         grp := BitVec.ofNat 8 grp, flags := 0, mac := 0, brs := true, esi := false }
  { f with mac := BitVec.ofNat 32 ((unitMac 0 f).foldr (fun b n => b.toNat + 256 * n) 0) }

/-- The node with unit 64 of a kind. -/
def unitOf (k : CuKind) (s : State) : State := { s with live := { s.live with cu := s.live.cu.set 63 k } }

theorem witness_UnitFramesAreTakenOnce :
    ((takeUnit (unitFrame 1 0 0) calling).2 = .taken ∧ (unitFrame 1 0 0).key ≠ 0) ∧
    ((calling.caller.units[63]).present = true ∧ (calling.caller.units[63]).lastHeard + 30 * usSec ≤ 30000000 ∧
      ¬ (calling.caller.units[63]).lastHeard + 30 * usSec ≤ (29999999 : Tick)) := by decide +kernel

theorem witness_UnitKeysAct :
    ((takeUnit (unitFrame 0 0 0) calling).2 = .taken ∧ (unitFrame 0 0 0).key = 0) ∧
    (keyAllowed .cabin 1 = true ∧ isLead calling = true ∧ calling.engine.running = true ∧
      namedCall (unitFrame 1 0 0) = some (0, 0) ∧ namedCall (unitFrame 1 7 31) = some (7, 31) ∧
      (calling.call 0 0).rings = true ∧ (calling.call 0 0).ringing.getLsbD 63 = true ∧ (calling.call 7 31).rings = false) ∧
    (∀ k : Fin 4, (takeUnit (unitFrame (BitVec.ofNat 8 (k.val + 2)) 0 31) (unitOf .engrm watched)).2 = .taken ∧
      keyAllowed .engrm (k.val + 2) = true ∧ namesThis (unitFrame (BitVec.ofNat 8 (k.val + 2)) 0 31) (unitOf .engrm watched) = true) ∧
    (unitFrame 2 0 31).grp.toNat = 31 := by decide +kernel

/-- A reading of half a range. -/
def reading : Reading := { own := { quantity := 5 } }

theorem witness_ConversionsMakeCodes :
    (sliceRuns measuring 0 = true ∧ (measuring.sliceCfg 0).staged = none ∧ (measuring.sliceCfg 0).mode = (measuring.slice 0).act.mode ∧
      (measuring.slice 0).act.mode ≠ .off ∧ (measuring.slice 0).act.mode ≠ .lamp ∧
      (convert reading 0 { (measuring.slice 0) with openTest := false }).marks.usable = true ∧
      (convert reading 0 { (measuring.slice 0) with openTest := false }).code = some 61440 ∧
      (convert reading 0 { (measuring.slice 0) with openTest := true }).marks.usable = false ∧
      (convert { own := { quantity := 19 / 2 } } 0 { (measuring.slice 0) with act := { mode := .volt, range := .auto }, openTest := false }).code
        = some 116736 ∧ (measuring.slice 0).rangeDue = false) ∧
    (sliceRuns measuring 2 = true ∧ (measuring.sliceCfg 2).mode = .off ∧ (measuring.slice 2).act.mode = .off) ∧
    ((chSet 127 (fun c => { c with mode := .cont }) up).sliceCfg 127).mode ≠ (up.slice 127).act.mode ∧
    condExists .dark .cont = false := by decide +kernel

/-- Conditions and a limiter at work on CH001 in PASV mode: the raw state of HI has come, that of LO has gone. -/
def timing : State :=
  chSet 0 (fun c => { c with mode := .pasv }) { up with
    now := 10000000
    slices := up.slices.set 0 { act := { mode := .pasv, range := .ma24 }, openCause := true, limiter := .folded 9750000
                                cond := ((.replicate 9 {} : Vector CondState 9).set 1 { raw := true, due := true }).set 2 { on := true, due := true } } }

theorem witness_SliceTimersAct :
    sliceRuns timing 0 = true ∧ (timing.cond 0 .hi).raw = true ∧ (timing.cond 0 .hi).on = false ∧
    (timing.cond 0 .hi).due = true ∧ (timing.slice 0).judges .hi = true ∧ (timing.cond 0 .lo).on = true ∧
    (timing.cond 0 .lo).due = true ∧ (timing.cond 0 .lo).raw = false ∧ (timing.cond 0 .fault).due = false ∧
    (CondState.judge { (timing.sliceCondCfg 0 .hi) with en := true, steep := 100 } true 1000000 1 1 { raw := true, timer := 1000000 }).due = true ∧
    (timing.slice 0).openCause = true ∧ (timing.slice 0).openTestAt + 10 * usSec ≤ timing.now ∧
    (timing.slice 0).act.mode ∈ [Mode.pasv, .loop, .volt, .lamp] ∧
    (30 < ratAbs (-31) ∧ 256 / 10 < ratAbs (257 / 10) ∧ ratAbs (-256 / 10) ≤ 256 / 10) ∧
    9750000 + 250000 ≤ timing.now ∧ (timing.slice 0).limiter = .folded 9750000 := by decide +kernel

/-- CH001 in LOOP mode with its supply running, CH128 with its supply starting, CH002 hot. -/
def loops : State :=
  { up with
    now := 1000
    slices := ((up.slices.set 0 { act := { mode := .loop }, rss := .running .one 0 }).set 127
      { act := { mode := .loop }, rss := .starting .quarter 0 }).set 1 { act := { mode := .loop }, thermCause := true } }

theorem witness_LoopSupplyKeepsHeadroom :
    loopRuns loops 0 = true ∧ loopRuns loops 127 = true ∧ loopRuns loops 1 = true ∧
    1000 ≤ headroom ⟨100, 24000⟩ .quarter ∧ headroom ⟨24000, 24000⟩ .one < 500 ∧ 0 + 1000 ≤ loops.now ∧
    (loops.slice 1).thermCause = true ∧ (loops.slice 1).rss = .off := by decide +kernel

/-- CH001 with both comparators set and CH128 with its threshold settling. -/
def comparing : State :=
  { up with
    slices := (up.slices.set 0 { act := { mode := .volt }, trip := { dacHi := some 5, dacLo := some (-5), hiQ := true } }).set 127
      { act := { mode := .volt }, trip := { dacHi := some 5, hiHold := true } } }

theorem witness_ComparatorsTrip :
    comparatorRuns comparing 0 .hi = true ∧ comparatorRuns comparing 0 .lo = true ∧ comparatorRuns comparing 127 .hi = false ∧
    (comparing.slice 0).ac = false ∧ (200 ≤ 800 ∧ ¬ 800 < 200) ∧ limited .idle 5 = 5 ∧ limited (.folded 0) 25 = 3 ∧
    sliceRuns comparing 127 = true ∧ (comparing.slice 0).trip.loHold = false ∧
    (comparing.slice 0).trip.hiHold = false ∧ (5 : Rat) < 501 / 100 ∧ 4 ≤ 5 - 2 * tripStep .volt .v5 ∧
    (comparing.slice 127).trip.hiHold = true := by decide +kernel

/-- CH001–CH004 with the lamp of character FL 1 4 s: seeking after the dark time, confirming, locked in its band, locked with
both windows open; CH005 on AC at its fourth crossing; CH006 with character F. -/
def lamps : State :=
  let act : Active := { mode := .lamp, range := .v10 }
  let lit : Lamp :=
    { side := { lit := some true, since := 9995000, count := 3, judged := false }, fresh := true, lastUse := 10000000
      clock := 10000000, value := some 1000, darkSince := some 0, edgeSince := 9000000 }
  let half : HalfCycle := { began := some 9990000, crossings := [9990000, 9980000, 9970000], codes := [(9995000, 1, true), (10000000, 2, false)] }
  let on : OnWindow := { opens := 9000000, closes := 10000000, sum := 100, usable := 1, codes := 2 }
  let off : OffWindow := { opens := 9000000, closes := 10000000, usable := 1, litSince := some 0 }
  let set := fun (c : Ch) => chSet c fun x => { x with mode := .lamp, char := .fl 1 40, baseset := 0 }
  let ac := chSet 4 fun x => { x with mode := .lamp, char := .fl 1 40, lampsup := .ac }
  let f := chSet 5 fun x => { x with mode := .lamp }
  f (ac (set 0 (set 1 (set 2 (set 3 { up with
    now := 10000000
    slices := (((((up.slices.set 0 { act := act, lamp := { lit with lock := .seek } }).set 1
      { act := act, lamp := { lit with lock := .confirm, flash := { due := 9990000, toConfirm := 1, edge := some 9990000 }, unlockedSince := some 0 } }).set 2
      { act := act, lamp := { lit with lock := .locked, flash := { due := 9000000, edge := some 9000000 } } }).set 3
      { act := act, lamp := { lit with side := { lit.side with lit := some false }, lock := .locked, onWin := some on, offDue := some (10000000, 11000000), offWin := some off } }).set 4
      { act := { act with lampsup := .ac }, lamp := { lit with half := half } }).set 5
      { act := act, lamp := { lit with second := { on with opens := 9000000 }, base := 1 } } })))))

theorem witness_EdgesLockCharacters :
    lampRuns lamps 0 = true ∧ (lamps.slice 0).lamp.fresh = true ∧ (lamps.slice 0).lamp.crossed (lamps.slice 0).ac true 9990000 = true ∧
    (lamps.slice 0).lamp.crossed (lamps.slice 0).ac true 9996000 = false ∧
    (lamps.slice 3).lamp.crossed (lamps.slice 3).ac false 9990000 = true ∧ (lamps.slice 0).lamp.lock = .seek ∧
    (lamps.slice 4).lamp.crossed (lamps.slice 4).ac true 9990000 = true ∧ (lamps.slice 4).ac = true ∧
    (lamps.slice 0).lamp.risePending 9990000 = true ∧ (lamps.slice 3).lamp.risePending 10000000 = false ∧
    (0 : Tick) + candidateDark (.fl 1 40) 5 ≤ 9990000 ∧ ¬ (0 : Tick) + candidateDark (.fl 1 40) 5 ≤ 0 ∧
    inBand (.fl 1 40) 5 (lamps.slice 1).lamp.flash 9990000 = true ∧ inBand (.fl 1 40) 5 (lamps.slice 1).lamp.flash 0 = false ∧
    (lamps.slice 1).lamp.flash.toConfirm ≤ 1 ∧ inBand (.fl 1 40) 5 (lamps.slice 2).lamp.flash 9000000 = true ∧
    (lamps.slice 2).lamp.flash.due + onBand (.fl 1 40) 5 (lamps.slice 2).lamp.flash.idx ≤ lamps.now := by decide +kernel

theorem witness_WindowsProveLamps :
    (flashRuns lamps 2 = true ∧ (lamps.slice 2).lamp.lock = .locked ∧ (lamps.slice 2).lamp.flash.opened = false ∧
      openTime (lamps.sliceCfg 2) (lamps.slice 2) ≤ lamps.now ∧ ¬ openTime (lamps.sliceCfg 2) (lamps.slice 2) ≤ 9000000) ∧
    (flashRuns lamps 3 = true ∧ (∀ o, (lamps.slice 3).lamp.onWin = some o → o.closes ≤ lamps.now ∧ 0 < o.usable ∧
        o.darkHeld = true ∧ o.dimHeld = true ∧ o.darkOrDim = false ∧ 2 * o.badCodes ≤ o.codes) ∧
      (lamps.sliceCfg 3).learn = .on ∧ darkOrDim lamps 3 = false ∧ (lamps.slice 3).lamp.base = 0 ∧
      (lamps.slice 3).lamp.offDue = some (10000000, 11000000) ∧
      (∀ o, (lamps.slice 3).lamp.offWin = some o → o.closes ≤ lamps.now ∧ 0 < o.usable ∧ o.low = true ∧
        o.litSince = some 0) ∧ 0 + stuckOnlate (lamps.slice 3) < (lamps.slice 3).lamp.clock ∧
      (lamps.slice 3).lamp.fresh = true ∧ (lamps.sliceCondCfg 3 .stuck).en = true) ∧
    ((lamps.slice 1).lamp.lock = .confirm ∧ (lamps.slice 1).lamp.unlockedSince = some 0 ∧ (lamps.sliceCondCfg 1 .char).en = true ∧
      0 + 2 * periodLen (.fl 1 40) < (lamps.slice 1).lamp.clock ∧
      ¬ (lamps.slice 1).lamp.edgeSince + 2 * periodLen (.fl 1 40) ≤ (lamps.slice 1).lamp.clock) ∧
    (lampRuns lamps 4 = true ∧ (lamps.slice 4).ac = true ∧ (lamps.slice 4).lamp.half.began.getD 0 ≤ 10000000 ∧
      (lamps.slice 4).lamp.half.codes ≠ [] ∧ (9990000 : Rat) + (lamps.slice 4).lamp.trackedHalf * 5 / 4 ≤ (10003000 : Rat) ∧
      (1250 ≤ ((10000000 : Rat) - 9970000) / 3 ∧ ((10000000 : Rat) - 9970000) / 3 ≤ 31250)) ∧
    (lampRuns lamps 5 = true ∧ (lamps.sliceCfg 5).char = .f ∧ (lamps.slice 5).lamp.second.opens + usSec ≤ lamps.now ∧
      0 < (lamps.slice 5).lamp.second.usable ∧ (lamps.slice 5).lamp.base ≠ 0) := by decide +kernel

/-- CH001 with HI newly true and its alarm NORMAL, LO gone with its alarm unacknowledged. -/
def moving : State :=
  { up with
    slices := up.slices.set 0 { cond := (.replicate 9 {} : Vector CondState 9).set 1 { raw := true, on := true, hist := true, ack := false } }
    engine := { up.engine with alarms := up.engine.alarms.set 0 (((.replicate 9 {} : Vector Alarm 9).set 2
      { st := .activeUnack, on := true }).set 3 { st := .activeAck, on := true }) } }

theorem witness_DieFramesMoveAlarms :
    dieHeard moving 0 = true ∧ dieHeard State.reset 0 = false ∧ chFitted moving.ident.part 0 = true ∧
    (moving.grpCfg (moving.chCfg 0).grp).inhib = none ∧ (moving.alarm 0 .hi).st = .normal ∧ (moving.cond 0 .hi).on = true ∧
    (moving.cond 0 .hi).hist = true ∧ groupDelay moving 0 = 0 ∧ (moving.alarm 0 .lo).st = .activeUnack ∧
    (moving.alarm 0 .lolo).st = .activeAck ∧ steepRuns moving 0 .lolo = false ∧
    (moving.cond 0 .dark).on = (moving.alarm 0 .dark).on ∧ dieOf 127 ≠ 0 := by decide +kernel

/-- The timers of the engine, each at its time: a group delay, a shelving and an event of G31. -/
def delays : State :=
  { alarmed with
    now := 5
    nodeTime := 60000000
    engine := { alarmed.engine with
      alarms := alarmed.engine.alarms.set 127 ((.replicate 9 {} : Vector Alarm 9).set 8 { st := .steeping, on := true, delayEnd := some 5 })
      g31 := alarmed.engine.g31.set 18 { cause := true, eventEnd := some 5 } }
    dies := (alarmed.dies.set 7 { held := some { seen := .replicate 16 {}, cfgs := .replicate 16 {} } }).set 6 { queue := [⟨112, .hi, true, 0⟩] } }

theorem witness_LinksFailAndTimersEnd :
    (dieFitted delays.ident.part 7 = true ∧ (delays.dies[7]).valid = false ∧ (delays.dies[0]).valid = true ∧ dieSends delays 0 = true ∧
      dieSends delays 7 = true ∧ delays.power.mode ≠ .deep ∧ 0 + 1000 ≤ (1000 : Tick) ∧ (delays.dies[6]).valid = true ∧
      (delays.dies[6]).queue = [⟨112, .hi, true, 0⟩]) ∧
    (delays.engine.running = true ∧ linkUp delays 0 = true ∧ linkUp delays 127 = false ∧
      linkUp { delays with dies := alarmed.dies } 127 = true ∧ (delays.alarm 127 .char).st = .steeping ∧ (delays.alarm 127 .char).delayEnd = some 5 ∧
      (delays.alarm 127 .char).on = true ∧ (delays.alarm 0 .fault).st = .shelved ∧
      (delays.alarm 0 .fault).shelfEnd = some 60000000 ∧ (delays.member 18).eventEnd = some 5 ∧ 5 ≤ delays.now) ∧
    (0 + 2 * usSec ≤ (2000000 : Tick) ∧ ¬ 0 + 2 * usSec ≤ (1999999 : Tick)) := by decide +kernel

theorem witness_EngineRebuildsFromSlices :
    ({ up with engine := {}, rst := { phase := .rebuilding } } : State).engine.running = false ∧ up.power.mode ≠ .deep ∧
    (up.bank .engine).st = .on ∧
    ({ up with engine := { coreAt := some 0 } } : State).engine.coreAt ≠ none ∧ chFitted up.ident.part 127 = true ∧
    (up.grpCfg (up.chCfg 127).grp).inhib = none ∧ linkUp up 127 = true ∧ linkUp delays 127 = false := by decide +kernel

/-- A destructive march test of IMAGE under way, its line awaited. -/
def marching : State :=
  { up with
    mem := { banks := (.replicate 5 {} : Vector BankSt 5).set 4 { st := .test, ownerHeld := true } }
    interp := { up.interp with march := some (.march .image true 0 ⟨.host, 1, true⟩) }
    port := { up.port with answer := { verb := txt "TEST", no := 1 } } }

theorem witness_BanksAreTestedAndFail :
    (Accepted line (txt "TEST") up ∧ may (lineStart line (txt "TEST") up) line .engineer = true ∧ ownerHolds .link = true ∧
      up.interp.march = none ∧ (up.bank .engine).st = .on ∧ (up.bank .image).st = .on ∧ up.log.clearing = none ∧
      (marching.bank .image).st ≠ .on) ∧
    Awaits marching ⟨.host, 1, true⟩ ∧
    (bankReads up .engine = true ∧ bankReads { up with mem := { banks := .replicate 5 { st := .clearing } } } .interp = false ∧ (up.bank .link).sbeLogged = none ∧
      (0 + usSec ≤ (1000000 : Tick) ∧ (999999 : Tick) < 0 + usSec) ∧
      readWord { encodeWord 5 with data := 4 } = .corrected 5 ∧ readWord { encodeWord 5 with data := 6 } = .double ∧
      singleError (encodeWord 5) = false ∧ (bankWords .engine = 32768 ∧ ¬ bankWords .image ≤ 2047) ∧
      cyclesGone 0 (marchCycles .image true) marching = false ∧
      cyclesGone 0 (marchCycles .image true) { marching with now := 1000000 } = true) ∧
    (let z : State := { up with now := 1000000, mem := { banks := .replicate 5 { st := .clearing } } }
     ensureStarted z = z ∧ (z.bank .image).st = .clearing ∧ cyclesGone (z.bank .image).since (bankWords .image) z = true ∧
       cyclesGone 1000000 (bankWords .image) z = false) :=
  ⟨by unfold Accepted; decide +kernel, ⟨by decide +kernel, { verb := txt "TEST", no := 1 }, by decide +kernel⟩, by decide +kernel,
    by decide +kernel⟩

/-- A switch of the domains and one of the panel under way. -/
def switching : State :=
  { up with
    clk := { goal := some .xo, xoPassed := true, xoFailed := true }
    interp := { up.interp with
      clock := some (.clock true ⟨.console 0, 1, false⟩), panelClock := some (.panelClock true 0 ⟨.host, 1, true⟩) }
    port := { up.port with answer := { verb := txt "SET", no := 1 } } }

theorem witness_ClockSwitchesAreHeld :
    (Accepted line (txt "SET") up ∧ up.interp.clock = none ∧ up.clk.xoPassed = false ∧
      (checkWrite .host (.clock .src) (srcText true) (setStart line up)).isOk = true ∧
      (checkWrite .host (.clock .src) (srcText false) (setStart line up)).isOk = true) ∧
    (checkWrite .host (.clock .panel) (txt "LPO") (setStart line up) = .ok (.kw 1) ∧ up.interp.panelClock = none ∧
      ({ up with clk := { lpoFail := { live := true } } } : State).clk.lpoFail.live = true) ∧
    (switching.clk.goal = some .xo ∧ switching.interp.clock ≠ none ∧ switching.interp.panelClock ≠ none ∧
      up.clk.goal = none) ∧
    Awaits switching ⟨.host, 1, true⟩ :=
  ⟨by unfold Accepted; decide +kernel, by decide +kernel, by decide +kernel, by decide +kernel,
    { verb := txt "SET", no := 1 }, by decide +kernel⟩

/-- The XO failed and healthy again for 9.85 s; the spread between its bounds. -/
def healthy : State :=
  { up with
    now := 9850000
    live := { up.live with clock := { sscDepth := 2 } }
    clk := { chain := .ircChain, xoFailed := true, healthySince := some 0, sscNow := 1 } }

theorem witness_WatchmanGuardsClocks :
    ((0 < 18 * healthy.clk.xofreq ∧ 14 * healthy.clk.xofreq ≤ 18 * healthy.clk.xofreq) ∧
      ({ healthy with clk := { healthy.clk with chain := .xo } } : State).clk.chain = .xo ∧ healthy.clk.healthySince = some 0 ∧
      healthy.clk.xoFailed = true ∧ healthy.clk.autoStopped = false ∧ healthy.clk.chain = .ircChain ∧ healthy.clk.goal = none ∧
      healthy.power.mode ≠ .deep ∧ 0 + 9850000 ≤ healthy.now) ∧
    (healthy.live.clock.sscMin < healthy.clk.sscNow ∧ healthy.clk.sscAt + 100000 ≤ healthy.now ∧
      healthy.clk.sscNow < healthy.live.clock.sscDepth ∧ up.live.clock.sscDepth ≤ up.clk.sscNow) ∧
    (readWhole (txt "24") = .ok 24 ∧ Accepted line (txt "MEASURE") up ∧ clkFitted up.ident.part (.ch 127) = true ∧
      may (lineStart line (txt "MEASURE") up) line .engineer = true ∧ ClkName.lpo ≠ .irc ∧ 2 ^ 24 ≤ 10 * clkHz up .irc ∧
      clkHz up .irc ≤ 2 ^ 24 * 1000 ∧ up.interp.measure = none ∧ clkPasses up 16 .irc = true ∧ clkPasses up 15 .irc = false) := by
  unfold Accepted; decide +kernel

/-- A second watchdog within 10 s, its core reset at 0. -/
def again : State := { up with now := 10000000, rst := { up.rst with wdCoreAt := some 0 } }

theorem witness_ResetsClearAndRestart :
    (up.rst.phase = .up ∧ sourceActs .cfgPar up = true ∧ sourceActs .eccEng up = true ∧ bankReads up .engine = true ∧
      readWord { encodeWord 5 with data := 6 } = .double ∧ Accepted line (txt "RESET") up ∧
      sourceActs (lineSource (lineStart line (txt "RESET") up) .host true) up = true ∧
      sourceActs .cfgPar { up with rst := { phase := .unpowered } } = false ∧
      remoteBarred (lineStart line (txt "RESET") up) .host true = false ∧
      remoteBarred (lineStart line (txt "RESET") up) .host false = false ∧
      may (lineStart line (txt "RESET") up) line .engineer = true ∧ may (lineStart line (txt "RESET") low) line .engineer = false) ∧
    (again.now ≤ 0 + 10 * usSec ∧ again.power.mode ≠ .deep ∧ again.engine.running = true ∧ again.interp.running = true ∧
      again.engine.ranAt + again.live.power.wde * 1000 ≤ again.now ∧ again.interp.wdi ≤ 1000000 ∧
      (∀ t : Tick, up.rst.wdCoreAt = some t → t + 10 * usSec < up.now) ∧
      0 + 10 * usSec < (10000001 : Tick)) := by unfold Accepted; decide +kernel

theorem witness_PowerComesAndStartUpRuns :
    ({ up with rst := { phase := .unpowered } } : State).rst.phase = .unpowered ∧ up.rst.phase ≠ .unpowered ∧
    (let z : State := { State.reset with now := testMicros }
     (ensureStarted z).rst.phase = .marching ∧ (ensureStarted z).rst.since + testMicros ≤ z.now) ∧
    (ensureStarted State.reset).rst.phase = .marching ∧ State.reset.now < (ensureStarted State.reset).rst.since + testMicros ∧
    resultOf [(.interp, some ⟨0, 0, 0⟩)] .interp ≠ none ∧
    resultOf [(.image, some ⟨0, 0, 0⟩)] .interp = none ∧ resultOf [(.image, some ⟨0, 0, 0⟩)] .image ≠ none ∧
    (up.bank .interp).st = .on ∧ up.power.mode ≠ .deep ∧
    waitsForXo 15 { up with rst := { phase := .clocking, full := true } } = true ∧
    waitsForXo 15 { up with now := 600000, rst := { phase := .clocking, full := true } } = false ∧
    ({ up with rst := { phase := .stopped, marchStopAt := some 0 } } : State).rst.marchStopAt = some 0 := by decide +kernel

theorem witness_SupplyWarnsAndBlocksReset :
    (up.rst.phase ≠ .unpowered ∧ up.flags.pwrWarn.live = true ∧ up.pins.vsupLowAt + 10000 ≤ { up with now := 10000 }.now ∧
      up.now < up.pins.vsupLowAt + 10000 ∧ ({ up with flags := {} } : State).flags.pwrWarn.live = false) ∧
    (Accepted line (txt "RESET") up ∧ blockFitted up.ident.part (.ch 127) = true ∧ blockFitted up.ident.part (.lx 7) = true ∧
      remoteBarred (lineStart line (txt "RESET") up) .host false = false ∧ blockHeld (lineStart line (txt "RESET") up) .logw = false ∧
      up.log.clearing = none ∧ blockSafe (lineStart line (txt "RESET") (chSet 127 (fun c => { c with safe := true }) low)) (.ch 127)
        = true ∧ partOpen (lineStart line (txt "RESET") low) .host = false) := by unfold Accepted; decide +kernel

/-- A node in DEEP, to be woken after a minute. -/
def sleeping : State :=
  { up with
    now := 60000000
    live := { up.live with power := { deepReturn := 1 } }
    power := { mode := .deep, deepWake := 0x1F, deepPeriod := 1 } }

theorem witness_PowerModesEnterAndWake :
    (Accepted line (txt "SET") up ∧ may (setStart line low) line .engineer = false ∧ may (setStart line up) line .engineer = true ∧
      up.live.dead.en = false ∧ callRuns up = false ∧ callRuns calling = true ∧ up.interp.march = none ∧
      up.clk.lpoFail.live = false ∧ watched.live.dead.en = true) ∧
    (sleeping.power.mode = .deep ∧ sleeping.power.deepWake.getLsbD (wakeNo .timer) = true ∧
      sleeping.power.deepWake.getLsbD 4 = true ∧ sleeping.power.deepAt + sleeping.power.deepPeriod * usMin ≤ sleeping.now ∧
      sleeping.rst.coreDeep = false ∧ sleeping.live.power.deepReturn ≠ 0 ∧ anyUnacked up = false ∧ deepRefusal up = none ∧
      anyUnacked alarmed = true) := by unfold Accepted; decide +kernel

/-- The loop outputs, each with a setpoint in flight while its island processes another, its link's frame due; LX2 folded back, LX3 idle. -/
def outputs : State :=
  { up with
    now := 100000
    live := { up.live with lx := .replicate 8 { src := .ch 0 } }
    lx := ((.replicate 8 { running := true, startDue := false, inFlight := some (.setpoint 38000)
                           island := { processing := some ⟨200000, 90000⟩ } } : Vector LoopOut 8).set 1
      { running := true, startDue := false, island := { folded := true, current := 38000 } }).set 2 { running := true, startDue := true } }

/-- A channel in VOLT with a value, over a link that is up. -/
def sourced : State :=
  { outputs with slices := outputs.slices.set 0 { act := { mode := .volt, range := .v10 }, value := some 5 } }

theorem witness_LoopOutputsFollow :
    linkSends outputs 7 = true ∧ (outputs.lxOf 7).nextFrame ≤ outputs.now ∧ buildSetpoint outputs 7 = none ∧
    lxSource sourced 7 (.ch 0) = some 5 ∧ sourced.live.lx[7].src ≠ .none ∧ (sourced.lxOf 7).force = none ∧
    buildSetpoint { outputs with lx := .replicate 8 { running := true, force := some 20500 } } 7 ≠ none ∧
    (outputs.lxOf 2).startDue = true ∧ linkSends { outputs with power := { mode := .deep } } 7 = false ∧
    (outputs.lxOf 7).inFlight = some (.setpoint 38000) ∧ (outputs.lxOf 7).island.processing = some ⟨200000, 90000⟩ ∧
    90000 ≤ outputs.now ∧ (outputs.lxOf 2).island.processing = none ∧ (outputs.lxOf 2).inFlight = none ∧
    (outputs.lxOf 7).running = true ∧ outputs.power.mode ≠ .deep ∧ (outputs.lxOf 7).lost = false ∧
    (outputs.lxOf 7).lastStatus + 100000 ≤ outputs.now ∧ (outputs.lxOf 7).island.folded = false ∧
    (outputs.lxOf 1).island.folded = true := by decide +kernel

/-- A panel of a type in a phase, its line or frame begun at 0. -/
def panelIn (t : PanelType) (p : PanelPhase) : State :=
  { up with now := 100000, live := { up.live with panel := { type := t } }, panel := { type := t, phase := p, writing := true }, flags := {} }

theorem witness_PanelRaisesRailsAndShows :
    railsMayRise (panelIn .tn .waiting) = true ∧ railsMayRise { panelIn .tn .waiting with engine := {} } = false ∧
    ((panelIn .bch (.risingVhv 0)).panel.drive.vhv * 980 ≤ 294 * 100 ∧ 294 * 100 ≤ (panelIn .bch (.risingVhv 0)).panel.drive.vhv * 1020) ∧
    (293 * 100 < (panelIn .bch (.risingVhv 0)).panel.drive.vhv * 980 ∧ (panelIn .bch (.risingVhv 0)).panel.drive.vhv * 1020 < 307 * 100) ∧
    (0 + 5000 ≤ (panelIn .tn (.risingVlcd 0)).now ∧ 0 + 25000 ≤ (panelIn .bch (.risingVhv 0)).now) ∧
    slotEnded (panelIn .tn (.discharging 0 0)).panel 0 100000 = true ∧ slotEnded (panelIn .tn (.discharging 0 0)).panel 0 1 = false ∧
    (0 + 10000 ≤ (panelIn .tn (.discharging 1 0)).now ∧ 0 + 20000 ≤ (panelIn .tn (.discharging 2 0)).now) ∧
    (panelIn .tn .run).panel.typeDue = false ∧
    usSec ≤ ((panelIn .tn .run).now - (panelIn .tn .run).panel.startAt) * (panelIn .tn .run).panel.drive.frame ∧
    (panelIn .bch (.imageFrame 7)).panel.dirtyLines = 0 ∧ (panelIn .bch (.imageFrame 7)).panel.driveDue = false ∧
    lineOver { panelIn .bch (.discharging 0 0) with now := 1 } = false ∧ lineOver (panelIn .bch (.discharging 0 0)) = true ∧
    (panelIn .bch (.imageFrame 7)).panel.startAt + (panelIn .bch (.imageFrame 7)).panel.drive.bchline * 1000 ≤ 400000 ∧
    vhvInBand (panelIn .bch .run).panel.drive 300 = true ∧ vhvInBand (panelIn .bch .run).panel.drive 290 = false ∧
    ({ up with panel := { testEnd := some 0 } } : State).panel.testEnd = some 0 := by decide +kernel

/-- An asynchronous port at a line, its rate measured. -/
def typing : State :=
  { up with port := { up.port with async := true, transaction := false, baud := some 115200, line := txt "TIME", inLine := true } }

theorem witness_HostPortCarriesLines :
    (up.port.opened = true ∧ up.port.async = false ∧ up.port.transaction = true ∧ awaits up .host = false ∧
      up.port.inLine = false ∧ awaits writing .host = true ∧ State.reset.port.opened = false ∧ running.interp.script ≠ none) ∧
    (typing.port.opened = true ∧ typing.port.async = true ∧ typing.port.baud ≠ none ∧ awaits typing .host = false ∧
      (1200 * 4166666 ≤ 5000000000 ∧ 5000000000 ≤ 460800 * 10851) ∧ typing.port.inLine = true) := by decide +kernel

/-- A console frame of console 15. -/
def consoleFrame (counter : BitVec 32) : ConsoleFrame :=
  { bus := .canA, node := 0, console := 15, cls := 3, len := 16, segment := 0, counter := counter, last := true, mac := 0, data := []
    brs := true, esi := false }

/-- A console's session, as yet without a proof. -/
def served : State := { up with interp := { up.interp with consoles := [{ k := 15 }] } }

theorem witness_ConsoleSessionsRun :
    consoleHeard (consoleFrame 1) up = true ∧ consoleHeard (consoleFrame 1) { up with watch := {} } = false ∧
    (consoleOf (consoleTimeout 15 (noteReceived .canA (consoleRaw (consoleFrame 1) 1) up)) 15 = none ∧
      (consoleFrame 1).counter = 1 ∧ up.interp.consoles.length < 2) ∧
    consoleHeard (consoleFrame 2) served = true ∧ consoleOf served 15 = some { k := 15 } ∧
    consoleOf (consoleTimeout 15 (noteReceived .canA (consoleRaw (consoleFrame 2) 0) served)) 15 = some { k := 15 } ∧
    consoleOf (consoleTimeout 15 (noteReceived .canA (consoleRaw (consoleFrame 2) 0) { served with now := 300000000 })) 15 = none ∧
    ({ k := 15 } : Console).key = none ∧
    frameMac (consoleFrame 2) 0 { k := 15, key := some 0 } ≠ (consoleFrame 2).mac := by decide +kernel

end Sys2Proof.Tests
end

/-! CLEAR STATUS (02 R120–R123): what naming a flag reads and changes, the state in which a line's work begins, the
line's work, and the statement about it. -/

namespace Sys2Proof.Machine

/-! ## Changes of one entry -/

/-- A change of one entry depends only on what it makes of that entry. -/
theorem upd_congr {α : Type} {n : Nat} (v : Vector α n) (i : Fin n) {f g : α → α} (h : f v[i.val] = g v[i.val]) :
    upd v i f = upd v i g := by
  unfold upd; rw [h]

/-- A change that leaves its entry as it is changes nothing. -/
theorem upd_of_fixed {α : Type} {n : Nat} (v : Vector α n) (i : Fin n) {f : α → α} (h : f v[i.val] = v[i.val]) :
    upd v i f = v := by
  unfold upd; rw [h]; exact Vector.set_getElem_self i.isLt

theorem onChFlag_congr (c : Ch) (b : Fin 12) {f g : Flag → Flag} (s : State)
    (h : f (s.slice c).flags[b.val] = g (s.slice c).flags[b.val]) : onChFlag c b f s = onChFlag c b g s :=
  onSlice_congr (by rw [upd_congr _ b h])

theorem onBank_congr (b : Bank) {f g : BankSt → BankSt} (s : State) (h : f (s.bank b) = g (s.bank b)) :
    onBank b f s = onBank b g s := by
  unfold onBank; rw [upd_congr s.mem.banks (bankIdx b) h]

/-! ## What is held of a die (log 169) -/

theorem sliceSeen_of_held_none {s : State} {c : Ch} (h : (s.linkOf c).held = none) : s.sliceSeen c = s.slice c := by
  unfold State.sliceSeen; rw [h]

theorem sliceSeen_of_held_some {s : State} {c : Ch} {d : DieHold} (h : (s.linkOf c).held = some d) :
    s.sliceSeen c = d.seen[(slotOf c).val] := by
  unfold State.sliceSeen; rw [h]

theorem slice_onChFlag_same (c : Ch) (b : Fin 12) (f : Flag → Flag) (s : State) :
    (onChFlag c b f s).slice c = { s.slice c with flags := upd (s.slice c).flags b f } := slice_onSlice_same ..

theorem linkOf_onChFlag (c d : Ch) (b : Fin 12) (f : Flag → Flag) (s : State) :
    (onChFlag c b f s).linkOf d = s.linkOf d := rfl

theorem linkOf_onHold_held (c : Ch) (f : DieHold → DieHold) (s : State) :
    ((onHold (dieOf c) f s).linkOf c).held = (s.linkOf c).held.map f := by
  simp [State.linkOf, onHold]

/-- Nothing is held of a die whose link is up, so nothing of it changes. -/
theorem onHold_of_held_none (c : Ch) (f : DieHold → DieHold) (s : State) (h : (s.linkOf c).held = none) :
    onHold (dieOf c) f s = s := by
  have hfix : { s.linkOf c with held := (s.linkOf c).held.map f } = s.linkOf c := by rw [h, Option.map_none, ← h]
  unfold onHold
  rw [upd_of_fixed s.dies (dieOf c) hfix]

theorem onFlag_ch_of_held_none (c : Ch) (b : Fin 12) (f : Flag → Flag) (s : State) (h : (s.linkOf c).held = none) :
    onFlag (.ch c b) f s = onChFlag c b f s :=
  onHold_of_held_none c _ (onChFlag c b f s) h

/-! ## The flag that a name reads and changes -/

/-- A channel's flag takes what the change makes of it as it is seen: in its slice, or in what is held of its die. -/
theorem flagOf_onFlag_ch (c : Ch) (b : Fin 12) (f : Flag → Flag) (s : State) :
    flagOf (onFlag (.ch c b) f s) (.ch c b) = f (flagOf s (.ch c b)) := by
  cases h : (s.linkOf c).held with
  | none =>
    have h' : ((onChFlag c b f s).linkOf c).held = none := h
    simp [flagOf, onFlag_ch_of_held_none c b f s h, sliceSeen_of_held_none h, sliceSeen_of_held_none h',
      slice_onChFlag_same]
  | some d =>
    have h' : ((onFlag (.ch c b) f s).linkOf c).held =
        some { d with seen := upd d.seen (slotOf c) fun x => { x with flags := upd x.flags b f } } := by
      simp only [onFlag, onSeenFlag, linkOf_onHold_held, linkOf_onChFlag, h, Option.map_some]
    simp [flagOf, sliceSeen_of_held_some h, sliceSeen_of_held_some h']

/-- A named flag takes what the change makes of it; RSTCAUSE is no flag of this form (15 R781). -/
theorem flagOf_onFlag (n : FlagName) (f : Flag → Flag) (s : State) (hn : n ≠ .rstcause) :
    flagOf (onFlag n f s) n = f (flagOf s n) := by
  cases n with
  | ch c b => exact flagOf_onFlag_ch c b f s
  | rstcause => exact absurd rfl hn
  | panel b => exact upd_same ..
  | hp b => exact upd_same ..
  | sec b => exact upd_same ..
  | mem b => simp [flagOf, onFlag, onBank, State.bank]
  | _ => rfl

/-- Two changes that make the same of a named flag are one change of the state, where no second copy of the flag is held of
a die whose link is down. -/
theorem onFlag_congr (n : FlagName) {f g : Flag → Flag} (s : State)
    (hup : ∀ c b, n = .ch c b → (s.linkOf c).held = none) (h : f (flagOf s n) = g (flagOf s n)) :
    onFlag n f s = onFlag n g s := by
  cases n with
  | ch c b =>
    have hc := hup c b rfl
    simp only [flagOf, sliceSeen_of_held_none hc] at h
    rw [onFlag_ch_of_held_none c b f s hc, onFlag_ch_of_held_none c b g s hc, onChFlag_congr c b s h]
  | panel b => simp only [onFlag, upd_congr s.panel.flags b h]
  | hp b => simp only [onFlag, onHpEvent, upd_congr s.port.events b h]
  | sec b => simp only [onFlag, upd_congr s.part.flags b h]
  | mem b =>
    simp only [flagOf] at h
    exact onBank_congr b s (by rw [h])
  | rstcause => rfl
  | _ => simp only [flagOf] at h; simp only [onFlag, h]

/-- A change of a flag leaves the settings. -/
@[simp] theorem onFlag_live (n : FlagName) (f : Flag → Flag) (s : State) : (onFlag n f s).live = s.live := by
  cases n <;> rfl

/-- A change of a flag keeps what the line's reply needs. -/
theorem onFlag_keepsLine (who : Sess) (n : FlagName) (f : Flag → Flag) (s : State) : KeepsLine who s (onFlag n f s) := by
  cases n with
  | hp b => cases who <;> exact ⟨rfl, rfl, rfl⟩
  | _ => exact KeepsLine.of_eq rfl rfl

/-! ## The state in which a line's work begins -/

theorem endSession_ident (who : Sess) (cause : Nat) (s : State) : (endSession who cause s).ident = s.ident := by
  unfold endSession
  split
  · cases who <;> simp [onSess]
  · rfl

theorem endSession_live (who : Sess) (cause : Nat) (s : State) : (endSession who cause s).live = s.live := by
  unfold endSession
  split
  · cases who <;> simp [onSess]
  · rfl

theorem timeoutFirst_ident (who : Sess) (s : State) : (timeoutFirst who s).ident = s.ident := by
  unfold timeoutFirst
  cases who with
  | host => simp only; split <;> simp [endSession_ident]
  | console k => rfl
  | script n => rfl

theorem timeoutFirst_live (who : Sess) (s : State) : (timeoutFirst who s).live = s.live := by
  unfold timeoutFirst
  cases who with
  | host => simp only; split <;> simp [endSession_live]
  | console k => rfl
  | script n => rfl

theorem thawView_ident (s : State) : (thawView s).ident = s.ident := by unfold thawView; split <;> rfl
theorem thawView_live (s : State) : (thawView s).live = s.live := by unfold thawView; split <;> rfl

theorem takeLine_ident (h : LineHdr) (verb : Text) (s : State) : (takeLine h verb s).ident = s.ident := by
  unfold takeLine; cases h.sess <;> rfl

theorem takeLine_live (h : LineHdr) (verb : Text) (s : State) : (takeLine h verb s).live = s.live := by
  unfold takeLine; cases h.sess <;> rfl

/-- Taking a line leaves which part the node is. -/
theorem lineStart_ident (h : LineHdr) (verb : Text) (s : State) : (lineStart h verb s).ident = s.ident := by
  unfold lineStart latchPoint; rw [takeLine_ident, thawView_ident, timeoutFirst_ident]

/-- Taking a line leaves the settings, a timeout before it included. -/
theorem lineStart_live (h : LineHdr) (verb : Text) (s : State) : (lineStart h verb s).live = s.live := by
  unfold lineStart latchPoint; rw [takeLine_live, thawView_live, timeoutFirst_live]

/-! ## The work of the line -/

/-- A flag that its cause holds, or that is set in the same cycle, stays; any other goes (02 R120, R121; log 162). -/
theorem Flag.clear_eq_clearedFlag (setNow : Bool) (f : Flag) : Flag.clear setNow f = clearedFlag (f.live || setNow) f := by
  unfold Flag.clear clearedFlag again8
  cases f.live || setNow <;> rfl

/-- CLEAR STATUS of a flag that exists and may be cleared: the flag is cleared, and the reply shows what stands. -/
theorem bodyClear_flag (h : LineHdr) (n : FlagName) (setNow : Bool) (u : State) (hn : n ≠ .rstcause)
    (hfit : flagFitted u.ident.part n = true) (hmay : may u h (flagRole n) = true) :
    bodyClear h (some n) setNow u = (onFlag n (Flag.clear (setNow || clashRecent n u)) u,
      some { data := [dataLine (flagText n) (clearedText (Flag.clear (setNow || clashRecent n u) (flagOf u n)))] }) := by
  simp [bodyClear, hn, hfit, hmay, okLines, flagOf_onFlag]

/-- CLEAR STATUS of RSTCAUSE clears every bit, and the reply shows none (15 R781). -/
theorem bodyClear_rstcause (h : LineHdr) (setNow : Bool) (u : State) (hmay : may u h (flagRole .rstcause) = true) :
    bodyClear h (some .rstcause) setNow u = ({ u with rst := { u.rst with cause := 0 } },
      some { data := [dataLine (nameText (.ro .rstcause)) (showBits rstTexts 0)] }) := by
  simp [bodyClear, flagFitted, hmay, okLines, nameLine, roShown]

/-- The line of CLEAR STATUS of a flag: its reply shows the flag as `clearedFlag` leaves it, and the state is else that of the
flag's clearing. -/
theorem clearStatus_flag_done (h : LineHdr) (n : FlagName) (setNow stays : Bool) (s u : State)
    (hacc : Accepted h (txt "CLEAR") s) (hu : u = lineStart h (txt "CLEAR") s) (hn : n ≠ .rstcause)
    (hfit : flagFitted s.ident.part n = true) (hmay : may u h (flagRole n) = true)
    (hstays : stays = ((flagOf u n).live || setNow || clashRecent n u)) :
    LineDone (.clearStatus h (some n) setNow) h (txt "CLEAR")
      { data := [dataLine (flagText n) (clearedText (clearedFlag stays (flagOf u n)))] } s
      (onFlag n (Flag.clear (setNow || clashRecent n u)) u) := by
  have hbody := bodyClear_flag h n setNow u hn (by rw [hu, lineStart_ident]; exact hfit) hmay
  rw [Flag.clear_eq_clearedFlag, ← Bool.or_assoc, ← hstays] at hbody
  subst hu
  exact line_replies h (txt "CLEAR") _ s _ _ hacc hbody (onFlag_keepsLine ..)

/-- Settles O23: the line's work clears by `Flag.clear`, which makes of the named flag what `clearedFlag` makes of it. -/
theorem clearStatusClears : Obligations.ClearStatusClears := by
  intro h s u setNow hacc hu
  refine ⟨line_refused h (txt "CLEAR") _ s .e03 hacc rfl, ?_, ?_⟩
  · intro n stays hn hfit hmay hstays
    have hdone := clearStatus_flag_done h n setNow stays s u hacc hu hn hfit hmay hstays
    have hflag : Flag.clear (setNow || clashRecent n u) (flagOf u n) = clearedFlag stays (flagOf u n) := by
      rw [Flag.clear_eq_clearedFlag, ← Bool.or_assoc, ← hstays]
    refine ⟨fun hup => ?_, fun c b hd hc hdown => ?_⟩
    · rw [← onFlag_congr n u hup hflag]; exact hdone
    · obtain ⟨t, hexec, hreply, honly⟩ := hdone
      refine ⟨t, hexec, hreply, _, honly, ?_, ?_⟩
      · rw [flagOf_onFlag n _ u hn, hflag]
      · rw [onFlag_live, hu, lineStart_live]
  · intro hmay
    have hbody := bodyClear_rstcause h setNow u hmay
    subst hu
    obtain ⟨t, hexec, hreply, honly⟩ := line_replies h (txt "CLEAR") _ s _ _ hacc hbody (KeepsLine.of_eq rfl rfl)
    exact ⟨t, hexec, hreply, _, honly, rfl⟩

end Sys2Proof.Machine

/-! RAW CAN (06 R380–R390): the host's transmit and receive entries, the lines that work on them, the frames received, and the
statement about them. -/

namespace Sys2Proof.Machine

/-! ## The controllers when a line's work begins -/

theorem endSession_can (who : Sess) (cause : Nat) (s : State) : (endSession who cause s).can = s.can := by
  unfold endSession
  split
  · cases who <;> simp [onSess]
  · rfl

theorem timeoutFirst_can (who : Sess) (s : State) : (timeoutFirst who s).can = s.can := by
  unfold timeoutFirst
  cases who with
  | host => simp only; split <;> simp [endSession_can]
  | console k => rfl
  | script n => rfl

theorem thawView_can (s : State) : (thawView s).can = s.can := by unfold thawView; split <;> rfl

theorem takeLine_can (h : LineHdr) (verb : Text) (s : State) : (takeLine h verb s).can = s.can := by
  unfold takeLine; cases h.sess <;> rfl

/-- Taking a line leaves the controllers, a timeout before it included. -/
@[simp] theorem lineStart_canOf (h : LineHdr) (verb : Text) (s : State) (b : Bus) :
    (lineStart h verb s).canOf b = s.canOf b := by
  unfold State.canOf lineStart latchPoint; rw [takeLine_can, thawView_can, timeoutFirst_can]

@[simp] theorem txOf_lineStart (h : LineHdr) (verb : Text) (s : State) (b : Bus) (n : Fin 32) :
    txOf (lineStart h verb s) b n = txOf s b n := by
  unfold txOf; rw [lineStart_canOf]

theorem canOf_onCan_same (b : Bus) (f : Can → Can) (s : State) : (onCan b f s).canOf b = f (s.canOf b) := upd_same ..

/-- A change of a controller depends only on what it makes of that controller. -/
theorem onCan_congr (b : Bus) {f g : Can → Can} (s : State) (h : f (s.canOf b) = g (s.canOf b)) : onCan b f s = onCan b g s := by
  unfold onCan; rw [upd_congr s.can (busIdx b) h]

/-- The first number that meets a test. -/
theorem find?_finRange_eq_some {n : Nat} {p : Fin n → Bool} {i : Fin n} :
    (List.finRange n).find? p = some i ↔ p i = true ∧ ∀ j < i, ¬ p j = true :=
  List.find?_ofFn_eq_some_of_injective Function.injective_id

/-! ## The work of the lines that take and send (06 R380–R384) -/

section Work
variable {h : LineHdr} {u : State} {b : Bus}

theorem bodyTakeTx_low (hmay : may u h .engineer = false) : bodyTakeTx h (some b) u = refused .e06 u := if_pos hmay

theorem bodyTakeTx_first {n : Fin 32} (hmay : may u h .engineer = true) (hfree : (txOf u b n).st = .free)
    (hfirst : ∀ j : Fin 32, j < n → (txOf u b j).st ≠ .free) :
    bodyTakeTx h (some b) u =
      okLines [txLine b n (txt "OWNED")] (onTx b n (fun _ => { st := .owned, hostOwned := true }) u) := by
  have hfind : (List.finRange 32).find? (fun j => decide ((txOf u b j).st = .free)) = some n :=
    find?_finRange_eq_some.2 ⟨by simpa using hfree, fun j hj => by simpa using hfirst j hj⟩
  simp [bodyTakeTx, hmay, hfind]

theorem bodyTakeTx_none (hmay : may u h .engineer = true) (hnone : ∀ j : Fin 32, (txOf u b j).st ≠ .free) :
    bodyTakeTx h (some b) u = refused .e11 u := by
  have hfind : (List.finRange 32).find? (fun j => decide ((txOf u b j).st = .free)) = none := by simpa using hnone
  simp [bodyTakeTx, hmay, hfind]

theorem bodySend_unread {bus : Option Bus} {entry : Option (Fin 32)} {args : List Text} (hread : readSend args = none) :
    bodySend h bus entry args u = refused .e01 u := by
  simp [bodySend, hread]

variable {n : Fin 32} {args : List Text} {f : RawFrame} {one : Bool}

theorem bodySend_no_bus {entry : Option (Fin 32)} (hread : readSend args = some (f, one)) :
    bodySend h none entry args u = refused .e03 u := by
  simp [bodySend, hread]

theorem bodySend_no_entry {bus : Option Bus} (hread : readSend args = some (f, one)) :
    bodySend h bus none args u = refused .e03 u := by
  cases bus <;> simp [bodySend, hread]

theorem bodySend_low (hread : readSend args = some (f, one)) (hmay : may u h .engineer = false) :
    bodySend h (some b) (some n) args u = refused .e06 u := by
  simp [bodySend, hread, hmay]

theorem bodySend_unlawful (hread : readSend args = some (f, one)) (hmay : may u h .engineer = true)
    (hlaw : rawLawful f = false) : bodySend h (some b) (some n) args u = refused .e04 u := by
  simp [bodySend, hread, hmay, hlaw]

theorem bodySend_not_owned (hread : readSend args = some (f, one)) (hmay : may u h .engineer = true)
    (hlaw : rawLawful f = true) (hown : (txOf u b n).hostOwned = false) :
    bodySend h (some b) (some n) args u = refused .e12 u := by
  simp [bodySend, hread, hmay, hlaw, hown]

theorem bodySend_under_way (hread : readSend args = some (f, one)) (hmay : may u h .engineer = true)
    (hlaw : rawLawful f = true) (hown : (txOf u b n).hostOwned = true)
    (hst : (txOf u b n).st = .pending ∨ (txOf u b n).st = .sending) :
    bodySend h (some b) (some n) args u = refused .e08 u := by
  rcases hst with hst | hst <;> simp [bodySend, hread, hmay, hlaw, hown, hst]

theorem bodySend_at_rest (hread : readSend args = some (f, one)) (hmay : may u h .engineer = true)
    (hlaw : rawLawful f = true) (hown : (txOf u b n).hostOwned = true) (hp : (txOf u b n).st ≠ .pending)
    (hs : (txOf u b n).st ≠ .sending) :
    bodySend h (some b) (some n) args u = okLines [txLine b n (txt "PENDING")]
      (onTx b n (fun e => { e with st := .pending, frame := some f, oneShot := one, cancel := false }) u) := by
  simp [bodySend, hread, hmay, hlaw, hown]

/-! ## The work of the lines that give back and cancel (06 R380, R386) -/

/-- What giving back makes of an entry (06 R380): one under way is free once it has ended, any other at once. -/
theorem rest_of_givenBack : (fun e : TxEntry => { e with hostOwned := false }.rest) =
    fun e => if e.st = .pending ∨ e.st = .sending then { e with hostOwned := false } else {} := by
  funext e
  unfold TxEntry.rest
  cases e.st <;> rfl

theorem bodyDoneTx_owned (hmay : may u h .engineer = true) (hown : (txOf u b n).hostOwned = true) :
    bodyDoneTx h (some b) (some n) u = ok
      (onTx b n (fun e => if e.st = .pending ∨ e.st = .sending then { e with hostOwned := false } else {}) u) := by
  simp [bodyDoneTx, hmay, hown, rest_of_givenBack]

theorem bodyDoneTx_not_owned (hmay : may u h .engineer = true) (hown : (txOf u b n).hostOwned = false) :
    bodyDoneTx h (some b) (some n) u = refused .e12 u := by
  simp [bodyDoneTx, hmay, hown]

theorem bodyCancel_not_owned (hmay : may u h .engineer = true) (hown : (txOf u b n).hostOwned = false) :
    bodyCancel h (some b) (some n) u = refused .e12 u := by
  simp [bodyCancel, hmay, hown]

theorem bodyCancel_pending (hmay : may u h .engineer = true) (hown : (txOf u b n).hostOwned = true)
    (hst : (txOf u b n).st = .pending) :
    bodyCancel h (some b) (some n) u = ok (onTx b n (fun e => { e with st := .cancelled }) u) := by
  simp [bodyCancel, hmay, hown, hst]

theorem bodyCancel_sending (hmay : may u h .engineer = true) (hown : (txOf u b n).hostOwned = true)
    (hst : (txOf u b n).st = .sending) :
    bodyCancel h (some b) (some n) u =
      okLines [txLine b n (txt "CANCEL RECORDED")] (onTx b n (fun e => { e with cancel := true }) u) := by
  simp [bodyCancel, hmay, hown, hst]

theorem bodyCancel_ended (hmay : may u h .engineer = true) (hown : (txOf u b n).hostOwned = true)
    (hst : (txOf u b n).st = .sent ∨ (txOf u b n).st = .lost ∨ (txOf u b n).st = .error ∨ (txOf u b n).st = .cancelled) :
    bodyCancel h (some b) (some n) u = refused .e10 u := by
  rcases hst with hst | hst | hst | hst <;> simp [bodyCancel, hmay, hown, hst]

end Work

/-! ## The oldest frame received (06 R389) -/

/-- The frame older of one found and the one of a receive entry, if the host does not own it. -/
def olderRx (c : Can) (acc : Option (Fin 64 × RxEntry)) (i : Fin 64) : Option (Fin 64 × RxEntry) :=
  match c.rx[i.val] with
  | some e => if e.owned then acc else match acc with
    | some (_, x) => if e.order < x.order then some (i, e) else acc
    | none => some (i, e)
  | none => acc

theorem oldestRx_eq_foldl (c : Can) : oldestRx c = (List.finRange 64).foldl (olderRx c) none := rfl

/-- A receive entry is passed over, or holds a frame that the host does not own and that is older than the one found. -/
theorem olderRx_cases (c : Can) (acc : Option (Fin 64 × RxEntry)) (i : Fin 64) :
    olderRx c acc i = acc ∨ ∃ e, c.rx[i.val] = some e ∧ e.owned = false ∧ olderRx c acc i = some (i, e) ∧
      ∀ j x, acc = some (j, x) → e.order < x.order := by
  unfold olderRx
  cases c.rx[i.val] with
  | none => exact .inl rfl
  | some e =>
    cases hown : e.owned with
    | true => exact .inl (if_pos hown)
    | false => cases acc with
      | none => exact .inr ⟨e, rfl, hown, by simp [hown], by simp⟩
      | some p =>
        by_cases hlt : e.order < p.2.order
        · exact .inr ⟨e, rfl, hown, by simp [hown, hlt], by rintro j x ⟨⟩; exact hlt⟩
        · exact .inl (by simp [hown, hlt])

/-- A frame that the host does not own, older than the one found, is taken in its place. -/
theorem olderRx_takes {c : Can} {acc : Option (Fin 64 × RxEntry)} {i : Fin 64} {e : RxEntry} (hi : c.rx[i.val] = some e)
    (hfree : e.owned = false) (holder : ∀ j x, acc = some (j, x) → e.order < x.order) : olderRx c acc i = some (i, e) := by
  cases acc with
  | none => simp [olderRx, hi, hfree]
  | some p => simp [olderRx, hi, hfree, holder p.1 p.2 rfl]

/-- A search that has found the oldest frame, or has it before it and nothing older in hand, comes to it. -/
theorem foldl_olderRx {c : Can} {i : Fin 64} {e : RxEntry} (hi : c.rx[i.val] = some e) (hfree : e.owned = false)
    (holdest : ∀ (j : Fin 64) (x : RxEntry), j ≠ i → c.rx[j.val] = some x → x.owned = false → e.order < x.order)
    (l : List (Fin 64)) (acc : Option (Fin 64 × RxEntry))
    (hacc : acc = some (i, e) ∨ i ∈ l ∧ ∀ j x, acc = some (j, x) → e.order < x.order) :
    l.foldl (olderRx c) acc = some (i, e) := by
  induction l generalizing acc with
  | nil => exact hacc.resolve_right (by simp)
  | cons k l ih =>
    refine ih _ ?_
    by_cases hk : k = i
    · subst hk
      rcases hacc with rfl | ⟨-, holder⟩
      · exact .inl ((olderRx_cases c _ k).elim id fun ⟨x, hx, _, hstep, _⟩ => by rw [hstep, Option.some.inj (hx.symm.trans hi)])
      · exact .inl (olderRx_takes hi hfree holder)
    · rcases olderRx_cases c acc k with hstep | ⟨x, hx, hxfree, hstep, hyounger⟩
      · rw [hstep]
        exact hacc.imp_right fun ⟨hmem, holder⟩ => ⟨(List.mem_cons.1 hmem).resolve_left (Ne.symm hk), holder⟩
      · have hlt := holdest k x hk hx hxfree
        rw [hstep]
        rcases hacc with rfl | ⟨hmem, -⟩
        · exact absurd (hyounger i e rfl) (Nat.lt_asymm hlt)
        · exact .inr ⟨(List.mem_cons.1 hmem).resolve_left (Ne.symm hk), by rintro j y ⟨⟩; exact hlt⟩

theorem oldestRx_eq_some {c : Can} {i : Fin 64} {e : RxEntry} (hi : c.rx[i.val] = some e) (hfree : e.owned = false)
    (holdest : ∀ (j : Fin 64) (x : RxEntry), j ≠ i → c.rx[j.val] = some x → x.owned = false → e.order < x.order) :
    oldestRx c = some (i, e) :=
  foldl_olderRx hi hfree holdest _ _ (.inr ⟨List.mem_finRange i, by simp⟩)

theorem oldestRx_eq_none {c : Can} (hall : ∀ (j : Fin 64) (x : RxEntry), c.rx[j.val] = some x → x.owned = true) :
    oldestRx c = none := by
  rw [oldestRx_eq_foldl]
  induction List.finRange 64 with
  | nil => rfl
  | cons k l ih =>
    have hstep : olderRx c none k = none :=
      (olderRx_cases c none k).elim id fun ⟨x, hx, hfree, _⟩ => absurd (hall k x hx) (by simp [hfree])
    rw [List.foldl_cons, hstep, ih]

section Received
variable {h : LineHdr} {u : State} {b : Bus} {i : Fin 64} {e : RxEntry}

theorem bodyTakeRx_oldest (hmay : may u h .engineer = true) (hold : oldestRx (u.canOf b) = some (i, e)) :
    bodyTakeRx h (some b) u =
      okLines [unwords ([txt "= " ++ busText b ++ txt ".RX", showPadded 2 i.val] ++ frameTexts e.frame)]
        (onCan b (fun c => { c with rx := upd c.rx i fun _ => some { e with owned := true } }) u) := by
  simp [bodyTakeRx, hmay, hold]

theorem bodyTakeRx_empty (hmay : may u h .engineer = true) (hold : oldestRx (u.canOf b) = none) :
    bodyTakeRx h (some b) u = okLines [txt "= " ++ busText b ++ txt ".RX EMPTY"] u := by
  simp [bodyTakeRx, hmay, hold]

theorem bodyDoneRx_owned (hmay : may u h .engineer = true) (hi : (u.canOf b).rx[i.val] = some e) (hown : e.owned = true) :
    bodyDoneRx h (some b) (some i) u = ok (onCan b (fun c => { c with rx := upd c.rx i fun _ => none }) u) := by
  have hany : ((u.canOf b).rx[i.val]).any (fun e => e.owned) = true := by simp [hi, hown]
  simp [bodyDoneRx, hmay, hany]

end Received

/-! ## The lines -/

/-- A line of the host's whose work changes a controller and answers `r`. -/
theorem canLine_done {cmd : Instr} {h : LineHdr} {body : State → State × Option Reply} {s : State} {b : Bus} {f : Can → Can}
    {r : Reply} (hexec : exec cmd s = finish (runLine h (txt "CAN") body s)) (hacc : Accepted h (txt "CAN") s)
    (hbody : body (lineStart h (txt "CAN") s) = (onCan b f (lineStart h (txt "CAN") s), some r)) :
    LineDone cmd h (txt "CAN") r s (onCan b f (lineStart h (txt "CAN") s)) := by
  obtain ⟨t, ht, hreply⟩ := line_replies h (txt "CAN") body s _ r hacc hbody (KeepsLine.of_eq rfl rfl)
  exact ⟨t, hexec.trans ht, hreply⟩

/-! ## Frames received (06 R388–R390, R402) -/

theorem Can.confine_eq (c : Can) : c.confine = { c with mode := c.confine.mode } := by
  unfold Can.confine; split <;> rfl

/-- A frame received moves the error counter and the bus state alone. -/
theorem Can.countRx_eq (ok : Bool) (c : Can) :
    Can.countRx ok c = { c with recv := (Can.countRx ok c).recv, mode := (Can.countRx ok c).mode } := by
  unfold Can.countRx
  rw [Can.confine_eq]

@[simp] theorem Can.countRx_rx (ok : Bool) (c : Can) : (Can.countRx ok c).rx = c.rx := by rw [Can.countRx_eq]
@[simp] theorem Can.countRx_rxOrder (ok : Bool) (c : Can) : (Can.countRx ok c).rxOrder = c.rxOrder := by rw [Can.countRx_eq]
@[simp] theorem Can.countRx_rxlost (ok : Bool) (c : Can) : (Can.countRx ok c).rxlost = c.rxlost := by rw [Can.countRx_eq]

/-- Keeping a frame touches the receive entries and their counts alone. -/
theorem Can.store_eq (f : RawFrame) (c : Can) : c.store f =
    { c with rx := (c.store f).rx, rxOrder := (c.store f).rxOrder, rxlost := (c.store f).rxlost } := by
  unfold Can.store; split <;> rfl

theorem Can.store_first {f : RawFrame} {c : Can} {i : Fin 64} (hi : c.rx[i.val] = none)
    (hfirst : ∀ j : Fin 64, j < i → c.rx[j.val] ≠ none) :
    c.store f = { c with rx := upd c.rx i fun _ => some ⟨f, false, c.rxOrder⟩, rxOrder := c.rxOrder + 1 } := by
  have hfind : (List.finRange 64).find? (fun j => c.rx[j.val].isNone) = some i :=
    find?_finRange_eq_some.2 ⟨by simp [hi], fun j hj => by simpa using hfirst j hj⟩
  simp [Can.store, hfind]

theorem Can.store_full {f : RawFrame} {c : Can} (hfull : ∀ j : Fin 64, c.rx[j.val] ≠ none) :
    c.store f = { c with rxlost := sat16 c.rxlost } := by
  have hfind : (List.finRange 64).find? (fun j => c.rx[j.val].isNone) = none := by simpa using hfull
  simp [Can.store, hfind]

theorem showView_can (v : View) (s : State) : (showView v s).can = s.can := by unfold showView; split <;> rfl
theorem idClash_can (s : State) : (idClash s).can = s.can := by unfold idClash; rw [emitBlock_can]

theorem judgeFrame_can (b : Bus) (src : NodeNo) (seq : Nat) (f : RawFrame) (restart : Bool) (s : State) :
    (judgeFrame b src seq f restart s).1.can = s.can := by
  unfold judgeFrame
  split
  · exact idClash_can s
  · dsimp only
    split
    · rw [showView_can, onPeer_can]
    · split
      · rw [showView_can, onPeer_can]
      · rfl

/-- The normal handling of a frame without a row of its own leaves the controllers. -/
theorem takeOther_can (b : Bus) (f : RawFrame) (s : State) : (takeOther b f s).can = s.can := by
  unfold takeOther
  split
  · rfl
  · split
    · split
      · exact judgeFrame_can ..
      · rfl
    · split
      · exact idClash_can s
      · rfl

theorem takeOther_not_pysel {b : Bus} {f : RawFrame} {s : State} (hp : isPysel f = false) : takeOther b f s = s := if_pos hp

/-- What a controller keeps of a good frame: it counts, and is kept where a filter passes it. -/
def Can.received (pass : Bool) (f : RawFrame) (c : Can) : Can :=
  (if pass then Can.store f else id) (Can.countRx true c)

theorem Can.received_first {f : RawFrame} {c : Can} {i : Fin 64} (hi : c.rx[i.val] = none)
    (hfirst : ∀ j : Fin 64, j < i → c.rx[j.val] ≠ none) : Can.received true f c = { Can.countRx true c with
      rx := upd c.rx i fun _ => some ⟨f, false, c.rxOrder⟩, rxOrder := c.rxOrder + 1 } := by
  have hstore : Can.received true f c = _ :=
    Can.store_first (c := Can.countRx true c) (by simpa using hi) (by simpa using hfirst)
  rw [hstore, Can.countRx_rx, Can.countRx_rxOrder]

theorem Can.received_full {f : RawFrame} {c : Can} (hfull : ∀ j : Fin 64, c.rx[j.val] ≠ none) :
    Can.received true f c = { Can.countRx true c with rxlost := sat16 c.rxlost } := by
  have hstore : Can.received true f c = _ := Can.store_full (c := Can.countRx true c) (by simpa using hfull)
  rw [hstore, Can.countRx_rxlost]

theorem Can.received_unpassed (f : RawFrame) (c : Can) : Can.received false f c = Can.countRx true c := rfl

theorem noteReceived_heard {b : Bus} {f : RawFrame} {s : State} (hears : busHears s b = true) :
    noteReceived b f s = onCan b (Can.received (filtersPass s b f) f) s := if_pos hears

theorem rawFrameReceived_unheard {s : State} {b : Bus} (ok : Bool) (f : RawFrame) (hears : busHears s b = false) :
    rawFrameReceived b ok f s = s := if_pos hears

theorem rawFrameReceived_broken {s : State} {b : Bus} (f : RawFrame) (hears : busHears s b = true) :
    rawFrameReceived b false f s = onCan b (Can.countRx false) s := by
  simp [rawFrameReceived, hears]

theorem rawFrameReceived_good {s : State} {b : Bus} (f : RawFrame) (hears : busHears s b = true) :
    rawFrameReceived b true f s = takeOther b f (onCan b (Can.received (filtersPass s b f) f) s) := by
  simp [rawFrameReceived, hears, noteReceived_heard hears]

/-- The controller after a good frame. -/
theorem rawFrameReceived_canOf {s : State} {b : Bus} (f : RawFrame) (hears : busHears s b = true) :
    (rawFrameReceived b true f s).canOf b = Can.received (filtersPass s b f) f (s.canOf b) := by
  rw [rawFrameReceived_good f hears, State.canOf, takeOther_can]
  exact canOf_onCan_same ..

/-- A good frame leaves its controller as `Can.received` does. -/
theorem next_rawFrameReceived {s : State} {b : Bus} (f : RawFrame) (hears : busHears s b = true) :
    Next (.rawFrameReceived b true f) s fun t => t.canOf b = Can.received (filtersPass s b f) f (s.canOf b) :=
  ⟨_, rfl, rawFrameReceived_canOf f hears⟩

/-- A frame that is no Pysel frame moves its controller alone. -/
theorem rawFrameReceived_not_pysel {s : State} {b : Bus} {f : RawFrame} (hears : busHears s b = true) (hp : isPysel f = false) :
    rawFrameReceived b true f s = onCan b (Can.received (filtersPass s b f) f) s := by
  rw [rawFrameReceived_good f hears, takeOther_not_pysel hp]

/-- A good frame moves of its controller the error counter and the receive entries alone. -/
theorem Can.received_eq (pass : Bool) (f : RawFrame) (c : Can) : Can.received pass f c =
    { Can.countRx true c with
      rx := (Can.received pass f c).rx, rxOrder := (Can.received pass f c).rxOrder
      rxlost := (Can.received pass f c).rxlost } := by
  cases pass with
  | true => exact Can.store_eq f (Can.countRx true c)
  | false => rfl

/-! ## The statement -/

/-- Settles O29: each line by what its work makes of an entry, a frame received by what it makes of its controller. -/
theorem rawEntriesServeTheHost : Obligations.RawEntriesServeTheHost := by
  refine ⟨⟨?refusals, ?takeAndSend⟩, ?giveBack, ?received⟩
  case refusals =>
    intro h s b n args f one hacc hread
    exact ⟨fun hlow => ⟨line_refused _ _ _ s .e06 hacc (bodyTakeTx_low hlow),
        line_refused _ _ _ s .e06 hacc (bodySend_low hread hlow)⟩,
      line_refused h _ (bodyTakeTx h none) s .e03 hacc rfl,
      line_refused _ _ _ s .e03 hacc (bodySend_no_bus hread),
      line_refused _ _ _ s .e03 hacc (bodySend_no_entry hread)⟩
  case takeAndSend =>
    intro h s b hacc hmay
    have htx : ∀ n, txOf s b n = txOf (lineStart h (txt "CAN") s) b n := fun n => (txOf_lineStart ..).symm
    simp only [htx]
    refine ⟨fun e args hread => line_refused _ _ _ s .e01 hacc (bodySend_unread hread),
      fun n hfree hfirst => canLine_done rfl hacc (bodyTakeTx_first hmay hfree hfirst),
      fun hnone => line_refused _ _ _ s .e11 hacc (bodyTakeTx_none hmay hnone), fun n args f one hread => ?_⟩
    exact ⟨fun hlaw hown hp hs => canLine_done rfl hacc (bodySend_at_rest hread hmay hlaw hown hp hs),
      fun hlaw hown hst => line_refused _ _ _ s .e08 hacc (bodySend_under_way hread hmay hlaw hown hst),
      fun hlaw hown => line_refused _ _ _ s .e12 hacc (bodySend_not_owned hread hmay hlaw hown),
      fun hlaw => line_refused _ _ _ s .e04 hacc (bodySend_unlawful hread hmay hlaw)⟩
  case giveBack =>
    intro h s b hacc hmay
    have htx : ∀ n, txOf s b n = txOf (lineStart h (txt "CAN") s) b n := fun n => (txOf_lineStart ..).symm
    have hcan : s.canOf b = (lineStart h (txt "CAN") s).canOf b := (lineStart_canOf ..).symm
    simp only [htx, hcan]
    refine ⟨fun n hown => ?_, fun n hown => ?_, fun i e hi hfree holdest => ?_, fun hall => ?_, fun i e hi hown => ?_⟩
    · exact ⟨canLine_done rfl hacc (bodyDoneTx_owned hmay hown),
        fun hst => canLine_done rfl hacc (bodyCancel_pending hmay hown hst),
        fun hst => canLine_done rfl hacc (bodyCancel_sending hmay hown hst),
        fun hst => line_refused _ _ _ s .e10 hacc (bodyCancel_ended hmay hown hst)⟩
    · exact ⟨line_refused _ _ _ s .e12 hacc (bodyDoneTx_not_owned hmay hown),
        line_refused _ _ _ s .e12 hacc (bodyCancel_not_owned hmay hown)⟩
    · exact canLine_done rfl hacc (bodyTakeRx_oldest hmay (oldestRx_eq_some hi hfree holdest))
    · exact line_replies _ _ _ s _ _ hacc (bodyTakeRx_empty hmay (oldestRx_eq_none hall)) (KeepsLine.refl ..)
    · exact canLine_done rfl hacc (bodyDoneRx_owned hmay hi hown)
  case received =>
    intro s b f
    refine ⟨fun hears ok => does_of (congrArg finish (rawFrameReceived_unheard ok f hears)),
      fun hears => does_of (congrArg finish (rawFrameReceived_broken f hears)),
      fun hears hpass => ⟨fun i hi hfirst => ?_, fun hfull => ?_⟩, fun hears hpass => ?_, fun hears hp => ?_⟩
    · obtain ⟨t, ht, hcan⟩ := next_rawFrameReceived f hears
      rw [hpass, Can.received_first hi hfirst] at hcan
      exact ⟨t, ht, by simp [hcan]⟩
    · obtain ⟨t, ht, hcan⟩ := next_rawFrameReceived f hears
      rw [hpass, Can.received_full hfull] at hcan
      exact ⟨t, ht, by simp [hcan, sat16]⟩
    · obtain ⟨t, ht, hcan⟩ := next_rawFrameReceived f hears
      rw [hpass, Can.received_unpassed] at hcan
      exact ⟨t, ht, by simp [hcan]⟩
    · refine doesSo_of rfl ?_
      rw [rawFrameReceived_canOf f hears, rawFrameReceived_not_pysel hears hp]
      exact onCan_congr b s (Can.received_eq ..)

end Sys2Proof.Machine

/-! HEARTBEATS (06 R341, R342): what a full queue makes of a heartbeat, and the statement about them. -/

namespace Sys2Proof.Machine

/-! ## A heartbeat that is due -/

theorem send_can {s : State} (m : Msg) (hsend : canSendMsg s = true) :
    (send m s).can = s.can.map (Can.push ⟨s.watch.node, s.watch.seq, m⟩) := by
  unfold send; rw [if_pos hsend]

/-- A heartbeat that is due and can go out is pushed on every bus under the node's next number. -/
theorem heartbeat_canOf {s : State} (hjoined : s.watch.joined = true) (hrun : s.engine.running = true)
    (hdue : s.watch.nextHb ≤ s.now) (hsend : canSendMsg s = true) (b : Bus) :
    (heartbeat s).canOf b =
      Can.push ⟨s.watch.node, s.watch.seq, .heartbeat (heartbeatBody s)⟩ (s.canOf b) := by
  have hwhen : (s.watch.joined && s.engine.running && decide (s.watch.nextHb ≤ s.now)) = true := by
    simp [hjoined, hrun, hdue]
  have hpushed := send_can (s := { s with watch := { s.watch with nextHb := s.now + 100000 } })
    (.heartbeat (heartbeatBody s)) hsend
  unfold State.canOf heartbeat
  rw [if_pos hwhen]
  dsimp only
  rw [if_pos hsend, hpushed, Vector.getElem_map]

/-- The frame being sent keeps its place in the queue (06 R341, R385): a bus whose queue is full with it takes no frame but in
the place of one of a higher class. -/
theorem push_queue_of_full {f : WatchFrame} {c : Can} {i cls : Nat} (hfull : 64 ≤ c.queue.length + c.watchOnBus)
    (hworst : worstFrame c.queue = some (i, cls)) (hcls : cls ≤ msgClass f.msg) : (c.push f).queue = c.queue := by
  have hroom : ¬ c.queue.length + c.watchOnBus < 64 := by omega
  have hgive : ¬ msgClass f.msg < cls := by omega
  cases hsends : c.sends <;> simp [Can.push, hsends, hroom, hworst, hgive]

/-! ## The statement -/

/-- A joined and running node with a heartbeat due, whose controllers send one of 64 ACK frames; the other 63 wait. -/
def queuesFull : State :=
  let ack : WatchFrame := ⟨0, 0, .ack { node := 1, target := some .all, origin := 0, originNo := 0, latch := 0 }⟩
  { State.reset with
    watch := { joined := true }
    engine := { State.reset.engine with running := true }
    can := .replicate 2 { mode := .active, sending := some (.watch ack), queue := .replicate 63 ack } }

/-- Refutes O33: on a bus that sends a watch frame and has 63 more in its queue of 64, a heartbeat due is dropped, though 63 frames
are fewer than 64. -/
theorem not_heartbeatsAndSilence : ¬ Obligations.HeartbeatsAndSilence := by
  rintro ⟨⟨hdue, -⟩, -⟩
  have hsend : canSendMsg queuesFull = true := by decide
  obtain ⟨t, ht, -, -, -, -, -, hqueue, -⟩ := hdue queuesFull rfl rfl (Nat.zero_le _) hsend
  have hgrown := hqueue .canA rfl (by decide)
  have hkept : (t.canOf .canA).queue = (queuesFull.canOf .canA).queue := by
    obtain rfl : settle (heartbeat queuesFull) = t := Host.Outcome.next.inj ht
    calc ((heartbeat queuesFull).canOf .canA).queue
      _ = _ := congrArg Can.queue (heartbeat_canOf rfl rfl (Nat.zero_le _) hsend .canA)
      _ = (queuesFull.canOf .canA).queue :=
        push_queue_of_full (i := 62) (cls := 2) (by decide) (by decide) (by decide)
  rw [hkept] at hgrown
  simpa using congrArg List.length hgrown

end Sys2Proof.Machine

/-! THE LOG'S OPENING AND STAGE (09 R485–R502, R514): what an entry in the directory leaves, what the writer's housekeeping
keeps of an open log, the parts of staging, and the statement about them. -/

namespace Sys2Proof.Machine

/-! ## An entry in the directory (09 R500, R504) -/

/-- `t` is `u` with an entry in the log's directory, which may have been compacted, and events handed to the writer. -/
def DirectoryOnly (u t : State) : Prop :=
  t = { u with log := { u.log with
    incoming := t.log.incoming, dirEntries := t.log.dirEntries, dirSector := t.log.dirSector
    savedRefused := t.log.savedRefused, savedAt := t.log.savedAt } }

theorem emitLog_log (code : BitVec 16) (value : BitVec 32) (bytes : List Nat) (s : State) :
    (emitLog code value bytes s).log = { s.log with incoming := (emitLog code value bytes s).log.incoming } :=
  congrArg State.log (logOnly_emit _ s)

theorem LogOnly.directoryOnly_trans {u v t : State} (h : LogOnly v t) (h' : DirectoryOnly u v) : DirectoryOnly u t := by
  unfold DirectoryOnly; rw [h, h']

theorem directoryOnly_dirAppend (s : State) : DirectoryOnly s (dirAppend s) := by
  unfold dirAppend
  split
  · rfl
  · exact (logOnly_emit _ _).directoryOnly_trans rfl

theorem setSector_log (k : Fin 8) (f : Sector → Sector) (s : State) : (setSector k f s).log = { s.log with
    sectors := upd s.log.sectors k f, incoming := (setSector k f s).log.incoming
    dirEntries := (setSector k f s).log.dirEntries, dirSector := (setSector k f s).log.dirSector
    savedRefused := (setSector k f s).log.savedRefused, savedAt := (setSector k f s).log.savedAt } :=
  congrArg State.log (directoryOnly_dirAppend (onSector k f s))

theorem sectorOf_setSector_same (k : Fin 8) (f : Sector → Sector) (s : State) :
    sectorOf (setSector k f s) k = f (sectorOf s k) := by
  unfold sectorOf; rw [setSector_log]; exact upd_same ..

theorem sectorOf_setSector_other {k j : Fin 8} (f : Sector → Sector) (s : State) (hj : j ≠ k) :
    sectorOf (setSector k f s) j = sectorOf s j := by
  unfold sectorOf; rw [setSector_log]; exact upd_other _ _ _ _ hj.symm

/-- Saving the refused counters makes them the saved ones, of now, and else no more than an entry in the directory (09 R497). -/
theorem saveRefused_log (s : State) : (saveRefused s).log = { s.log with
    savedRefused := s.log.refused, savedAt := some s.now, incoming := (saveRefused s).log.incoming
    dirEntries := (saveRefused s).log.dirEntries, dirSector := (saveRefused s).log.dirSector } := by
  unfold saveRefused dirAppend
  split
  · rfl
  · dsimp only; rw [emitLog_log]; rfl

/-! ## What the writer's housekeeping keeps -/

/-- What the writer keeps of an open log when it records, refuses, erases or makes a sector ready: the log stays open, no
sequence number is used up (09 R485), and resets, settings and images are no work of its. -/
structure WriterKeeps (u t : State) : Prop where
  opened : t.log.opened = u.log.opened
  seq : t.log.seq = u.log.seq
  rst : t.rst = u.rst
  live : t.live = u.live
  images : t.images = u.images

theorem WriterKeeps.refl (u : State) : WriterKeeps u u := ⟨rfl, rfl, rfl, rfl, rfl⟩

theorem WriterKeeps.trans {u v t : State} (h : WriterKeeps u v) (h' : WriterKeeps v t) : WriterKeeps u t where
  opened := h'.opened.trans h.opened
  seq := h'.seq.trans h.seq
  rst := h'.rst.trans h.rst
  live := h'.live.trans h.live
  images := h'.images.trans h.images

theorem LogOnly.writerKeeps {u t : State} (h : LogOnly u t) : WriterKeeps u t := by
  constructor <;> rw [h]

theorem DirectoryOnly.writerKeeps {u t : State} (h : DirectoryOnly u t) : WriterKeeps u t := by
  constructor <;> rw [h]

theorem EngineStep.writerKeeps {u t : State} (h : EngineStep u t) : WriterKeeps u t := by
  constructor <;> rw [h.rest]

theorem writerKeeps_onLog {f : Log → Log} {s : State} (hopened : (f s.log).opened = s.log.opened)
    (hseq : (f s.log).seq = s.log.seq) : WriterKeeps s (onLog f s) := ⟨hopened, hseq, rfl, rfl, rfl⟩

theorem writerKeeps_foldl {α : Type} {f : State → α → State} (hf : ∀ s a, WriterKeeps s (f s a)) (l : List α) (s : State) :
    WriterKeeps s (l.foldl f s) := by
  induction l generalizing s with
  | nil => exact WriterKeeps.refl s
  | cons a l ih => exact (hf s a).trans (ih _)

theorem writerKeeps_emitBlock (i : Nat) (code : BitVec 16) (value : BitVec 32) (bytes : List Nat) (s : State) :
    WriterKeeps s (emitBlock i code value bytes s) := (logOnly_emit _ s).writerKeeps

theorem writerKeeps_refuseEvent (x : Staged) (s : State) : WriterKeeps s (refuseEvent x s) := by
  unfold refuseEvent
  dsimp only
  split
  · exact writerKeeps_onLog rfl rfl
  · exact .refl s

theorem writerKeeps_logFullCause (v : Bool) (s : State) : WriterKeeps s (logFullCause v s) :=
  have hflag : WriterKeeps s { s with flags := { s.flags with logFull := s.flags.logFull.drive v } } := ⟨rfl, rfl, rfl, rfl, rfl⟩
  hflag.trans (engineStep_setCause 0 v _).writerKeeps

theorem writerKeeps_becomeFull (s : State) : WriterKeeps s (becomeFull s) := by
  have hfull : WriterKeeps s (onLog (fun l => { l with full := true, stage := [], burst := 0 }) s) := writerKeeps_onLog rfl rfl
  exact (hfull.trans (writerKeeps_foldl (fun s x => writerKeeps_refuseEvent x s) _ _)).trans (writerKeeps_logFullCause true _)

theorem writerKeeps_setSector (k : Fin 8) (f : Sector → Sector) (s : State) : WriterKeeps s (setSector k f s) :=
  (writerKeeps_onLog rfl rfl : WriterKeeps s (onSector k f s)).trans (directoryOnly_dirAppend _).writerKeeps

theorem writerKeeps_beginErase (k : Fin 8) (foreground : Bool) (s : State) : WriterKeeps s (beginErase k foreground s) :=
  (writerKeeps_onLog rfl rfl).trans (writerKeeps_setSector k _ _)

theorem writerKeeps_nextErase (s : State) : WriterKeeps s (nextErase s) := by
  unfold nextErase
  split
  · exact .refl s
  · split
    · exact writerKeeps_beginErase ..
    · split
      · exact .refl s
      · exact writerKeeps_onLog rfl rfl

theorem writerKeeps_makeReady (s : State) : WriterKeeps s (makeReady s) := by
  unfold makeReady
  dsimp only
  split
  · exact .refl s
  · split
    · exact writerKeeps_becomeFull s
    · split
      · exact (writerKeeps_onLog rfl rfl).trans (writerKeeps_setSector ..)
      · split
        · split
          · exact writerKeeps_onLog rfl rfl
          · split
            · exact .refl s
            · exact (writerKeeps_onLog rfl rfl).trans (writerKeeps_beginErase ..)
        · exact writerKeeps_beginErase ..

theorem writerKeeps_stageFirst (e : Event) (s : State) : WriterKeeps s (stageFirst e s) := by
  unfold stageFirst
  split
  · exact writerKeeps_onLog rfl rfl
  · exact writerKeeps_onLog rfl rfl

/-! ## Opening (09 R485, R514; 15 R793) -/

/-- The log opens at the last own sequence number in its sectors, or at 0; what the opening does beside that is
housekeeping. -/
theorem openLog_opens (s : State) :
    WriterKeeps (onLog (fun l => { l with opened := true, seq := (lastOwnSeq s).getD 0 }) s) (openLog s) := by
  unfold openLog
  extract_lets fill todo again full s₁ torn s₂ s₃ s₄ s₅
  have hseq₁ : lastOwnSeq s₁ = lastOwnSeq s := rfl
  have h₂ : WriterKeeps (onLog (fun l => { l with opened := true, seq := (lastOwnSeq s).getD 0 }) s) s₂ := by
    simp only [s₂, hseq₁]
    cases lastOwnSeq s with
    | some n => exact ⟨rfl, rfl, rfl, rfl, rfl⟩
    | none =>
      have hzero : WriterKeeps (onLog (fun l => { l with opened := true, seq := 0 }) s)
        (onLog (fun l => { l with seq := 0 }) s₁) := ⟨rfl, rfl, rfl, rfl, rfl⟩
      exact hzero.trans (writerKeeps_stageFirst ..)
  have h₃ : WriterKeeps s₂ s₃ := by
    unfold s₃; split
    · exact .refl s₂
    · exact writerKeeps_emitBlock ..
  have h₄ : WriterKeeps s₃ s₄ := writerKeeps_foldl (fun _ _ => writerKeeps_emitBlock ..) again s₃
  have h₅ : WriterKeeps s₄ s₅ := by
    unfold s₅; split
    · exact writerKeeps_becomeFull s₄
    · exact .refl s₄
  exact h₂.trans <| h₃.trans <| h₄.trans <| h₅.trans <| (writerKeeps_nextErase s₅).trans (writerKeeps_makeReady _)

theorem WriterKeeps.resetsRecorded {u t : State} (h : WriterKeeps u t) :
    WriterKeeps { u with rst := { u.rst with logDue := [] } } { t with rst := { t.rst with logDue := [] } } where
  opened := h.opened
  seq := h.seq
  rst := congrArg (fun r : Reset => { r with logDue := [] }) h.rst
  live := h.live
  images := h.images

/-- LOG_OPEN of a log that is not open: no reset waits to be recorded any more. -/
theorem logOpen_opens {s : State} (hruns : writerRuns s = true) (hclosed : s.log.opened = false) :
    WriterKeeps { onLog (fun l => { l with opened := true, seq := (lastOwnSeq s).getD 0 }) s with
      rst := { s.rst with logDue := [] } } (logOpen s) := by
  simp only [logOpen, hruns, hclosed, Bool.not_false, Bool.and_self, if_true]
  exact (openLog_opens s).resetsRecorded.trans (writerKeeps_foldl (fun _ _ => writerKeeps_emitBlock ..) _ _)

/-- An open log is not opened again. -/
theorem logOpen_of_opened {s : State} (hopened : s.log.opened = true) : logOpen s = s := by
  simp [logOpen, hopened]

/-! ## Saving the refused counters (09 R497) -/

theorem refusedCounterAppend_due {s : State} (hruns : writerRuns s = true) (hopened : s.log.opened = true)
    (hdiffer : s.log.refused ≠ s.log.savedRefused) (hdue : ∀ a, s.log.savedAt = some a → a + 10 * usSec ≤ s.now) :
    refusedCounterAppend s = saveRefused s := by
  cases hsaved : s.log.savedAt with
  | none => simp [refusedCounterAppend, hruns, hopened, hdiffer, hsaved]
  | some a => simp [refusedCounterAppend, hruns, hopened, hdiffer, hsaved, hdue a hsaved]

theorem refusedCounterAppend_early {s : State} {a : Nat} (hsaved : s.log.savedAt = some a) (hnow : s.now < a + 10 * usSec) :
    refusedCounterAppend s = s := by
  simp [refusedCounterAppend, hsaved, Nat.not_le.2 hnow]

/-! ## Staging (09 R489–R502) -/

section Taken
variable {s : State} {x : Staged} {r : List Staged} (hruns : writerRuns s = true) (hin : s.log.incoming = x :: r)
include hruns hin

theorem eventStaged_room (hfull : s.log.full = false) (hroom : s.log.stage.length < 1023) :
    eventStaged s = makeReady (onLog (fun l => { l with incoming := r, stage := l.stage ++ [x] }) s) := by
  simp [eventStaged, hruns, hin, stageOne, stageFull, onLog, hfull, Nat.not_le.2 hroom]

theorem eventStaged_dropped (hfull : s.log.full = false) (hstage : 1023 ≤ s.log.stage.length) :
    eventStaged s = makeReady (dropEvent (onLog (fun l => { l with incoming := r }) s)) := by
  simp [eventStaged, hruns, hin, stageOne, stageFull, onLog, hfull, hstage]

theorem eventStaged_refused (hfull : s.log.full = true) :
    eventStaged s = makeReady (refuseEvent x (onLog (fun l => { l with incoming := r }) s)) := by
  simp [eventStaged, hruns, hin, stageOne, onLog, hfull]

end Taken

theorem refuseEvent_class {x : Staged} (s : State) {j : Fin 7} (hclass : (stagedCode x).toNat / 256 = j.val + 1) :
    refuseEvent x s = onLog (fun l => { l with refused := upd l.refused j sat16 }) s := by
  have hrange : 1 ≤ j.val + 1 ∧ j.val + 1 ≤ 7 := by omega
  simp [refuseEvent, hclass, hrange]

theorem makeReady_of_full {s : State} (hfull : s.log.full = true) : makeReady s = s := by
  simp [makeReady, hfull]

theorem makeReady_of_filling {s : State} {k : Fin 8} (hfill : s.log.filling = some k) : makeReady s = s := by
  simp [makeReady, hfill]

/-- The next sector, erased, becomes the one in use when a record waits (09 R500, R502). -/
theorem makeReady_erased {s : State} {k : Fin 8} (hopened : s.log.opened = true) (hfull : s.log.full = false)
    (hfill : s.log.filling = none) (hwaits : s.log.stage ≠ []) (hclear : s.log.clearing = none)
    (hnext : nextSector s = some k) (herased : (sectorOf s k).st = .erased) :
    makeReady s = setSector k (fun x => { x with st := .filling, slots := [], failures := 0 })
      (onLog (fun l => { l with filling := some k }) s) := by
  simp [makeReady, hopened, hfull, hfill, hwaits, hclear, hnext, herased]

/-! ## The statement -/

/-- Settles O25: LOG_OPEN and the saving by what the log is after them, EVENT_STAGED by what staging and making ready do in each
case. -/
theorem logOpensAndStages : Obligations.LogOpensAndStages := by
  refine ⟨⟨?opens, ?again, ?saves, ?early⟩, ?firstRecord, ?stages⟩
  case opens =>
    intro s hruns hclosed
    obtain ⟨hopened, hseq, hrst, hlive, himages⟩ := logOpen_opens hruns hclosed
    exact ⟨_, rfl, hopened, hseq, congrArg Reset.logDue hrst, hlive, himages⟩
  case again =>
    intro s _ hopened
    exact does_of (congrArg finish (logOpen_of_opened hopened))
  case saves =>
    intro s hruns hopened hdiffer hdue
    have hlog := saveRefused_log s
    exact ⟨_, congrArg finish (refusedCounterAppend_due hruns hopened hdiffer hdue), (congrArg Log.savedRefused hlog :),
      (congrArg Log.savedAt hlog :), (congrArg Log.refused hlog :), (congrArg Log.sectors hlog :), (congrArg Log.stage hlog :)⟩
  case early =>
    intro s a hsaved hnow
    exact does_of (congrArg finish (refusedCounterAppend_early hsaved hnow))
  case firstRecord =>
    intro s x r k hruns hin hopened hfull hfill hclear hroom hnext herased
    have hstaged := (eventStaged_room hruns hin hfull hroom).trans
      (makeReady_erased hopened hfull hfill (by simp [onLog]) hclear hnext herased)
    refine ⟨_, congrArg finish hstaged, ?_, ?_, ?_, ?_, fun j hj => ?_, ?_⟩
    · exact congrArg Log.filling (setSector_log ..)
    · exact congrArg Sector.st (sectorOf_setSector_same ..)
    · exact congrArg Sector.slots (sectorOf_setSector_same ..)
    · exact congrArg Log.stage (setSector_log ..)
    · exact sectorOf_setSector_other _ _ hj
    · exact (writerKeeps_setSector ..).seq
  case stages =>
    intro s x r k hruns hin
    refine ⟨fun hfull hfill hroom => does_of (congrArg finish ?_), fun hfull hfill hstage => does_of (congrArg finish ?_),
      fun hfull j hclass => does_of (congrArg finish ?_)⟩
    · exact (eventStaged_room hruns hin hfull hroom).trans (makeReady_of_filling hfill)
    · exact (eventStaged_dropped hruns hin hfull hstage).trans (makeReady_of_filling hfill)
    · rw [eventStaged_refused hruns hin hfull, refuseEvent_class _ hclass]
      exact makeReady_of_full hfull

end Sys2Proof.Machine

/-! THE SAFETY PARTITION'S CUSTODIAN (12 R654, R663; 11 R601): what the checks of a write make of a line that is no custodian's, of
a script's and of a custodian's while the partition is closed, and the statement about them. -/

namespace Sys2Proof.Machine

/-! ## Who may write the partition -/

theorem partOpen_iff (s : State) (who : Sess) :
    partOpen s who = true ↔ roleOf s who = .custodian ∧ s.part.keysw = .asserted := by
  simp [partOpen]

theorem roleToWrite_of_inPartition {cfg : Settings} {i : SettingId} (hin : inPartition cfg i = true) :
    roleToWrite cfg i = .custodian := if_pos hin

theorem needsPartition_of_inPartition {cfg : Settings} {i : SettingId} (x : Val) (hin : inPartition cfg i = true) :
    needsPartition cfg i x = true := by
  simp [needsPartition, hin]

theorem roleOk_custodian (r : Role) : roleOk r .custodian = decide (r = .custodian) := by
  cases r <;> rfl

/-- Whether a line may write settings of the partition: it is a CUSTODIAN's and no script's (12 R654, R662). -/
def custodianLine (s : State) (who : Sess) : Bool := decide (roleOf s who = .custodian) && !isScript who

section Checks
variable {who : Sess} {i : SettingId} {v : Text} {s : State} {x : Val}

/-! ## The checks, by what stops the write -/

/-- A setting that exists, of the partition, and a value that is read: E06 comes before the limits, these before E07, and the
order rules last (11 R601). -/
theorem checkWrite_of_inPartition (hin : inPartition (pendingCfg s) i = true) (hread : readSetting s i v = .ok x)
    (hfit : settingFitted s.ident.part i = true) :
    checkWrite who i v s =
      if custodianLine s who = false then .error .e06
      else if (rangeRule i x (pendingCfg s) (putCfg i x (pendingCfg s)) &&
        windowRule i (putCfg i x (pendingCfg s))) = false then .error .e04
      else if partOpen s who = false then .error .e07
      else if orderRule i (putCfg i x (pendingCfg s)) = false then .error .e05
      else .ok x := by
  have hfast : (custodianLine s who && (!takesFastLine (pendingCfg s) i x || roleOk (roleOf s who) .custodian)) =
      custodianLine s who := by
    by_cases hrole : roleOf s who = .custodian <;> simp [custodianLine, roleOk_custodian, hrole]
  have hrole : (roleOk (roleOf s who) (roleToWrite (pendingCfg s) i) &&
      !(isScript who && (inPartition (pendingCfg s) i || scriptForbids i))) = custodianLine s who := by
    simp [custodianLine, roleToWrite_of_inPartition hin, roleOk_custodian, hin]
  unfold checkWrite
  simp only [hread, hfit, hrole, hfast, needsPartition_of_inPartition x hin, Bool.true_and, Bool.not_eq_true']

/-- A write that the checks take is of a setting that exists, to a value that is read. -/
theorem checkWrite_eq_ok (hok : checkWrite who i v s = .ok x) :
    readSetting s i v = .ok x ∧ settingFitted s.ident.part i = true := by
  unfold checkWrite at hok
  cases hread : readSetting s i v with
  | error e =>
    simp only [hread] at hok
    split at hok <;> simp_all
  | ok y =>
    cases hfit : settingFitted s.ident.part i with
    | false => simp [hread, hfit] at hok
    | true =>
      simp only [hread, hfit] at hok
      split_ifs at hok
      exact ⟨hok, rfl⟩

/-- The partition takes a write of nobody but its custodian, in a line that is no script's. -/
theorem custodianLine_of_checkWrite_eq_ok (hin : inPartition (pendingCfg s) i = true) (hok : checkWrite who i v s = .ok x) :
    custodianLine s who = true ∧ partOpen s who = true := by
  obtain ⟨hread, hfit⟩ := checkWrite_eq_ok hok
  rw [checkWrite_of_inPartition hin hread hfit] at hok
  split_ifs at hok with hline _ hopen
  exact ⟨by simpa using hline, by simpa using hopen⟩

end Checks

/-! ## The statement -/

/-- Settles O10: a write of the partition that the checks take comes from a custodian with the partition open; any other meets E06
or E07 where the order of the checks puts them. -/
theorem partitionNeedsCustodianAndKey : Obligations.PartitionNeedsCustodianAndKey := by
  intro who i v s x hin
  refine ⟨partOpen_iff s who, fun hclosed => ?_, fun hread hfit => ?_⟩
  · cases hcheck : checkWrite who i v s with
    | error e => exact ⟨e, rfl⟩
    | ok y =>
      obtain ⟨hline, hopen⟩ := custodianLine_of_checkWrite_eq_ok hin hcheck
      obtain ⟨-, hsession⟩ : roleOf s who = .custodian ∧ isScript who = false := by simpa [custodianLine] using hline
      simp [hopen, hsession] at hclosed
  · rw [checkWrite_of_inPartition hin hread hfit]
    refine ⟨fun hrole => ?_, fun hrole hsession hkey hrange hwindow => ?_⟩
    · simp [custodianLine, hrole]
    · have hclosed : partOpen s who = false := by simp [partOpen, hkey]
      simp [custodianLine, hrole, hsession, hrange, hwindow, hclosed]

end Sys2Proof.Machine

/-! PROOFS AND LOCK-OUT (12 R640–R650): the state in which a PROVE begins, what a proof leaves of its session and of the keys,
the work of PROVE, and the statement about it. -/

namespace Sys2Proof.Machine

/-! ## What taking a line leaves -/

theorem endSession_frame (who : Sess) (cause : Nat) (s : State) : endSession who cause s = { s with
    log := (endSession who cause s).log, lx := (endSession who cause s).lx
    interp := (endSession who cause s).interp, port := (endSession who cause s).port } := by
  unfold endSession emitSess
  split
  · rw [logOnly_emit]; cases who <;> rfl
  · rfl

theorem timeoutFirst_frame (who : Sess) (s : State) : timeoutFirst who s = { s with
    log := (timeoutFirst who s).log, lx := (timeoutFirst who s).lx
    interp := (timeoutFirst who s).interp, port := (timeoutFirst who s).port } := by
  unfold timeoutFirst
  cases who with
  | host =>
    dsimp only
    split
    · rw [endSession_frame]; rfl
    · rfl
  | console k => rfl
  | script n => rfl

theorem thawView_frame (s : State) : thawView s = { s with watch := (thawView s).watch } := by
  unfold thawView; split <;> rfl

theorem takeLine_frame (h : LineHdr) (verb : Text) (s : State) : takeLine h verb s = { s with
    interp := (takeLine h verb s).interp, port := (takeLine h verb s).port } := by
  unfold takeLine; cases h.sess <;> rfl

/-- Taking a line leaves the keys with their counts and lock-outs, a timeout before it included. -/
theorem lineStart_keys (h : LineHdr) (verb : Text) (s : State) : (lineStart h verb s).keys = s.keys := by
  unfold lineStart latchPoint; rw [takeLine_frame, thawView_frame, timeoutFirst_frame]

/-- Taking a line takes no time. -/
theorem lineStart_now (h : LineHdr) (verb : Text) (s : State) : (lineStart h verb s).now = s.now := by
  unfold lineStart latchPoint; rw [takeLine_frame, thawView_frame, timeoutFirst_frame]

/-! ## A session and its changes -/

theorem sessOf_congr {u t : State} (hport : t.port.sess = u.port.sess) (hconsoles : t.interp.consoles = u.interp.consoles)
    (who : Sess) : sessOf t who = sessOf u who := by
  cases who with
  | host => exact hport
  | console k => simp only [sessOf, consoleOf_congr hconsoles]
  | script n => rfl

theorem answerAt_onConsole {k : Fin 16} {f : Console → Console} (hk : ∀ c, (f c).k = c.k)
    (hanswer : ∀ c, (f c).answer = c.answer) (who : Sess) (s : State) :
    answerAt (onConsole k f s) who = answerAt s who := by
  cases who with
  | console j =>
    simp only [answerAt, consoleOf_onConsole k j f s hk, Option.map_map]
    congr 1; funext c; simp only [Function.comp]; split <;> simp [hanswer]
  | _ => rfl

theorem sessOf_onConsole {k : Fin 16} {f : Console → Console} (hk : ∀ c, (f c).k = c.k)
    (hsess : ∀ c, (f c).sess = c.sess) (who : Sess) (s : State) :
    sessOf (onConsole k f s) who = sessOf s who := by
  cases who with
  | console j =>
    simp only [sessOf, consoleOf_onConsole k j f s hk, Option.map_map]
    congr 2; funext c; simp only [Function.comp]; split <;> simp [hsess]
  | _ => rfl

/-- A change of a session whose line is being worked on: the session is there. -/
theorem sessOf_onSess {who : Sess} {s : State} {a : Answer} (hline : answerAt s who = some a) (f : Session → Session) :
    sessOf (onSess who f s) who = f (sessOf s who) := by
  cases who with
  | host => rfl
  | console k =>
    obtain ⟨c, hc, -⟩ := Option.map_eq_some_iff.1 hline
    simp [onSess, sessOf, consoleOf_onConsole, hc]
  | script n => cases hline

theorem onSess_keepsLine (who : Sess) (f : Session → Session) (s : State) : KeepsLine who s (onSess who f s) := by
  cases who with
  | console k =>
    exact ⟨answerAt_onConsole (k := k) (f := fun c => { c with sess := f c.sess }) (fun _ => rfl) (fun _ => rfl) .., rfl, rfl⟩
  | _ => exact ⟨rfl, rfl, rfl⟩

theorem onSess_frame (who : Sess) (f : Session → Session) (s : State) : onSess who f s = { s with
    port := (onSess who f s).port, interp := (onSess who f s).interp } := by
  cases who <;> rfl

/-- What the records of a proof and the discarding of nonces leave of a line's session: the line, the role, no nonce where there
was none, and with them the settings. -/
structure KeepsSession (who : Sess) (u t : State) : Prop where
  line : KeepsLine who u t
  role : (sessOf t who).role = (sessOf u who).role
  nonce : (sessOf u who).nonce = none → (sessOf t who).nonce = none
  live : t.live = u.live

theorem KeepsSession.trans {who : Sess} {u v t : State} (h : KeepsSession who u v) (h' : KeepsSession who v t) :
    KeepsSession who u t where
  line := h.line.trans h'.line
  role := h'.role.trans h.role
  nonce := fun hn => h'.nonce (h.nonce hn)
  live := h'.live.trans h.live

/-- Work that touches neither the port nor the interpreter nor the settings keeps a session. -/
theorem KeepsSession.of_eq {who : Sess} {u t : State} (hport : t.port = u.port) (hinterp : t.interp = u.interp)
    (hlive : t.live = u.live) : KeepsSession who u t := by
  have hsess : sessOf t who = sessOf u who := sessOf_congr (by rw [hport]) (by rw [hinterp]) who
  exact ⟨.of_eq hport hinterp, by rw [hsess], fun hn => by rw [hsess, hn], hlive⟩

theorem keepsSession_emitSess (who by_ : Sess) (code : BitVec 16) (value : BitVec 32) (bytes : List Nat) (s : State) :
    KeepsSession who s (emitSess by_ code value bytes s) := .of_eq (by simp) (by simp) (by simp)

theorem dropNonce_role (r : Role) (cycle : Nat) (x : Session) : (dropNonce r cycle x).role = x.role := by
  unfold dropNonce
  repeat' split
  all_goals rfl

theorem dropNonce_nonce {r : Role} {cycle : Nat} {x : Session} (hn : x.nonce = none) : (dropNonce r cycle x).nonce = none := by
  cases hdropped : x.dropped with
  | none => simp [dropNonce, hn, hdropped]
  | some d => simp only [dropNonce, hn, hdropped]; split <;> simp [hn]

theorem consoleOf_dropNonces (r : Role) (s : State) (k : Fin 16) : consoleOf (dropNonces r s) k =
    (consoleOf s k).map fun c => { c with sess := dropNonce r s.cycle c.sess } :=
  find_map (fun c : Console => decide (c.k = k)) (fun c : Console => { c with sess := dropNonce r s.cycle c.sess })
    (fun _ => rfl) s.interp.consoles

theorem sessOf_dropNonces (r : Role) (s : State) (who : Sess) :
    sessOf (dropNonces r s) who = dropNonce r s.cycle (sessOf s who) := by
  cases who with
  | console k => simp only [sessOf, consoleOf_dropNonces]; cases consoleOf s k <;> rfl
  | _ => rfl

theorem keepsSession_dropNonces (who : Sess) (r : Role) (s : State) : KeepsSession who s (dropNonces r s) where
  line := by
    refine ⟨?_, rfl, rfl⟩
    cases who with
    | console k => simp only [answerAt, consoleOf_dropNonces]; cases consoleOf s k <;> rfl
    | _ => rfl
  role := by rw [sessOf_dropNonces, dropNonce_role]
  nonce := fun hn => by rw [sessOf_dropNonces, dropNonce_nonce hn]
  live := rfl

/-- A console's session key, to be used from the end of the reply, leaves its session (06 R371). -/
theorem keepsSession_newKey (who : Sess) (k : Fin 16) (key : BitVec 128) (s : State) :
    KeepsSession who s (onConsole k (fun c => { c with newKey := some key }) s) := by
  have hsess := sessOf_onConsole (k := k) (f := fun c => { c with newKey := some key }) (fun _ => rfl) (fun _ => rfl) who s
  have hanswer := answerAt_onConsole (k := k) (f := fun c => { c with newKey := some key }) (fun _ => rfl) (fun _ => rfl) who s
  exact ⟨⟨hanswer, rfl, rfl⟩, by rw [hsess], fun hn => by rw [hsess, hn], rfl⟩

/-! ## A proof that holds, and one that fails (12 R642–R648) -/

/-- The keys once a role's proof has failed for the n-th time in a row: the failure is counted, and from the fifth on the role
is locked out (12 R646, R647). -/
def failedKeys (i : Fin 3) (n now : Nat) (k : Keys) : Keys :=
  let k := { k with fails := upd k.fails i fun _ => n }
  if n < 5 then k
  else { k with
    period := upd k.period i fun _ => lockPeriod n
    lockEnd := upd k.lockEnd i fun _ => some (now + lockPeriod n * usSec) }

theorem proofFails_keys (who : Sess) (r : Role) (i : Fin 3) (s : State) :
    (proofFails who r i s).keys = failedKeys i (s.keys.fails[i.val] + 1) s.now s.keys := by
  unfold proofFails failedKeys
  dsimp only
  split
  · simp
  · simp [lockoutCause, dropNonces]

theorem keepsSession_proofFails (who : Sess) (r : Role) (i : Fin 3) (s : State) :
    KeepsSession who s (proofFails who r i s) := by
  unfold proofFails
  extract_lets n _ s₁ s₂ p _ s₃
  have h₂ : KeepsSession who s s₂ := (KeepsSession.of_eq rfl rfl rfl : KeepsSession who s s₁).trans (keepsSession_emitSess ..)
  have h₃ : KeepsSession who s₂ s₃ := .of_eq rfl rfl rfl
  have hlock : KeepsSession who (dropNonces r s₃) (lockoutCause (dropNonces r s₃)) := .of_eq rfl rfl rfl
  split
  · exact h₂
  · exact h₂.trans <| h₃.trans <| (keepsSession_dropNonces who r s₃).trans <| hlock.trans (keepsSession_emitSess ..)

theorem proofHolds_keys (who : Sess) (r : Role) (i : Fin 3) (mac : List Byte) (s : State) :
    (proofHolds who r i mac s).keys = { s.keys with fails := upd s.keys.fails i fun _ => 0 } := by
  unfold proofHolds
  cases who <;> simp [onSess, onConsole]

/-- Beside the role it gives, a proof that holds leaves the session as it is. -/
theorem keepsSession_proofHolds (who : Sess) (r : Role) (i : Fin 3) (mac : List Byte) (s : State) :
    KeepsSession who (onSess who (fun x => { x with role := r }) s) (proofHolds who r i mac s) := by
  unfold proofHolds
  extract_lets s₁ _ s₂ s₃
  have h₂ : KeepsSession who s₁ s₂ := .of_eq rfl rfl rfl
  have h₃ : KeepsSession who s₂ s₃ := by
    cases who with
    | console k => exact keepsSession_newKey ..
    | _ => exact .of_eq rfl rfl rfl
  exact h₂.trans <| h₃.trans (keepsSession_emitSess ..)

/-! ### The keys after a failure -/

section Failed
variable (i : Fin 3) (n now : Nat) (k : Keys)

@[simp] theorem failedKeys_fails : (failedKeys i n now k).fails = upd k.fails i fun _ => n := by
  unfold failedKeys; dsimp only; split <;> rfl

@[simp] theorem failedKeys_role : (failedKeys i n now k).role = k.role := by
  unfold failedKeys; dsimp only; split <;> rfl

theorem failedKeys_lockEnd_of_lt {n : Nat} (hn : n < 5) : (failedKeys i n now k).lockEnd = k.lockEnd := by
  simp [failedKeys, hn]

theorem failedKeys_lockEnd_of_le {n : Nat} (hn : 5 ≤ n) :
    (failedKeys i n now k).lockEnd[i.val] = some (now + lockPeriod n * usSec) := by
  simp [failedKeys, Nat.not_lt.2 hn]

end Failed

/-! ### Lock-out periods (12 R647) -/

theorem lockPeriod_of_lt {n : Nat} (hn : n < 11) : lockPeriod n = 60 * 2 ^ (n - 5) := if_neg (Nat.not_le.2 hn)

theorem lockPeriod_of_le {n : Nat} (hn : 11 ≤ n) : lockPeriod n = 3840 := if_pos hn

/-- Up to the eleventh failure each one doubles the period; the eleventh reaches the greatest, 60 s · 2⁶. -/
theorem lockPeriod_succ {n : Nat} (hfive : 5 ≤ n) (hn : n < 11) : lockPeriod (n + 1) = 2 * lockPeriod n := by
  obtain rfl | hlt : n = 10 ∨ n + 1 < 11 := by omega
  · rfl
  · rw [lockPeriod_of_lt hlt, lockPeriod_of_lt hn, Nat.sub_add_comm hfive, Nat.pow_succ]; omega

theorem lockPeriod_le (n : Nat) : lockPeriod n ≤ 3840 := by
  obtain hn | hn := Nat.lt_or_ge n 11
  · have hpow : 2 ^ (n - 5) ≤ 2 ^ 5 := Nat.pow_le_pow_right (by omega) (by omega)
    rw [lockPeriod_of_lt hn]; omega
  · exact (lockPeriod_of_le hn).le

/-! ## The work of PROVE (12 R641–R645) -/

/-- The pending nonce of a session is spent. -/
def spendNonce (who : Sess) (s : State) : State := onSess who (fun x => { x with nonce := none }) s

theorem spendNonce_frame (who : Sess) (s : State) : spendNonce who s = { s with
    port := (spendNonce who s).port, interp := (spendNonce who s).interp } := onSess_frame ..

theorem keepsLine_spendNonce (who : Sess) (s : State) : KeepsLine who s (spendNonce who s) := onSess_keepsLine ..

/-- A proof has been judged: the session of its line has the role `r` and no nonce, and the settings are as they were. -/
structure ProofDone (who : Sess) (r : Role) (u t : State) : Prop where
  line : KeepsLine who u t
  role : (sessOf t who).role = r
  nonce : (sessOf t who).nonce = none
  live : t.live = u.live

section Spent
variable {who : Sess} {u : State} {a : Answer} (hline : answerAt u who = some a)
include hline

theorem sessOf_spendNonce : sessOf (spendNonce who u) who = { sessOf u who with nonce := none } := sessOf_onSess hline _

/-- A proof that holds gives the session of the line its role. -/
theorem proofDone_proofHolds (r : Role) (i : Fin 3) (mac : List Byte) :
    ProofDone who r u (proofHolds who r i mac (spendNonce who u)) := by
  have hkeeps := keepsSession_proofHolds who r i mac (spendNonce who u)
  have hgiven := sessOf_onSess ((keepsLine_spendNonce who u).answer.trans hline) (fun x => { x with role := r })
  rw [sessOf_spendNonce hline] at hgiven
  exact {
    line := (keepsLine_spendNonce who u).trans ((onSess_keepsLine ..).trans hkeeps.line)
    role := by rw [hkeeps.role, hgiven]
    nonce := hkeeps.nonce (by rw [hgiven])
    live := by rw [hkeeps.live, onSess_frame, spendNonce_frame] }

/-- A proof that fails leaves the session of the line its role. -/
theorem proofDone_proofFails (r : Role) (i : Fin 3) :
    ProofDone who (sessOf u who).role u (proofFails who r i (spendNonce who u)) := by
  have hkeeps := keepsSession_proofFails who r i (spendNonce who u)
  have hspent := sessOf_spendNonce hline
  exact {
    line := (keepsLine_spendNonce who u).trans hkeeps.line
    role := by rw [hkeeps.role, hspent]
    nonce := hkeeps.nonce (by rw [hspent])
    live := by rw [hkeeps.live, spendNonce_frame] }

end Spent

theorem proofRight_iff (i : Fin 3) (n : Nonce) (proof : List Byte) (s : State) : proofRight i n proof s = true ↔
    (proofMac s s.keys.role[i.val] n.value).take 16 = proof ∧ (s.keys.role[i.val] ≠ 0 ∨ s.part.keysw = .asserted) := by
  simp [proofRight]

section Prove
variable {h : LineHdr} {u : State} {groups : List Text} {proof : List Byte} {n : Nonce} {i : Fin 3}
  (hread : readGroups groups = some proof) (hlength : groups.length = 8) (hnonce : (sessOf u h.sess).nonce = some n)
  (hkey : keyIdx n.role = some i) (htime : u.now ≤ n.expires)
include hread hlength hnonce hkey htime

theorem bodyProve_of_nonce : bodyProve h groups u =
    if proofRight i n proof u then
      ok (proofHolds h.sess n.role i (proofMac u u.keys.role[i.val] n.value) (spendNonce h.sess u))
    else refused .e14 (proofFails h.sess n.role i (spendNonce h.sess u)) := by
  have htime' : ¬ n.expires < (spendNonce h.sess u).now := by
    rw [spendNonce_frame]; exact Nat.not_lt.2 htime
  have hmac : proofMac (spendNonce h.sess u) = proofMac u := by rw [spendNonce_frame]; rfl
  have hkeys : (spendNonce h.sess u).keys = u.keys := by rw [spendNonce_frame]
  have hright : proofRight i n proof (spendNonce h.sess u) = proofRight i n proof u := by
    rw [spendNonce_frame]; rfl
  rw [← hright, ← hmac, ← hkeys]
  simp only [bodyProve, hread, hlength, hnonce, hkey, ne_eq, not_true_eq_false, if_false]
  exact if_neg htime'

theorem bodyProve_right (hmac : (proofMac u u.keys.role[i.val] n.value).take 16 = proof)
    (hempty : u.keys.role[i.val] ≠ 0 ∨ u.part.keysw = .asserted) : bodyProve h groups u =
      ok (proofHolds h.sess n.role i (proofMac u u.keys.role[i.val] n.value) (spendNonce h.sess u)) := by
  rw [bodyProve_of_nonce hread hlength hnonce hkey htime, if_pos ((proofRight_iff ..).2 ⟨hmac, hempty⟩)]

theorem bodyProve_wrong (hwrong : (proofMac u u.keys.role[i.val] n.value).take 16 ≠ proof ∨
      (u.keys.role[i.val] = 0 ∧ u.part.keysw ≠ .asserted)) :
    bodyProve h groups u = refused .e14 (proofFails h.sess n.role i (spendNonce h.sess u)) := by
  have hnot : ¬ proofRight i n proof u = true := by rw [proofRight_iff]; tauto
  rw [bodyProve_of_nonce hread hlength hnonce hkey htime, if_neg hnot]

end Prove

/-! ## The statement -/

/-- Settles O14: the line's work by whether the proof is right, the keys by `failedKeys`, the periods by `lockPeriod`. -/
theorem proofDecides : Obligations.ProofDecides := by
  refine ⟨?decides, rfl, fun n hfive hn => lockPeriod_succ hfive hn, fun n _ => lockPeriod_le n⟩
  intro h s groups proof n i hacc hread hlength hnonce hkey htime
  have hline := lineStart_answer h (txt "PROVE") s hacc.1
  have hkeys : (spendNonce h.sess (lineStart h (txt "PROVE") s)).keys = s.keys := by
    rw [spendNonce_frame]; exact lineStart_keys ..
  have hnow : (spendNonce h.sess (lineStart h (txt "PROVE") s)).now = s.now := by
    rw [spendNonce_frame]; exact lineStart_now ..
  refine ⟨fun hmac hempty => ?right, fun hwrong => ?wrong⟩
  case right =>
    have hbody := bodyProve_right hread hlength hnonce hkey htime hmac hempty
    have hdone := proofDone_proofHolds hline n.role i
      (proofMac (lineStart h (txt "PROVE") s) (lineStart h (txt "PROVE") s).keys.role[i.val] n.value)
    obtain ⟨t, hexec, hreply, honly⟩ := line_replies h (txt "PROVE") (bodyProve h groups) s _ {} hacc hbody hdone.line
    refine ⟨t, hexec, hreply, _, honly, hdone.role, hdone.nonce, ?_⟩
    rw [proofHolds_keys, hkeys, hdone.live, lineStart_live]
    exact ⟨upd_same .., fun j hj => upd_other _ _ _ _ hj.symm, rfl, rfl⟩
  case wrong =>
    have hbody := bodyProve_wrong hread hlength hnonce hkey htime hwrong
    have hdone := proofDone_proofFails hline n.role i
    obtain ⟨t, hexec, hreply, honly⟩ := line_replies h (txt "PROVE") (bodyProve h groups) s _ { err := some .e14 } hacc hbody
      hdone.line
    refine ⟨t, hexec, hreply, _, honly, hdone.role, hdone.nonce, ?_⟩
    rw [proofFails_keys, hkeys, hnow, hdone.live, lineStart_live, failedKeys_fails, failedKeys_role]
    exact ⟨upd_same .., rfl, rfl, failedKeys_lockEnd_of_lt i _ _, failedKeys_lockEnd_of_le i _ _⟩

end Sys2Proof.Machine

/-! THE WATCHMAN OF THE CLOCKS (13 R700–R731): the causes of G31 that a step of the engine keeps, what a window finds, the forced
path, the spread, the measuring counter, and the statement about them. -/

namespace Sys2Proof.Machine

/-! ## The causes of G31 (04 R250)

An alarm step moves the states of the G31 members; their causes follow `setCause` alone. -/

theorem foldl_g31 {α : Type} {f : State → α → State} (hf : ∀ s a, (f s a).engine.g31 = s.engine.g31) (l : List α) (s : State) :
    (l.foldl f s).engine.g31 = s.engine.g31 := by
  induction l generalizing s with
  | nil => rfl
  | cons a l ih => exact (ih _).trans (hf s a)

theorem publish_engine (x : Change) (s : State) : (publish x s).engine = s.engine := by
  unfold publish
  cases x.of <;> dsimp only <;> split <;> simp

theorem markFirst_g31 (chs : List Change) (g : Grp) (s : State) : (markFirst chs g s).engine.g31 = s.engine.g31 := by
  unfold markFirst
  split
  · rfl
  · dsimp only
    split
    · rfl
    · rw [emit_engine]

theorem updateGroup_g31 (g : Grp) (s : State) : (updateGroup g s).engine.g31 = s.engine.g31 := by
  unfold updateGroup
  dsimp only
  split <;> split <;> simp

theorem beginStage_engine (n : NodeNo) (g : Grp) (k : Nat) (code : BitVec 16) (s : State) :
    (beginStage n g k code s).engine = s.engine := by
  simp [beginStage, callChanged, emitCall, sendCall]

theorem endCall_engine (n : NodeNo) (g : Grp) (s : State) : (endCall n g s).engine = s.engine := by
  simp [endCall, callChanged, emitCall, sendCall]

theorem startCall_engine (n : NodeNo) (g : Grp) (cls : Fin 4) (s : State) : (startCall n g cls s).engine = s.engine := by
  simp [startCall, beginStage_engine]

theorem restartCall_engine (n : NodeNo) (g : Grp) (s : State) : (restartCall n g s).engine = s.engine := by
  simp [restartCall, beginStage_engine]

theorem reclassCall_engine (n : NodeNo) (g : Grp) (cls : Fin 4) (s : State) : (reclassCall n g cls s).engine = s.engine := by
  simp [reclassCall, sendCall]

theorem groupCall_engine (n : NodeNo) (g : Grp) (old new : AlarmState) (entered deadman missed : Bool) (s : State) :
    (groupCall n g old new entered deadman missed s).engine = s.engine := by
  simp only [groupCall, apply_ite State.engine, startCall_engine, endCall_engine, restartCall_engine, reclassCall_engine,
    ite_self]

theorem stage3Own_g31 (s : State) : (stage3Own s).engine.g31 = s.engine.g31 := by
  unfold stage3Own
  refine foldl_g31 (fun s g => ?_) _ s
  split
  · rw [beginStage_engine]
  · rfl

theorem commit_g31 (more : List Grp) (w : Moving) : (commit more w).engine.g31 = w.1.engine.g31 := by
  unfold commit publishAll
  refine (foldl_g31 (fun s p => ?call) _ _).trans ?records
  case call => rw [groupCall_engine, apply_ite State.engine, send_engine, ite_self]
  case records =>
    rw [foldl_g31 (fun s g => updateGroup_g31 g s), foldl_g31 (fun s g => markFirst_g31 w.2 g s),
      foldl_g31 (fun s x => congrArg Engine.g31 (publish_engine x s))]

theorem member_onMember (m j : Member) (f : G31Alarm → G31Alarm) (s : State) :
    (onMember m f s).member j = if m = j then f (s.member j) else s.member j := upd_get ..

theorem member_congr {u t : State} (h : t.engine.g31 = u.engine.g31) (j : Member) : t.member j = u.member j := by
  unfold State.member; rw [h]

theorem commit_cause (more : List Grp) (w : Moving) (j : Member) :
    ((commit more w).member j).cause = (w.1.member j).cause := by
  rw [member_congr (commit_g31 more w)]

theorem moveMember_cause (m j : Member) (new : AlarmState) (w : Moving) :
    ((moveMember m new w).1.member j).cause = (w.1.member j).cause := by
  unfold moveMember
  dsimp only
  split
  · rfl
  · dsimp only; rw [member_onMember]; split <;> rfl

/-- The cause of the member takes the value, and that of no other member changes. -/
theorem setCause_cause (m j : Member) (v : Bool) (s : State) :
    ((setCause m v s).member j).cause = if m = j then v else (s.member j).cause := by
  have hput : ((onMember m (fun a => { a with cause := v }) s).member j).cause = if m = j then v else (s.member j).cause := by
    rw [member_onMember]; split <;> rfl
  rw [← hput]
  unfold setCause
  dsimp only
  split
  · rfl
  · split
    · rw [commit_cause]
      split
      · exact moveMember_cause ..
      · exact moveMember_cause ..
      · rfl
    · rw [commit_cause]
      split
      · exact moveMember_cause ..
      · exact moveMember_cause ..
      · rfl

/-! ## What the watchman's findings outlast -/

/-- What the reply of a line that waited and the links' fall to listen-only leave of the watchman's findings. -/
structure KeepsFindings (u t : State) : Prop where
  clk : t.clk = u.clk
  live : t.live = u.live
  slices : t.slices = u.slices
  power : t.power = u.power
  flags : t.flags = u.flags
  cause : (t.member 2).cause = (u.member 2).cause

theorem KeepsFindings.refl (u : State) : KeepsFindings u u := ⟨rfl, rfl, rfl, rfl, rfl, rfl⟩

theorem KeepsFindings.trans {u v t : State} (h : KeepsFindings u v) (h' : KeepsFindings v t) : KeepsFindings u t where
  clk := h'.clk.trans h.clk
  live := h'.live.trans h.live
  slices := h'.slices.trans h.slices
  power := h'.power.trans h.power
  flags := h'.flags.trans h.flags
  cause := h'.cause.trans h.cause

theorem DeliverStep.keepsFindings {u t : State} (h : DeliverStep u t) : KeepsFindings u t := by
  refine ⟨?_, ?_, ?_, ?_, ?_, congrArg G31Alarm.cause (member_congr (by rw [h.rest]) 2)⟩ <;> rw [h.rest]

/-- A step of the engine keeps the findings when it keeps the cause of CLKFAIL. -/
theorem EngineStep.keepsFindings {u t : State} (h : EngineStep u t) (hcause : (t.member 2).cause = (u.member 2).cause) :
    KeepsFindings u t := by
  refine ⟨?_, h.live, h.slices, ?_, ?_, hcause⟩ <;> rw [h.rest]

/-- The links fall to listen-only: of the causes those of the two buses end, and no other (06 R395). -/
theorem keepsFindings_linksToIrc (s : State) : KeepsFindings s (linksToIrc s) := by
  have hfall : ∀ u, KeepsFindings s u → KeepsFindings s (stage3Own (setCause 7 false (setCause 6 false u))) := by
    intro u hu
    have hstep := ((engineStep_setCause 6 false u).trans (engineStep_setCause 7 false _)).trans (engineStep_stage3Own _)
    refine hu.trans (hstep.keepsFindings ?_)
    rw [member_congr (stage3Own_g31 _), setCause_cause, setCause_cause, if_neg (by decide), if_neg (by decide)]
  unfold linksToIrc
  split
  · exact .refl s
  · exact hfall _ ⟨rfl, rfl, rfl, rfl, rfl, rfl⟩

/-- So does the reply of a line whose work, an entry of the interpreter, has ended. -/
theorem KeepsFindings.deliver {u t : State} (h : KeepsFindings u t) (w : Waiter) (r : Reply) :
    KeepsFindings u (deliver w r t) := h.trans (deliverStep_deliver w r t).keepsFindings

theorem keepsFindings_endClockWork (e : Option Err) (s : State) : KeepsFindings s (endClockWork e s) := by
  unfold endClockWork
  split
  · refine .deliver ?_ _ _; exact ⟨rfl, rfl, rfl, rfl, rfl, rfl⟩
  · exact .refl s

theorem keepsFindings_endXoMeasure (s : State) : KeepsFindings s (endXoMeasure s) := by
  unfold endXoMeasure
  split
  · split
    · refine .deliver ?_ _ _; exact ⟨rfl, rfl, rfl, rfl, rfl, rfl⟩
    · exact .refl s
  · exact .refl s

/-- The forced path puts the domains on the IRC, the PLL to lock on it, and moves no other of the clocks (13 R707–R711). -/
theorem keepsFindings_forcedPath (s : State) :
    KeepsFindings (onClk (fun c => { c with chain := .irc, goal := some .ircChain }) s) (forcedPath s) := by
  unfold forcedPath
  dsimp only
  split
  · exact (keepsFindings_linksToIrc _).trans (keepsFindings_endClockWork ..)
  · exact keepsFindings_linksToIrc _

/-! ## CLKFAIL (13 R712) -/

theorem Flag.drive_live (v : Bool) (f : Flag) : (Flag.drive v f).live = v := by
  unfold Flag.drive
  split
  · simp_all
  · rfl

theorem Flag.drive_of_live_eq {v : Bool} {f : Flag} (h : f.live = v) : Flag.drive v f = f := by
  subst h; obtain ⟨live, latched, again⟩ := f; cases live <;> rfl

theorem engineStep_clkFailCause (v : Bool) (s : State) :
    EngineStep { s with flags := { s.flags with clkFail := s.flags.clkFail.drive v } } (clkFailCause v s) :=
  engineStep_setCause ..

/-- What the record of a failure of the XO leaves beside CLKFAIL and its cause (13 R712, R716). -/
structure XoFailed (u t : State) : Prop where
  failed : t.clk.xoFailed = true
  passed : t.clk.xoPassed = u.clk.xoPassed
  live : t.live = u.live
  slices : t.slices = u.slices
  flag : t.flags.clkFail.live = true
  cause : (t.member 2).cause = true

theorem xoFailed_xoFails (cause count : Nat) (s : State) : XoFailed s (xoFails cause count s) := by
  have hstep := fun u => (engineStep_clkFailCause true u).rest
  refine ⟨?failed, ?passed, ?live, ?slices, ?flag, setCause_cause ..⟩ <;> unfold xoFails <;> dsimp only <;> rw [hstep]
  case flag => exact Flag.drive_live ..
  all_goals simp [emitClk, onClk]

/-! ## A window of the XO (13 R705) -/

/-- The domains run on the XO, or the PLL locks on it. -/
def xoInUse (s : State) : Bool := decide (s.clk.chain = .xo) || decide (s.clk.goal = some .xo)

/-- The window finds the XO failed: its count is off, or the PLL referenced to it has lost its lock. -/
def windowFails (count : Nat) (lost : Bool) (s : State) : Bool := xoOff s.clk.xofreq count || (lost && xoInUse s)

/-- A window's count and result, as CLOCK.XOCOUNT and the return to the XO read them (13 R705, R715). -/
def windowNoted (count : Nat) (fails : Bool) (s : State) : State :=
  onClk (fun c => { c with
    xoCount := count, xoPassed := !fails
    healthySince := if fails then none else some (c.healthySince.getD s.now) }) s

/-- An eighth of 16 · XOFREQ is 2 · XOFREQ, so a count within 12.5 % lies between 14 and 18 times XOFREQ. -/
theorem xoOff_iff (f count : Nat) : xoOff f count = true ↔ count = 0 ∨ 18 * f < count ∨ count < 14 * f := by
  simp only [xoOff, Bool.or_eq_true, decide_eq_true_eq]
  omega

theorem windowFails_iff (count : Nat) (lost : Bool) (s : State) : windowFails count lost s = true ↔
    count = 0 ∨ 18 * s.clk.xofreq < count ∨ count < 14 * s.clk.xofreq ∨ (lost = true ∧ xoInUse s = true) := by
  rw [windowFails, Bool.or_eq_true, xoOff_iff, Bool.and_eq_true]
  tauto

section Window
variable {count : Nat} {lost : Bool} {s : State}

theorem xoMonitorWindow_passes (hpass : windowFails count lost s = false) :
    xoMonitorWindow count lost s = windowNoted count false s := by
  have hpass' : (xoOff s.clk.xofreq count || (lost && (decide (s.clk.chain = .xo) || decide (s.clk.goal = some .xo)))) = false :=
    hpass
  simp only [xoMonitorWindow, hpass', if_true, windowNoted]

theorem xoMonitorWindow_fails (hfail : windowFails count lost s = true) : xoMonitorWindow count lost s =
    let u := endXoMeasure (windowNoted count true s)
    if xoInUse s = false ∨ u.power.mode = .deep then u
    else forcedPath (if u.live.clock.srcIrc ∨ u.clk.xoFailed then u else xoFails (xoCauseNo u.clk.xofreq count) count u) := by
  have hfail' : (xoOff s.clk.xofreq count || (lost && (decide (s.clk.chain = .xo) || decide (s.clk.goal = some .xo)))) = true :=
    hfail
  simp only [xoMonitorWindow, hfail', Bool.true_eq_false, if_false]
  rfl

/-- A failed window of an XO that is not in use is noted, and ends a measurement of it at most (13 R731). -/
theorem keepsFindings_xoMonitorWindow_unused (hfail : windowFails count lost s = true) (hunused : xoInUse s = false) :
    KeepsFindings (windowNoted count true s) (xoMonitorWindow count lost s) := by
  rw [xoMonitorWindow_fails hfail]
  dsimp only
  rw [if_pos (.inl hunused)]
  exact keepsFindings_endXoMeasure _

/-- A failed window of the XO in use ends on the forced path, with a record of the failure unless the IRC was set or the XO
had failed before (13 R707, R712). -/
theorem xoMonitorWindow_forces (hfail : windowFails count lost s = true) (huse : xoInUse s = true)
    (hmode : s.power.mode ≠ .deep) :
    ∃ u v, KeepsFindings (windowNoted count true s) u ∧
      (v = u ∨ XoFailed u v) ∧ (s.live.clock.srcIrc = false → s.clk.xoFailed = false → XoFailed u v) ∧
      xoMonitorWindow count lost s = forcedPath v := by
  have hkeeps := keepsFindings_endXoMeasure (windowNoted count true s)
  have hgoes : ¬ (xoInUse s = false ∨ (endXoMeasure (windowNoted count true s)).power.mode = .deep) := by
    rw [hkeeps.power, huse]
    exact fun h => h.elim Bool.noConfusion hmode
  refine ⟨_, _, hkeeps, ?_, ?_, (xoMonitorWindow_fails hfail).trans (if_neg hgoes)⟩
  · split
    · exact .inl rfl
    · exact .inr (xoFailed_xoFails ..)
  · intro hsrc hfailed
    rw [if_neg]
    · exact xoFailed_xoFails ..
    · rw [hkeeps.live, hkeeps.clk]
      simp [windowNoted, onClk, hsrc, hfailed]

end Window

/-! ## The return to the XO (13 R715, R716) -/

theorem xoReturn_due {s : State} {t : Tick} (hsince : s.clk.healthySince = some t) (hfailed : s.clk.xoFailed = true)
    (hauto : s.clk.autoStopped = false) (hchain : s.clk.chain = .ircChain) (hgoal : s.clk.goal = none)
    (hmode : s.power.mode ≠ .deep) (hdue : t + 9850000 ≤ s.now) :
    xoReturn s = { s with clk := { s.clk with chain := .irc, goal := some .xo } } := by
  simp [xoReturn, onClk, hsince, hfailed, hauto, hchain, hgoal, hmode, hdue]

theorem xoReturn_early {s : State} {t : Tick} (hsince : s.clk.healthySince = some t) (hearly : s.now < t + 9850000) :
    xoReturn s = s := by
  simp [xoReturn, hsince, Nat.not_le.2 hearly]

theorem xoReturn_stopped {s : State} (hauto : s.clk.autoStopped = true) : xoReturn s = s := by
  unfold xoReturn
  split
  · simp [hauto]
  · rfl

/-! ## A window of the LPO (13 R713) -/

/-- The LPO is found failed: LPOFAIL is live, the panel has left the LPO, and the record is made where LPOFAIL was not live. -/
def lpoFound (count : Nat) (s : State) : State :=
  let u := onClk (fun c => { c with lpoCount := count, lpoFail := c.lpoFail.drive true }) s
  onClk (fun c => { c with panelLpo := false }) (if s.clk.lpoFail.live then u else emitClk 0x0626 (two16 count) u)

theorem LogOnly.onClk {u t : State} (f : Clocks → Clocks) (h : LogOnly u t) : LogOnly (onClk f u) (onClk f t) := by
  unfold LogOnly at h
  rw [h]; rfl

theorem logOnly_lpoFound (count : Nat) (s : State) : LogOnly
    { s with clk := { s.clk with lpoCount := count, lpoFail := s.clk.lpoFail.drive true, panelLpo := false } }
    (lpoFound count s) := by
  have hrecord : LogOnly (onClk (fun c => { c with lpoCount := count, lpoFail := c.lpoFail.drive true }) s)
      (if s.clk.lpoFail.live then onClk (fun c => { c with lpoCount := count, lpoFail := c.lpoFail.drive true }) s
        else emitClk 0x0626 (two16 count) (onClk (fun c => { c with lpoCount := count, lpoFail := c.lpoFail.drive true }) s)) := by
    split
    · exact .refl _
    · exact logOnly_emit ..
  exact hrecord.onClk fun c => { c with panelLpo := false }

section Lpo
variable {count : Nat} {s : State}

theorem lpoMonitorWindow_passes (hlow : 29 ≤ count) (hhigh : count ≤ 38) : lpoMonitorWindow count s =
    { s with clk := { s.clk with lpoCount := count, lpoFail := s.clk.lpoFail.drive false } } := by
  simp [lpoMonitorWindow, onClk, Nat.not_lt.2 hlow, Nat.not_lt.2 hhigh]

theorem lpoFound_interp (count : Nat) (s : State) : (lpoFound count s).interp = s.interp := by
  rw [logOnly_lpoFound count s]

/-- A move of the panel to the LPO that is under way is refused (13 R713). -/
theorem lpoMonitorWindow_refuses (hfail : count < 29 ∨ 38 < count) {since : Tick} {w : Waiter}
    (hmove : s.interp.panelClock = some (.panelClock true since w)) : lpoMonitorWindow count s =
      deliver w { err := some .e13 }
        { lpoFound count s with interp := { (lpoFound count s).interp with panelClock := none } } := by
  have hbad : (decide (count < 29) || decide (38 < count)) = true := by simpa using hfail
  cases hlive : s.clk.lpoFail.live <;>
    simp [lpoMonitorWindow, lpoFound, plainReply, emitClk, onClk, hbad, hlive, hmove]

theorem lpoMonitorWindow_fails (hfail : count < 29 ∨ 38 < count)
    (hnone : ∀ since w, s.interp.panelClock ≠ some (.panelClock true since w)) : lpoMonitorWindow count s = lpoFound count s := by
  have hbad : (decide (count < 29) || decide (38 < count)) = true := by simpa using hfail
  cases hlive : s.clk.lpoFail.live <;>
    simp [lpoMonitorWindow, lpoFound, emitClk, onClk, hbad, hlive]

end Lpo

/-! ## The reply to a line that waited -/

theorem deliver_measure (w : Waiter) (r : Reply) (s : State) : (deliver w r s).interp.measure = s.interp.measure := by
  rw [(deliverStep_deliver w r s).rest]

theorem deliver_panelClock (w : Waiter) (r : Reply) (s : State) : (deliver w r s).interp.panelClock = s.interp.panelClock := by
  rw [(deliverStep_deliver w r s).rest]

/-- A reply comes to a line that waits, whatever has moved since beside the port and the consoles. -/
theorem answerCame_of_port {w : Waiter} {r : Reply} {s u : State} (hport : u.port = s.port)
    (hconsoles : u.interp.consoles = s.interp.consoles) (hwaits : Awaits s w) :
    AnswerCame w r s (settle (deliver w r u)) := by
  have hanswer : answerAt u w.sess = answerAt s w.sess := by
    cases w.sess with
    | host => exact congrArg (some ·.answer) hport
    | console k => simp only [answerAt, consoleOf_congr hconsoles]
    | script n => rfl
  have hend : lineEnd u w.sess = lineEnd s w.sess := by
    cases w.sess with
    | host => simp only [lineEnd, hport]
    | _ => rfl
  have hcame := deliver_came w r u (by unfold Awaits; rw [hanswer]; exact hwaits)
  unfold AnswerCame at hcame ⊢
  rw [hcame, hanswer, hend]

/-! ## The spread (13 R719, R720) -/

theorem logOnly_pinCause (v : Bool) (s : State) :
    LogOnly (onClk (fun c => { c with sscPin := c.sscPin.drive v }) s) (pinCause v s) := by
  unfold pinCause
  split
  case isTrue hlive =>
    have hsame : onClk (fun c => { c with sscPin := c.sscPin.drive v }) s = s := by
      simp only [onClk, Flag.drive_of_live_eq hlive]
    rw [hsame]
    exact .refl s
  case isFalse => exact logOnly_emit ..

section Spread
variable {s : State}

theorem sscComplaint_above (habove : s.live.clock.sscMin < s.clk.sscNow) :
    sscComplaint s = { s with clk := { s.clk with sscNow := s.clk.sscNow - 1, sscAt := s.now } } :=
  if_neg (Nat.not_le.2 habove)

theorem logOnly_sscComplaint_least (hleast : s.clk.sscNow ≤ s.live.clock.sscMin) : LogOnly
    { s with clk := { s.clk with sscAt := s.now, sscPin := s.clk.sscPin.drive true } } (sscComplaint s) := by
  unfold sscComplaint
  rw [if_pos hleast]
  exact logOnly_pinCause true _

theorem sscRaise_due (hdue : s.clk.sscAt + 100000 ≤ s.now) : sscRaise s =
    if (pinCause false s).clk.sscNow < (pinCause false s).live.clock.sscDepth then
      onClk (fun c => { c with sscNow := c.sscNow + 1, sscAt := (pinCause false s).now }) (pinCause false s)
    else pinCause false s := if_pos hdue

theorem logOnly_sscRaise_below (hdue : s.clk.sscAt + 100000 ≤ s.now) (hbelow : s.clk.sscNow < s.live.clock.sscDepth) : LogOnly
    { s with clk := { s.clk with sscNow := s.clk.sscNow + 1, sscAt := s.now, sscPin := s.clk.sscPin.drive false } }
    (sscRaise s) := by
  have hpin := logOnly_pinCause false s
  have hraise := hpin.onClk fun c => { c with sscNow := c.sscNow + 1, sscAt := s.now }
  rw [sscRaise_due hdue]
  unfold LogOnly at hpin
  rw [if_pos (by rw [hpin]; exact hbelow), show (pinCause false s).now = s.now by rw [hpin]; rfl]
  exact hraise

theorem logOnly_sscRaise_full (hdue : s.clk.sscAt + 100000 ≤ s.now) (hfull : s.live.clock.sscDepth ≤ s.clk.sscNow) : LogOnly
    { s with clk := { s.clk with sscPin := s.clk.sscPin.drive false } } (sscRaise s) := by
  have hpin := logOnly_pinCause false s
  rw [sscRaise_due hdue, if_neg]
  · exact hpin
  · unfold LogOnly at hpin
    rw [hpin]
    exact Nat.not_lt.2 hfull

theorem sscRaise_early (hearly : s.now < s.clk.sscAt + 100000) : sscRaise s = s := if_neg (Nat.not_le.2 hearly)

end Spread

/-! ## The measuring counter (13 R724–R726) -/

theorem lineStart_clk (h : LineHdr) (verb : Text) (s : State) : (lineStart h verb s).clk = s.clk := by
  unfold lineStart latchPoint; rw [takeLine_frame, thawView_frame, timeoutFirst_frame]

theorem endSession_measure (who : Sess) (cause : Nat) (s : State) :
    (endSession who cause s).interp.measure = s.interp.measure := by
  unfold endSession
  split
  · cases who <;> simp [onSess]
  · rfl

/-- Taking a line leaves a measurement under way, a timeout before it included. -/
theorem lineStart_measure (h : LineHdr) (verb : Text) (s : State) :
    (lineStart h verb s).interp.measure = s.interp.measure := by
  have htimeout : (timeoutFirst h.sess s).interp.measure = s.interp.measure := by
    unfold timeoutFirst
    cases h.sess with
    | host =>
      dsimp only
      split
      · exact endSession_measure ..
      · rfl
    | _ => rfl
  have htake : ∀ u, (takeLine h verb u).interp.measure = u.interp.measure := by
    intro u; unfold takeLine; cases h.sess <;> rfl
  unfold lineStart latchPoint
  rw [htake, thawView_consoles, htimeout]

theorem clkHz_congr {u s : State} (hclk : u.clk = s.clk) (c : ClkName) : clkHz u c = clkHz s c := by
  cases c <;> simp only [clkHz, hclk]

theorem clkPasses_congr {u s : State} (hclk : u.clk = s.clk) (edges : Nat) (c : ClkName) :
    clkPasses u edges c = clkPasses s edges c := by
  cases c <;> simp only [clkPasses, hclk]

/-- The n of the gate's 2ⁿ cycles as a line gives it, 20 where it gives none (13 R724). -/
def gateWord (word : Option Text) : Except Err Nat := (word.map readWhole).getD (.ok 20)

section Measure
variable {h : LineHdr} {u : State} {a b : ClkName} {word : Option Text} {n ea eb : Nat}

/-- A line with a lawful gate over two clocks that exist: a measurement under way is E08, a clock that does not pass E13. -/
theorem bodyMeasure_lawful (hword : gateWord word = .ok n) (ha : clkFitted u.ident.part a = true)
    (hb : clkFitted u.ident.part b = true) (hmay : may u h .engineer = true) (hleast : 8 ≤ n) (hmost : n ≤ 24) (hne : a ≠ b)
    (hlong : 2 ^ n ≤ 10 * clkHz u b) (hshort : clkHz u b ≤ 2 ^ n * 1000) :
    bodyMeasure h (some a) (some b) word ea eb u =
      if u.interp.measure.isSome then refused .e08 u
      else if (clkPasses u ea a && clkPasses u eb b) = false then refused .e13 u
      else held { u with interp := { u.interp with measure := some (.measure a b n u.now (waiter h u)) } } := by
  have hlawful : ¬ (n < 8 ∨ 24 < n ∨ a = b) := by
    rintro (hlow | hhigh | heq)
    · omega
    · omega
    · exact hne heq
  have hgate : ¬ (10 * clkHz u b < 2 ^ n ∨ 2 ^ n * 1000 < clkHz u b) := by omega
  cases word with
  | none =>
    obtain rfl : 20 = n := Except.ok.inj hword
    simp only [bodyMeasure, ha, hb, hmay, Bool.true_eq_false, or_self, if_false]
    rw [if_neg hlawful, if_neg hgate]
  | some w =>
    have hread : readWhole w = .ok n := hword
    simp only [bodyMeasure, hread, ha, hb, hmay, Bool.true_eq_false, or_self, if_false]
    rw [if_neg hlawful, if_neg hgate]

variable {s : State} {count : Nat} {since : Tick} {w : Waiter} (hgate : s.interp.measure = some (.measure a b n since w))
include hgate

theorem measurementGateClose_early (hopen : gateOver b n since s = false) : measurementGateClose count s = s := by
  simp [measurementGateClose, hgate, hopen]

theorem measurementGateClose_over (hover : gateOver b n since s = true) : measurementGateClose count s =
    deliver w { data := [unwords [txt "= MEASURE", clkText a, txt "AGAINST", clkText b, showNat n, showNat count,
      ppmText s a b n count]] } { s with interp := { s.interp with measure := none } } := by
  simp [measurementGateClose, hgate, hover]

end Measure

/-! ## The statement -/

/-- A window of the XO, in the three ways in which it can end (13 R705, R707, R712). -/
theorem does_xoMonitorWindow (s : State) (count : Nat) (lost : Bool) :
    (windowFails count lost s = false → Does (.xoMonitorWindow count lost) s (windowNoted count false s)) ∧
    (windowFails count lost s = true → xoInUse s = false → DoesSo (.xoMonitorWindow count lost) s fun w =>
      w.clk = (windowNoted count true s).clk ∧ w.live = s.live ∧ w.slices = s.slices) ∧
    (windowFails count lost s = true → xoInUse s = true → s.power.mode ≠ .deep →
      DoesSo (.xoMonitorWindow count lost) s fun w =>
        w.clk.chain = .irc ∧ w.clk.goal = some .ircChain ∧ w.clk.xoPassed = false ∧ w.live = s.live ∧
        w.slices = s.slices ∧ (s.live.clock.srcIrc = false → s.clk.xoFailed = false → w.clk.xoFailed = true ∧
          w.flags.clkFail.live = true ∧ (w.member 2).cause = true)) := by
  refine ⟨fun hpass => ⟨_, rfl, ?_⟩, fun hfail hunused => ⟨_, rfl, _, rfl, ?_⟩, fun hfail huse hmode => ⟨_, rfl, _, rfl, ?_⟩⟩
  · rw [xoMonitorWindow_passes hpass]; rfl
  · have hkeeps := keepsFindings_xoMonitorWindow_unused hfail hunused
    exact ⟨hkeeps.clk, hkeeps.live, hkeeps.slices⟩
  · obtain ⟨u, v, hnoted, hrecorded, hnew, hends⟩ := xoMonitorWindow_forces hfail huse hmode
    have hforced := keepsFindings_forcedPath v
    rw [hends, hforced.clk, hforced.live, hforced.slices, hforced.flags, hforced.cause]
    have hv : v.clk.xoPassed = u.clk.xoPassed ∧ v.live = u.live ∧ v.slices = u.slices := by
      rcases hrecorded with rfl | hx
      · exact ⟨rfl, rfl, rfl⟩
      · exact ⟨hx.passed, hx.live, hx.slices⟩
    obtain ⟨hpassed, hlive, hslices⟩ := hv
    refine ⟨rfl, rfl, ?_, hlive.trans hnoted.live, hslices.trans hnoted.slices, fun hsrc hold => ?_⟩
    · exact hpassed.trans (by rw [hnoted.clk]; rfl)
    · have hx := hnew hsrc hold
      exact ⟨hx.failed, hx.flag, hx.cause⟩

/-- A window that finds the LPO failed: the clocks as `lpoFound` leaves them, and E13 to the line whose move of the panel to the
LPO is under way (13 R713). -/
theorem next_lpoMonitorWindow_fails (s : State) (count : Nat) (hfail : count < 29 ∨ 38 < count) :
    Next (.lpoMonitorWindow count) s fun t =>
      t.clk = { s.clk with lpoCount := count, lpoFail := s.clk.lpoFail.drive true, panelLpo := false } ∧ t.live = s.live ∧
      (∀ (since : Tick) (x : Waiter), s.interp.panelClock = some (.panelClock true since x) →
        t.interp.panelClock = none ∧ (Awaits s x → AnswerCame x { err := some .e13 } s t)) := by
  refine ⟨_, rfl, ?_⟩
  have hfound := logOnly_lpoFound count s
  by_cases hmove : ∃ since w, s.interp.panelClock = some (.panelClock true since w)
  · obtain ⟨since, w, hmove⟩ := hmove
    rw [lpoMonitorWindow_refuses hfail hmove]
    have hkeeps := (deliverStep_deliver w { err := some .e13 }
      { lpoFound count s with interp := { (lpoFound count s).interp with panelClock := none } }).keepsFindings
    refine ⟨hkeeps.clk.trans (by rw [hfound]), hkeeps.live.trans (by rw [hfound]), fun since' x hx => ?_⟩
    obtain ⟨-, rfl⟩ : since = since' ∧ w = x := by simpa [hmove] using hx
    exact ⟨deliver_panelClock .., fun hwaits => answerCame_of_port (by rw [hfound]) (by rw [hfound]) hwaits⟩
  · rw [lpoMonitorWindow_fails hfail fun since w hw => hmove ⟨since, w, hw⟩, hfound]
    exact ⟨rfl, rfl, fun since x hx => absurd ⟨since, x, hx⟩ hmove⟩

/-- The gate closes: the reply of the line that waited gives the count (13 R726). -/
theorem next_measurementGateClose_over (s : State) (count : Nat) {a b : ClkName} {n : Nat} {since : Tick} {w : Waiter}
    (hgate : s.interp.measure = some (.measure a b n since w)) (hover : gateOver b n since s = true) :
    Next (.measurementGateClose count) s fun t => t.interp.measure = none ∧ t.clk = s.clk ∧ t.live = s.live ∧
      (Awaits s w → AnswerCame w { data := [unwords [txt "= MEASURE", clkText a, txt "AGAINST", clkText b, showNat n,
        showNat count, ppmText s a b n count]] } s t) := by
  refine ⟨_, rfl, ?_⟩
  rw [measurementGateClose_over hgate hover]
  have hkeeps := (deliverStep_deliver w { data := [unwords [txt "= MEASURE", clkText a, txt "AGAINST", clkText b, showNat n,
    showNat count, ppmText s a b n count]] } { s with interp := { s.interp with measure := none } }).keepsFindings
  exact ⟨deliver_measure .., hkeeps.clk, hkeeps.live, fun hwaits => answerCame_of_port rfl rfl hwaits⟩

/-- Settles O52: the XO by whether its window fails and whether it is in use, each other event by the lemma that says what its
effect is in that case. -/
theorem watchmanGuardsClocks : Obligations.WatchmanGuardsClocks := by
  refine ⟨?xo, ?lpo, ?spread, ?measure, ?gate⟩
  case xo =>
    rintro s count lost _ rfl
    obtain ⟨hpasses, hunused, hused⟩ := does_xoMonitorWindow s count lost
    refine ⟨?_, fun t hsince hfailed hauto hchain hgoal hmode => ⟨fun hdue => ?_, fun hearly => ?_⟩, fun hauto => ?_⟩
    · rintro _ rfl
      refine ⟨fun hpos hhigh hlow hlost => hpasses ?_, fun hoff => ?_⟩
      · rw [Bool.eq_false_iff, Ne, windowFails_iff]
        rintro (hzero | hover | hunder | ⟨hlock, huse⟩)
        · omega
        · omega
        · omega
        · exact Bool.false_ne_true ((hlost hlock).symm.trans huse)
      · have hfail := (windowFails_iff count lost s).2 hoff
        exact ⟨hunused hfail, hused hfail⟩
    · exact ⟨_, rfl, congrArg settle (xoReturn_due hsince hfailed hauto hchain hgoal hmode hdue)⟩
    · exact ⟨_, rfl, congrArg settle (xoReturn_early hsince hearly)⟩
    · exact ⟨_, rfl, congrArg settle (xoReturn_stopped hauto)⟩
  case lpo =>
    intro s count
    exact ⟨fun hlow hhigh => ⟨_, rfl, congrArg settle (lpoMonitorWindow_passes hlow hhigh)⟩,
      next_lpoMonitorWindow_fails s count⟩
  case spread =>
    intro s
    exact ⟨fun habove => ⟨_, rfl, congrArg settle (sscComplaint_above habove)⟩,
      fun hleast => ⟨_, rfl, _, logOnly_sscComplaint_least hleast, rfl⟩,
      fun hdue hbelow => ⟨_, rfl, _, logOnly_sscRaise_below hdue hbelow, rfl⟩,
      fun hdue hfull => ⟨_, rfl, _, logOnly_sscRaise_full hdue hfull, rfl⟩,
      fun hearly => ⟨_, rfl, congrArg settle (sscRaise_early hearly)⟩⟩
  case measure =>
    intro h s a b word n ea eb u hacc hu hword ha hb hmay hleast hmost hne hlong hshort
    subst hu
    have hclk := lineStart_clk h (txt "MEASURE") s
    have hbody := bodyMeasure_lawful (ea := ea) (eb := eb) (h := h) (u := lineStart h (txt "MEASURE") s) (word := word) (n := n)
      (by cases word with
        | none => exact congrArg Except.ok hword.symm
        | some w => exact hword)
      (by rw [lineStart_ident]; exact ha) (by rw [lineStart_ident]; exact hb) hmay hleast hmost hne
      (by rw [clkHz_congr hclk]; exact hlong) (by rw [clkHz_congr hclk]; exact hshort)
    rw [lineStart_measure, clkPasses_congr hclk, clkPasses_congr hclk] at hbody
    refine ⟨fun hbusy => ?_, fun hfree hpa hpb => ?_, fun hfree hfails => ?_⟩
    · rw [if_pos (Option.isSome_iff_ne_none.2 hbusy)] at hbody
      exact line_refused h (txt "MEASURE") _ s .e08 hacc hbody
    · simp only [hfree, hpa, hpb] at hbody
      exact line_held h (txt "MEASURE") _ s _ hacc hbody (by cases hs : h.sess <;> exact ⟨rfl, rfl, rfl⟩)
    · have hnot : (clkPasses s ea a && clkPasses s eb b) = false := by
        rw [Bool.and_eq_false_iff]; exact hfails
      simp only [hfree, hnot] at hbody
      exact line_refused h (txt "MEASURE") _ s .e13 hacc hbody
  case gate =>
    intro s a b n count since w hgate
    exact ⟨fun hopen => ⟨_, rfl, congrArg settle (measurementGateClose_early hgate hopen)⟩,
      next_measurementGateClose_over s count hgate⟩

end Sys2Proof.Machine

/-! WHAT THE SHARED KINDS OF STEP KEEP: the parts of the state that a record for the logbook, a step of the engine, a reply and a
line's beginning leave as they were. -/

namespace Sys2Proof.Machine

/-! ## A record for the logbook -/

theorem logOnly_emitBlock (i : Nat) (code : BitVec 16) (value : BitVec 32) (bytes : List Nat) (s : State) :
    LogOnly s (emitBlock i code value bytes s) := logOnly_emit ..

theorem logOnly_emitSess (who : Sess) (code : BitVec 16) (value : BitVec 32) (bytes : List Nat) (s : State) :
    LogOnly s (emitSess who code value bytes s) := logOnly_emit ..

theorem logOnly_emitCh (c : Ch) (code : BitVec 16) (bytes : List Nat) (s : State) :
    LogOnly s (emitCh c code bytes s) := logOnly_emit ..

theorem logOnly_emitUnit (u : Unit64) (code : BitVec 16) (bytes : List Nat) (s : State) :
    LogOnly s (emitUnit u code bytes s) := logOnly_emit ..

theorem logOnly_emitCall (g : Grp) (code : BitVec 16) (c : Call) (u : Nat) (s : State) :
    LogOnly s (emitCall g code c u s) := logOnly_emit ..

theorem logOnly_emitDead (code : BitVec 16) (u : Nat) (s : State) :
    LogOnly s (emitDead code u s) := logOnly_emit ..

theorem logOnly_emitClk (code : BitVec 16) (bytes : List Nat) (s : State) :
    LogOnly s (emitClk code bytes s) := logOnly_emit ..

theorem logOnly_emitAction (a : Nat) (t : Target) (o n m : Nat) (s : State) :
    LogOnly s (emitAction a t o n m s) := logOnly_emit ..

theorem logOnly_logWrite (code : BitVec 16) (src : Nat × Nat) (i : SettingId) (old new : BitVec 32) (s : State) :
    LogOnly s (logWrite code src i old new s) := logOnly_emit ..

section LogOnly
variable {u t : State} (h : LogOnly u t)
include h

theorem LogOnly.now : t.now = u.now := by rw [h]
theorem LogOnly.nodeTime : t.nodeTime = u.nodeTime := by rw [h]
theorem LogOnly.ident : t.ident = u.ident := by rw [h]
theorem LogOnly.live : t.live = u.live := by rw [h]
theorem LogOnly.images : t.images = u.images := by rw [h]
theorem LogOnly.part : t.part = u.part := by rw [h]
theorem LogOnly.keys : t.keys = u.keys := by rw [h]
theorem LogOnly.slices : t.slices = u.slices := by rw [h]
theorem LogOnly.dies : t.dies = u.dies := by rw [h]
theorem LogOnly.engine : t.engine = u.engine := by rw [h]
theorem LogOnly.caller : t.caller = u.caller := by rw [h]
theorem LogOnly.watch : t.watch = u.watch := by rw [h]
theorem LogOnly.can : t.can = u.can := by rw [h]
theorem LogOnly.panel : t.panel = u.panel := by rw [h]
theorem LogOnly.port : t.port = u.port := by rw [h]
theorem LogOnly.interp : t.interp = u.interp := by rw [h]
theorem LogOnly.clk : t.clk = u.clk := by rw [h]
theorem LogOnly.mem : t.mem = u.mem := by rw [h]
theorem LogOnly.rst : t.rst = u.rst := by rw [h]
theorem LogOnly.flags : t.flags = u.flags := by rw [h]
theorem LogOnly.pins : t.pins = u.pins := by rw [h]

end LogOnly

/-! ## A step of the engine -/

section EngineStep
variable {u t : State} (h : EngineStep u t)
include h

theorem EngineStep.now : t.now = u.now := by rw [h.rest]
theorem EngineStep.ident : t.ident = u.ident := by rw [h.rest]
theorem EngineStep.images : t.images = u.images := by rw [h.rest]
theorem EngineStep.part : t.part = u.part := by rw [h.rest]
theorem EngineStep.keys : t.keys = u.keys := by rw [h.rest]
theorem EngineStep.power : t.power = u.power := by rw [h.rest]
theorem EngineStep.rst : t.rst = u.rst := by rw [h.rest]
theorem EngineStep.stor : t.stor = u.stor := by rw [h.rest]
theorem EngineStep.flags : t.flags = u.flags := by rw [h.rest]
theorem EngineStep.pins : t.pins = u.pins := by rw [h.rest]
theorem EngineStep.clk : t.clk = u.clk := by rw [h.rest]
theorem EngineStep.mem : t.mem = u.mem := by rw [h.rest]
theorem EngineStep.dead : t.caller.dead = u.caller.dead := by rw [h.rest]
theorem EngineStep.running : t.engine.running = u.engine.running := by rw [h.rest]
theorem EngineStep.hold : t.engine.hold = u.engine.hold := by rw [h.rest]

end EngineStep

/-! ## A reply to a line that waited -/

section DeliverStep
variable {u t : State} (h : DeliverStep u t)
include h

theorem DeliverStep.now : t.now = u.now := by rw [h.rest]
theorem DeliverStep.nodeTime : t.nodeTime = u.nodeTime := by rw [h.rest]
theorem DeliverStep.ident : t.ident = u.ident := by rw [h.rest]
theorem DeliverStep.live : t.live = u.live := by rw [h.rest]
theorem DeliverStep.images : t.images = u.images := by rw [h.rest]
theorem DeliverStep.part : t.part = u.part := by rw [h.rest]
theorem DeliverStep.keys : t.keys = u.keys := by rw [h.rest]
theorem DeliverStep.slices : t.slices = u.slices := by rw [h.rest]
theorem DeliverStep.engine : t.engine = u.engine := by rw [h.rest]
theorem DeliverStep.caller : t.caller = u.caller := by rw [h.rest]
theorem DeliverStep.clk : t.clk = u.clk := by rw [h.rest]
theorem DeliverStep.mem : t.mem = u.mem := by rw [h.rest]
theorem DeliverStep.power : t.power = u.power := by rw [h.rest]
theorem DeliverStep.flags : t.flags = u.flags := by rw [h.rest]
theorem DeliverStep.stor : t.stor = u.stor := by rw [h.rest]

end DeliverStep

end Sys2Proof.Machine

/-! WHAT TAKING A LINE LEAVES (10 R577, 12 R653): a timeout that has come, the view let go, and the line itself touch the sessions
and their records, nothing else. -/

namespace Sys2Proof.Machine

/-- What taking a line touches. -/
def LineTaken (u t : State) : Prop :=
  t = { u with
    log := { u.log with incoming := t.log.incoming }
    lx := t.lx
    watch := { u.watch with frozen := t.watch.frozen, view := t.watch.view, shadow := t.watch.shadow }
    interp := { u.interp with consoles := t.interp.consoles, count := t.interp.count, wdi := t.interp.wdi }
    port := { u.port with
      sess := t.port.sess, last := t.port.last, answer := t.port.answer, line := t.port.line, inLine := t.port.inLine
      latched := t.port.latched, out := t.port.out, events := t.port.events } }

theorem LineTaken.trans {u v t : State} (h : LineTaken u v) (h' : LineTaken v t) : LineTaken u t := by
  unfold LineTaken at *
  rw [h', h]

theorem LogOnly.lineTaken {u t : State} (h : LogOnly u t) : LineTaken u t := by
  unfold LineTaken; rw [h]

theorem lineTaken_endSession (who : Sess) (cause : Nat) (s : State) : LineTaken s (endSession who cause s) := by
  unfold endSession
  split
  · have hlog := (logOnly_emitSess who 0x0503 0 [cause] s).lineTaken
    refine hlog.trans ?_
    cases who <;> rfl
  · rfl

theorem lineTaken_timeoutFirst (who : Sess) (s : State) : LineTaken s (timeoutFirst who s) := by
  unfold timeoutFirst
  cases who with
  | host =>
    dsimp only
    split
    · exact (lineTaken_endSession .host 1 s).trans rfl
    · rfl
  | console k => rfl
  | script n => rfl

theorem lineTaken_thawView (s : State) : LineTaken s (thawView s) := by unfold thawView; split <;> rfl

theorem lineTaken_takeLine (h : LineHdr) (verb : Text) (s : State) : LineTaken s (takeLine h verb s) := by
  unfold takeLine; cases h.sess <;> rfl

theorem lineTaken_lineStart (h : LineHdr) (verb : Text) (s : State) : LineTaken s (lineStart h verb s) :=
  ((lineTaken_timeoutFirst ..).trans (lineTaken_thawView _)).trans (lineTaken_takeLine ..)

section
variable {u t : State} (h : LineTaken u t)
include h

theorem LineTaken.now : t.now = u.now := by rw [h]
theorem LineTaken.nodeTime : t.nodeTime = u.nodeTime := by rw [h]
theorem LineTaken.ident : t.ident = u.ident := by rw [h]
theorem LineTaken.live : t.live = u.live := by rw [h]
theorem LineTaken.images : t.images = u.images := by rw [h]
theorem LineTaken.part : t.part = u.part := by rw [h]
theorem LineTaken.keys : t.keys = u.keys := by rw [h]
theorem LineTaken.slices : t.slices = u.slices := by rw [h]
theorem LineTaken.dies : t.dies = u.dies := by rw [h]
theorem LineTaken.engine : t.engine = u.engine := by rw [h]
theorem LineTaken.caller : t.caller = u.caller := by rw [h]
theorem LineTaken.can : t.can = u.can := by rw [h]
theorem LineTaken.clk : t.clk = u.clk := by rw [h]
theorem LineTaken.mem : t.mem = u.mem := by rw [h]
theorem LineTaken.rst : t.rst = u.rst := by rw [h]
theorem LineTaken.power : t.power = u.power := by rw [h]
theorem LineTaken.sectors : t.log.sectors = u.log.sectors := by rw [h]
theorem LineTaken.seq : t.log.seq = u.log.seq := by rw [h]
theorem LineTaken.flash : t.interp.flash = u.interp.flash := by rw [h]
theorem LineTaken.script : t.interp.script = u.interp.script := by rw [h]

end

/-- A line whose work holds its reply back, or has sent it already, leaves its work's state. -/
theorem runLine_held {h : LineHdr} {verb : Text} {body : State → State × Option Reply} {s u : State} (hacc : Accepted h verb s)
    (hbody : body (lineStart h verb s) = (u, none)) : runLine h verb body s = u := by
  obtain ⟨hheard, hcheck⟩ := hacc
  have hcheck' : lineCheck h verb (thawView (timeoutFirst h.sess s)) = none := hcheck
  have hbody' : body (takeLine h verb (thawView (timeoutFirst h.sess s))) = (u, none) := hbody
  unfold runLine
  simp only [hheard, if_true, hcheck', hbody']

/-- The reply to a line that has just been taken moves no start-up on. -/
theorem deliver_line_rst {h : LineHdr} {verb : Text} {s : State} (hheard : lineHeard s h.sess = true) (r : Reply) :
    (deliver (waiter h (lineStart h verb s)) r (lineStart h verb s)).rst = s.rst := by
  obtain ⟨-, honly⟩ := reply_stands h verb s (lineStart h verb s) r hheard (KeepsLine.refl _ _)
  have hline := (lineTaken_lineStart h verb s).rst
  generalize deliver (waiter h (lineStart h verb s)) r (lineStart h verb s) = d at honly ⊢
  have hrst : (settle d).rst = (lineStart h verb s).rst := by rw [honly.rest]
  exact hrst.trans hline

/-- A loop output but for its FORCE setting, which a session takes with it. -/
def SameLx (a b : LoopOut) : Prop := b = { a with force := b.force, forceBy := b.forceBy }

theorem sameLx_endSession (who : Sess) (cause : Nat) (s : State) (n : Lx) :
    SameLx (s.lxOf n) ((endSession who cause s).lxOf n) := by
  have hoff : ∀ o : LoopOut,
      SameLx o (if o.forceBy = some who then { o with force := none, forceBy := none } else o) := by
    intro o; split <;> rfl
  unfold endSession
  split
  · cases who <;> simpa [State.lxOf, onSess, onConsole] using hoff _
  · rfl

/-- Taking a line leaves a loop output as it is, but for the FORCE setting of a session that has timed out. -/
theorem sameLx_lineStart (h : LineHdr) (verb : Text) (s : State) (n : Lx) :
    SameLx (s.lxOf n) ((lineStart h verb s).lxOf n) := by
  have htake : ((lineStart h verb s).lxOf n) = (latchPoint h s).lxOf n := by
    unfold lineStart takeLine; cases h.sess <;> rfl
  have hthaw : (latchPoint h s).lxOf n = (timeoutFirst h.sess s).lxOf n := by
    unfold latchPoint thawView; split <;> rfl
  rw [htake, hthaw]
  unfold timeoutFirst
  cases h.sess with
  | host =>
    dsimp only
    split
    · exact sameLx_endSession .host 1 s n
    · rfl
  | console k => rfl
  | script k => rfl

end Sys2Proof.Machine

/-! THE STEP, RESET AND THE PADS (01 R24; 04 R253; 10 R566; 15 R791): what one step is, what stands after reset, and what the
pads show after any step. -/

namespace Sys2Proof.Machine

/-! ## The step -/

/-- Settles O1: a step is defined by the command at the front of the queue. -/
theorem stepServesTheFront : Obligations.StepServesTheFront := fun _ _ _ => rfl

/-- Settles O2: every command, and the tick of an idle step, is answered with a settled state. -/
theorem everyStepGoesOn : Obligations.EveryStepGoesOn := fun s => by
  obtain ⟨u, hu⟩ := step_settled s
  exact ⟨_, hu, settle_pads u⟩

/-! ## The idle step (log 1) -/

theorem panelMoved_of_none {s : State} (h : s.interp.panelClock = none) : panelMoved s = s := by
  unfold panelMoved; rw [h]

theorem ensureStarted_of_not_due {s : State} (h : s.rst.phase ≠ .held ∨ s.pins.resetLow = true) : ensureStarted s = s := by
  unfold ensureStarted
  rw [if_neg]
  rintro ⟨hheld, hhigh⟩
  rcases h with h | h
  · exact h hheld
  · exact Bool.false_ne_true (hhigh.symm.trans h)

theorem slewStep_frame (s : State) :
    slewStep s = { s with nodeTime := (slewStep s).nodeTime, watch := (slewStep s).watch } := by
  unfold slewStep; split <;> rfl

/-- A tick in which nothing comes to its end: only the counts of time, a slew and the hold on WATCH.VIEW go on. -/
theorem tickEffect_frame {s : State} (hclock : s.interp.panelClock = none)
    (hphase : s.rst.phase ≠ .held ∨ s.pins.resetLow = true) : tickEffect s = { s with
      now := s.now + 1, nodeTime := (slewStep (countTime s)).nodeTime, watch := (thawView (slewStep (countTime s))).watch } := by
  have hframe : thawView (slewStep (countTime s)) = { s with
      now := s.now + 1, nodeTime := (slewStep (countTime s)).nodeTime, watch := (thawView (slewStep (countTime s))).watch } := by
    have hslew := slewStep_frame (countTime s)
    generalize slewStep (countTime s) = v at *
    have hthaw := thawView_frame v
    generalize thawView v = w at *
    rw [hthaw, hslew]
    rfl
  have heq : tickEffect s = ensureStarted (panelMoved (thawView (slewStep (countTime s)))) := rfl
  generalize thawView (slewStep (countTime s)) = w at *
  rw [heq, panelMoved_of_none (by rw [hframe]; exact hclock), ensureStarted_of_not_due (by rw [hframe]; exact hphase)]
  exact hframe

theorem slewStep_of_zero {s : State} (h : s.watch.slew = 0) : slewStep s = s := if_pos (.inl h)

theorem countTime_nodeTime {s : State} (h : s.power.mode ≠ .deep) : (countTime s).nodeTime = (s.nodeTime + 1) % 2 ^ 64 := by
  unfold countTime; simp only [h, if_false]

/-- Settles O3: a tick's frame says what stays, and settling touches the port, the pads and the cycle alone. -/
theorem idleStepIsOneTick : Obligations.IdleStepIsOneTick := by
  intro s hidle hclock hphase
  refine ⟨settle (tickEffect s), by unfold step; rw [hidle], ?_⟩
  rw [tickEffect_frame hclock hphase]
  refine ⟨hidle, rfl, rfl, rfl, rfl, rfl, rfl, rfl, rfl, rfl, rfl, rfl, rfl, rfl, fun hslew hmode => ?_⟩
  have hcount : (slewStep (countTime s)).nodeTime = (s.nodeTime + 1) % 2 ^ 64 := by
    rw [slewStep_of_zero (by exact hslew), countTime_nodeTime hmode]
  exact hcount

/-! ## Reset -/

/-- The pads at reset, each from the state. -/
theorem reset_pads : State.reset.pads = padsOf State.reset := by decide +kernel

/-- Settles O4: the state after reset is given field by field, and its pads are those that it asks for. -/
theorem resetLeavesStartUp : Obligations.ResetLeavesStartUp :=
  ⟨⟨rfl, rfl, rfl, rfl, rfl, rfl, rfl, rfl, rfl, rfl, rfl, rfl, rfl, rfl, rfl, rfl⟩, reset_pads, rfl, rfl, rfl, rfl, rfl⟩

/-! ## The pads of a settled state -/

/-- The CANRX cause as settling leaves it (10 R566). -/
theorem settle_canrx (s : State) : ((settle s).port.events[5]).live = rawWaiting (settle s) := by
  have h : (settle s).port.events[(5 : Fin 8).val] = Flag.drive (rawWaiting s) s.port.events[(5 : Fin 8).val] :=
    upd_same s.port.events 5 _
  exact (congrArg Flag.live h).trans (drive_live ..)

section Pads
variable {t : State} (hpads : PadsFollow t)
include hpads

theorem pads_al (n : Fin 16) : t.pads.al[n.val] = alLevel t n := by
  rw [hpads]; simp [padsOf]

theorem pads_co (n : Fin 8) : t.pads.co[n.val] = coLevel t n := by
  rw [hpads]; simp [padsOf]

theorem pads_attnLow :
    t.pads.attnLow = (t.port.opened && decide (flagBits t.port.events.toList &&& t.port.attn.toNat ≠ 0)) := by
  rw [hpads]; rfl

theorem pads_canRecessive {b : Bus} (hactive : (t.canOf b).mode ≠ .active) (hpassive : (t.canOf b).mode ≠ .passive) :
    t.pads.canRecessive[(busIdx b).val] = true := by
  rw [hpads]
  unfold State.canOf at hactive hpassive
  simp [padsOf, hactive, hpassive]

theorem pads_panelGrounded : t.pads.panelGrounded = t.panel.phase.grounds := by rw [hpads]; rfl

theorem pads_blDuty : t.pads.blDuty = if t.panel.backlight then t.live.panel.bl else 0 := by rw [hpads]; rfl

/-- A FAST line with an active trip wire routed to it is de-energised in every phase (04 R253; 15 R792). -/
theorem pads_al_of_fastTripped {n : Fin 16} (hmode : t.live.al[n.val] = .fast) (htrip : fastTripped t n = true) :
    t.pads.al[n.val] = false := by
  rw [pads_al hpads, alLevel, hmode]
  simp [htrip]

section Driven
variable (hfree : t.engine.hold = none) (hrun : t.engine.running = true)
include hfree hrun

theorem pads_al_driven {n : Fin 16} (hmode : t.live.al[n.val] ≠ .fast) : t.pads.al[n.val] = drivenLine t n := by
  rw [pads_al hpads, alLevel]
  cases h : t.live.al[n.val] with
  | fast => exact absurd h hmode
  | annun => simp [hfree, hrun]
  | call => simp [hfree, hrun]

theorem pads_co_driven (n : Fin 8) : t.pads.co[n.val] = !coSrcActive t t.live.co[n.val] := by
  rw [pads_co hpads, coLevel, hfree, hrun, Bool.true_and]

end Driven
end Pads

theorem drivenLine_call {t : State} {n : Fin 16} (h : t.live.al[n.val] = .call) : drivenLine t n = !stage3On t := by
  unfold drivenLine; rw [h]

/-- An ANNUN line is driven exactly while no group routed to it is active (04 R253, R239). -/
theorem drivenLine_annun_iff {t : State} {n : Fin 16} (h : t.live.al[n.val] = .annun) :
    drivenLine t n = true ↔ ∀ g : Grp, (t.grpCfg g).line.getLsbD n.val = true →
      t.engine.gstate[g.val] ≠ .activeUnack ∧ t.engine.gstate[g.val] ≠ .activeAck := by
  unfold drivenLine
  rw [h]
  simp [grpActive]

/-- A trip wire of a channel of the part that is routed to a line trips it. -/
theorem fastTripped_of_wire {t : State} {n : Fin 16} {c : Ch} (hfit : chFitted t.ident.part c = true)
    (hroute : (t.chCfg c).fast.getLsbD n.val = true) (hwire : (t.slice c).wire = true) : fastTripped t n = true := by
  refine List.any_eq_true.2 ⟨c, List.mem_filter.2 ⟨List.mem_finRange c, hfit⟩, ?_⟩
  rw [hroute, hwire, Bool.and_self]

/-- Settles O5: a step's pads are those that its state asks for, read output by output. -/
theorem outputPinsNeverLag : Obligations.OutputPinsNeverLag := by
  refine ⟨fun s t h => ?pins, fun s t n k h hfree hrun => ?call, fun s t n h hfree hrun hmode => ?annun⟩
  case pins =>
    have hpads := padsFollow_of_step h
    obtain ⟨u, rfl⟩ := step_next_settled h
    refine ⟨settle_canrx u, pads_attnLow hpads, fun b => pads_canRecessive hpads, fun a hphase => ?_, fun hon => ?_,
      fun hoff => ?_⟩
    · rw [pads_panelGrounded hpads]
      rcases hphase with h | h | h <;> rw [h] <;> rfl
    · rw [pads_blDuty hpads, hon, if_pos rfl]
    · rw [pads_blDuty hpads, hoff, if_neg Bool.false_ne_true]
  case call =>
    have hpads := padsFollow_of_step h
    refine ⟨fun hmode => ?_, pads_co_driven hpads hfree hrun k⟩
    rw [pads_al_driven hpads hfree hrun (by rw [hmode]; decide), drivenLine_call hmode]
  case annun =>
    rw [pads_al_driven (padsFollow_of_step h) hfree hrun (by rw [hmode]; decide), drivenLine_annun_iff hmode]

/-- Settles O6: the FAST lines of the pads take the trip wires in every phase. -/
theorem fastLineTrips : Obligations.FastLineTrips := fun _ _ _ _ h hmode hfit hroute hwire =>
  pads_al_of_fastTripped (padsFollow_of_step h) hmode (fastTripped_of_wire hfit hroute hwire)

end Sys2Proof.Machine

/-! THE LINES THAT READ AND THE LINES THAT SET (11 R578, R590–R607; 09 R519–R522): what is refused of a line before its words
are looked at, what the reading lines answer, and the rows that set one setting. -/

namespace Sys2Proof.Machine

/-! ## The line check (11 R601) -/

theorem checkFails_iff (h : LineHdr) : checkFails h = true ↔ ∃ x : Byte, h.check = some x ∧ crc8 h.text ≠ x := by
  unfold checkFails
  cases h.check <;> simp

theorem malformed_iff (h : LineHdr) :
    malformed h = true ↔ h.badForm = true ∨ 255 < lineLength h ∨ ∃ x ∈ h.text, printable x = false := by
  simp [malformed, or_assoc]

/-- A line that is corrupt, carries a wrong check or lacks one that the port requires is E02. -/
theorem lineCheck_e02 {h : LineHdr} {s : State} (verb : Text)
    (hbad : h.corrupt = true ∨ (∃ x : Byte, h.check = some x ∧ crc8 h.text ≠ x) ∨
      (h.check = none ∧ h.sess = .host ∧ s.port.crcRequired = true)) : lineCheck h verb s = some .e02 := by
  rw [← checkFails_iff] at hbad
  refine if_pos ?_
  rcases hbad with hcorrupt | hcheck | ⟨hnone, hhost, hneed⟩
  · simp [hcorrupt]
  · simp [hcheck]
  · simp [hnone, hhost, hneed]

/-- A line that passes its check but breaks the rules of a line's characters or of its verb's form is E01. -/
theorem lineCheck_e01 {h : LineHdr} {s : State} (verb : Text) (hclean : h.corrupt = false)
    (hcheck : h.check = some (crc8 h.text) ∨ (h.check = none ∧ (h.sess ≠ .host ∨ s.port.crcRequired = false)))
    (hbad : h.badForm = true ∨ 255 < lineLength h ∨ ∃ x ∈ h.text, printable x = false) :
    lineCheck h verb s = some .e01 := by
  rw [← malformed_iff] at hbad
  have hpass : (h.corrupt || checkFails h || (h.check = none && h.sess = .host && s.port.crcRequired)) = false := by
    unfold checkFails
    rcases hcheck with hsome | ⟨hnone, hother | hfree⟩
    · simp [hclean, hsome]
    · simp [hclean, hnone, hother]
    · simp [hclean, hnone, hfree]
  unfold lineCheck
  rw [hpass, if_neg Bool.false_ne_true, if_pos hbad]

theorem matesChange_none (s : State) : matesChange {} s = s := rfl

/-- Settles O7: the check's refusal comes before the line's work, whatever that is. -/
theorem badLinesChangeNothing : Obligations.BadLinesChangeNothing := by
  intro h s e hheard hbad
  have hcheck : ∀ verb, lineCheck h verb (latchPoint h s) = some e := by
    intro verb
    rcases hbad with ⟨rfl, hbad⟩ | ⟨rfl, hclean, hpass, hbad⟩
    · exact lineCheck_e02 verb hbad
    · exact lineCheck_e01 verb hclean hpass hbad
  have hrefuse := fun verb body => line_fails_check h verb body s e hheard (hcheck verb)
  exact ⟨fun _ _ => hrefuse _ _, fun _ _ => hrefuse _ _, fun _ _ => hrefuse _ _, hrefuse _ _, hrefuse _ _, hrefuse _ _⟩

/-! ## The lines that read (11 R602, R604–R607) -/

theorem knownNames_map_some {p : Part} {ns : List Name} (hfit : ∀ n ∈ ns, nameFitted p n = true) :
    knownNames p (ns.map some) = some ns := by
  induction ns with
  | nil => rfl
  | cons n ns ih =>
    simp [knownNames, hfit n List.mem_cons_self, ih fun m hm => hfit m (List.mem_cons_of_mem n hm)]

theorem bodyGet_known {u : State} {ns : List Name} (hone : 1 ≤ ns.length) (height : ns.length ≤ 8)
    (hfit : ∀ n ∈ ns, nameFitted u.ident.part n = true) :
    bodyGet (ns.map some) u = okLines (ns.map (nameLine u)) (freezeFor ns u) := by
  unfold bodyGet
  rw [if_neg (by rw [List.length_map]; omega), knownNames_map_some hfit]

theorem bodyShow_from {u : State} {target x : Text} {from_ : Option Text} {k : Nat} (hown : ownName u target = some x)
    (hfrom : match from_ with
      | some w => readWhole w = .ok k
      | none => k = 1)
    (hone : 1 ≤ k) (hmost : k ≤ (namesUnder u.ident.part x).length) :
    bodyShow target from_ u = (freezeFor ((namesUnder u.ident.part x).drop (k - 1)) u,
      some { data := ((namesUnder u.ident.part x).drop (k - 1)).map (nameLine u), base := k - 1 }) := by
  have hsome : namesUnder u.ident.part x ≠ [] := by
    intro hnil; rw [hnil] at hmost; exact absurd hmost (by simp; omega)
  have hrange : ¬ (k < 1 ∨ (namesUnder u.ident.part x).length < k) := by omega
  cases from_ with
  | none =>
    obtain rfl : k = 1 := hfrom
    simp only [bodyShow, hown, hsome, if_false]
    rw [if_neg hrange]
  | some w =>
    have hread : readWhole w = .ok k := hfrom
    simp only [bodyShow, hread, hown, hsome, if_false]
    rw [if_neg hrange]

/-- A view that stands still for a reply leaves the line that asked for it. -/
theorem freezeFor_keepsLine (who : Sess) (ns : List Name) (s : State) : KeepsLine who s (freezeFor ns s) := by
  unfold freezeFor
  split
  · exact KeepsLine.of_eq rfl rfl
  · exact KeepsLine.refl who s

/-- The position from which LOG READ reads: the one written, or that of the last records. -/
theorem bodyLogRead_lawful {u : State} {pos : LogPos} {count : Option Text} {p n : Nat}
    (hcount : match count with
      | some c => readWhole c = .ok n
      | none => n = 1)
    (hpos : match pos with
      | .at_ a => readWhole a = .ok p
      | .last => p = max 1 (logCount u + 1 - n))
    (hp : 1 ≤ p) (hn : 1 ≤ n) (hmost : n ≤ 40) : bodyLogRead pos count u = okLines (readLog p n u) u := by
  have hrange : ∀ q : Option Nat, q ≠ some 0 → ¬ (n < 1 ∨ 40 < n ∨ q = some 0) := by
    rintro q hq (h | h | h)
    · omega
    · omega
    · exact hq h
  cases pos with
  | at_ a =>
    have ha : readWhole a = .ok p := hpos
    have hq := hrange (some p) (by simp; omega)
    cases count with
    | none => obtain rfl : n = 1 := hcount; simp only [bodyLogRead, ha]; exact if_neg hq
    | some c => have hc : readWhole c = .ok n := hcount; simp only [bodyLogRead, ha, hc]; exact if_neg hq
  | last =>
    obtain rfl : p = max 1 (logCount u + 1 - n) := hpos
    have hq := hrange none (by simp)
    cases count with
    | none => obtain rfl : n = 1 := hcount; simp only [bodyLogRead]; exact if_neg hq
    | some c => have hc : readWhole c = .ok n := hcount; simp only [bodyLogRead, hc]; exact if_neg hq

/-- A line whose work answers with data lines and changes nothing. -/
theorem line_reads {cmd : Instr} {h : LineHdr} {verb : Text} {body : State → State × Option Reply} {s : State} {ls : List Text}
    (hcmd : exec cmd s = finish (runLine h verb body s)) (hacc : Accepted h verb s)
    (hbody : body (lineStart h verb s) = okLines ls (lineStart h verb s)) :
    LineDone cmd h verb { data := ls } s (lineStart h verb s) := by
  obtain ⟨t, hexec, hdone⟩ := line_replies h verb body s _ _ hacc hbody (KeepsLine.refl _ _)
  exact ⟨t, hcmd.trans hexec, hdone⟩

/-- Settles O8: each line by what its work answers in the state in which it begins. -/
theorem readingLinesAnswer : Obligations.ReadingLinesAnswer := by
  intro h s
  refine ⟨fun ns hacc hone height hfit => ?get, fun target x from_ k hacc hown hfrom hone hmost => ?list,
    fun hacc => ?time, fun hacc => ?status, fun hacc => ⟨?help, fun v p hfind => ?helpVerb⟩, fun hacc => ⟨?log, ?read⟩,
    fun hacc b n => ?can, fun v hacc => line_refused h _ _ s .e03 hacc rfl⟩
  case get => exact line_replies h _ _ s _ _ hacc (bodyGet_known hone height hfit) (freezeFor_keepsLine ..)
  case list => exact line_replies h _ _ s _ _ hacc (bodyShow_from hown hfrom hone hmost) (freezeFor_keepsLine ..)
  case time =>
    refine line_reads rfl hacc ?_
    simp [bodyTime, unwords, joinWith, txt]
  case status => exact line_reads rfl hacc rfl
  case help => exact line_reads rfl hacc rfl
  case helpVerb => exact line_reads rfl hacc (by simp only [bodyHelp, hfind])
  case log => exact line_reads rfl hacc rfl
  case read =>
    intro pos count p n hcount hpos hp hn hmost
    exact line_reads rfl hacc (bodyLogRead_lawful hcount hpos hp hn hmost)
  case can => exact line_reads rfl hacc rfl

/-! ## The lines that set (11 R603) -/

/-- A line depends on its work only in the state in which that begins. -/
theorem runLine_congr {h : LineHdr} {verb : Text} {f g : State → State × Option Reply} {s : State}
    (hwork : f (lineStart h verb s) = g (lineStart h verb s)) : runLine h verb f s = runLine h verb g s := by
  have hwork' : f (takeLine h verb (thawView (timeoutFirst h.sess s))) = g (takeLine h verb (thawView (timeoutFirst h.sess s))) :=
    hwork
  unfold runLine
  simp only [hwork']

/-- The settings that no work of their own writes. -/
def plainSetting : SettingId → Bool
  | .power .mode | .secDebug | .clock .src | .clock .panel | .key _ => false
  | _ => true

theorem setBody_plain {h : LineHdr} {i : SettingId} {v : Text} {u : State} (hplain : plainSetting i = true) :
    setBody h i v u = writeSetting h i v u := by
  unfold setBody
  split
  all_goals first
    | rfl
    | exact absurd hplain Bool.false_ne_true

theorem bodySet_plain {h : LineHdr} {i : SettingId} {v : Text} {u : State} (hplain : plainSetting i = true)
    (hfit : settingFitted u.ident.part i = true) : bodySet h (some (.setting i)) v u = writeSetting h i v u := by
  have hname : nameFitted u.ident.part (.setting i) = true := hfit
  simp [bodySet, hname, setBody_plain hplain]

theorem plainSetting_of_ne {i : SettingId} (hmode : i ≠ .power .mode) (hdebug : i ≠ .secDebug) (hsrc : i ≠ .clock .src)
    (hpanel : i ≠ .clock .panel) (hkey : ∀ k, i ≠ .key k) : plainSetting i = true := by
  unfold plainSetting
  split
  · exact absurd rfl hmode
  · exact absurd rfl hdebug
  · exact absurd rfl hsrc
  · exact absurd rfl hpanel
  · exact absurd rfl (hkey _)
  · rfl

/-- Settles O9: every such line is the SET of its one setting, of a name that is not known, or of one that is read only. -/
theorem settingsAreWritten : Obligations.SettingsAreWritten := by
  intro h s v
  have hrow : ∀ (i : SettingId) (cmd : Instr), exec cmd s = finish (setLine h i v s) → SetsSetting cmd h i v s :=
    fun i cmd hcmd => setsSetting_setLine h i v s cmd hcmd
  refine ⟨fun i hmode hdebug hsrc hpanel hkey hfit => ?plain, fun hacc => ⟨?none, ?none', fun r hfit => ?ro⟩, ?rows⟩
  case plain =>
    have hline : runLine h (txt "SET") (bodySet h (some (.setting i)) v) s = setLine h i v s :=
      runLine_congr (bodySet_plain (plainSetting_of_ne hmode hdebug hsrc hpanel hkey) (by rw [lineStart_ident]; exact hfit))
    exact ⟨hrow i _ (congrArg finish hline), hrow i _ (congrArg finish hline)⟩
  case none => exact line_refused h _ _ s .e03 hacc rfl
  case none' => exact line_refused h _ _ s .e03 hacc rfl
  case ro =>
    refine line_refused h _ _ s .e06 hacc ?_
    rw [← lineStart_ident h (txt "SET") s] at hfit
    simp [bodySet, hfit]
  case rows =>
    exact ⟨fun c => ⟨hrow _ _ rfl, hrow _ _ rfl, hrow _ _ rfl, hrow _ _ rfl, hrow _ _ rfl, hrow _ _ rfl, hrow _ _ rfl,
        hrow _ _ rfl, hrow _ _ rfl, hrow _ _ rfl, hrow _ _ rfl, hrow _ _ rfl, hrow _ _ rfl, hrow _ _ rfl⟩,
      fun g => ⟨hrow _ _ rfl, hrow _ _ rfl, hrow _ _ rfl⟩, hrow _ _ rfl,
      fun b => ⟨hrow _ _ rfl, hrow _ _ rfl, hrow _ _ rfl, hrow _ _ rfl, hrow _ _ rfl, hrow _ _ rfl⟩,
      hrow _ _ rfl, hrow _ _ rfl, hrow _ _ rfl, hrow _ _ rfl, hrow _ _ rfl, hrow _ _ rfl⟩

end Sys2Proof.Machine

/-! WHAT WRITTEN SETTINGS DO (02 R49, R70, R115; 03 R154, R177, R189, R190; 04 R248; 05 R301, R311; 06 R328, R392, R393): the
settings of a channel in its slice, and the settings of the node. -/

namespace Sys2Proof.Machine

/-! ## Settings of a channel -/

/-- What a write of a channel setting leaves of the channel's settings. -/
theorem chCfg_applySetting (who : Sess) (c : Ch) (f : ChSet) (x : Val) (s : State) :
    (applySetting who (.ch c f) x s).chCfg c = putCh f x (s.chCfg c) := by
  unfold State.chCfg
  rw [(puts_applySetting who (.ch c f) x s).live]
  exact upd_same ..

section Ch
variable {who : Sess} {c : Ch} {f : ChSet} {x : Val} {s : State}

/-- A channel setting but GRP reaches its slice over a link that delivers frames (01 R18). -/
theorem applySetting_ch_of_up (hf : f ≠ .grp) (hup : (s.linkOf c).held = none) :
    applySetting who (.ch c f) x s = sliceTakes (.ch c f) { s with live := putCfg (.ch c f) x s.live } := by
  have hup' : (({ s with live := putCfg (.ch c f) x s.live } : State).linkOf c).held = none := hup
  have hsend : applySetting who (.ch c f) x s = sendSetting c (.ch c f) { s with live := putCfg (.ch c f) x s.live } := by
    cases f with
    | grp => exact absurd rfl hf
    | _ => rfl
  rw [hsend, sendSetting, hup']

/-- A channel setting but GRP waits while the link delivers no frame (01 R19, R20). -/
theorem applySetting_ch_of_down {hd : DieHold} (hf : f ≠ .grp) (hdown : (s.linkOf c).held = some hd) :
    applySetting who (.ch c f) x s =
      onHold (dieOf c) (fun h => { h with todo := h.todo ++ [.ch c f] }) { s with live := putCfg (.ch c f) x s.live } := by
  have hdown' : (({ s with live := putCfg (.ch c f) x s.live } : State).linkOf c).held = some hd := hdown
  have hsend : applySetting who (.ch c f) x s = sendSetting c (.ch c f) { s with live := putCfg (.ch c f) x s.live } := by
    cases f with
    | grp => exact absurd rfl hf
    | _ => rfl
  rw [hsend, sendSetting, hdown']

/-- Over a link that delivers frames a slice works from the channel's settings. -/
theorem sliceCfg_of_up {u : State} (hup : (u.linkOf c).held = none) : u.sliceCfg c = u.chCfg c := by
  unfold State.sliceCfg; rw [hup]

/-- Over such a link a write leaves the slice working from the settings that it leaves. -/
theorem sliceCfg_put (hup : (s.linkOf c).held = none) :
    ({ s with live := putCfg (.ch c f) x s.live } : State).sliceCfg c = (applySetting who (.ch c f) x s).chCfg c := by
  rw [sliceCfg_of_up (by exact hup), chCfg_applySetting]
  exact upd_same ..

end Ch

theorem slice_onLamp_same (c : Ch) (f : Lamp → Lamp) (s : State) :
    (onLamp c f s).slice c = { s.slice c with lamp := f (s.slice c).lamp } := slice_onSlice_same ..

theorem slice_onCond_lamp (c d : Ch) (k : Cond) (f : CondState → CondState) (s : State) :
    ((onCond c k f s).slice d).lamp = (s.slice d).lamp := by
  rw [onCond_eq, slice_onSlice]; split <;> rfl

theorem slice_onCond_trip (c d : Ch) (k : Cond) (f : CondState → CondState) (s : State) :
    ((onCond c k f s).slice d).trip = (s.slice d).trip := by
  rw [onCond_eq, slice_onSlice]; split <;> rfl

/-! ### MODE, RANGE and the settings that wait (02 R49, R55, R70) -/

theorem putCh_mode_new {m : Mode} {x : Val} {cfg : ChCfg} (hm : modeList.getD (kwOf x) .off = m) (hnew : m ≠ cfg.mode) :
    putCh .mode x cfg = { cfg with mode := m, staged := some (modeDefaults m) } := by
  simp only [putCh, hm, if_neg hnew]

theorem putCh_mode_same {x : Val} {cfg : ChCfg} (hm : modeList.getD (kwOf x) .off = cfg.mode) : putCh .mode x cfg = cfg := by
  simp only [putCh, hm, if_true]

/-- What a MODE write leaves of the channel's settings: the written mode stands, staged where it is a new one. -/
theorem mode_putCh_mode (x : Val) (cfg : ChCfg) : (putCh .mode x cfg).mode = modeList.getD (kwOf x) .off := by
  by_cases hnew : modeList.getD (kwOf x) .off = cfg.mode
  · rw [putCh_mode_same hnew, hnew]
  · rw [putCh_mode_new rfl hnew]

theorem putCfg_ch_same {c : Ch} {f : ChSet} {x : Val} {cfg : Settings} (h : putCh f x cfg.ch[c.val] = cfg.ch[c.val]) :
    putCfg (.ch c f) x cfg = cfg := by
  simp only [putCfg, upd_of_fixed cfg.ch c h]

/-- Over a link that delivers frames a MODE, RATE, EOL or RANGE write leaves what the slice converts by. -/
theorem boundarySettings_wait (who : Sess) (c : Ch) (x : Val) (s : State) (hup : (s.linkOf c).held = none) :
    (applySetting who (.ch c .mode) x s).slices = s.slices ∧
    ((applySetting who (.ch c .mode) x s).chCfg c).mode = modeList.getD (kwOf x) .off ∧
    (modeList.getD (kwOf x) .off ≠ (s.chCfg c).mode →
      ((applySetting who (.ch c .mode) x s).chCfg c).staged = some (modeDefaults (modeList.getD (kwOf x) .off))) ∧
    (modeList.getD (kwOf x) .off = (s.chCfg c).mode → (applySetting who (.ch c .mode) x s).live = s.live) ∧
    (applySetting who (.ch c .rate) x s).slices = s.slices ∧ (applySetting who (.ch c .eol) x s).slices = s.slices ∧
    ((applySetting who (.ch c .range) x s).slice c).act = (s.slice c).act ∧
    ((applySetting who (.ch c .range) x s).slice c).rangeDue = true ∧
    (∀ d : Ch, d ≠ c → (applySetting who (.ch c .range) x s).slice d = s.slice d) := by
  have hrange : applySetting who (.ch c .range) x s = applyRange c { s with live := putCfg (.ch c .range) x s.live } :=
    applySetting_ch_of_up (by decide) hup
  refine ⟨?_, ?_, fun hnew => ?_, fun hsame => ?_, ?_, ?_, ?_, ?_, fun d hd => ?_⟩
  · rw [applySetting_ch_of_up (by decide) hup]; rfl
  · rw [chCfg_applySetting, mode_putCh_mode]
  · rw [chCfg_applySetting, putCh_mode_new rfl hnew]
  · rw [(puts_applySetting who _ x s).live, putCfg_ch_same (putCh_mode_same hsame)]
  · rw [applySetting_ch_of_up (by decide) hup]; rfl
  · rw [applySetting_ch_of_up (by decide) hup]; rfl
  · rw [hrange, applyRange, slice_onSlice_same]; rfl
  · rw [hrange, applyRange, slice_onSlice_same]
  · rw [hrange, applyRange]
    exact (sliceStep_onSlice ..).others d hd

/-! ### Thresholds (02 R115) -/

/-- A threshold write takes effect as `applyTrip` in the slice. -/
theorem applySetting_trip {who : Sess} {c : Ch} {f : ChSet} {x : Val} {s : State} (hf : f = .triphi ∨ f = .triplo ∨ f = .tripspan)
    (hup : (s.linkOf c).held = none) :
    applySetting who (.ch c f) x s = applyTrip c { s with live := putCfg (.ch c f) x s.live } := by
  rcases hf with rfl | rfl | rfl <;> exact applySetting_ch_of_up (by decide) hup

theorem putCh_trip_staged {f : ChSet} {x : Val} {cfg : ChCfg} (hf : f = .triphi ∨ f = .triplo ∨ f = .tripspan)
    (hnone : cfg.staged = none) : (putCh f x cfg).staged = none := by
  rcases hf with rfl | rfl | rfl <;> simp [putCh, chMd, hnone]

/-- A threshold write that the slice takes at once. -/
theorem applyTrip_taken {c : Ch} {s : State} (hstaged : (s.sliceCfg c).staged = none)
    (hmode : hasComparators (s.slice c).act.mode = true) :
    ((applyTrip c s).slice c).trip = { (s.slice c).trip with
      dacHi := (s.sliceCfg c).set.triphi, dacLo := (s.sliceCfg c).set.triplo, span := (s.sliceCfg c).set.tripspan
      hiHold := (s.slice c).trip.hiHold || decide (dacCode (s.slice c).act.mode (s.slice c).trip.span (s.slice c).trip.dacHi ≠
        dacCode (s.slice c).act.mode (s.sliceCfg c).set.tripspan (s.sliceCfg c).set.triphi)
      loHold := (s.slice c).trip.loHold || decide (dacCode (s.slice c).act.mode (s.slice c).trip.span (s.slice c).trip.dacLo ≠
        dacCode (s.slice c).act.mode (s.sliceCfg c).set.tripspan (s.sliceCfg c).set.triplo) } := by
  unfold applyTrip
  simp only [hstaged, hmode, Option.isSome_none, Bool.not_true, Bool.or_self, Bool.false_eq_true, if_false, slice_onSlice_same]

theorem sliceStep_applyTrip (c : Ch) (s : State) : SliceStep c s (applyTrip c s) := by
  unfold applyTrip
  dsimp only
  split
  · exact .refl ..
  · exact sliceStep_onSlice ..

/-! ### Lamp settings (03 R154, R177, R189, R190) -/

/-- The part of a CHAR write that the slice's own conditions leave alone. -/
theorem applyChar_lamp {c : Ch} {s : State} (hmode : (s.slice c).act.mode = .lamp) :
    ((applyChar c s).slice c).lamp = { (s.slice c).lamp with
      lock := if decide ((s.sliceCfg c).char = .f) then .steady else .seek, flash := {}, timing := timingOf (s.sliceCfg c)
      onWin := none, offWin := none, offDue := none, second := { opens := s.now }, gateAt := s.now, side := {}, darkSince := none
      edgeSince := (s.slice c).lamp.clock
      unlockedSince := if decide ((s.sliceCfg c).char = .f) then none else some (s.slice c).lamp.clock
      litSince := (s.slice c).lamp.litSince.map fun _ => (s.slice c).lamp.clock } ∧
    ((applyChar c s).slice c).trip = { (s.slice c).trip with
      latched := decide ((s.sliceCfg c).char = .f) && (s.slice c).trip.loQ, clear := false } := by
  unfold applyChar
  rw [if_neg (fun h => h hmode)]
  dsimp only
  split
  · rw [slice_onCond_lamp, slice_onCond_lamp, slice_onCond_trip, slice_onCond_trip, slice_wireStep]; exact ⟨rfl, rfl⟩
  · rw [slice_wireStep]; exact ⟨rfl, rfl⟩

theorem retime_timing (cfg : ChCfg) (now : Tick) (l : Lamp) : (retime cfg now l).timing =
    if l.lock = .locked ∧ ¬(l.flash.edge = none ∧ now < l.flash.due) then l.timing else timingOf cfg := by
  unfold retime
  by_cases hlock : l.lock = .locked
  · by_cases hahead : l.flash.edge = none ∧ now < l.flash.due
    · simp [hlock, hahead]
    · simp [hlock, hahead]
  · simp [hlock]

theorem applyTiming_timing (c : Ch) (s : State) : ((applyTiming c s).slice c).lamp.timing =
    if (s.slice c).lamp.lock = .locked ∧ ¬((s.slice c).lamp.flash.edge = none ∧ s.now < (s.slice c).lamp.flash.due)
      then (s.slice c).lamp.timing else timingOf (s.sliceCfg c) := by
  rw [applyTiming, slice_onLamp_same, retime_timing]

/-- A write of LEARN or BASESET in LAMP mode with LEARN OFF. -/
theorem applyBase_lamp {c : Ch} {s : State} (hmode : (s.slice c).act.mode = .lamp) (hlearn : (s.sliceCfg c).learn = .off) :
    ((applyBase c s).slice c).lamp.base = (s.sliceCfg c).baseset := by
  unfold applyBase
  simp only [hmode, hlearn, and_self, if_true, slice_onLamp_same]

/-- Settles O11: over a link that delivers frames each setting is what its slice takes of it; else it waits. -/
theorem channelSettingsAct : Obligations.ChannelSettingsAct := by
  refine ⟨fun who c x s => ⟨boundarySettings_wait who c x s, fun f hd hf hdown => ?down⟩,
    fun who c f x s t hf ht hup hstaged hmode => ?trip, fun who c x s t hmode hup => ⟨fun ht => ?char, fun f hf ht => ?timing,
    fun f hf ht hlearn => ?base⟩⟩
  case down =>
    rw [applySetting_ch_of_down hf hdown]
    refine ⟨rfl, ?_⟩
    have hdown' : (({ s with live := putCfg (.ch c f) x s.live } : State).linkOf c).held = some hd := hdown
    rw [linkOf_onHold_held, hdown']; rfl
  case trip =>
    have hcfg := sliceCfg_put (who := who) (f := f) (x := x) hup
    have htake := applySetting_trip (who := who) (x := x) hf hup
    rw [ht] at hcfg htake
    have hstaged' : (t.chCfg c).staged = none := by rw [← ht, chCfg_applySetting, putCh_trip_staged hf hstaged]
    have hslice := applyTrip_taken (s := { s with live := putCfg (.ch c f) x s.live }) (by rw [hcfg]; exact hstaged') hmode
    rw [← htake, hcfg] at hslice
    exact ⟨hslice, fun d hd => by rw [htake]; exact (sliceStep_applyTrip ..).others d hd⟩
  case char =>
    have hcfg := sliceCfg_put (who := who) (f := .char) (x := x) hup
    have htake := applySetting_ch_of_up (who := who) (f := .char) (x := x) (by decide) hup
    rw [ht] at hcfg htake
    obtain ⟨hlamp, htrip⟩ := applyChar_lamp (s := { s with live := putCfg (.ch c .char) x s.live }) hmode
    rw [hcfg, ← show t = applyChar c _ from htake] at hlamp htrip
    rw [hlamp, htrip]
    refine ⟨?_, rfl, rfl, rfl, rfl, fun hf => ?_⟩
    · simp
    · simp [hf]
  case timing =>
    have hcfg := sliceCfg_put (who := who) (f := f) (x := x) hup
    have htake := applySetting_ch_of_up (who := who) (f := f) (x := x) (by rcases hf with rfl | rfl | rfl <;> decide) hup
    have htiming : t = applyTiming c { s with live := putCfg (.ch c f) x s.live } := by
      rw [← ht, htake]
      rcases hf with rfl | rfl | rfl <;> rfl
    rw [ht] at hcfg
    have hslice := applyTiming_timing c { s with live := putCfg (.ch c f) x s.live }
    rw [← htiming, hcfg] at hslice
    exact hslice
  case base =>
    have hcfg := sliceCfg_put (who := who) (f := f) (x := x) hup
    have htake := applySetting_ch_of_up (who := who) (f := f) (x := x) (by rcases hf with rfl | rfl <;> decide) hup
    have hbase : t = applyBase c { s with live := putCfg (.ch c f) x s.live } := by
      rw [← ht, htake]
      rcases hf with rfl | rfl <;> rfl
    rw [ht] at hcfg
    have hslice := applyBase_lamp (s := { s with live := putCfg (.ch c f) x s.live }) hmode (by rw [hcfg]; exact hlearn)
    rw [← hbase, hcfg] at hslice
    exact hslice

/-! ## Settings of the node -/

theorem applyFirstout_off {g : Grp} {s : State} (hoff : (s.grpCfg g).firstout = false) :
    (applyFirstout g s).engine.first[g.val] = none := by
  unfold applyFirstout
  rw [if_neg (by rw [hoff]; exact Bool.false_ne_true)]
  exact upd_same ..

theorem call_onCall_same (n : NodeNo) (g : Grp) (f : Call → Call) (s : State) :
    (onCall n g f s).call n g = f (s.call n g) := by
  unfold State.call onCall
  simp only [upd_same]

/-- What goes out and is recorded of a call leaves every call. -/
theorem call_told (n m : NodeNo) (g j : Grp) (a b : Bool) (code : BitVec 16) (c : Call) (u : Nat) (s : State) :
    (callChanged (emitCall g code c u (sendCall n g a b s))).call m j = s.call m j := by
  have hcaller : (callChanged (emitCall g code c u (sendCall n g a b s))).caller = s.caller := by
    have hsend : (sendCall n g a b s).caller = s.caller := by unfold sendCall; exact send_caller ..
    have hemit : ∀ v : State, (emitCall g code c u v).caller = v.caller := fun v => by unfold emitCall; exact emit_caller ..
    have hevent : ∀ v : State, (callChanged v).caller = v.caller := fun _ => rfl
    rw [hevent, hemit, hsend]
  unfold State.call
  rw [hcaller]

/-- The end of a call leaves it IDLE. -/
theorem endCall_idle (n : NodeNo) (g : Grp) (s : State) : ((endCall n g s).call n g).st = .idle := by
  unfold endCall
  rw [call_told, call_onCall_same]

/-- CLASS 0 leaves the group without a running call, unless that is the dead-man's (05 R311). -/
theorem applyClass_zero {g : Grp} {s : State} (hzero : (s.grpCfg g).cls = 0) (hrun : s.engine.running = true)
    (hother : g ≠ 31 ∨ deadmanUnack s = false) : ((applyClass g s).call s.watch.node g).st = .idle := by
  unfold applyClass
  split
  · exact endCall_idle ..
  next hnot =>
    by_contra hidle
    refine hnot ⟨hzero, hidle, hrun, ?_⟩
    rintro ⟨hg, hdead⟩
    rcases hother with h | h
    · exact h hg
    · exact Bool.false_ne_true (h.symm.trans hdead)

/-- DEADMAN.EN starts a period in full or stops the timer (05 R301). -/
theorem setDeadEn_dead {on : Bool} {unit : Nat} {s : State} (hrun : s.engine.running = true) :
    (setDeadEn on unit s).caller.dead = if on then
      { periodEnd := some (s.now + s.live.dead.period * usMin), warnUs := s.live.dead.warn * usSec, warning := false }
      else {} := by
  have hdead : ∀ u : State, (setCause 10 false u).caller.dead = u.caller.dead := fun u => (engineStep_setCause 10 false u).dead
  unfold setDeadEn
  dsimp only
  rw [if_pos hrun, hdead]
  cases on
  · rfl
  · have hlog := logOnly_emitDead 0x0310 unit { s with live := { s.live with dead := { s.live.dead with en := true } } }
    rw [if_pos rfl, startPeriod, hlog.now, hlog.live, if_pos rfl]

theorem applyBitTiming_idle {b : Bus} {s : State} (hmode : (s.canOf b).mode = .active) (hidle : (s.canOf b).sending = none) :
    applyBitTiming b s = leaveBus b s := by
  simp [applyBitTiming, hmode, hidle]

theorem applyListen_idle {b : Bus} {s : State} (hmode : (s.canOf b).mode = .active) (hidle : (s.canOf b).sending = none) :
    ((applyListen b s).canOf b).mode = if (s.live.can[(busIdx b).val]).listen then .listen else .active := by
  simp [applyListen, hmode, hidle, canOf_onCan_same]

/-- Settles O12: each setting of the node by what its write does at once. -/
theorem nodeSettingsAct : Obligations.NodeSettingsAct := by
  intro who x s t
  refine ⟨fun g ht hoff => ?first, fun g ht hzero hrun hother => ?cls, fun ht hrun => ?dead, fun b f hf ht hmode hidle => ?bits,
    fun b ht hmode hidle => ?listen, fun b ht hoff => ?recover, fun ht => ?test⟩
  case first =>
    subst ht
    refine applyFirstout_off ?_
    simp [State.grpCfg, putCfg, hoff]
  case cls =>
    have hgrp : t.grpCfg g = ({ s with live := putCfg (.grp g .class_) x s.live } : State).grpCfg g := by
      unfold State.grpCfg; rw [← ht, (puts_applySetting ..).live]
    rw [hgrp] at hzero
    subst ht
    exact applyClass_zero hzero hrun hother
  case dead => subst ht; exact setDeadEn_dead hrun
  case bits =>
    have hleave : t = leaveBus b { s with live := putCfg (.can b f) x s.live } := by
      have hwork : applySetting who (.can b f) x s = applyBitTiming b { s with live := putCfg (.can b f) x s.live } := by
        rcases hf with rfl | rfl | rfl | rfl <;> rfl
      rw [← ht, hwork]
      exact applyBitTiming_idle hmode hidle
    rw [hleave, leaveBus, canOf_onCan_same]
    exact ⟨rfl, rfl, rfl⟩
  case listen =>
    subst ht
    have hlisten := applyListen_idle (b := b) (s := { s with live := putCfg (.can b .listen) x s.live }) hmode hidle
    refine hlisten.trans ?_
    simp [putCfg]
  case recover =>
    subst ht
    have hrec : (applyRecover b s).canOf b = { s.canOf b with recovering := true } := by
      unfold applyRecover; rw [canOf_onCan_same, if_pos hoff]
    exact congrArg Can.recovering hrec
  case test => subst ht; exact ⟨rfl, rfl⟩

end Sys2Proof.Machine

/-! SESSIONS, KEYS AND THE CHECKS OF THE PARTITION (12 R639–R660, R672–R680): how a session begins and ends, what a key write
leaves, and what the key switch and a check pass do. -/

namespace Sys2Proof.Machine

theorem Flag.pulse_latched (f : Flag) : f.pulse.latched = true := by
  unfold Flag.pulse Flag.latch
  split
  · assumption
  · rfl

/-! ## The end of a session (12 R651–R653) -/

/-- A session is over: the host's has no role and no nonce, a console's is gone, and no FORCE setting of it stands. -/
structure SessionOver (who : Sess) (t : State) : Prop where
  host : who = .host → t.port.sess.role = .observer ∧ t.port.sess.nonce = none
  console : ∀ k, who = .console k → consoleOf t k = none
  force : ∀ n : Lx, (t.lxOf n).forceBy ≠ some who

theorem inProgress_host_of_role {s : State} (h : inProgress s .host = false) :
    s.port.sess.role = .observer ∧ s.port.sess.nonce = none ∧ ∀ n : Lx, (s.lxOf n).forceBy ≠ some .host := by
  simp only [inProgress, Bool.or_eq_false_iff, decide_eq_false_iff_not, not_not, Option.isSome_eq_false_iff,
    Option.isNone_iff_eq_none, List.any_eq_false, decide_eq_true_eq] at h
  obtain ⟨⟨hrole, hnonce⟩, hforce⟩ := h
  exact ⟨hrole, hnonce, fun n => hforce _ (Vector.mem_toList_iff.2 (Vector.getElem_mem n.isLt))⟩

theorem endSession_ends {who : Sess} {cause : Nat} {s : State} (hin : inProgress s who = true) :
    SessionOver who (endSession who cause s) := by
  have hforce : ∀ n : Lx, ((endSession who cause s).lxOf n).forceBy ≠ some who := by
    intro n
    unfold endSession
    rw [if_pos hin]
    have hoff : ∀ o : LoopOut,
        (if o.forceBy = some who then { o with force := none, forceBy := none } else o).forceBy ≠ some who := by
      intro o; split <;> simp_all
    cases who <;> simpa [State.lxOf, onSess, onConsole] using hoff _
  refine ⟨?_, ?_, hforce⟩
  · rintro rfl
    unfold endSession
    rw [if_pos hin]
    exact ⟨rfl, rfl⟩
  · rintro k rfl
    unfold endSession
    rw [if_pos hin]
    simp [consoleOf]

/-- A host's or console's session that is asked to end is over, a host's without anything to end included. -/
theorem endSession_over {who : Sess} {cause : Nat} {s : State} (hin : who ≠ .host → inProgress s who = true) :
    SessionOver who (endSession who cause s) := by
  by_cases hon : inProgress s who = true
  · exact endSession_ends hon
  · obtain rfl : who = .host := by_contra fun hne => hon (hin hne)
    have hoff := Bool.not_eq_true _ ▸ hon
    unfold endSession
    rw [if_neg hon]
    obtain ⟨hrole, hnonce, hforce⟩ := inProgress_host_of_role hoff
    exact ⟨fun _ => ⟨hrole, hnonce⟩, fun k hk => (by cases hk), hforce⟩

theorem answerAt_endSession_host (cause : Nat) (s : State) : answerAt (endSession .host cause s) .host = answerAt s .host := by
  unfold endSession emitSess
  split
  · rw [logOnly_emit]; rfl
  · rfl

theorem endSession_keys (who : Sess) (cause : Nat) (s : State) : (endSession who cause s).keys = s.keys := by
  rw [endSession_frame]

/-- LOGOUT's reply goes out before its session ends (12 R652). -/
theorem logout_runs {h : LineHdr} {s : State} (hacc : Accepted h (txt "LOGOUT") s) : runLine h (txt "LOGOUT") (bodyLogout h) s =
    endSession h.sess 0 (deliver (waiter h (lineStart h (txt "LOGOUT") s)) (plainReply none) (lineStart h (txt "LOGOUT") s)):=
  runLine_held hacc rfl

/-- A console whose line has had its reply still has its session. -/
theorem console_inProgress_of_replyOnly {k : Fin 16} {u d : State} {a : Answer} (hline : answerAt u (.console k) = some a)
    (honly : ReplyOnly (.console k) u (settle d)) : inProgress d (.console k) = true := by
  obtain ⟨c, hc, -⟩ := Option.map_eq_some_iff.1 hline
  obtain ⟨e, he, -⟩ := honly.own k c hc
  have he' : consoleOf d k = some e := he
  simp [inProgress, he']

theorem logout_ends {h : LineHdr} {s : State} (hacc : Accepted h (txt "LOGOUT") s) : Next (.logout h) s fun t =>
    (h.sess = .host → Replied h (txt "LOGOUT") {} s t ∧ t.port.sess.role = .observer ∧ t.port.sess.nonce = none) ∧
    (∀ k, h.sess = .console k → consoleOf t k = none) ∧ (∀ n : Lx, (t.lxOf n).forceBy ≠ some h.sess) ∧
    t.live = s.live ∧ t.keys = s.keys := by
  refine ⟨_, congrArg finish (logout_runs hacc), ?_⟩
  obtain ⟨hreply, honly⟩ := reply_stands h (txt "LOGOUT") s _ (plainReply none) hacc.1 (KeepsLine.refl _ _)
  have hline := lineStart_answer h (txt "LOGOUT") s hacc.1
  have hdeliver := deliverStep_deliver (waiter h (lineStart h (txt "LOGOUT") s)) (plainReply none) (lineStart h (txt "LOGOUT") s)
  have hlive := hdeliver.live.trans (lineStart_live h (txt "LOGOUT") s)
  have hkeys := hdeliver.keys.trans (lineStart_keys h (txt "LOGOUT") s)
  generalize deliver (waiter h (lineStart h (txt "LOGOUT") s)) (plainReply none) (lineStart h (txt "LOGOUT") s) = d
    at hreply honly hlive hkeys ⊢
  have hin : h.sess ≠ .host → inProgress d h.sess = true := by
    intro hne
    cases hs : h.sess with
    | host => exact absurd hs hne
    | console k => rw [hs] at hline honly; exact console_inProgress_of_replyOnly hline honly
    | script n => rw [hs] at hline; cases hline
  have hover := endSession_over (cause := 0) hin
  refine ⟨fun hhost => ⟨?_, hover.host hhost⟩, hover.console, hover.force, ?_, ?_⟩
  · unfold Replied at hreply ⊢
    rw [hhost, answerAt_settle] at hreply ⊢
    exact (answerAt_endSession_host 0 d).trans hreply
  · exact (endSession_live h.sess 0 d).trans hlive
  · exact (endSession_keys h.sess 0 d).trans hkeys

theorem sessionTimeout_ends {who : Sess} {s : State} (hin : inProgress s who = true) (hidle : awaits s who = false)
    (hdue : (sessOf s who).idleSince + (sessOf s who).timeout * usSec ≤ s.now) : Next (.sessionTimeout who) s fun t =>
      (who = .host → t.port.sess.role = .observer ∧ t.port.sess.nonce = none ∧ (t.port.events[7]).latched = true) ∧
      (∀ k, who = .console k → consoleOf t k = none) ∧
      (∀ n : Lx, (t.lxOf n).forceBy ≠ some who) ∧ t.live = s.live ∧ t.keys = s.keys := by
  have hrun : sessionTimeout who s = match who with
      | .host => onHpEvent 7 Flag.pulse (endSession who 1 s)
      | _ => endSession who 1 s := by
    unfold sessionTimeout
    simp only [hin, hidle, decide_eq_true hdue, Bool.not_false, Bool.and_true, if_true]
    cases who <;> rfl
  have hover := endSession_ends (cause := 1) hin
  have hlive := endSession_live who 1 s
  have hkeys := endSession_keys who 1 s
  refine ⟨_, congrArg finish hrun, ?_⟩
  generalize endSession who 1 s = v at hover hlive hkeys ⊢
  cases who with
  | host =>
    refine ⟨fun _ => ⟨(hover.host rfl).1, (hover.host rfl).2, ?_⟩, fun k hk => (by cases hk), hover.force, hlive, hkeys⟩
    simp [settle, onHpEvent, upd, Flag.pulse_latched]
  | console k => exact ⟨fun hhost => (by cases hhost), hover.console, hover.force, hlive, hkeys⟩
  | script n => cases hin

theorem keyIdx_lockout {role : Role} {i : Fin 3} {s : State} {e : Tick} (hrole : keyIdx role = some i)
    (hend : s.keys.lockEnd[i.val] = some e) (hdue : e ≤ s.now) : lockOutExpiry role s =
      lockoutCause { s with keys := { s.keys with lockEnd := upd s.keys.lockEnd i fun _ => none } } := by
  simp only [lockOutExpiry, hrole, hend, if_pos hdue]

theorem keepsLine_nonce (who : Sess) (f : Session → Session) (n : Nat) (u : State) :
    KeepsLine who u (onSess who f { u with freeCtr := n }) := by
  have hline : KeepsLine who u { u with freeCtr := n } := .of_eq rfl rfl
  exact hline.trans (onSess_keepsLine ..)

/-- Settles O13: LOGIN by its role, and each end of a session, of a nonce and of a lock-out by its event. -/
theorem sessionsBeginAndEnd : Obligations.SessionsBeginAndEnd := by
  refine ⟨fun h s hacc => ⟨?observer, fun r i hkey => ⟨fun hfree => ?nonce, fun hlocked => ?locked⟩⟩,
    fun h s hacc => logout_ends hacc, fun who s hin hidle hdue => sessionTimeout_ends hin hidle hdue,
    fun who s n hns hnonce hdue => ?expiry, fun r i s e hrole hend hdue => ?lockout⟩
  case observer => exact line_replies h _ _ s _ _ hacc rfl (onSess_keepsLine ..)
  case nonce =>
    refine line_replies h _ (bodyLogin h (some r)) s _ _ hacc ?_ (keepsLine_nonce h.sess _ _ _)
    simp only [bodyLogin, hkey, hfree, Option.isSome_none, Bool.false_eq_true, if_false]
    rfl
  case locked =>
    refine line_refused h _ (bodyLogin h (some r)) s .e15 hacc ?_
    simp only [bodyLogin, hkey, Option.isSome_iff_ne_none.2 hlocked, if_true]
  case expiry =>
    refine does_of (congrArg finish ?_)
    simp only [nonceExpiry, hnonce, if_pos hdue]
  case lockout =>
    exact ⟨_, congrArg finish (keyIdx_lockout hrole hend hdue), rfl, rfl, rfl⟩

/-! ## Keys and the debug lock (12 R654–R660, R680) -/

/-- A reply comes to a line that waits, whatever has moved since, if the line is still its session's present one. -/
theorem answerCame_of_keepsLine {w : Waiter} {r : Reply} {s u : State} (hline : KeepsLine w.sess s u) (hwaits : Awaits s w) :
    AnswerCame w r s (settle (deliver w r u)) := by
  have hend : lineEnd u w.sess = lineEnd s w.sess := by
    cases w.sess with
    | host => simp only [lineEnd, hline.async]
    | _ => rfl
  have hcame := deliver_came w r u (by unfold Awaits; rw [hline.answer]; exact hwaits)
  unfold AnswerCame at hcame ⊢
  rw [hcame, hline.answer, hend]

theorem engineStep_storeDone (w : Waiter) (s : State) : EngineStep s (storeDone w s) := by
  unfold storeDone
  split
  · exact engineStep_onHpEvent ..
  · exact EngineStep.refl s

theorem putKey_keys_congr {k : KeyName} {v : Nat} {s t : State} (h : t.keys = s.keys) :
    (putKey k v t).keys = (putKey k v s).keys := by
  cases k <;> simp only [putKey, zeroCounter, onUnit, h]

theorem putKey_images_congr {k : KeyName} {v : Nat} {s t : State} (h : t.images = s.images) :
    (putKey k v t).images = (putKey k v s).images := by
  cases k <;> simp only [putKey, zeroCounter, onUnit, h]

theorem putKey_port (k : KeyName) (v : Nat) (s : State) : (putKey k v s).port = s.port := by cases k <;> rfl
theorem putKey_interp (k : KeyName) (v : Nat) (s : State) : (putKey k v s).interp = s.interp := by cases k <;> rfl
theorem putKey_live (k : KeyName) (v : Nat) (s : State) : (putKey k v s).live = s.live := by cases k <;> rfl

theorem deliver_flash (w : Waiter) (r : Reply) (s : State) : (deliver w r s).interp.flash = s.interp.flash := by
  rw [(deliverStep_deliver w r s).rest]

/-- The end of flash work that a line began: nothing is under way, and the line is still its session's present one. -/
theorem flashEnd_keepsLine (w : Waiter) (s : State) :
    KeepsLine w.sess s (storeDone w { s with interp := { s.interp with flash := none } }) := by
  have hflash : KeepsLine w.sess s { s with interp := { s.interp with flash := none } } :=
    ⟨by cases w.sess <;> rfl, rfl, rfl⟩
  exact hflash.trans ((engineStep_storeDone w _).keeps _)

theorem flashEnd_flash (w : Waiter) (s : State) :
    (storeDone w { s with interp := { s.interp with flash := none } }).interp.flash = none :=
  congrArg Interp.flash (engineStep_storeDone w { s with interp := { s.interp with flash := none } }).interp

theorem keyWriteComplete_verified {s : State} {k : KeyName} {v : Nat} {w : Waiter}
    (hflash : s.interp.flash = some (.key k v w)) : Next (.keyWriteComplete true) s (fun t => t.interp.flash = none ∧
      t.keys = (putKey k v s).keys ∧ t.images = (putKey k v s).images ∧ t.live = s.live ∧
      (Awaits s w → AnswerCame w {} s t)) := by
  have hrun : keyWriteComplete true s = deliver w (plainReply none) (emitSess w.sess 0x0505 0 (keyDetail k) (putKey k v
      (storeDone w { s with interp := { s.interp with flash := none } }))) := by
    simp only [keyWriteComplete, hflash, if_true]
  refine ⟨_, congrArg finish hrun, ?_⟩
  have hdone := engineStep_storeDone w { s with interp := { s.interp with flash := none } }
  have hline := flashEnd_keepsLine w s
  have hnone := flashEnd_flash w s
  generalize storeDone w { s with interp := { s.interp with flash := none } } = u at hdone hline hnone ⊢
  have hlog := logOnly_emitSess w.sess 0x0505 0 (keyDetail k) (putKey k v u)
  have hput : KeepsLine w.sess u (putKey k v u) := .of_eq (putKey_port ..) (putKey_interp ..)
  have hsess : KeepsLine w.sess s (emitSess w.sess 0x0505 0 (keyDetail k) (putKey k v u)) :=
    (hline.trans hput).trans (.of_eq hlog.port hlog.interp)
  have hdeliver := deliverStep_deliver w (plainReply none) (emitSess w.sess 0x0505 0 (keyDetail k) (putKey k v u))
  refine ⟨(deliver_flash ..).trans ?_, ?_, ?_, ?_, answerCame_of_keepsLine hsess⟩
  · rw [hlog.interp, putKey_interp, hnone]
  · exact (hdeliver.keys.trans hlog.keys).trans (putKey_keys_congr hdone.keys)
  · exact (hdeliver.images.trans hlog.images).trans (putKey_images_congr hdone.images)
  · exact ((hdeliver.live.trans hlog.live).trans (putKey_live ..)).trans hdone.live

theorem keyWriteComplete_failed {s : State} {k : KeyName} {v : Nat} {w : Waiter}
    (hflash : s.interp.flash = some (.key k v w)) : Next (.keyWriteComplete false) s (fun t => t.interp.flash = none ∧
      t.keys = s.keys ∧ t.images = s.images ∧ t.live = s.live ∧ (Awaits s w → AnswerCame w { err := some .e17 } s t)) := by
  have hrun : keyWriteComplete false s = deliver w (plainReply (some .e17))
      (storeDone w { s with interp := { s.interp with flash := none } }) := by
    simp only [keyWriteComplete, hflash]; rfl
  refine ⟨_, congrArg finish hrun, ?_⟩
  have hdone := engineStep_storeDone w { s with interp := { s.interp with flash := none } }
  have hline := flashEnd_keepsLine w s
  have hnone := flashEnd_flash w s
  generalize storeDone w { s with interp := { s.interp with flash := none } } = u at hdone hline hnone ⊢
  have hdeliver := deliverStep_deliver w (plainReply (some .e17)) u
  exact ⟨(deliver_flash ..).trans hnone, hdeliver.keys.trans hdone.keys, hdeliver.images.trans hdone.images,
    hdeliver.live.trans hdone.live, answerCame_of_keepsLine hline⟩

theorem logOnly_emitDebug (h : LineHdr) (locked : Bool) (s : State) : LogOnly s (emitDebug h locked s) :=
  (logOnly_logWrite ..).trans (logOnly_emitSess ..)

/-- Settles O15: what each key line makes of the keys, and the two ends of a key's programming. -/
theorem keysAreWritten : Obligations.KeysAreWritten := by
  refine ⟨fun h s k groups bs hacc hread hlen hnz hmay hfree => ?held,
    fun s k v w hflash => ⟨keyWriteComplete_verified hflash, keyWriteComplete_failed hflash⟩,
    fun h s hacc hmay => ⟨?locked, fun hopen hfree => ?opened⟩⟩
  case held =>
    refine line_held h (txt "SET") (bodyKey h k groups) s _ hacc ?_ ⟨by cases h.sess <;> rfl, rfl, rfl⟩
    have hmay' : mayWriteKeys (lineStart h (txt "SET") s) h ≠ false := by
      rw [show mayWriteKeys (lineStart h (txt "SET") s) h = true from hmay]; exact Bool.noConfusion
    have hfree' : ¬ flashBusy (lineStart h (txt "SET") s) = true := by
      rw [show flashBusy (lineStart h (txt "SET") s) = false from hfree]; exact Bool.false_ne_true
    simp only [bodyKey, hread]
    rw [if_neg hmay', if_neg (by rintro (h | h); exacts [h hlen, hnz h]), if_neg hfree']
    rfl
  case locked =>
    have hlog := logOnly_emitDebug h true (setStart h s)
    have hbody : bodyDebugLocked h (lineStart h (txt "SET") s) = ok { emitDebug h true (setStart h s) with
        keys := { (emitDebug h true (setStart h s)).keys with debugLocked := true, debugOpenDue := false } } := by
      have hmay' : mayWriteKeys (lineStart h (txt "SET") s) h ≠ false := by
        rw [show mayWriteKeys (lineStart h (txt "SET") s) h = true from hmay]; exact Bool.noConfusion
      exact if_neg hmay'
    obtain ⟨t, hexec, hreply, honly⟩ := line_replies h (txt "SET") (bodyDebugLocked h) s _ _ hacc hbody
      (.of_eq hlog.port hlog.interp)
    exact ⟨t, hexec, hreply, _, honly, _, hlog, rfl⟩
  case opened =>
    have hlog := logOnly_emitDebug h false (setStart h s)
    have hlive : (setStart h s).live = s.live := lineStart_live h (txt "SET") s
    have hpart : (setStart h s).part = s.part := (lineTaken_lineStart h (txt "SET") s).part
    have hbody : bodyDebugOpen h (setStart h s) = ok { emitDebug h false (setStart h s) with
        keys := { (emitDebug h false (setStart h s)).keys with
          role := .replicate 3 0, unit := .replicate 64 0, debugOpenDue := true }
        images := { (emitDebug h false (setStart h s)).images with unitCounters := .replicate 64 0 }
        caller := { (emitDebug h false (setStart h s)).caller with
          units := (emitDebug h false (setStart h s)).caller.units.map fun x => { x with counter := 0 } } } := by
      simp [bodyDebugOpen, hmay, hopen, hfree]
    obtain ⟨t, hexec, hreply, honly⟩ := line_replies h (txt "SET") (bodyDebugOpen h) s _ _ hacc hbody
      (.of_eq hlog.port hlog.interp)
    refine ⟨t, hexec, hreply, _, honly, ?_, rfl, hlog.live.trans hlive, hlog.part.trans hpart⟩
    exact congrArg (fun k : Keys => { k with role := .replicate 3 0, unit := .replicate 64 0, debugOpenDue := true }) hlog.keys

end Sys2Proof.Machine

/-! THE SAFETY SEQUENCER (12 R665–R678; 16 R817): what an image decides of a partition write. -/

namespace Sys2Proof.Machine

/-! ## The image in force (12 R665, R678) -/

/-- Of two images that may stand the later one; of two of one generation the first. -/
def laterImage : Option PartImage → Option PartImage → Option PartImage
  | some a, some b => if a.gen < b.gen then some b else some a
  | some a, none => some a
  | none, b => b

theorem laterImage_some_none (a : PartImage) : laterImage (some a) none = some a := rfl
theorem laterImage_none (b : Option PartImage) : laterImage none b = b := rfl
theorem laterImage_first {a b : PartImage} (h : ¬ a.gen < b.gen) : laterImage (some a) (some b) = some a := if_neg h
theorem laterImage_second {a b : PartImage} (h : a.gen < b.gen) : laterImage (some a) (some b) = some b := if_pos h

theorem filter_valid {a : PartImage} (h : a.valid = true) : (some a).filter (·.valid) = some a := by simp [h]
theorem filter_invalid {a : PartImage} (h : a.valid = false) : (some a).filter (·.valid) = none := by simp [h]

/-- The one in force of what stands in two slots. -/
theorem partInForce_eq (s : State) :
    partInForce s = laterImage (s.part.slot0.filter (·.valid)) (s.part.slot1.filter (·.valid)) := by
  unfold partInForce laterImage
  rfl

theorem partInForce_congr {s t : State} (h0 : t.part.slot0 = s.part.slot0) (h1 : t.part.slot1 = s.part.slot1) :
    partInForce t = partInForce s := by
  rw [partInForce_eq, partInForce_eq, h0, h1]

/-- Where an image goes: into the other slot than the one in force. -/
theorem putImage_slots (valid : Bool) (cfg : Settings) (s : State) :
    (partInForce s = s.part.slot0 ∧ (putImage valid cfg s).part.slot0 = s.part.slot0 ∧
      (∃ a, s.part.slot0 = some a ∧ a.valid = true ∧
        (putImage valid cfg s).part.slot1 = some ⟨a.gen + 1, valid, cfg⟩)) ∨
    (partInForce s = s.part.slot1.filter (·.valid) ∧ (putImage valid cfg s).part.slot1 = s.part.slot1 ∧
      (putImage valid cfg s).part.slot0 = some ⟨((partInForce s).map (·.gen)).getD 0 + 1, valid, cfg⟩) := by
  by_cases hfirst : partInForce s = s.part.slot0 ∧ s.part.slot0.isSome
  · left
    obtain ⟨heq, hsome⟩ := hfirst
    obtain ⟨a, ha⟩ := Option.isSome_iff_exists.1 hsome
    have hvalid : a.valid = true := by
      by_contra hv
      rw [partInForce_eq, ha, filter_invalid (Bool.not_eq_true _ ▸ hv), laterImage_none] at heq
      exact hv (Option.filter_eq_some_iff.1 heq).2
    refine ⟨heq, ?_, a, ha, hvalid, ?_⟩
    · simp [putImage, heq, hsome]
    · simp [putImage, heq, ha]
  · right
    refine ⟨?_, ?_, ?_⟩
    · rw [partInForce_eq] at hfirst ⊢
      cases h0 : s.part.slot0 with
      | none => rfl
      | some a =>
        cases hv : a.valid with
        | false => rw [filter_invalid hv, laterImage_none]
        | true =>
          rw [h0, filter_valid hv] at hfirst
          rw [filter_valid hv]
          cases h1 : s.part.slot1.filter (·.valid) with
          | none => rw [h1, laterImage_some_none] at hfirst; exact absurd ⟨rfl, rfl⟩ hfirst
          | some b =>
            rw [h1] at hfirst
            by_cases hlt : a.gen < b.gen
            · exact laterImage_second hlt
            · exact absurd ⟨laterImage_first hlt, rfl⟩ hfirst
    · simp only [putImage]; rw [if_neg hfirst]
    · simp only [putImage]; rw [if_neg hfirst]

/-- An image that has verified is the one in force, under the next generation number. -/
theorem partInForce_putImage_valid (cfg : Settings) (s : State) :
    partInForce (putImage true cfg s) = some ⟨((partInForce s).map (·.gen)).getD 0 + 1, true, cfg⟩ := by
  rw [partInForce_eq (putImage true cfg s)]
  obtain ⟨hforce, h0, a, ha, hvalid, h1⟩ | ⟨hforce, h1, h0⟩ := putImage_slots true cfg s
  · rw [h0, h1, hforce, ha, filter_valid hvalid, filter_valid rfl]
    exact laterImage_second (Nat.lt_succ_self _)
  · rw [h0, h1, filter_valid rfl, hforce]
    cases s.part.slot1.filter (·.valid) with
    | none => rfl
    | some b => exact laterImage_first (Nat.not_lt.2 (Nat.le_succ _))

/-- An image that has not verified leaves the one in force. -/
theorem partInForce_putImage_invalid (cfg : Settings) (s : State) : partInForce (putImage false cfg s) = partInForce s := by
  rw [partInForce_eq (putImage false cfg s)]
  obtain ⟨hforce, h0, a, ha, hvalid, h1⟩ | ⟨hforce, h1, h0⟩ := putImage_slots false cfg s
  · rw [h0, h1, hforce, ha, filter_valid hvalid, filter_invalid rfl]
    rfl
  · rw [h0, h1, hforce, filter_invalid rfl]
    rfl

theorem putImage_frame (valid : Bool) (cfg : Settings) (s : State) :
    putImage valid cfg s = { s with part := { s.part with
      slot0 := (putImage valid cfg s).part.slot0, slot1 := (putImage valid cfg s).part.slot1 } } := by
  unfold putImage
  simp only
  split <;> rfl

/-! ## The causes of STORFAULT (09 R515) -/

/-- Whether a cause of STORFAULT stands. -/
def StorCauses.stands (c : StorCauses) : Bool := c.program || c.sectorOut || c.config || c.partition

/-- What the causes of STORFAULT take, before their G31 member follows. -/
def storNoted (f : StorCauses → StorCauses) (s : State) : State :=
  { s with stor := f s.stor, flags := { s.flags with storFault := s.flags.storFault.drive (f s.stor).stands } }

theorem engineStep_storCauses (f : StorCauses → StorCauses) (s : State) : EngineStep (storNoted f s) (storCauses f s) :=
  engineStep_setCause 1 (f s.stor).stands (storNoted f s)

/-! ## The write at the head of the queue (12 R665, R666; 16 R817) -/

/-- What an image that has verified leaves beside the partition. -/
structure PartApplied (i : SettingId) (v : Val) (s t : State) : Prop where
  live : t.live = putCfg i v s.live
  writes : t.part.writes = s.part.writes
  force : partInForce t = some ⟨((partInForce s).map (·.gen)).getD 0 + 1, true, putCfg i v s.live⟩
  stor : t.stor.partition = false
  keys : t.keys = s.keys
  images : t.images = s.images
  line : ∀ who, KeepsLine who s t

theorem WriteStep.part {u t : State} (h : WriteStep u t) : t.part = u.part := by rw [h.rest]
theorem WriteStep.keys {u t : State} (h : WriteStep u t) : t.keys = u.keys := by rw [h.rest]
theorem WriteStep.images {u t : State} (h : WriteStep u t) : t.images = u.images := by rw [h.rest]

theorem partApplied_applyPart (w : PartWrite) (v : Val) (s : State) : PartApplied w.id v s (applyPart w v s) := by
  have hput := putImage_frame true (putCfg w.id v s.live) s
  have hforce := partInForce_putImage_valid (putCfg w.id v s.live) s
  unfold applyPart
  simp only
  generalize putImage true (putCfg w.id v s.live) s = u at hput hforce ⊢
  have hwrite := ((puts_commitWrite w.by_.sess w.src w.id v u).trans_same
    (puts_logCollision w.src w.coll w.id (encodeVal (kindOf (putCfg w.id v s.live) w.id) v) _))
  generalize logCollision w.src w.coll w.id (encodeVal (kindOf (putCfg w.id v s.live) w.id) v)
    (commitWrite w.by_.sess w.src w.id v u) = x at hwrite ⊢
  have hstor := engineStep_storCauses (fun c => { c with partition := false })
    { x with part := { x.part with flags := upd x.part.flags 2 (Flag.drive false) } }
  have hstorPart : (storCauses (fun c => { c with partition := false })
      { x with part := { x.part with flags := upd x.part.flags 2 (Flag.drive false) } }).part =
      { u.part with flags := upd x.part.flags 2 (Flag.drive false) } :=
    hstor.part.trans (congrArg (fun p : Partition => { p with flags := upd x.part.flags 2 (Flag.drive false) }) hwrite.step.part)
  have hulive : u.live = s.live := by rw [hput]
  have hline : ∀ who, KeepsLine who s u := fun who => .of_eq (by rw [hput]) (by rw [hput])
  have hflags : ∀ who, KeepsLine who x (storNoted (fun c => { c with partition := false })
      { x with part := { x.part with flags := upd x.part.flags 2 (Flag.drive false) } }) := fun who => .of_eq rfl rfl
  exact {
    live := (hstor.live.trans hwrite.live).trans (by rw [hulive])
    writes := by rw [hstorPart, hput]
    force := (partInForce_congr (by rw [hstorPart]) (by rw [hstorPart])).trans hforce
    stor := congrArg StorCauses.partition hstor.stor
    keys := (hstor.keys.trans hwrite.step.keys).trans (by rw [hput])
    images := (hstor.images.trans hwrite.step.images).trans (by rw [hput])
    line := fun who => (hline who).trans ((hwrite.step.keeps who).trans ((hflags who).trans (hstor.keeps who))) }

theorem lineGoesOn_single_ok {w : PartWrite} (hline : w.line = {}) (s : State) : lineGoesOn w false s = ok s := by
  unfold lineGoesOn; rw [hline]; rfl

theorem lineGoesOn_single_failed {w : PartWrite} (hline : w.line = {}) (s : State) : lineGoesOn w true s = refused .e17 s := by
  unfold lineGoesOn; rw [hline]; rfl

/-- The write leaves the queue, and STOREDONE goes up for a line of the host port. -/
def writeTaken (w : PartWrite) (rest : List PartWrite) (s : State) : State :=
  storeDone w.by_ { s with part := { s.part with writes := rest } }

theorem writeTaken_step (w : PartWrite) (rest : List PartWrite) (s : State) :
    EngineStep { s with part := { s.part with writes := rest } } (writeTaken w rest s) := engineStep_storeDone ..

theorem writeTaken_keepsLine (w : PartWrite) (rest : List PartWrite) (s : State) (who : Sess) :
    KeepsLine who s (writeTaken w rest s) :=
  have hwrites : KeepsLine who s { s with part := { s.part with writes := rest } } := .of_eq rfl rfl
  hwrites.trans ((writeTaken_step w rest s).keeps who)

theorem writeTaken_force (w : PartWrite) (rest : List PartWrite) (s : State) :
    partInForce (writeTaken w rest s) = partInForce s :=
  have hpart : (writeTaken w rest s).part = { s.part with writes := rest } := (writeTaken_step w rest s).part
  partInForce_congr (by rw [hpart]) (by rw [hpart])

section
variable {w : PartWrite} {rest : List PartWrite} {s : State} {v : Val} (hwrites : s.part.writes = w :: rest)
  (hread : readVal (writeTaken w rest s).ident.part (writeTaken w rest s).watch.node
    (kindOf (writeTaken w rest s).live w.id) w.value = .ok v) (hline : w.line = {})
include hwrites hread hline

theorem partitionProgramComplete_verified :
    partitionProgramComplete true s = deliver w.by_ (plainReply none) (applyPart w v (writeTaken w rest s)) := by
  unfold writeTaken at *
  simp only [partitionProgramComplete, hwrites, hread, lineGoesOn_single_ok hline]
  rfl

theorem partitionProgramComplete_failed : partitionProgramComplete false s = deliver w.by_ (plainReply (some .e17))
    (putImage false (putCfg w.id v (writeTaken w rest s).live) (writeTaken w rest s)) := by
  unfold writeTaken at *
  simp only [partitionProgramComplete, hwrites, hread, lineGoesOn_single_failed hline]
  rfl

end

/-- Settles O16: the image that has verified, and the one that has not, of the write at the head of the queue. -/
theorem imageDecidesPartitionWrite : Obligations.ImageDecidesPartitionWrite := by
  intro s w rest v hwrites hread hline
  have htaken := writeTaken_step w rest s
  have hkeeps := writeTaken_keepsLine w rest s w.by_.sess
  have hforce := writeTaken_force w rest s
  have hlive : (writeTaken w rest s).live = s.live := htaken.live
  have hpart : (writeTaken w rest s).part = { s.part with writes := rest } := htaken.part
  have hkeys : (writeTaken w rest s).keys = s.keys := htaken.keys
  have himages : (writeTaken w rest s).images = s.images := htaken.images
  have hread' : readVal (writeTaken w rest s).ident.part (writeTaken w rest s).watch.node
      (kindOf (writeTaken w rest s).live w.id) w.value = .ok v := by
    rw [htaken.rest]; exact hread
  have hgood := partitionProgramComplete_verified hwrites hread' hline
  have hbad := partitionProgramComplete_failed hwrites hread' hline
  generalize writeTaken w rest s = u at htaken hkeeps hforce hlive hpart hkeys himages hread' hgood hbad
  refine ⟨⟨_, congrArg finish hgood, ?_⟩, ⟨_, congrArg finish hbad, ?_⟩⟩
  · have happlied := partApplied_applyPart w v u
    have hdeliver := deliverStep_deliver w.by_ (plainReply none) (applyPart w v u)
    have hdone : partInForce (settle (deliver w.by_ (plainReply none) (applyPart w v u))) = _ :=
      (partInForce_congr (congrArg Partition.slot0 hdeliver.part) (congrArg Partition.slot1 hdeliver.part)).trans happlied.force
    refine ⟨?_, ?_, ?_, ?_, ?_, ?_, ?_, answerCame_of_keepsLine (hkeeps.trans (happlied.line _))⟩
    · exact (congrArg Partition.writes hdeliver.part).trans (happlied.writes.trans (by rw [hpart]))
    · exact hdeliver.live.trans (happlied.live.trans (by rw [hlive]))
    · rw [hdone, hlive]; rfl
    · rw [hdone, hforce]; rfl
    · exact (congrArg StorCauses.partition hdeliver.stor).trans happlied.stor
    · exact hdeliver.keys.trans (happlied.keys.trans hkeys)
    · exact hdeliver.images.trans (happlied.images.trans himages)
  · have hput := putImage_frame false (putCfg w.id v u.live) u
    have hsame := partInForce_putImage_invalid (putCfg w.id v u.live) u
    generalize putImage false (putCfg w.id v u.live) u = x at hput hsame
    have hdeliver := deliverStep_deliver w.by_ (plainReply (some .e17)) x
    have hline' : KeepsLine w.by_.sess u x := .of_eq (by rw [hput]) (by rw [hput])
    refine ⟨?_, ?_, ?_, ?_, ?_, answerCame_of_keepsLine (hkeeps.trans hline')⟩
    · exact (congrArg Partition.writes hdeliver.part).trans (by rw [hput]; exact congrArg Partition.writes hpart)
    · exact hdeliver.live.trans (by rw [hput]; exact hlive)
    · exact (partInForce_congr (congrArg Partition.slot0 hdeliver.part) (congrArg Partition.slot1 hdeliver.part)).trans
        (hsame.trans hforce)
    · exact hdeliver.keys.trans (by rw [hput]; exact hkeys)
    · exact hdeliver.images.trans (by rw [hput]; exact himages)

end Sys2Proof.Machine

/-! WHAT A RESET LEAVES (15 R773–R791): flash work cut short, the node cleared, and the level that a source asks for. -/

namespace Sys2Proof.Machine

/-! ## Flash work cut short (11 R613, 12 R657, R666) -/

/-- What flash work that is cut short touches: the images, the keys, the partition and the stored counters of the units. -/
def WorkCut (u t : State) : Prop :=
  t = { u with freeCtr := t.freeCtr, images := t.images, keys := t.keys, part := t.part, caller := t.caller }

theorem WorkCut.refl (u : State) : WorkCut u u := rfl

theorem WorkCut.trans {u v t : State} (h : WorkCut u v) (h' : WorkCut v t) : WorkCut u t := by
  unfold WorkCut at *
  rw [h', h]

theorem workCut_putKey (k : KeyName) (v : Nat) (s : State) : WorkCut s (putKey k v s) := by cases k <;> rfl

theorem workCut_putConfigImage (img : Image) (s : State) : WorkCut s (putConfigImage img s) := by
  unfold putConfigImage; split <;> rfl

theorem workCut_putImage (valid : Bool) (cfg : Settings) (s : State) : WorkCut s (putImage valid cfg s) := by
  unfold WorkCut; rw [putImage_frame]

/-- The key write or image in hand, at its cut. -/
def cutFlash (whole : Bool) (s : State) : State :=
  match s.interp.flash with
  | some (.save gen cfg _) => putConfigImage ⟨gen, whole, cfg⟩ s
  | some (.key k v _) => if whole then putKey k v s else s
  | _ => s

/-- The partition write in hand, at its cut. -/
def cutPart (whole : Bool) (s : State) : State :=
  match s.part.writes with
  | w :: _ => match readVal s.ident.part s.watch.node (kindOf s.live w.id) w.value with
    | .ok v => putImage whole (putCfg w.id v s.live) s
    | .error _ => s
  | [] => s

theorem workCut_cutFlash (whole : Bool) (s : State) : WorkCut s (cutFlash whole s) := by
  unfold cutFlash
  split
  · exact workCut_putConfigImage ..
  · split
    · exact workCut_putKey ..
    · exact WorkCut.refl s
  · exact WorkCut.refl s

theorem workCut_cutPart (whole : Bool) (s : State) : WorkCut s (cutPart whole s) := by
  unfold cutPart
  split
  · split
    · exact workCut_putImage ..
    · exact WorkCut.refl s
  · exact WorkCut.refl s

theorem cutWork_eq {s : State} (h : ¬ (s.interp.flash.isNone ∧ s.part.writes = [])) :
    cutWork s = cutPart (Config.cutWrite s.freeCtr) (cutFlash (Config.cutWrite s.freeCtr) { s with freeCtr := s.freeCtr + 1 }) := by
  unfold cutWork
  rw [if_neg h]
  rfl

theorem workCut_cutWork (s : State) : WorkCut s (cutWork s) := by
  by_cases h : s.interp.flash.isNone ∧ s.part.writes = []
  · rw [show cutWork s = s from if_pos h]; exact WorkCut.refl s
  · rw [cutWork_eq h]
    have hctr : WorkCut s { s with freeCtr := s.freeCtr + 1 } := rfl
    exact (hctr.trans (workCut_cutFlash ..)).trans (workCut_cutPart ..)

theorem cutWork_idle {s : State} (hflash : s.interp.flash = none) (hwrites : s.part.writes = []) : cutWork s = s :=
  if_pos ⟨by rw [hflash]; rfl, hwrites⟩

/-! ## The node cleared (01 R24; 15 R773, R790) -/

theorem setCause_stopped {m : Member} {v : Bool} {s : State} (h : s.engine.running = false) :
    setCause m v s = onMember m (fun a => { a with cause := v }) s := if_pos (.inr h)

theorem storCauses_stopped {f : StorCauses → StorCauses} {s : State} (h : s.engine.running = false) :
    storCauses f s = onMember 1 (fun a => { a with cause := (f s.stor).stands }) (storNoted f s) :=
  setCause_stopped (s := storNoted f s) h

/-- The cause of STORFAULT that stands across a reset. -/
def sectorsOut (s : State) : StorCauses := { sectorOut := s.log.sectors.toList.any fun x => x.out }

theorem standing_stopped {warn : Bool} {s : State} (h : s.engine.running = false) : standing warn s =
    onMember 4 (fun a => { a with cause := warn }) (onMember 1 (fun a => { a with cause := (sectorsOut s).stands })
      (storNoted (fun _ => sectorsOut s) { s with flags := { pwrWarn := { live := warn, latched := warn } } })) := by
  have hflags : ({ s with flags := { pwrWarn := { live := warn, latched := warn } } } : State).engine.running = false := h
  unfold standing
  simp only
  rw [storCauses_stopped hflags]
  exact setCause_stopped h

/-- What a cleared node holds. -/
structure NodeCleared (power full warn : Bool) (s t : State) : Prop where
  rest : t = { s with
    live := {}, store := {}, part := t.part, keys := t.keys, slices := .replicate 128 {}, dies := .replicate 8 {}
    engine := { ({} : Engine) with g31 := t.engine.g31 }
    caller := { units := s.images.unitCounters.map fun n => { counter := n } }
    watch := {}, can := .replicate 2 {}, lx := s.lx.map (freshLx power)
    panel := { freshPanel .off {} s.panel with flags := .replicate 3 {} }, log := freshLog s.log
    port := { async := s.pins.asyncStrap }, interp := { count := s.interp.count }, clk := freshClocks full s
    mem := { marchFails := s.mem.marchFails }, power := {}, stor := t.stor, flags := t.flags }
  part : t.part = { s.part with writes := [], keysw := .released, flags := t.part.flags }
  keys : t.keys = { s.keys with lockEnd := t.keys.lockEnd }
  pwrWarn : t.flags.pwrWarn = { live := warn, latched := warn }

theorem nodeCleared_clearNode (power full warn : Bool) (s : State) : NodeCleared power full warn s (clearNode power full warn s) := by
  unfold clearNode
  rw [standing_stopped rfl]
  exact ⟨rfl, rfl, rfl, rfl⟩

/-! ## The reset of a level (15 R773, R775, R791) -/

theorem Restarted.of_eq {level : ResetLevel} {src : ResetSource} {cause : BitVec 16} {s s' t : State}
    (h : Restarted level src cause s' t) (hlog : s'.log = s.log)
    (hkept : s.interp.flash = none → s.part.writes = [] → s'.interp.flash = none ∧ s'.part.writes = [] ∧
      s'.images = s.images ∧ s'.keys.role = s.keys.role ∧ s'.keys.unit = s.keys.unit ∧
      s'.part.slot0 = s.part.slot0 ∧ s'.part.slot1 = s.part.slot1) : Restarted level src cause s t where
  phase := h.phase
  level := h.level
  engine := h.engine
  calls := h.calls
  port := h.port
  links := h.links
  log := by rw [← hlog]; exact h.log
  kept := by
    intro hflash hwrites
    obtain ⟨hflash', hwrites', himages, hrole, hunit, h0, h1⟩ := hkept hflash hwrites
    rw [← himages, ← hrole, ← hunit, ← h0, ← h1]
    exact h.kept hflash' hwrites'
  mode := h.mode

/-- What is noted of a reset before the node is cleared. -/
def resetNoted (level : ResetLevel) (src : ResetSource) (bits : BitVec 16) (s : State) : State :=
  noteReset level src { s with rst := { s.rst with
    level := level, full := fullStart (decide (level = .power)) src s, marchStopAt := none, coreDeep := false
    wdCoreAt := if decide (level = .power) then none else s.rst.wdCoreAt
    cause := s.rst.cause ||| bits
    phase := .held } }

theorem nodeCleared_fullReset (level : ResetLevel) (src : ResetSource) (bits : BitVec 16) (s : State) :
    NodeCleared (decide (level = .power)) (fullStart (decide (level = .power)) src (cutWork s))
      (decide (level = .power) || (cutWork s).flags.pwrWarn.live) (resetNoted level src bits (cutWork s))
      (fullReset level src bits s) := nodeCleared_clearNode ..

theorem restarted_fullReset (level : ResetLevel) (src : ResetSource) (bits : BitVec 16) (s : State) :
    Restarted level src (s.rst.cause ||| bits) s (fullReset level src bits s) := by
  have hcut := workCut_cutWork s
  have hclear := nodeCleared_fullReset level src bits s
  have hidle : s.interp.flash = none → s.part.writes = [] → cutWork s = s := cutWork_idle
  generalize cutWork s = v at hcut hclear hidle
  generalize fullReset level src bits s = t at hclear
  obtain ⟨hrest, hpart, hkeys, -⟩ := hclear
  have hrst : v.rst = s.rst := by rw [hcut]
  have hlog : v.log = s.log := by rw [hcut]
  have htrst : t.rst = (resetNoted level src bits v).rst := by rw [hrest]
  have htlog : t.log = freshLog v.log := by rw [hrest]; rfl
  exact {
    phase := by rw [htrst]; rfl
    level := by rw [htrst, ← hrst]; exact ⟨rfl, rfl, rfl, rfl⟩
    engine := by rw [hrest]; exact ⟨rfl, rfl, rfl⟩
    calls := by rw [hrest]; exact ⟨rfl, rfl⟩
    port := by rw [hrest]; exact ⟨rfl, rfl, rfl, rfl, rfl⟩
    links := by rw [hrest]; exact ⟨rfl, rfl⟩
    log := by rw [htlog, ← hlog]; exact ⟨rfl, rfl, rfl, rfl⟩
    kept := by
      intro hflash hwrites
      obtain rfl := hidle hflash hwrites
      refine ⟨by rw [hrest]; rfl, by rw [hkeys]; rfl, by rw [hkeys]; rfl, by rw [hpart]; rfl, by rw [hpart]; rfl⟩
    mode := by rw [hrest] }

theorem systemSource_acts {src : ResetSource} {bits : BitVec 16} {s : State} (hacts : sourceActs src s = true) :
    systemSource src bits s = fullReset (if s.rst.phase = .up then .system else higher .system s.rst.level) src bits s :=
  if_pos hacts

theorem systemSource_idle {src : ResetSource} {bits : BitVec 16} {s : State} (hidle : sourceActs src s = false) :
    systemSource src bits s = s := if_neg (by rw [hidle]; exact Bool.false_ne_true)

theorem sourceActs_up {src : ResetSource} {s : State} (hup : s.rst.phase = .up) : sourceActs src s = true := by
  unfold sourceActs; rw [hup]

/-- A source of SYSTEM level restarts a node that it reaches. -/
theorem restarted_systemSource {src : ResetSource} (bits : BitVec 16) {s : State} (hacts : sourceActs src s = true) :
    Restarted (if s.rst.phase = .up then .system else higher .system s.rst.level) src (s.rst.cause ||| bits) s
      (systemSource src bits s) := by
  rw [systemSource_acts hacts]; exact restarted_fullReset ..

end Sys2Proof.Machine

/-! THE KEY SWITCH AND THE CHECK PASS (12 R672–R677). -/

namespace Sys2Proof.Machine

theorem passEnds_iff (s : State) :
    passEnds s = true ↔ sequencerRuns s = true ∧ s.part.writes = [] ∧ s.part.checkAt + 90000 ≤ s.now := by
  simp [passEnds, and_assoc]

theorem keySwitch_takes {b : Bool} {s : State} (hruns : sequencerRuns s = true)
    (hnew : s.part.keysw ≠ (if b then .asserted else .released)) :
    keySwitch b s = emitBlock 5 0x0506 0 [if b then 1 else 0] { s with
      pins := { s.pins with keyALow := b, keyBLow := !b }
      part := { s.part with
        keysw := if b then .asserted else .released, flags := upd s.part.flags 0 (Flag.drive false) } } := by
  refine if_neg ?_
  rintro (hidle | hsame)
  · exact absurd (hruns.symm.trans hidle) Bool.noConfusion
  · exact hnew hsame

theorem keySwitchFault_takes {b : Bool} {s : State} (hruns : sequencerRuns s = true) (hnew : s.part.keysw ≠ .fault) :
    keySwitchFault b s = emitBlock 5 0x0507 0 [] { s with
      pins := { s.pins with keyALow := !b, keyBLow := !b }
      part := { s.part with keysw := .fault, flags := upd s.part.flags 0 (Flag.drive true) } } := by
  refine if_neg ?_
  rintro (hidle | hsame)
  · exact absurd (hruns.symm.trans hidle) Bool.noConfusion
  · exact hnew hsame

/-- A partition error resets the whole node, once it is up (12 R676; 15 R776). -/
theorem restarted_partitionError {s : State} (hup : s.rst.phase = .up) :
    ∃ u, Restarted .system .partErr (s.rst.cause ||| causeMask .partErr) u (partitionError s) := by
  have h := restarted_systemSource (causeMask .partErr) (s := { s with part := { s.part with errorDue := true } })
    (sourceActs_up (src := .partErr) hup)
  rw [if_pos hup] at h
  exact ⟨_, h⟩

theorem partitionError_restarts {s : State} (hup : s.rst.phase = .up) :
    let t := settle (partitionError s)
    t.rst.level = .system ∧ t.rst.lastSource = .partErr ∧ t.rst.cause.getLsbD 7 = true ∧ t.engine.running = false ∧
      t.watch.joined = false ∧ t.port.opened = false := by
  obtain ⟨u, h⟩ := restarted_partitionError hup
  obtain ⟨hlevel, -, hsource, hcause⟩ := h.level
  have hbit : (partitionError s).rst.cause.getLsbD 7 = true := by
    rw [hcause, BitVec.getLsbD_or, show (causeMask .partErr).getLsbD 7 = true from by decide, Bool.or_true]
  exact ⟨hlevel, hsource, hbit, h.engine.1, h.links.1, h.port.1⟩

/-- Settles O17: each reading of the switch, and each finding of a pass that may end. -/
theorem keySwitchAndCheckPass : Obligations.KeySwitchAndCheckPass := by
  intro s hruns
  refine ⟨fun b hnew => ?switch, fun b hnew => ?fault, fun hidle hdue => ?pass⟩
  case switch =>
    have hexec : exec (if b then .keySwitchAsserted else .keySwitchReleased) s = finish (keySwitch b s) := by cases b <;> rfl
    exact doesLogged_of (hexec.trans (congrArg finish (keySwitch_takes hruns hnew))) (logOnly_emitBlock ..)
  case fault => exact doesLogged_of (congrArg finish (keySwitchFault_takes hruns hnew)) (logOnly_emitBlock ..)
  case pass =>
    have hends := (passEnds_iff s).2 ⟨hruns, hidle, hdue⟩
    refine ⟨does_of (congrArg finish (if_pos hends)), fun a w d hread => ?single, fun f hf hup => ?error⟩
    case single =>
      have hsingle : singleError w = true := by simp [singleError, hread]
      exact doesLogged_of (congrArg finish ((if_pos hends).trans (if_pos hsingle))) (logOnly_emitBlock ..)
    case error =>
      have hrun : partitionCheckPass f s = partitionError { s with part := { s.part with checkAt := s.now } } := by
        rcases hf with rfl | ⟨a, w, rfl, hdouble⟩
        · exact if_pos hends
        · exact (if_pos hends).trans (if_pos hdouble)
      exact ⟨_, congrArg finish hrun, partitionError_restarts hup⟩

end Sys2Proof.Machine

/-! SYSTEM AND CORE RESETS BY THEIR SOURCES (14 R744; 15 R773–R785). -/

namespace Sys2Proof.Machine

/-! ## SYSTEM resets -/

theorem Restarted.of_sectors {level : ResetLevel} {src : ResetSource} {cause : BitVec 16} {s s' t : State}
    (h : Restarted level src cause s' t) (hsectors : s'.log.sectors = s.log.sectors) (hseq : s'.log.seq = s.log.seq)
    (hflash : s'.interp.flash = s.interp.flash) (hpart : s'.part = s.part) (himages : s'.images = s.images)
    (hkeys : s'.keys = s.keys) : Restarted level src cause s t where
  phase := h.phase
  level := h.level
  engine := h.engine
  calls := h.calls
  port := h.port
  links := h.links
  log := by rw [← hsectors, ← hseq]; exact h.log
  kept := by rw [← hflash, ← hpart, ← himages, ← hkeys]; exact h.kept
  mode := h.mode

/-- A SYSTEM-level source's restart, with what the command has done before it. -/
theorem restarted_systemSource_after {src : ResetSource} {bits : BitVec 16} {s d : State} (hrst : d.rst = s.rst)
    (hacts : sourceActs src s = true) (hsectors : d.log.sectors = s.log.sectors) (hseq : d.log.seq = s.log.seq)
    (hflash : d.interp.flash = s.interp.flash) (hpart : d.part = s.part) (himages : d.images = s.images)
    (hkeys : d.keys = s.keys) :
    Restarted (if s.rst.phase = .up then .system else higher .system s.rst.level) src (s.rst.cause ||| bits) s
      (systemSource src bits d) := by
  have hacts' : sourceActs src d = true := by unfold sourceActs at *; rw [hrst]; exact hacts
  have h := restarted_systemSource bits hacts'
  rw [hrst] at h
  exact h.of_sectors hsectors hseq hflash hpart himages hkeys

theorem eccEngine_reads {word : Nat} {raw : RawWord} {s : State} (hreads : bankReads s .engine = true)
    (hword : word < bankWords .engine) (hdouble : readWord raw = .double) :
    (bankReads s .engine && decide (word < bankWords .engine) && decide (readWord raw = .double)) = true := by
  rw [hreads, decide_eq_true hword, decide_eq_true hdouble]; rfl

theorem eccEngine_idle {word : Nat} {raw : RawWord} {s : State}
    (h : bankReads s .engine = false ∨ bankWords .engine ≤ word ∨ readWord raw ≠ .double) :
    ¬ (bankReads s .engine && decide (word < bankWords .engine) && decide (readWord raw = .double)) = true := by
  simp only [Bool.and_eq_true, decide_eq_true_eq]
  rintro ⟨⟨hreads, hword⟩, hdouble⟩
  rcases h with h | h | h
  · exact absurd (h.symm.trans hreads) Bool.noConfusion
  · omega
  · exact h hdouble

/-- RESET SYSTEM answers OK, then resets (15 R778). -/
theorem resetLine_runs {h : LineHdr} {s : State} {system : Bool} (hacc : Accepted h (txt "RESET") s)
    (hmay : may (lineStart h (txt "RESET") s) h .engineer = true)
    (hopen : remoteBarred (lineStart h (txt "RESET") s) h.sess system = false) :
    runLine h (txt "RESET") (bodyReset h system) s =
      if system then
        systemSource (lineSource (lineStart h (txt "RESET") s) h.sess system)
          (causeMask (lineSource (lineStart h (txt "RESET") s) h.sess system))
          (deliver (waiter h (lineStart h (txt "RESET") s)) (plainReply none) (lineStart h (txt "RESET") s))
      else coreSource (lineSource (lineStart h (txt "RESET") s) h.sess system)
        (deliver (waiter h (lineStart h (txt "RESET") s)) (plainReply none) (lineStart h (txt "RESET") s)) := by
  refine runLine_held hacc ?_
  unfold bodyReset
  rw [if_neg (by rw [hmay]; exact Bool.noConfusion), if_neg (by rw [hopen]; exact Bool.false_ne_true)]
  rfl

theorem resetLine_refused {h : LineHdr} {s : State} {system : Bool} (hacc : Accepted h (txt "RESET") s)
    (hmay : may (lineStart h (txt "RESET") s) h .engineer = false) :
    ∃ t, finish (runLine h (txt "RESET") (bodyReset h system) s) = .next t ∧
      Replied h (txt "RESET") { err := some .e06 } s t ∧ ReplyOnly h.sess (lineStart h (txt "RESET") s) t :=
  line_refused h _ _ s .e06 hacc (if_pos hmay)

theorem resetLine_barred {h : LineHdr} {s : State} {system : Bool} (hacc : Accepted h (txt "RESET") s)
    (hmay : may (lineStart h (txt "RESET") s) h .engineer = true)
    (hbarred : remoteBarred (lineStart h (txt "RESET") s) h.sess system = true) :
    ∃ t, finish (runLine h (txt "RESET") (bodyReset h system) s) = .next t ∧
      Replied h (txt "RESET") { err := some .e07 } s t ∧ ReplyOnly h.sess (lineStart h (txt "RESET") s) t :=
  line_refused h _ _ s .e07 hacc ((if_neg (by rw [hmay]; exact Bool.noConfusion)).trans (if_pos hbarred))

theorem DeliverStep.sectors {u t : State} (h : DeliverStep u t) : t.log.sectors = u.log.sectors := by rw [h.rest]
theorem DeliverStep.seq {u t : State} (h : DeliverStep u t) : t.log.seq = u.log.seq := by rw [h.rest]
theorem DeliverStep.flash {u t : State} (h : DeliverStep u t) : t.interp.flash = u.interp.flash := by rw [h.rest]

theorem resetSystem_restarts {h : LineHdr} {s : State} (hacc : Accepted h (txt "RESET") s)
    (hmay : may (lineStart h (txt "RESET") s) h .engineer = true)
    (hopen : remoteBarred (lineStart h (txt "RESET") s) h.sess true = false)
    (hacts : sourceActs (lineSource (lineStart h (txt "RESET") s) h.sess true) s = true) :
    DoesSo (.resetSystem h) s (Restarted (if s.rst.phase = .up then .system else higher .system s.rst.level)
      (lineSource (lineStart h (txt "RESET") s) h.sess true)
      (s.rst.cause ||| causeMask (lineSource (lineStart h (txt "RESET") s) h.sess true)) s) := by
  refine doesSo_of (congrArg finish (resetLine_runs hacc hmay hopen)) ?_
  have hrst := deliver_line_rst (verb := txt "RESET") hacc.1 (plainReply none)
  have hdeliver := deliverStep_deliver (waiter h (lineStart h (txt "RESET") s)) (plainReply none) (lineStart h (txt "RESET") s)
  have hline := lineTaken_lineStart h (txt "RESET") s
  exact restarted_systemSource_after hrst hacts (hdeliver.sectors.trans hline.sectors) (hdeliver.seq.trans hline.seq)
    (hdeliver.flash.trans hline.flash) (hdeliver.part.trans hline.part) (hdeliver.images.trans hline.images)
    (hdeliver.keys.trans hline.keys)

/-- A second watchdog within 10 s is a SYSTEM reset (15 R785). -/
theorem watchdog_again {src : ResetSource} {s : State} {t : Tick} (hup : s.rst.phase = .up) (hcore : s.rst.wdCoreAt = some t)
    (hagain : s.now ≤ t + 10 * usSec) : watchdog src s = systemSource .wdesc (causeMask src ||| causeMask .wdesc) s := by
  unfold watchdog
  simp only [hcore, hup, decide_eq_true hagain, if_true, ne_eq, not_true_eq_false, if_false]

theorem restarted_watchdog {src : ResetSource} {s : State} {t : Tick} (hup : s.rst.phase = .up)
    (hcore : s.rst.wdCoreAt = some t) (hagain : s.now ≤ t + 10 * usSec) :
    Restarted .system .wdesc (s.rst.cause ||| (causeMask src ||| causeMask .wdesc)) s (watchdog src s) := by
  have h := restarted_systemSource (causeMask src ||| causeMask .wdesc) (sourceActs_up (src := .wdesc) hup)
  rw [if_pos hup] at h
  rw [watchdog_again hup hcore hagain]
  exact h

/-! ## CORE resets (01 R24, R25; 15 R773, R774) -/

/-- What a CORE reset touches before the engine and the caller are cleared. -/
def CoreQuiet (u t : State) : Prop :=
  t = { u with log := { u.log with incoming := t.log.incoming }, lx := t.lx, interp := t.interp, port := t.port
               part := t.part, mem := t.mem }

theorem CoreQuiet.trans {u v t : State} (h : CoreQuiet u v) (h' : CoreQuiet v t) : CoreQuiet u t := by
  unfold CoreQuiet at *
  rw [h', h]

theorem coreQuiet_endSession (who : Sess) (cause : Nat) (s : State) : CoreQuiet s (endSession who cause s) := by
  unfold endSession
  split
  · have hlog : CoreQuiet s (emitSess who 0x0503 0 [cause] s) := by
      unfold CoreQuiet; rw [logOnly_emitSess who 0x0503 0 [cause] s]
    refine hlog.trans ?_
    cases who <;> rfl
  · rfl

theorem coreQuiet_foldl {α : Type} {f : State → α → State} (hf : ∀ s a, CoreQuiet s (f s a)) (l : List α) (s : State) :
    CoreQuiet s (l.foldl f s) := by
  induction l generalizing s with
  | nil => rfl
  | cons a l ih => exact (hf s a).trans (ih _)

theorem coreQuiet_endAllSessions (s : State) : CoreQuiet s (endAllSessions s) := by
  have hends := (coreQuiet_endSession .host 2 s).trans
    (coreQuiet_foldl (f := fun u (c : Console) => endSession (.console c.k) 2 u) (fun _ _ => coreQuiet_endSession ..)
      s.interp.consoles _)
  exact hends.trans rfl

theorem coreQuiet_abandonHost (s : State) : CoreQuiet s (abandonHost s) := by
  unfold abandonHost
  simp only
  split <;> rfl

theorem coreQuiet_dropMarch (s : State) : CoreQuiet s (dropMarch s) := by
  unfold dropMarch
  split
  · simp only; split <;> rfl
  · rfl

theorem coreQuiet_clearInterp (s : State) : CoreQuiet s (clearInterp s) := rfl

theorem abandonHost_role (s : State) : (abandonHost s).port.sess.role = s.port.sess.role := by
  unfold abandonHost
  simp only
  split <;> rfl

theorem dropMarch_port (s : State) : (dropMarch s).port = s.port := by
  unfold dropMarch
  split
  · simp only; split <;> rfl
  · rfl

/-- The sessions ended and the interpreter cleared. -/
def coreQuieted (s : State) : State := clearInterp (dropMarch (abandonHost (endAllSessions s)))

theorem coreQuiet_coreQuieted (s : State) : CoreQuiet s (coreQuieted s) :=
  (((coreQuiet_endAllSessions s).trans (coreQuiet_abandonHost _)).trans (coreQuiet_dropMarch _)).trans (coreQuiet_clearInterp _)

theorem coreQuieted_role (s : State) : (coreQuieted s).port.sess.role = .observer := by
  have hdrop : (coreQuieted s).port.sess = (dropMarch (abandonHost (endAllSessions s))).port.sess := rfl
  rw [hdrop, dropMarch_port, abandonHost_role]
  rfl

/-- The records that wait are handed over: the logbook's events and the list of them alone are touched. -/
def ResetsFlushed (u t : State) : Prop :=
  t = { u with log := { u.log with incoming := t.log.incoming }, rst := { u.rst with logDue := t.rst.logDue } }

theorem ResetsFlushed.trans {u v t : State} (h : ResetsFlushed u v) (h' : ResetsFlushed v t) : ResetsFlushed u t := by
  unfold ResetsFlushed at *
  rw [h', h]

theorem LogOnly.resetsFlushed {u t : State} (h : LogOnly u t) : ResetsFlushed u t := by
  unfold ResetsFlushed; rw [h]

theorem resetsFlushed_flushResets (s : State) : ResetsFlushed s (flushResets s) := by
  have hfold : ∀ (l : List (ResetLevel × ResetSource × BitVec 16)) (u : State),
      ResetsFlushed u (l.foldl (fun s x => logReset x s) u) := by
    intro l
    induction l with
    | nil => intro u; rfl
    | cons x l ih => intro u; exact (logOnly_emitBlock ..).resetsFlushed.trans (ih _)
  unfold flushResets
  split
  · exact (show ResetsFlushed s { s with rst := { s.rst with logDue := [] } } from rfl).trans (hfold _ _)
  · rfl

theorem bank_onBank (b j : Bank) (f : BankSt → BankSt) (s : State) :
    (onBank b f s).bank j = if j = b then f (s.bank b) else s.bank j := by
  by_cases h : j = b
  · subst h; rw [if_pos rfl]; exact upd_same ..
  · rw [if_neg h]
    exact upd_other _ _ _ _ fun heq => h (by cases b <;> cases j <;> first | rfl | cases heq)

/-- The engine and the caller cleared, what the node owes its links forgotten. -/
def coreBase (v : State) : State :=
  let s := relockRoles (clearCaller (clearEngine v))
  { s with
    dies := s.dies.map fun d => { d with queue := [] }
    watch := { s.watch with causesOld := s.watch.remote.map (·.1) } }

theorem coreClear_eq (s : State) : coreClear s = clearBank .engine (clearBank .interp (coreBase (coreQuieted s))) := by
  unfold coreClear coreQuieted coreBase
  rfl

theorem bank_clearBank_same (b : Bank) (s : State) : ((clearBank b s).bank b).st = .clearing := by
  unfold clearBank; rw [bank_onBank, if_pos rfl]

theorem bank_clearBank_other {b j : Bank} (h : j ≠ b) (s : State) : (clearBank b s).bank j = s.bank j := by
  unfold clearBank; rw [bank_onBank, if_neg h]

theorem alLevel_congr {s v : State} (hlive : v.live = s.live) (hphase : v.rst.phase = s.rst.phase) (hident : v.ident = s.ident)
    (hslices : v.slices = s.slices) (hengine : v.engine = s.engine) (hcaller : v.caller = s.caller) (i : Fin 16) :
    alLevel v i = alLevel s i := by
  unfold alLevel drivenLine fastTripped safeFast stage3On allCalls grpActive State.grpCfg State.chCfg State.slice
  rw [hlive, hphase, hident, hslices, hengine, hcaller]

theorem coLevel_congr {s v : State} (hlive : v.live = s.live) (hengine : v.engine = s.engine) (hcaller : v.caller = s.caller)
    (i : Fin 8) : coLevel v i = coLevel s i := by
  unfold coLevel coSrcActive stage3On allCalls State.member
  rw [hlive, hengine, hcaller]

/-- What the engine and the caller hold after a CORE reset, and what it keeps. -/
structure CoreHolds (v t : State) : Prop where
  rst : t.rst = { v.rst with logDue := t.rst.logDue }
  engine : t.engine = (clearEngine v).engine
  calls : t.caller.calls = if inWatch v then v.caller.calls else .replicate 8 (.replicate 32 {})
  port : t.port = v.port
  interp : t.interp = v.interp
  banks : (t.bank .engine).st = .clearing ∧ (t.bank .interp).st = .clearing
  live : t.live = v.live
  slices : t.slices = v.slices
  nodeTime : t.nodeTime = v.nodeTime
  joined : t.watch.joined = v.watch.joined
  sectors : t.log.sectors = v.log.sectors
  images : t.images = v.images
  role : t.keys.role = v.keys.role

/-- What the clearing of a CORE reset touches. -/
def CoreTouched (u t : State) : Prop :=
  t = { u with
    engine := t.engine, caller := t.caller, keys := { u.keys with lockEnd := t.keys.lockEnd }, part := t.part, dies := t.dies
    watch := { u.watch with causesOld := t.watch.causesOld }, mem := t.mem
    log := { u.log with incoming := t.log.incoming }, rst := { u.rst with logDue := t.rst.logDue } }

theorem CoreTouched.trans {u v t : State} (h : CoreTouched u v) (h' : CoreTouched v t) : CoreTouched u t := by
  unfold CoreTouched at *
  rw [h', h]

theorem ResetsFlushed.coreTouched {u t : State} (h : ResetsFlushed u t) : CoreTouched u t := by
  unfold CoreTouched; rw [h]

theorem coreTouched_clearBank (b : Bank) (s : State) : CoreTouched s (clearBank b s) := rfl
theorem coreTouched_clearEngine (s : State) : CoreTouched s (clearEngine s) := rfl
theorem coreTouched_clearCaller (s : State) : CoreTouched s (clearCaller s) := rfl
theorem coreTouched_relockRoles (s : State) : CoreTouched s (relockRoles s) := rfl
theorem relockRoles_engine (s : State) : (relockRoles s).engine = s.engine := rfl
theorem relockRoles_caller (s : State) : (relockRoles s).caller = s.caller := rfl
theorem clearCaller_engine (s : State) : (clearCaller s).engine = s.engine := rfl

/-- What the node owes its links is forgotten. -/
def linksForgotten (s : State) : State :=
  { s with dies := s.dies.map fun d => { d with queue := [] }
           watch := { s.watch with causesOld := s.watch.remote.map (·.1) } }

theorem coreBase_eq (v : State) : coreBase v = linksForgotten (relockRoles (clearCaller (clearEngine v))) := rfl

theorem coreTouched_linksForgotten (s : State) : CoreTouched s (linksForgotten s) := rfl
theorem linksForgotten_engine (s : State) : (linksForgotten s).engine = s.engine := rfl
theorem linksForgotten_caller (s : State) : (linksForgotten s).caller = s.caller := rfl

theorem coreTouched_coreBase (v : State) : CoreTouched v (coreBase v) := by
  rw [coreBase_eq]
  exact (((coreTouched_clearEngine v).trans (coreTouched_clearCaller _)).trans (coreTouched_relockRoles _)).trans
    (coreTouched_linksForgotten _)

theorem coreHolds_of_flushed {v t : State}
    (hflush : ResetsFlushed (clearBank .engine (clearBank .interp (coreBase v))) t) : CoreHolds v t := by
  have hmem : t.mem = (clearBank .engine (clearBank .interp (coreBase v))).mem := by rw [hflush]
  have hbank : ∀ b, t.bank b = (clearBank .engine (clearBank .interp (coreBase v))).bank b := by
    intro b; unfold State.bank; rw [hmem]
  have hengine : t.engine = (clearEngine v).engine := by
    have hbase : t.engine = (clearBank .engine (clearBank .interp (coreBase v))).engine := by rw [hflush]
    rw [hbase, clearBank_engine, clearBank_engine, coreBase_eq, linksForgotten_engine, relockRoles_engine, clearCaller_engine]
  have hcaller : t.caller = (clearCaller (clearEngine v)).caller := by
    have hbase : t.caller = (clearBank .engine (clearBank .interp (coreBase v))).caller := by rw [hflush]
    rw [hbase, clearBank_caller, clearBank_caller, coreBase_eq, linksForgotten_caller, relockRoles_caller]
  have htouched : CoreTouched v t := (((coreTouched_coreBase v).trans (coreTouched_clearBank .interp _)).trans
    (coreTouched_clearBank .engine _)).trans hflush.coreTouched
  exact {
    banks := ⟨by rw [hbank]; exact bank_clearBank_same .., by
      rw [hbank, bank_clearBank_other (by decide)]; exact bank_clearBank_same ..⟩
    rst := congrArg State.rst htouched
    engine := hengine
    calls := by rw [hcaller]; rfl
    port := by rw [htouched]
    interp := by rw [htouched]
    live := by rw [htouched]
    slices := by rw [htouched]
    nodeTime := by rw [htouched]
    joined := by rw [htouched]
    sectors := by rw [htouched]
    images := by rw [htouched]
    role := by rw [htouched] }

/-- What a CORE reset clears, with its records, from the state `n` in which its cause is noted. -/
theorem coreCleared_coreClear {src : ResetSource} {s n t : State} (hnode : n = { s with rst := n.rst })
    (hphase : n.rst.phase = s.rst.phase)
    (hcause : n.rst.cause = s.rst.cause ||| causeMask src ∧ n.rst.lastLevel = .core ∧ n.rst.lastSource = src)
    (hflush : ResetsFlushed (coreClear n) t) : CoreCleared src s t ∧ t.rst.wdCoreAt = n.rst.wdCoreAt := by
  rw [coreClear_eq] at hflush
  have hholds := coreHolds_of_flushed hflush
  have hquiet := coreQuiet_coreQuieted n
  have hopened : (coreQuieted n).port.opened = false ∧ (coreQuieted n).interp.running = false ∧
    (coreQuieted n).interp.script = none := ⟨rfl, rfl, rfl⟩
  have hrole := coreQuieted_role n
  generalize coreQuieted n = v at hholds hquiet hopened hrole
  have hrst : v.rst = n.rst := by rw [hquiet]
  have hlive : v.live = s.live := by rw [hquiet, hnode]
  have hslices : v.slices = s.slices := by rw [hquiet, hnode]
  have hident : v.ident = s.ident := by rw [hquiet, hnode]
  have hengine : v.engine = s.engine := by rw [hquiet, hnode]
  have hcaller : v.caller = s.caller := by rw [hquiet, hnode]
  have hwatch : v.watch = s.watch := by rw [hquiet, hnode]
  have hnow : v.now = s.now := by rw [hquiet, hnode]
  have hal := alLevel_congr hlive ((congrArg Reset.phase hrst).trans hphase) hident hslices hengine hcaller
  have hco := coLevel_congr hlive hengine hcaller
  have hin : inWatch v = inWatch s := by unfold inWatch; rw [hwatch]
  refine ⟨⟨?_, ?_, ?_, ?_, ?_, hholds.banks, ?_⟩, by rw [hholds.rst, hrst]⟩
  · rw [hholds.rst, hrst]; exact ⟨hcause.1, hcause.2.1, hcause.2.2, hphase⟩
  · rw [hholds.engine, ← hnow]; exact ⟨rfl, rfl, rfl⟩
  · rw [hholds.engine, ← funext hal, ← funext hco]; rfl
  · rw [hholds.calls, hin, hcaller]
  · rw [hholds.port, hholds.interp]; exact ⟨hopened.1, hrole, hopened.2⟩
  · refine ⟨hholds.live.trans hlive, hholds.slices.trans hslices, hholds.nodeTime.trans ?_, hholds.joined.trans ?_,
      hholds.sectors.trans ?_, hholds.images.trans ?_, hholds.role.trans ?_⟩ <;> rw [hquiet, hnode]

/-- What a CORE reset of a node out of DEEP leaves. -/
theorem coreCleared_coreReset (src : ResetSource) {s : State} (hmode : s.power.mode ≠ .deep) :
    CoreCleared src s (coreReset src s) ∧ (coreReset src s).rst.wdCoreAt = s.rst.wdCoreAt := by
  have hrun : coreReset src s = flushResets (coreClear (noteReset .core src
      { s with rst := { s.rst with cause := s.rst.cause ||| causeMask src } })) := if_neg hmode
  rw [hrun]
  exact coreCleared_coreClear (n := noteReset .core src { s with rst := { s.rst with cause := s.rst.cause ||| causeMask src } })
    rfl rfl ⟨rfl, rfl, rfl⟩ (resetsFlushed_flushResets _)

theorem coreSource_up {src : ResetSource} {s : State} (hup : s.rst.phase = .up) : coreSource src s = coreReset src s := by
  unfold coreSource
  rw [sourceActs_up hup, if_neg (by simp), if_pos hup]

/-- A line's CORE reset, after its OK has gone out. -/
theorem CoreCleared.of_deliver {src : ResetSource} {u d t : State} (h : CoreCleared src d t) (hdeliver : DeliverStep u d)
    (hphase : d.rst = u.rst) : CoreCleared src u t := by
  have hal := alLevel_congr hdeliver.live (congrArg Reset.phase hphase) hdeliver.ident hdeliver.slices hdeliver.engine hdeliver.caller
  have hco := coLevel_congr hdeliver.live hdeliver.engine hdeliver.caller
  have hwatch : d.watch.node = u.watch.node ∧ d.watch.peers = u.watch.peers ∧ d.watch.joined = u.watch.joined := by
    rw [hdeliver.rest]; exact ⟨rfl, rfl, rfl⟩
  have hin : inWatch d = inWatch u := by unfold inWatch; rw [hwatch.1, hwatch.2.1]
  exact {
    cause := by rw [← hphase]; exact h.cause
    engine := by rw [← hdeliver.now]; exact h.engine
    hold := by rw [← funext hal, ← funext hco]; exact h.hold
    calls := by rw [← hin, ← hdeliver.caller]; exact h.calls
    port := h.port
    banks := h.banks
    kept := by
      rw [← hdeliver.live, ← hdeliver.slices, ← hdeliver.nodeTime, ← hwatch.2.2, ← hdeliver.sectors, ← hdeliver.images,
        ← hdeliver.keys]
      exact h.kept }

theorem resetCore_clears {h : LineHdr} {s : State} (hup : s.rst.phase = .up) (hmode : s.power.mode ≠ .deep)
    (hacc : Accepted h (txt "RESET") s) (hmay : may (lineStart h (txt "RESET") s) h .engineer = true)
    (hopen : remoteBarred (lineStart h (txt "RESET") s) h.sess false = false) :
    DoesSo (.resetCore h) s (CoreCleared (lineSource (lineStart h (txt "RESET") s) h.sess false)
      (lineStart h (txt "RESET") s)) := by
  have hrst := deliver_line_rst (verb := txt "RESET") hacc.1 (plainReply none)
  have hline := lineTaken_lineStart h (txt "RESET") s
  have hdeliver := deliverStep_deliver (waiter h (lineStart h (txt "RESET") s)) (plainReply none) (lineStart h (txt "RESET") s)
  refine doesSo_of (congrArg finish (resetLine_runs hacc hmay hopen)) ?_
  rw [if_neg Bool.false_ne_true]
  generalize deliver (waiter h (lineStart h (txt "RESET") s)) (plainReply none) (lineStart h (txt "RESET") s) = d at *
  rw [coreSource_up (by rw [hrst]; exact hup)]
  have hmode' : d.power.mode ≠ .deep := by rw [hdeliver.power, hline.power]; exact hmode
  exact (coreCleared_coreReset _ hmode').1.of_deliver hdeliver (hrst.trans hline.rst.symm)

/-! ## The watchdogs (15 R782–R785) -/

theorem watchdog_first {src : ResetSource} {s : State} (hup : s.rst.phase = .up)
    (hfirst : ∀ t : Tick, s.rst.wdCoreAt = some t → t + 10 * usSec < s.now) :
    watchdog src s = eventCause 9 (coreReset src { s with rst := { s.rst with wdCoreAt := some s.now } }) := by
  unfold watchdog
  cases hcore : s.rst.wdCoreAt with
  | none => simp [hup]
  | some t => simp [hup, Nat.not_le.2 (hfirst t hcore)]

theorem CoreCleared.of_members {src : ResetSource} {s v t : State} (h : CoreCleared src s v)
    (ht : t = { v with engine := { v.engine with g31 := t.engine.g31 } }) : CoreCleared src s t := by
  rw [ht]
  exact ⟨h.cause, h.engine, h.hold, h.calls, h.port, h.banks, h.kept⟩

/-- The first watchdog of 10 s is a CORE reset with its G31 member. -/
theorem coreCleared_watchdog {src : ResetSource} {s : State} (hup : s.rst.phase = .up) (hmode : s.power.mode ≠ .deep)
    (hfirst : ∀ t : Tick, s.rst.wdCoreAt = some t → t + 10 * usSec < s.now) :
    CoreCleared src s (watchdog src s) ∧ ((watchdog src s).member 9).cause = true ∧
      (watchdog src s).rst.wdCoreAt = some s.now := by
  obtain ⟨hclear, hat⟩ := coreCleared_coreReset src (s := { s with rst := { s.rst with wdCoreAt := some s.now } }) hmode
  have hclear' : CoreCleared src s (coreReset src { s with rst := { s.rst with wdCoreAt := some s.now } }) :=
    ⟨hclear.cause, hclear.engine, hclear.hold, hclear.calls, hclear.port, hclear.banks, hclear.kept⟩
  rw [watchdog_first hup hfirst]
  generalize coreReset src { s with rst := { s.rst with wdCoreAt := some s.now } } = v at hclear' hat
  have hrun : eventCause 9 v = onMember 9 (fun a => { a with cause := true })
      (onMember 9 (fun a => { a with eventEnd := some (v.now + usSec) }) v) := setCause_stopped hclear'.engine.1
  rw [hrun]
  exact ⟨hclear'.of_members rfl, by rw [member_onMember, if_pos rfl], hat⟩

/-- Settles O53: each source of a SYSTEM and of a CORE reset, where it acts and where it does not. -/
theorem resetsClearAndRestart : Obligations.ResetsClearAndRestart := by
  refine ⟨?system, ?core⟩
  case system =>
    rintro s level rfl
    refine ⟨fun hacts => doesSo_of rfl (restarted_systemSource _ hacts), fun hidle => does_of (congrArg finish (systemSource_idle hidle)),
      fun word raw => ⟨fun hacts hreads hword hdouble => ⟨?_, ?_⟩, fun hidle => ?_⟩, ?_, fun t cycles hup hcore hagain hmode => ⟨?_, ?_⟩⟩
    · exact doesSo_of (congrArg finish (if_pos (eccEngine_reads hreads hword hdouble))) (restarted_systemSource _ hacts)
    · exact doesSo_of (congrArg finish ((if_pos (eccEngine_reads hreads hword hdouble)).trans (if_pos rfl)))
        (restarted_systemSource _ hacts)
    · exact does_of (congrArg finish (if_neg (eccEngine_idle hidle)))
    · rintro h u src hacc rfl rfl
      exact ⟨resetSystem_restarts hacc, resetLine_barred hacc, resetLine_refused hacc⟩
    · intro hruns hdue
      exact doesSo_of (congrArg finish (if_pos ⟨hruns, hmode, hdue⟩)) (restarted_watchdog hup hcore hagain)
    · intro hruns hdue
      exact doesSo_of (congrArg finish (if_pos ⟨hruns, hmode, hdue⟩)) (restarted_watchdog hup hcore hagain)
  case core =>
    intro s cycles
    refine ⟨fun hup hmode => ⟨?_, fun hfirst => ⟨fun hruns hdue => ?_, fun hruns hdue => ?_⟩⟩, fun hidle => ?_, fun hidle => ?_⟩
    · rintro h u src hacc rfl rfl
      exact ⟨resetLine_refused hacc, resetLine_barred hacc, resetCore_clears hup hmode hacc⟩
    · exact doesSo_of (congrArg finish (if_pos ⟨hruns, hmode, hdue⟩)) (coreCleared_watchdog hup hmode hfirst)
    · exact doesSo_of (congrArg finish (if_pos ⟨hruns, hmode, hdue⟩)) (coreCleared_watchdog hup hmode hfirst)
    · refine does_of (congrArg finish (if_neg ?_))
      rintro ⟨hruns, hmode, hdue⟩
      rcases hidle with h | h | h
      · exact absurd (h.symm.trans hruns) Bool.noConfusion
      · exact hmode h
      · exact absurd hdue (Nat.not_le.2 h)
    · refine does_of (congrArg finish (if_neg ?_))
      rintro ⟨hruns, hmode, hdue⟩
      rcases hidle with h | h | h
      · exact absurd (h.symm.trans hruns) Bool.noConfusion
      · exact hmode h
      · exact absurd hdue (Nat.not_le.2 h)

end Sys2Proof.Machine

/-! THE SUPPLY WARNING AND THE RESET OF ONE BLOCK (02 R128; 15 R786–R789, R794, R795). -/

namespace Sys2Proof.Machine

/-! ## The supply warning (15 R794, R795) -/

/-- What the panel's operations touch: the panel, and the events of the logbook. -/
def PanelOnly (u t : State) : Prop := t = { u with panel := t.panel, log := { u.log with incoming := t.log.incoming } }

theorem PanelOnly.trans {u v t : State} (h : PanelOnly u v) (h' : PanelOnly v t) : PanelOnly u t := by
  unfold PanelOnly at *
  rw [h', h]

theorem panelOnly_onPanel (f : Panel → Panel) (s : State) : PanelOnly s (onPanel f s) := rfl

theorem LogOnly.panelOnly {u t : State} (h : LogOnly u t) : PanelOnly u t := by
  unfold PanelOnly; rw [h]

theorem panelOnly_onPanelFlag (b : Fin 3) (f : Flag → Flag) (s : State) : PanelOnly s (onPanelFlag b f s) :=
  panelOnly_onPanel (fun p => { p with flags := upd p.flags b f }) s

theorem panelOnly_takeDrive (s : State) : PanelOnly s (takeDrive s) := panelOnly_onPanel ..

theorem panelOnly_railsForgiven (s : State) : PanelOnly s (railsForgiven s) :=
  (panelOnly_onPanelFlag 1 _ s).trans (panelOnly_onPanelFlag 0 _ _)

theorem panelOnly_atRest (s : State) : PanelOnly s (atRest s) := by
  unfold atRest
  exact (((panelOnly_onPanel _ s).trans (panelOnly_railsForgiven _)).trans (panelOnly_takeDrive _)).trans (panelOnly_onPanel _ _)

theorem panelOnly_discharge (s : State) : PanelOnly s (discharge s) := panelOnly_onPanel ..

theorem panelOnly_powerDown (s : State) : PanelOnly s (powerDown s) := by
  unfold powerDown
  split
  · exact panelOnly_onPanel ..
  · exact panelOnly_onPanel ..
  · exact panelOnly_onPanel ..
  · exact panelOnly_atRest s
  · split
    · exact panelOnly_onPanel ..
    · exact panelOnly_discharge s

theorem panelOnly_panelWarn (s : State) : PanelOnly s (panelWarn s) := by
  have hdirty : PanelOnly s (setDirty true s) := panelOnly_onPanelFlag ..
  exact (hdirty.trans (logOnly_emitBlock ..).panelOnly).trans (panelOnly_powerDown _)

/-- What PWRWARN leaves of the node when its member has its cause. -/
structure SupplyNoted (mV : Nat) (v : Bool) (s t : State) : Prop where
  vsup : t.pins.vsup = mV
  flag : t.flags.pwrWarn = s.flags.pwrWarn.drive v
  cause : (t.member 4).cause = v
  live : t.live = s.live
  slices : t.slices = s.slices

theorem supplyNoted_setCause (mV : Nat) (v : Bool) (code : BitVec 16) (value : BitVec 32) (s : State) :
    SupplyNoted mV v s (setCause 4 v (emitBlock 0 code value []
      (setVsup mV { s with flags := { s.flags with pwrWarn := s.flags.pwrWarn.drive v } }))) := by
  have hlog := logOnly_emitBlock 0 code value [] (setVsup mV { s with flags := { s.flags with pwrWarn := s.flags.pwrWarn.drive v } })
  generalize emitBlock 0 code value [] (setVsup mV { s with flags := { s.flags with pwrWarn := s.flags.pwrWarn.drive v } }) = x
    at hlog ⊢
  have hstep := engineStep_setCause 4 v x
  exact ⟨by rw [hstep.pins, hlog.pins]; rfl, by rw [hstep.flags, hlog.flags]; rfl, by rw [setCause_cause, if_pos rfl],
    by rw [hstep.live, hlog.live]; rfl, by rw [hstep.slices, hlog.slices]; rfl⟩

theorem SupplyNoted.of_keeps {mV : Nat} {v : Bool} {s x t : State} (h : SupplyNoted mV v s x) (hpins : t.pins = x.pins)
    (hflags : t.flags = x.flags) (hengine : t.engine = x.engine) (hlive : t.live = x.live) (hslices : t.slices = x.slices) :
    SupplyNoted mV v s t :=
  ⟨by rw [hpins, h.vsup], by rw [hflags, h.flag], by rw [member_congr (congrArg Engine.g31 hengine), h.cause], hlive.trans h.live,
    hslices.trans h.slices⟩

theorem SupplyNoted.panel {mV : Nat} {v : Bool} {s x t : State} (h : SupplyNoted mV v s x) (hpanel : PanelOnly x t) :
    SupplyNoted mV v s t := h.of_keeps (by rw [hpanel]) (by rw [hpanel]) (by rw [hpanel]) (by rw [hpanel]) (by rw [hpanel])

theorem supplyNoted_saveRefused {mV : Nat} {v : Bool} {s x : State} (h : SupplyNoted mV v s x) :
    SupplyNoted mV v s (saveRefused x) := by
  have hdir := directoryOnly_dirAppend (onLog (fun l => { l with savedRefused := l.refused, savedAt := some x.now }) x)
  unfold saveRefused
  generalize dirAppend _ = t at hdir ⊢
  exact h.of_keeps (by rw [hdir]; rfl) (by rw [hdir]; rfl) (by rw [hdir]; rfl) (by rw [hdir]; rfl) (by rw [hdir]; rfl)

theorem supplyNoted_pwrwarn {s : State} {mV : Nat} (hon : s.rst.phase ≠ .unpowered) (hquiet : s.flags.pwrWarn.live = false)
    (hlow : mV < 5600) : SupplyNoted mV true s (pwrwarn mV s) := by
  have hnoted := supplyNoted_setCause mV true 0x0602 (BitVec.ofNat 32 mV) s
  unfold pwrwarn
  rw [if_pos ⟨hon, hquiet, hlow⟩]
  simp only
  generalize setCause 4 true _ = x at hnoted ⊢
  split
  · exact (supplyNoted_saveRefused hnoted).panel (panelOnly_panelWarn _)
  · exact hnoted.panel (panelOnly_panelWarn _)

theorem supplyNoted_pwrwarnEnd {s : State} {mV : Nat} (hon : s.rst.phase ≠ .unpowered) (hwarn : s.flags.pwrWarn.live = true)
    (hhigh : 5800 < mV) (hdue : s.pins.vsupLowAt + 10000 ≤ s.now) : SupplyNoted mV false s (pwrwarnEnd mV s) := by
  unfold pwrwarnEnd
  rw [if_pos ⟨hon, hwarn, hhigh, hdue⟩]
  exact supplyNoted_setCause mV false 0x0603 0 s

/-! ## The reset of one block (15 R786–R789) -/

/-- What the reset of one block leaves, whichever block. -/
structure BlockReset (u t : State) : Prop where
  rst : t.rst = u.rst
  keys : t.keys = u.keys
  images : t.images = u.images
  part : t.part = u.part
  sectors : t.log.sectors = u.log.sectors
  line : ∀ who, KeepsLine who u t

theorem LogOnly.blockReset {u t : State} (h : LogOnly u t) : BlockReset u t :=
  ⟨h.rst, h.keys, h.images, h.part, by rw [h], fun _ => .of_eq h.port h.interp⟩

theorem BlockReset.trans {u v t : State} (h : BlockReset u v) (h' : BlockReset v t) : BlockReset u t :=
  ⟨h'.rst.trans h.rst, h'.keys.trans h.keys, h'.images.trans h.images, h'.part.trans h.part, h'.sectors.trans h.sectors,
    fun who => (h.line who).trans (h'.line who)⟩

theorem EngineStep.blockReset {u t : State} (h : EngineStep u t) : BlockReset u t :=
  ⟨h.rst, h.keys, h.images, h.part, by rw [h.rest], h.keeps⟩

theorem blockReset_resetCan (b : Bus) (s : State) : BlockReset s (resetCan b s) :=
  have hcan : BlockReset s (onCan b (fun c => { ({} : Can) with rejoinDue := s.watch.joined, wdrop := c.wdrop, rxlost := c.rxlost }) s) :=
    ⟨rfl, rfl, rfl, rfl, rfl, fun _ => .of_eq rfl rfl⟩
  hcan.trans (engineStep_setCause ..).blockReset

/-- The writer reset with no LOG CLEAR under way. -/
def writerReset (s : State) : State :=
  { s with log := { freshLog s.log with refused := s.log.refused, dropped := s.log.dropped, restore := s.log.restore } }

theorem resetLogw_idle {s : State} (hidle : s.log.clearing = none) :
    resetLogw s = if s.flags.logFull.live then logFullCause false (writerReset s) else writerReset s := by
  unfold resetLogw
  simp only [hidle]
  rfl

theorem engineStep_logFullCause (v : Bool) (s : State) :
    EngineStep { s with flags := { s.flags with logFull := s.flags.logFull.drive v } } (logFullCause v s) := engineStep_setCause ..

theorem blockReset_logFullCause (v : Bool) (s : State) : BlockReset s (logFullCause v s) :=
  have hflag : BlockReset s { s with flags := { s.flags with logFull := s.flags.logFull.drive v } } :=
    ⟨rfl, rfl, rfl, rfl, rfl, fun _ => .of_eq rfl rfl⟩
  hflag.trans (engineStep_logFullCause v s).blockReset

theorem blockReset_writerReset (s : State) : BlockReset s (writerReset s) := ⟨rfl, rfl, rfl, rfl, rfl, fun _ => .of_eq rfl rfl⟩

theorem blockReset_resetLogw {s : State} (hidle : s.log.clearing = none) : BlockReset s (resetLogw s) := by
  rw [resetLogw_idle hidle]
  split
  · exact (blockReset_writerReset s).trans (blockReset_logFullCause ..)
  · exact blockReset_writerReset s

theorem PanelOnly.blockReset {u t : State} (h : PanelOnly u t) : BlockReset u t :=
  ⟨by rw [h], by rw [h], by rw [h], by rw [h], by rw [h], fun _ => .of_eq (by rw [h]) (by rw [h])⟩

/-- A change of the settings that a slice works from. -/
theorem sliceCfg_onSliceCfg (c : Ch) (f : ChCfg → ChCfg) (s : State) : (onSliceCfg c f s).sliceCfg c = f (s.sliceCfg c) := by
  unfold onSliceCfg
  cases hheld : (s.linkOf c).held with
  | none =>
    have hsame : ({ s with live := { s.live with ch := upd s.live.ch c f } } : State).linkOf c = s.linkOf c := rfl
    simp only [State.sliceCfg, hsame, hheld]
    exact upd_same ..
  | some hd =>
    have hlink : (onHold (dieOf c) (fun h => { h with cfgs := upd h.cfgs (slotOf c) f }) s).linkOf c =
        { s.linkOf c with held := (s.linkOf c).held.map fun h => { h with cfgs := upd h.cfgs (slotOf c) f } } := upd_same ..
    simp only [State.sliceCfg, hlink, hheld, Option.map_some]
    exact upd_same ..

theorem onSliceCfg_frame (c : Ch) (f : ChCfg → ChCfg) (s : State) :
    onSliceCfg c f s = { s with live := (onSliceCfg c f s).live, dies := (onSliceCfg c f s).dies } := by
  unfold onSliceCfg; split <;> rfl

theorem SliceStep.blockReset {c : Ch} {u t : State} (h : SliceStep c u t) : BlockReset u t :=
  ⟨h.rst, by rw [h.rest], by rw [h.rest], by rw [h.rest], by rw [h.rest], fun _ => .of_eq (by rw [h.rest]) (by rw [h.rest])⟩

theorem SliceStep.dies {c : Ch} {u t : State} (h : SliceStep c u t) : t.dies = u.dies := by rw [h.rest]

theorem sliceCfg_congr {u t : State} (hlive : t.live = u.live) (hdies : t.dies = u.dies) (c : Ch) : t.sliceCfg c = u.sliceCfg c := by
  unfold State.sliceCfg State.linkOf State.chCfg; rw [hlive, hdies]

/-- The slice of a channel as its reset leaves it, with the wire's flag apart. -/
def resetSlice (c : Ch) (s : State) (x : Slice) : Slice :=
  let fresh := freshSlice (s.sliceCfg c).settled (rateInForce s c) s.now
  { fresh with cond := Vector.ofFn fun i => { fresh.cond[i.val] with occ := (x.cond[i.val]).occ } }

/-- The settings of a channel as its reset takes them. -/
def resetCfg (c : Ch) (s : State) : State := onSliceCfg c (fun _ => (s.sliceCfg c).settled) s

theorem resetCh_eq (c : Ch) (s : State) : resetCh c s = wireStep c (resetSlice c s) (resetCfg c s) := rfl

theorem slice_resetCfg (c d : Ch) (s : State) : (resetCfg c s).slice d = s.slice d := by
  unfold State.slice resetCfg; rw [onSliceCfg_frame]

theorem blockReset_resetCh (c : Ch) (s : State) : BlockReset s (resetCh c s) := by
  have hcfg : BlockReset s (resetCfg c s) := by
    unfold resetCfg
    rw [onSliceCfg_frame]
    exact ⟨rfl, rfl, rfl, rfl, rfl, fun _ => .of_eq rfl rfl⟩
  rw [resetCh_eq]
  exact hcfg.trans (sliceStep_wireStep ..).blockReset

theorem slice_resetCh (c : Ch) (s : State) : (resetCh c s).slice c = { resetSlice c s (s.slice c) with
    flags := upd (resetSlice c s (s.slice c)).flags 10 (Flag.drive (resetSlice c s (s.slice c)).wire) } := by
  rw [resetCh_eq, slice_wireStep, slice_resetCfg]

theorem slice_resetCh_other {c d : Ch} (hd : d ≠ c) (s : State) : (resetCh c s).slice d = s.slice d := by
  rw [resetCh_eq, (sliceStep_wireStep ..).others d hd, slice_resetCfg]

theorem sliceCfg_resetCh (c : Ch) (s : State) : (resetCh c s).sliceCfg c = (s.sliceCfg c).settled := by
  have hstep := sliceStep_wireStep c (resetSlice c s) (resetCfg c s)
  rw [resetCh_eq, sliceCfg_congr hstep.live hstep.dies]
  exact sliceCfg_onSliceCfg ..

/-- A slice that is reset alone begins anew in its settings; its occurrences keep their numbers (02 R128). -/
theorem resetCh_begins (c : Ch) (s : State) : ((resetCh c s).slice c).code = none ∧
    ((resetCh c s).slice c).act = activeOf ((resetCh c s).sliceCfg c) (rateInForce s c) ∧
    (∀ k : Cond, ((resetCh c s).cond c k).on = false ∧ ((resetCh c s).cond c k).occ = (s.cond c k).occ) := by
  refine ⟨by rw [slice_resetCh]; rfl, by rw [slice_resetCh, sliceCfg_resetCh]; rfl, fun k => ?_⟩
  unfold State.cond
  rw [slice_resetCh]
  simp only [resetSlice, Vector.getElem_ofFn, freshSlice, Vector.getElem_replicate, and_self]

theorem logOnly_emitReset (b : BlockName) (s : State) : LogOnly s (emitReset b s) := by
  cases b
  · exact logOnly_emitBlock ..
  · exact logOnly_emitBlock ..
  · exact logOnly_emitBlock ..
  · exact logOnly_emit ..
  · exact logOnly_emitCh ..

theorem panelOnly_resetPanel (s : State) : PanelOnly s (resetPanel s) := by
  have hfresh : PanelOnly s { s with panel := freshPanel s.live.panel.type s.live.panel s.panel } := rfl
  exact (hfresh.trans (panelOnly_onPanelFlag ..)).trans (panelOnly_onPanelFlag ..)

theorem blockReset_resetOne {b : BlockName} {s : State} (hidle : b = .logw → s.log.clearing = none) :
    BlockReset s (resetOne b s) := by
  cases b with
  | can x => exact blockReset_resetCan x s
  | logw => exact blockReset_resetLogw (hidle rfl)
  | panel => exact (panelOnly_resetPanel s).blockReset
  | lx n => exact ⟨rfl, rfl, rfl, rfl, rfl, fun _ => .of_eq rfl rfl⟩
  | ch c => exact blockReset_resetCh c s

/-- A controller that is reset alone is off its bus with its queues empty; RXLOST counts on (15 R787). -/
theorem resetCan_off (b : Bus) (s : State) : ((resetCan b s).canOf b).mode = .off ∧ ((resetCan b s).canOf b).tx = .replicate 32 {} ∧
    ((resetCan b s).canOf b).rx = .replicate 64 none ∧ ((resetCan b s).canOf b).rxlost = (s.canOf b).rxlost := by
  have hqueue := (engineStep_setCause (busMember b) false (onCan b (fun c => { ({} : Can) with
    rejoinDue := s.watch.joined, wdrop := c.wdrop, rxlost := c.rxlost }) s)).queues b
  rw [canOf_onCan_same] at hqueue
  unfold QueueOnly at hqueue
  unfold resetCan
  simp only
  rw [hqueue]
  exact ⟨rfl, rfl, rfl, rfl⟩

theorem resetLogw_keeps {s : State} (hidle : s.log.clearing = none) : (resetLogw s).log.stage = [] ∧
    (resetLogw s).log.seq = s.log.seq ∧ (resetLogw s).log.refused = s.log.refused := by
  rw [resetLogw_idle hidle]
  split
  · rw [(engineStep_logFullCause false (writerReset s)).rest]; exact ⟨rfl, rfl, rfl⟩
  · exact ⟨rfl, rfl, rfl⟩

theorem resetPanel_flags (s : State) : (resetPanel s).panel.type = s.live.panel.type ∧
    ((resetPanel s).panel.flags[0]).live = false ∧ ((resetPanel s).panel.flags[1]).live = false := by
  refine ⟨rfl, ?_, ?_⟩
  · simp [resetPanel, onPanelFlag, onPanel, upd]
  · simp [resetPanel, onPanelFlag, onPanel, upd]

/-- A block other than a channel leaves settings and slices. -/
theorem resetOne_settings {b : BlockName} {s : State} (hch : ∀ c, b ≠ .ch c) (hidle : b = .logw → s.log.clearing = none) :
    (resetOne b s).live = s.live ∧ (resetOne b s).slices = s.slices := by
  cases b with
  | can x =>
    have hstep := engineStep_setCause (busMember x) false (onCan x (fun c => { ({} : Can) with
      rejoinDue := s.watch.joined, wdrop := c.wdrop, rxlost := c.rxlost }) s)
    exact ⟨hstep.live, hstep.slices⟩
  | logw =>
    simp only [resetOne, resetLogw_idle (hidle rfl)]
    split
    · have hstep := engineStep_logFullCause false (writerReset s)
      exact ⟨hstep.live, hstep.slices⟩
    · exact ⟨rfl, rfl⟩
  | panel =>
    have hpanel := panelOnly_resetPanel s
    simp only [resetOne]
    generalize resetPanel s = t at hpanel
    exact ⟨by rw [hpanel], by rw [hpanel]⟩
  | lx n => exact ⟨rfl, rfl⟩
  | ch c => exact absurd rfl (hch c)

theorem not_of_eq_false {b : Bool} (h : b = false) : ¬ b = true := by rw [h]; exact Bool.false_ne_true

/-- What the reset of one block leaves, and what it clears (15 R786–R789). -/
theorem emitReset_leaves {u : State} {b : BlockName} (hidle : b = .logw → u.log.clearing = none) :
    BlockReset u (emitReset b (resetOne b u)) ∧
    (∀ c : Ch, b = .ch c → ((emitReset b (resetOne b u)).slice c).code = none ∧
      ((emitReset b (resetOne b u)).slice c).act = activeOf ((emitReset b (resetOne b u)).sliceCfg c) (rateInForce u c) ∧
      (∀ k : Cond, ((emitReset b (resetOne b u)).cond c k).on = false ∧
        ((emitReset b (resetOne b u)).cond c k).occ = (u.cond c k).occ) ∧
      (∀ d : Ch, d ≠ c → (emitReset b (resetOne b u)).slice d = u.slice d)) ∧
    (∀ x : Bus, b = .can x → ((emitReset b (resetOne b u)).canOf x).mode = .off ∧
      ((emitReset b (resetOne b u)).canOf x).tx = .replicate 32 {} ∧
      ((emitReset b (resetOne b u)).canOf x).rx = .replicate 64 none ∧
      ((emitReset b (resetOne b u)).canOf x).rxlost = (u.canOf x).rxlost) ∧
    (b = .logw → (emitReset b (resetOne b u)).log.stage = [] ∧ (emitReset b (resetOne b u)).log.seq = u.log.seq ∧
      (emitReset b (resetOne b u)).log.refused = u.log.refused) ∧
    (b = .panel → (emitReset b (resetOne b u)).panel.type = u.live.panel.type ∧
      ((emitReset b (resetOne b u)).panel.flags[0]).live = false ∧
      ((emitReset b (resetOne b u)).panel.flags[1]).live = false) ∧
    (∀ n : Lx, b = .lx n → ((emitReset b (resetOne b u)).lxOf n).island = (u.lxOf n).island ∧
      ((emitReset b (resetOne b u)).lxOf n).inFlight = none ∧ ((emitReset b (resetOne b u)).lxOf n).lost = (u.lxOf n).lost) ∧
    ((∀ c : Ch, b ≠ .ch c) → (emitReset b (resetOne b u)).live = u.live ∧ (emitReset b (resetOne b u)).slices = u.slices) := by
  have hlog := logOnly_emitReset b (resetOne b u)
  refine ⟨(blockReset_resetOne hidle).trans hlog.blockReset, ?_, ?_, ?_, ?_, ?_, ?_⟩
  · rintro c rfl
    obtain ⟨hcode, hact, hcond⟩ := resetCh_begins c u
    have hslice : ∀ d, (emitReset (.ch c) (resetOne (.ch c) u)).slice d = (resetCh c u).slice d := fun d => by
      unfold State.slice; rw [hlog.slices]; rfl
    have hcfg : (emitReset (.ch c) (resetOne (.ch c) u)).sliceCfg c = (resetCh c u).sliceCfg c :=
      sliceCfg_congr hlog.live hlog.dies c
    refine ⟨by rw [hslice]; exact hcode, by rw [hslice, hcfg]; exact hact, fun k => ?_, fun d hd => ?_⟩
    · have hc : (emitReset (.ch c) (resetOne (.ch c) u)).cond c k = (resetCh c u).cond c k := by
        unfold State.cond; rw [hslice]
      rw [hc]; exact hcond k
    · rw [hslice, slice_resetCh_other hd]
  · rintro x rfl
    have hc : (emitReset (.can x) (resetOne (.can x) u)).canOf x = (resetCan x u).canOf x := by
      unfold State.canOf; rw [hlog.can]; rfl
    rw [hc]; exact resetCan_off x u
  · rintro rfl
    rw [hlog]
    exact resetLogw_keeps (hidle rfl)
  · rintro rfl
    rw [hlog.panel]; exact resetPanel_flags u
  · rintro n rfl
    have hn : (emitReset (.lx n) (resetOne (.lx n) u)).lxOf n = { u.lxOf n with inFlight := none, lastStatus := u.now } := by
      unfold State.lxOf; rw [hlog]; exact upd_same ..
    rw [hn]; exact ⟨rfl, rfl, rfl⟩
  · intro hch
    obtain ⟨hlive, hslices⟩ := resetOne_settings hch hidle
    exact ⟨hlog.live.trans hlive, hlog.slices.trans hslices⟩

/-- Settles O55: the warning by its levels and times, and each block by what its reset leaves. -/
theorem supplyWarnsAndBlocksReset : Obligations.SupplyWarnsAndBlocksReset := by
  refine ⟨fun s mV hon => ⟨fun hquiet hlow => ?_, fun hhigh => ?_, fun hwarn hhigh hdue => ?_, fun hnot => ?_⟩, ?_⟩
  · have h := supplyNoted_pwrwarn hon hquiet hlow
    exact doesSo_of rfl ⟨h.vsup, h.flag, h.cause, h.live, h.slices⟩
  · exact does_of (congrArg finish (if_neg fun h => absurd h.2.2 (Nat.not_lt.2 hhigh)))
  · have h := supplyNoted_pwrwarnEnd hon hwarn hhigh hdue
    exact doesSo_of rfl ⟨h.vsup, h.flag, h.cause, h.live, h.slices⟩
  · refine does_of (congrArg finish (if_neg ?_))
    rintro ⟨-, -, hhigh, hdue⟩
    rcases hnot with h | h
    · exact absurd hhigh (Nat.not_lt.2 h)
    · exact absurd hdue (Nat.not_le.2 h)
  · rintro h s u b hacc rfl hfit
    have hline := lineTaken_lineStart h (txt "RESET") s
    have hfit' : ¬ blockFitted (lineStart h (txt "RESET") s).ident.part b = false := by rw [hline.ident, hfit]; exact Bool.noConfusion
    refine ⟨fun hmay => ?role, fun hmay hbarred => ?barred, fun hmay hbarred => ⟨fun hsafe hclosed => ?closed,
      fun hopen hheld hidle => ?resets⟩⟩
    case role => exact line_refused h _ (bodyResetBlock h (some b)) s .e06 hacc ((if_neg hfit').trans (if_pos hmay))
    all_goals have hmay' : ¬ may (lineStart h (txt "RESET") s) h .engineer = false := by rw [hmay]; exact Bool.noConfusion
    case barred =>
      exact line_refused h _ (bodyResetBlock h (some b)) s .e07 hacc
        ((if_neg hfit').trans ((if_neg hmay').trans (if_pos hbarred)))
    case closed =>
      refine line_refused h _ (bodyResetBlock h (some b)) s .e07 hacc ((if_neg hfit').trans ((if_neg hmay').trans
        ((if_neg (not_of_eq_false hbarred)).trans (if_pos ?_))))
      rw [hsafe, hclosed]; rfl
    case resets =>
      have hopen' : ¬ (blockSafe (lineStart h (txt "RESET") s) b && !partOpen (lineStart h (txt "RESET") s) h.sess) = true := by
        rintro hboth
        obtain ⟨hsafe, hclosed⟩ := Bool.and_eq_true_iff.1 hboth
        rw [hopen hsafe] at hclosed
        exact Bool.false_ne_true hclosed
      have hbody : bodyResetBlock h (some b) (lineStart h (txt "RESET") s) =
          ok (emitReset b (resetOne b (lineStart h (txt "RESET") s))) := (if_neg hfit').trans ((if_neg hmay').trans
        ((if_neg (not_of_eq_false hbarred)).trans ((if_neg hopen').trans (if_neg (not_of_eq_false hheld)))))
      have hidle' : b = .logw → (lineStart h (txt "RESET") s).log.clearing = none := fun hb => by rw [hline]; exact hidle hb
      obtain ⟨hall, hch, hcan, hlogw, hpanel, hlx, hrest⟩ := emitReset_leaves (b := b) hidle'
      obtain ⟨t, hexec, hreply, honly⟩ := line_replies h (txt "RESET") (bodyResetBlock h (some b)) s _ _ hacc hbody (hall.line _)
      refine ⟨t, hexec, hreply, _, honly, hall.rst, hall.keys, hall.images, hall.part, hall.sectors, fun c hb => ?_,
        fun x hb => ?_, fun hb => ?_, fun hb => ?_, fun n hb => ?_, fun hb => ?_⟩
      · obtain ⟨hcode, hact, hcond, hothers⟩ := hch c hb
        have hrate : rateInForce (lineStart h (txt "RESET") s) c = rateInForce s c := by
          unfold rateInForce; rw [sliceCfg_congr hline.live hline.dies, hline.power]
        have hslice : ∀ d, (lineStart h (txt "RESET") s).slice d = s.slice d := fun d => by unfold State.slice; rw [hline.slices]
        refine ⟨hcode, hrate ▸ hact, fun k => ?_, fun d hd => (hothers d hd).trans (hslice d)⟩
        have hocc : (lineStart h (txt "RESET") s).cond c k = s.cond c k := by unfold State.cond; rw [hslice]
        exact hocc ▸ hcond k
      · have hsame : (lineStart h (txt "RESET") s).canOf x = s.canOf x := by unfold State.canOf; rw [hline.can]
        exact hsame ▸ hcan x hb
      · obtain ⟨hstage, hseq, hrefused⟩ := hlogw hb
        exact ⟨hstage, hseq.trans hline.seq, hrefused.trans (by rw [hline])⟩
      · rw [← hline.live]; exact hpanel hb
      · obtain ⟨hisland, hflight, hlost⟩ := hlx n hb
        have hsame := sameLx_lineStart h (txt "RESET") s n
        exact ⟨hisland.trans (by rw [hsame]), hflight, hlost.trans (by rw [hsame])⟩
      · obtain ⟨hlive, hslices⟩ := hrest hb
        exact ⟨hlive.trans hline.live, hslices.trans hline.slices⟩

end Sys2Proof.Machine

/-! POWER, RESET_N AND THE ORDER OUT OF RESET (13 R733; 14 R752–R757; 15 R773–R777, R792). -/

namespace Sys2Proof.Machine

/-! ## Power and RESET_N (15 R773, R776, R780) -/

theorem WorkCut.pins {u t : State} (h : WorkCut u t) : t.pins = u.pins := by rw [h]
theorem WorkCut.log {u t : State} (h : WorkCut u t) : t.log = u.log := by rw [h]

theorem fullReset_pins (level : ResetLevel) (src : ResetSource) (bits : BitVec 16) (s : State) :
    (fullReset level src bits s).pins = s.pins := by
  have hclear := (nodeCleared_fullReset level src bits s).rest
  rw [hclear, ← (workCut_cutWork s).pins]
  rfl

theorem fullReset_async (level : ResetLevel) (src : ResetSource) (bits : BitVec 16) (s : State) :
    (fullReset level src bits s).port.async = s.pins.asyncStrap := by
  have hclear := (nodeCleared_fullReset level src bits s).rest
  rw [hclear, ← (workCut_cutWork s).pins]
  rfl

theorem systemSource_pins (src : ResetSource) (bits : BitVec 16) (s : State) : (systemSource src bits s).pins = s.pins := by
  unfold systemSource
  split
  · exact fullReset_pins ..
  · rfl

/-- The state in which a POWER reset begins. -/
def powerNoted (s : State) : State := { s with
  keys := if s.keys.debugOpenDue then { s.keys with debugLocked := false, debugOpenDue := false } else s.keys
  pins := { s.pins with vsupLowAt := s.now }
  mem := { s.mem with marchFails := 0 }
  rst := { s.rst with cause := 0, logDue := [] } }

theorem powerReset_eq (src : ResetSource) (s : State) :
    powerReset src s = fullReset .power src (causeMask .por ||| causeMask src) (powerNoted s) := rfl

theorem powerNoted_keys (s : State) : (powerNoted s).keys.role = s.keys.role ∧ (powerNoted s).keys.unit = s.keys.unit := by
  unfold powerNoted
  dsimp only
  split <;> exact ⟨rfl, rfl⟩

/-- A POWER reset restarts the node with RSTCAUSE anew (15 R780). -/
theorem restarted_powerReset (src : ResetSource) (s : State) :
    Restarted .power src (causeMask .por ||| causeMask src) s (powerReset src s) := by
  have h := restarted_fullReset .power src (causeMask .por ||| causeMask src) (powerNoted s)
  have hzero : (powerNoted s).rst.cause ||| (causeMask .por ||| causeMask src) = causeMask .por ||| causeMask src :=
    BitVec.zero_or
  rw [hzero] at h
  rw [powerReset_eq]
  obtain ⟨hrole, hunit⟩ := powerNoted_keys s
  exact h.of_eq rfl fun hflash hwrites => ⟨hflash, hwrites, rfl, hrole, hunit, rfl, rfl⟩

theorem alLevel_unpowered {s : State} (hphase : s.rst.phase = .unpowered) (hhold : s.engine.hold = none)
    (hruns : s.engine.running = false) (i : Fin 16) : alLevel s i = false := by
  unfold alLevel
  rw [hphase, hhold, hruns]
  split
  · rfl
  · rfl

theorem coLevel_unpowered {s : State} (hhold : s.engine.hold = none) (hruns : s.engine.running = false) (i : Fin 8) :
    coLevel s i = false := by
  unfold coLevel
  rw [hhold, hruns]
  rfl

theorem ofFn_false {n : Nat} {f : Fin n → Bool} (h : ∀ i, f i = false) : Vector.ofFn f = .replicate n false := by
  ext i hi
  simp [h]

/-- What a power loss leaves (15 R776): the node cleared, without power. -/
structure PowerLost (s t : State) : Prop where
  phase : t.rst.phase = .unpowered
  hold : t.engine.hold = none
  running : t.engine.running = false
  sectors : t.log.sectors = s.log.sectors
  kept : s.interp.flash = none → s.part.writes = [] → t.images = s.images ∧ t.keys.role = s.keys.role

theorem powerLost_powerLoss {mV : Nat} {s : State} (hon : s.rst.phase ≠ .unpowered) (hlow : mV < 5200) :
    PowerLost s (powerLoss mV s) := by
  have hcut := workCut_cutWork (setVsup mV s)
  have hidle : s.interp.flash = none → s.part.writes = [] → cutWork (setVsup mV s) = setVsup mV s := cutWork_idle (s := setVsup mV s)
  have hrun : powerLoss mV s = { clearNode true true true (cutWork (setVsup mV s)) with
      rst := { phase := .unpowered, logDue := [] } } := if_pos ⟨hon, hlow⟩
  rw [hrun]
  have hclear := nodeCleared_clearNode true true true (cutWork (setVsup mV s))
  generalize clearNode true true true (cutWork (setVsup mV s)) = t at hclear ⊢
  generalize hv : cutWork (setVsup mV s) = v at hcut hidle hclear
  obtain ⟨hrest, -, hkeys, -⟩ := hclear
  have hlog : v.log = s.log := hcut.log
  have htlog : t.log = freshLog v.log := by rw [hrest]
  have hengine : t.engine.hold = none ∧ t.engine.running = false := by rw [hrest]; exact ⟨rfl, rfl⟩
  have himages : t.images = v.images := by rw [hrest]
  exact {
    phase := rfl
    hold := hengine.1
    running := hengine.2
    sectors := by
      show t.log.sectors = _
      rw [htlog, hlog]; rfl
    kept := by
      intro hflash hwrites
      have hv' := hidle hflash hwrites
      refine ⟨himages.trans (by rw [hv']; rfl), ?_⟩
      show t.keys.role = _
      rw [hkeys, hv']; rfl }

theorem powerLoss_next {mV : Nat} {s : State} (hon : s.rst.phase ≠ .unpowered) (hlow : mV < 5200) :
    Next (.powerLoss mV) s fun t => t.rst.phase = .unpowered ∧ t.pads.al = .replicate 16 false ∧
      t.pads.co = .replicate 8 false ∧ t.log.sectors = s.log.sectors ∧
      (s.interp.flash = none → s.part.writes = [] → t.images = s.images ∧ t.keys.role = s.keys.role) := by
  have h := powerLost_powerLoss hon hlow
  refine ⟨_, rfl, h.phase, ofFn_false fun i => ?_, ofFn_false fun i => ?_, h.sectors, h.kept⟩
  · exact alLevel_unpowered h.phase h.hold h.running i
  · exact coLevel_unpowered h.hold h.running i

theorem sourceActs_extrst {s : State} (hon : s.rst.phase ≠ .unpowered) : sourceActs .extrst s = true := by
  unfold sourceActs
  split
  · exact absurd ‹_› hon
  · simp
  · rfl

/-- The state in which RESET_N resets (15 R776, R777). -/
def resetPulled (s : State) : State := { s with
  pins := { s.pins with resetLow := true }
  mem := { s.mem with marchFails := if s.rst.phase = .stopped then 0 else s.mem.marchFails } }

theorem resetN_restarts {us : Nat} {b : Bool} {s : State} (hon : s.rst.phase ≠ .unpowered)
    (hlong : 10 ≤ us ∨ (1 ≤ us ∧ b = true)) : (resetN us b s).pins.resetLow = true ∧
      Restarted (if s.rst.phase = .up then .system else higher .system s.rst.level) .extrst
        (s.rst.cause ||| causeMask .extrst) { s with pins := { s.pins with resetLow := true } } (resetN us b s) := by
  have hrun : resetN us b s = systemSource .extrst (causeMask .extrst) (resetPulled s) := if_pos ⟨hon, hlong⟩
  rw [hrun]
  have hrestarts := restarted_systemSource (causeMask .extrst) (s := resetPulled s) (sourceActs_extrst (s := resetPulled s) hon)
  exact ⟨congrArg Pins.resetLow (systemSource_pins ..), hrestarts.of_sectors rfl rfl rfl rfl rfl rfl⟩

/-! ## The order out of reset (14 R754–R757; 15 R792) -/

/-- What the work of the start-up keeps: time, the pads read, what stands in flash, the count of march failures and the reset
controller. -/
structure BootKeeps (u t : State) : Prop where
  now : t.now = u.now
  pins : t.pins = u.pins
  images : t.images = u.images
  slot0 : t.part.slot0 = u.part.slot0
  slot1 : t.part.slot1 = u.part.slot1
  marchFails : t.mem.marchFails = u.mem.marchFails
  rst : t.rst = u.rst

theorem BootKeeps.refl (u : State) : BootKeeps u u := ⟨rfl, rfl, rfl, rfl, rfl, rfl, rfl⟩

theorem BootKeeps.trans {u v t : State} (h : BootKeeps u v) (h' : BootKeeps v t) : BootKeeps u t :=
  ⟨h'.now.trans h.now, h'.pins.trans h.pins, h'.images.trans h.images, h'.slot0.trans h.slot0, h'.slot1.trans h.slot1,
    h'.marchFails.trans h.marchFails, h'.rst.trans h.rst⟩

theorem EngineStep.bootKeeps {u t : State} (h : EngineStep u t) : BootKeeps u t :=
  ⟨h.now, h.pins, h.images, congrArg Partition.slot0 h.part, congrArg Partition.slot1 h.part, congrArg Mem.marchFails h.mem, h.rst⟩

theorem LogOnly.bootKeeps {u t : State} (h : LogOnly u t) : BootKeeps u t :=
  ⟨h.now, h.pins, h.images, congrArg Partition.slot0 h.part, congrArg Partition.slot1 h.part, congrArg Mem.marchFails h.mem, h.rst⟩

theorem bootKeeps_foldl {α : Type} {f : State → α → State} (hf : ∀ s a, BootKeeps s (f s a)) (l : List α) (s : State) :
    BootKeeps s (l.foldl f s) := by
  induction l generalizing s with
  | nil => exact BootKeeps.refl s
  | cons a l ih => exact (hf s a).trans (ih _)

theorem bootKeeps_startSlice (c : Ch) (s : State) : BootKeeps s (startSlice c s) := by
  unfold startSlice
  simp only
  rw [onSliceCfg_frame]
  exact ⟨rfl, rfl, rfl, rfl, rfl, rfl, rfl⟩

theorem bootKeeps_storCauses (f : StorCauses → StorCauses) (s : State) : BootKeeps s (storCauses f s) :=
  have hnoted : BootKeeps s (storNoted f s) := ⟨rfl, rfl, rfl, rfl, rfl, rfl, rfl⟩
  hnoted.trans (engineStep_storCauses f s).bootKeeps

theorem bootKeeps_releaseDies (s : State) : BootKeeps s (releaseDies s) := by
  unfold releaseDies
  exact ⟨rfl, rfl, rfl, rfl, rfl, rfl, rfl⟩

/-- The first steps of the order out of reset as they are noted, before the slices start. -/
def startNoted (s : State) : State := { s with
  nodeTime := 0
  live := partOnly (partCfg s)
  part := { s.part with checkAt := s.now }
  mem := { s.mem with banks := s.mem.banks.map fun b => { b with st := if s.rst.full then .test else .clearing, since := s.now } }
  rst := { s.rst with phase := if s.rst.full then .marching else .zeroing, since := s.now } }

/-- The SAFE channels start, and the dies leave their reset. -/
def safeStarted (s : State) : State :=
  releaseDies ((channels s.ident.part).foldl (fun s c => if (s.chCfg c).safe then startSlice c s else s) s)

theorem bootKeeps_safeStarted (s : State) : BootKeeps s (safeStarted s) := by
  refine (bootKeeps_foldl (fun s c => ?_) _ s).trans (bootKeeps_releaseDies _)
  split
  · exact bootKeeps_startSlice ..
  · exact BootKeeps.refl _

theorem beginStart_eq (s : State) : beginStart s =
    if (partInForce (safeStarted (startNoted s))).isSome then safeStarted (startNoted s)
    else storCauses (fun c => { c with partition := true }) (emitBlock 5 0x050B 0 []
      { safeStarted (startNoted s) with part := { (safeStarted (startNoted s)).part with
        flags := upd (safeStarted (startNoted s)).part.flags 2 (Flag.drive true) } }) := rfl

theorem bootKeeps_beginStart (s : State) : BootKeeps (startNoted s) (beginStart s) := by
  rw [beginStart_eq]
  have hsafe := bootKeeps_safeStarted (startNoted s)
  generalize safeStarted (startNoted s) = v at hsafe ⊢
  split
  · exact hsafe
  · have hflag : BootKeeps v { v with part := { v.part with flags := upd v.part.flags 2 (Flag.drive true) } } :=
      ⟨rfl, rfl, rfl, rfl, rfl, rfl, rfl⟩
    exact ((hsafe.trans hflag).trans (logOnly_emitBlock ..).bootKeeps).trans (bootKeeps_storCauses ..)

/-- What the beginning of a start-up keeps. -/
structure StartKeeps (s t : State) : Prop where
  now : t.now = s.now
  pins : t.pins = s.pins
  images : t.images = s.images
  slot0 : t.part.slot0 = s.part.slot0
  slot1 : t.part.slot1 = s.part.slot1
  marchFails : t.mem.marchFails = s.mem.marchFails

theorem startKeeps_ensureStarted (s : State) : StartKeeps s (ensureStarted s) := by
  unfold ensureStarted
  split
  · have h := bootKeeps_beginStart s
    exact ⟨h.now, h.pins, h.images, h.slot0, h.slot1, h.marchFails⟩
  · exact ⟨rfl, rfl, rfl, rfl, rfl, rfl⟩

theorem resetNRelease_starts {s : State} (hheld : s.rst.phase = .held) : (resetNRelease s).pins.resetLow = false ∧
    (resetNRelease s).rst.phase = if s.rst.full then .marching else .zeroing := by
  have hrun : resetNRelease s = beginStart { s with pins := { s.pins with resetLow := false } } := if_pos ⟨hheld, rfl⟩
  have h := bootKeeps_beginStart { s with pins := { s.pins with resetLow := false } }
  rw [hrun]
  exact ⟨congrArg Pins.resetLow h.pins, congrArg Reset.phase h.rst⟩

theorem imageCfg_congr {s t : State} (h : t.images = s.images) : imageCfg t = imageCfg s := by
  unfold imageCfg imageInForce; rw [h]

theorem partCfg_congr {s t : State} (h0 : t.part.slot0 = s.part.slot0) (h1 : t.part.slot1 = s.part.slot1) :
    partCfg t = partCfg s := by
  unfold partCfg; rw [partInForce_congr h0 h1]

/-! ### The start-up test (14 R754–R757) -/

/-- What a bank's test result touches: the banks, and its record. -/
def BanksOnly (u t : State) : Prop :=
  t = { u with mem := { u.mem with banks := t.mem.banks }, log := { u.log with incoming := t.log.incoming } }

theorem BanksOnly.trans {u v t : State} (h : BanksOnly u v) (h' : BanksOnly v t) : BanksOnly u t := by
  unfold BanksOnly at *
  rw [h', h]

theorem BanksOnly.bootKeeps {u t : State} (h : BanksOnly u t) : BootKeeps u t :=
  ⟨by rw [h], by rw [h], by rw [h], by rw [h], by rw [h], by rw [h], by rw [h]⟩

theorem BanksOnly.live {u t : State} (h : BanksOnly u t) : t.live = u.live := by rw [h]

theorem LogOnly.banksOnly {u t : State} (h : LogOnly u t) : BanksOnly u t := by
  unfold BanksOnly; rw [h]

theorem logOnly_emitMarch (b : Bank) (mode : Nat) (fail : Option MarchFail) (s : State) : LogOnly s (emitMarch b mode fail s) := by
  cases fail <;> exact logOnly_emitBlock ..

/-- A bank is on, with the record of its test. -/
def bankTested (rs : List (Bank × Option MarchFail)) (s : State) (b : Bank) : State :=
  emitMarch b 0 (resultOf rs b) (onBank b (fun x => { x with st := .on }) s)

theorem banksOnly_bankTested (rs : List (Bank × Option MarchFail)) (s : State) (b : Bank) : BanksOnly s (bankTested rs s b) :=
  have hbank : BanksOnly s (onBank b (fun x => { x with st := .on }) s) := rfl
  hbank.trans (logOnly_emitMarch ..).banksOnly

theorem banksOnly_foldl_bankTested (rs : List (Bank × Option MarchFail)) (l : List Bank) (s : State) :
    BanksOnly s (l.foldl (bankTested rs) s) := by
  induction l generalizing s with
  | nil => rfl
  | cons b l ih => exact (banksOnly_bankTested rs s b).trans (ih _)

theorem bank_bankTested (rs : List (Bank × Option MarchFail)) (s : State) (b j : Bank) :
    (bankTested rs s b).bank j = if j = b then { s.bank j with st := .on } else s.bank j := by
  have hmem : (bankTested rs s b).mem = (onBank b (fun x => { x with st := .on }) s).mem := (logOnly_emitMarch ..).mem
  have hbank : (bankTested rs s b).bank j = (onBank b (fun x => { x with st := .on }) s).bank j := by
    unfold State.bank; rw [hmem]
  rw [hbank, bank_onBank]
  split
  · rename_i h; rw [h]
  · rfl

/-- After the test every bank that it covered is on. -/
theorem bank_foldl_bankTested (rs : List (Bank × Option MarchFail)) (l : List Bank) (s : State) (j : Bank)
    (h : j ∈ l ∨ (s.bank j).st = .on) : ((l.foldl (bankTested rs) s).bank j).st = .on := by
  induction l generalizing s with
  | nil => exact h.resolve_left List.not_mem_nil
  | cons b l ih =>
    refine ih _ ?_
    rw [bank_bankTested]
    rcases h with h | h
    · rcases List.mem_cons.1 h with rfl | h
      · right; rw [if_pos rfl]
      · exact .inl h
    · right; split <;> simp [h]

/-- A bank's failure: its FAULT stands, its owner is held. -/
def bankFails (rs : List (Bank × Option MarchFail)) (s : State) (b : Bank) : State :=
  if (resultOf rs b).isSome then bankFault b true (onBank b (fun x => { x with ownerHeld := true }) s) else s

theorem engineStep_bankFault (b : Bank) (v : Bool) (s : State) :
    EngineStep (onBank b (fun x => { x with fault := x.fault.drive v }) s) (bankFault b v s) := engineStep_setCause ..

theorem bank_bankFault (b j : Bank) (v : Bool) (s : State) :
    (bankFault b v s).bank j = if j = b then { s.bank j with fault := (s.bank j).fault.drive v } else s.bank j := by
  have hmem := (engineStep_bankFault b v s).mem
  have hbank : (bankFault b v s).bank j = (onBank b (fun x => { x with fault := x.fault.drive v }) s).bank j := by
    unfold State.bank; rw [hmem]
  rw [hbank, bank_onBank]
  split
  · rename_i h; rw [h]
  · rfl

theorem bootKeeps_onBank (b : Bank) (f : BankSt → BankSt) (s : State) : BootKeeps s (onBank b f s) :=
  ⟨rfl, rfl, rfl, rfl, rfl, rfl, rfl⟩

theorem bootKeeps_bankFails (rs : List (Bank × Option MarchFail)) (s : State) (b : Bank) : BootKeeps s (bankFails rs s b) := by
  unfold bankFails
  split
  · exact ((bootKeeps_onBank ..).trans (bootKeeps_onBank ..)).trans (engineStep_bankFault ..).bootKeeps
  · exact BootKeeps.refl s

theorem bank_bankFails (rs : List (Bank × Option MarchFail)) (s : State) (b j : Bank) :
    (bankFails rs s b).bank j = if j = b ∧ (resultOf rs b).isSome then
      { s.bank j with ownerHeld := true, fault := (s.bank j).fault.drive true } else s.bank j := by
  unfold bankFails
  by_cases hfail : (resultOf rs b).isSome = true
  · rw [if_pos hfail, bank_bankFault, bank_onBank]
    by_cases hj : j = b
    · subst hj; rw [if_pos rfl, if_pos rfl, if_pos ⟨rfl, hfail⟩]
    · rw [if_neg hj, if_neg hj, if_neg fun h => hj h.1]
  · rw [if_neg hfail, if_neg fun h => hfail h.2]

/-- A failed bank among those tested has FAULT and its owner held; every bank stays on. -/
theorem bank_foldl_bankFails (rs : List (Bank × Option MarchFail)) (l : List Bank) (s : State) (j : Bank) :
    ((l.foldl (bankFails rs) s).bank j).st = (s.bank j).st ∧
    ((j ∈ l ∧ resultOf rs j ≠ none) ∨ ((s.bank j).fault.live = true ∧ (s.bank j).ownerHeld = true) →
      ((l.foldl (bankFails rs) s).bank j).fault.live = true ∧ ((l.foldl (bankFails rs) s).bank j).ownerHeld = true) := by
  induction l generalizing s with
  | nil => exact ⟨rfl, fun h => h.resolve_left fun h => List.not_mem_nil h.1⟩
  | cons b l ih =>
    obtain ⟨hst, hfault⟩ := ih (bankFails rs s b)
    have hbank := bank_bankFails rs s b j
    refine ⟨?_, fun h => hfault ?_⟩
    · refine hst.trans ?_
      rw [hbank]; split <;> rfl
    · rw [hbank]
      rcases h with ⟨hmem, hfail⟩ | h
      · rcases List.mem_cons.1 hmem with rfl | hmem
        · right
          rw [if_pos ⟨rfl, Option.isSome_iff_ne_none.2 hfail⟩]
          exact ⟨Flag.drive_live .., rfl⟩
        · exact .inl ⟨hmem, hfail⟩
      · right
        split
        · exact ⟨Flag.drive_live .., rfl⟩
        · exact h

/-! ### The configuration is loaded (11 R614; 12 R678; 15 R792) -/

/-- What stands of the settings once they are loaded, and the banks. -/
structure LoadKeeps (u t : State) : Prop where
  mem : t.mem = u.mem
  hp : t.live.hp = u.live.hp
  grp : t.live.grp = u.live.grp
  remReset : t.live.remReset = u.live.remReset
  safe : ∀ c : Ch, (t.chCfg c).safe = (u.chCfg c).safe

theorem LoadKeeps.trans {u v t : State} (h : LoadKeeps u v) (h' : LoadKeeps v t) : LoadKeeps u t :=
  ⟨h'.mem.trans h.mem, h'.hp.trans h.hp, h'.grp.trans h.grp, h'.remReset.trans h.remReset,
    fun c => (h'.safe c).trans (h.safe c)⟩

theorem LoadKeeps.of_eq {u t : State} (hmem : t.mem = u.mem) (hlive : t.live = u.live) : LoadKeeps u t :=
  ⟨hmem, by rw [hlive], by rw [hlive], by rw [hlive], fun c => by unfold State.chCfg; rw [hlive]⟩

theorem EngineStep.loadKeeps {u t : State} (h : EngineStep u t) : LoadKeeps u t := .of_eq h.mem h.live
theorem LogOnly.loadKeeps {u t : State} (h : LogOnly u t) : LoadKeeps u t := .of_eq h.mem h.live

theorem loadKeeps_onSliceCfg {c : Ch} {f : ChCfg → ChCfg} {s : State} (hf : (s.linkOf c).held = none → (f (s.chCfg c)).safe = (s.chCfg c).safe) :
    LoadKeeps s (onSliceCfg c f s) := by
  unfold onSliceCfg
  cases hheld : (s.linkOf c).held with
  | some hd => exact .of_eq rfl rfl
  | none =>
    refine ⟨rfl, rfl, rfl, rfl, fun d => ?_⟩
    have hget : ({ s with live := { s.live with ch := upd s.live.ch c f } } : State).chCfg d =
        if c = d then f (s.chCfg d) else s.chCfg d := upd_get ..
    rw [hget]
    split
    · rename_i h; subst h; exact hf hheld
    · rfl

theorem loadKeeps_startSlice (c : Ch) (s : State) : LoadKeeps s (startSlice c s) := by
  have hcfg : LoadKeeps s (onSliceCfg c (fun _ => (s.sliceCfg c).settled) s) :=
    loadKeeps_onSliceCfg fun hup => by
      have hsame : s.sliceCfg c = s.chCfg c := by unfold State.sliceCfg; rw [hup]
      rw [hsame]; rfl
  exact hcfg.trans (.of_eq rfl rfl)

theorem loadKeeps_storCauses (f : StorCauses → StorCauses) (s : State) : LoadKeeps s (storCauses f s) :=
  have hnoted : LoadKeeps s (storNoted f s) := .of_eq rfl rfl
  hnoted.trans (engineStep_storCauses f s).loadKeeps

theorem loadKeeps_foldl {α : Type} {f : State → α → State} (hf : ∀ s a, LoadKeeps s (f s a)) (l : List α) (s : State) :
    LoadKeeps s (l.foldl f s) := by
  induction l generalizing s with
  | nil => exact .of_eq rfl rfl
  | cons a l ih => exact (hf s a).trans (ih _)

/-- The settings loaded from the images in force. -/
def loadedSettings (s : State) : State := { s with live := mergeSettings (imageCfg s) (partCfg s) }

theorem loadedSettings_mem (s : State) : (loadedSettings s).mem = s.mem := by
  unfold loadedSettings; rfl

theorem loadedSettings_live (s : State) : (loadedSettings s).live = mergeSettings (imageCfg s) (partCfg s) := by
  unfold loadedSettings; rfl

theorem mergeSettings_fixed (img part : Settings) : (mergeSettings img part).hp = img.hp ∧ (mergeSettings img part).grp = img.grp ∧
    (mergeSettings img part).remReset = part.remReset := by
  unfold mergeSettings takeFixed; exact ⟨rfl, rfl, rfl⟩

/-- A configuration that is not there is recorded. -/
def loadNoted (s : State) : State :=
  if (imageInForce s).isSome then s
  else emitBlock 0 0x0405 0 [] (storCauses (fun c => { c with config := true }) s)

/-- The partition error that caused the reset is recorded. -/
def errorNoted (s : State) : State :=
  if s.part.errorDue then emitBlock 5 0x050A 0 [] { s with part := { s.part with errorDue := false } } else s

/-- The channels that are not SAFE leave OFF. -/
def othersStarted (s : State) : State :=
  (channels s.ident.part).foldl (fun s c => if (s.chCfg c).safe then s else startSlice c s) s

/-- The blocks take their settings, and the node waits for its clock. -/
def blocksLoaded (s : State) : State := { s with
  watch := { s.watch with node := s.live.watchNode }
  lx := s.lx.map fun x => { x with running := true, nextFrame := s.now, lastStatus := s.now }
  panel := { s.panel with type := s.live.panel.type, drive := s.live.panel, phase := restPhase s.live.panel.type }
  clk := { s.clk with sscNow := s.live.clock.sscDepth, sscAt := s.now, panelLpo := s.live.clock.panelLpo }
  port := { s.port with
    echoOn := echoOf s.port.async s.live.hp, crcRequired := s.live.hp.crcRequired, attn := s.live.hp.attn }
  rst := { s.rst with phase := .clocking, since := s.now } }

theorem loadConfig_eq (s : State) :
    loadConfig s = evalWatchCause (blocksLoaded (othersStarted (errorNoted (loadNoted (loadedSettings s))))) := rfl

theorem loadKeeps_loadNoted (s : State) : LoadKeeps s (loadNoted s) := by
  unfold loadNoted
  split
  · exact .of_eq rfl rfl
  · exact (loadKeeps_storCauses ..).trans (logOnly_emitBlock ..).loadKeeps

theorem loadKeeps_errorNoted (s : State) : LoadKeeps s (errorNoted s) := by
  unfold errorNoted
  split
  · have hnoted : LoadKeeps s { s with part := { s.part with errorDue := false } } := .of_eq rfl rfl
    exact hnoted.trans (logOnly_emitBlock ..).loadKeeps
  · exact .of_eq rfl rfl

theorem loadKeeps_othersStarted (s : State) : LoadKeeps s (othersStarted s) := by
  refine loadKeeps_foldl (fun s c => ?_) _ s
  split
  · exact .of_eq rfl rfl
  · exact loadKeeps_startSlice ..

theorem safe_mergeCh (img part : ChCfg) : (mergeCh img part).safe = part.safe := by
  unfold mergeCh
  cases h : part.safe <;> rfl

/-- What loading the configuration leaves of the settings and the banks. -/
theorem loadConfig_loads (s : State) : (loadConfig s).rst.phase = .clocking ∧ (loadConfig s).mem = s.mem ∧
    (loadConfig s).live.hp = (imageCfg s).hp ∧ (loadConfig s).live.grp = (imageCfg s).grp ∧
    (loadConfig s).live.remReset = (partCfg s).remReset ∧
    (∀ c : Ch, ((loadConfig s).chCfg c).safe = ((partCfg s).ch[c.val]).safe) := by
  have hkeeps := ((loadKeeps_loadNoted (loadedSettings s)).trans (loadKeeps_errorNoted _)).trans (loadKeeps_othersStarted _)
  rw [loadConfig_eq]
  generalize othersStarted (errorNoted (loadNoted (loadedSettings s))) = v at hkeeps ⊢
  have hblocks : LoadKeeps v (blocksLoaded v) := .of_eq rfl rfl
  have hstep : EngineStep (blocksLoaded v) (evalWatchCause (blocksLoaded v)) := engineStep_setCause ..
  have hall := (hkeeps.trans hblocks).trans hstep.loadKeeps
  refine ⟨congrArg Reset.phase hstep.rst, hall.mem.trans (loadedSettings_mem s), ?_, ?_, ?_,
    fun c => (hall.safe c).trans ?_⟩
  · rw [hall.hp, loadedSettings_live, (mergeSettings_fixed ..).1]
  · rw [hall.grp, loadedSettings_live, (mergeSettings_fixed ..).2.1]
  · rw [hall.remReset, loadedSettings_live, (mergeSettings_fixed ..).2.2]
  have hmerge : (loadedSettings s).chCfg c = mergeCh (imageCfg s).ch[c.val] (partCfg s).ch[c.val] := by
    simp [loadedSettings, State.chCfg, mergeSettings, takeFixed]
  rw [hmerge, safe_mergeCh]

/-- The start-up test as the node works it, when it is over. -/
theorem startupTestComplete_over {rs : List (Bank × Option MarchFail)} {s u : State} (hu : u = ensureStarted s)
    (hphase : u.rst.phase = .marching) (hover : (∃ b : Bank, resultOf rs b ≠ none) ∨ u.rst.since + testMicros ≤ u.now) :
    startupTestComplete rs s =
      if (resultOf rs .engine).isSome || (resultOf rs .interp).isSome then
        { allBanks.foldl (bankTested rs) u with
          mem := { (allBanks.foldl (bankTested rs) u).mem with marchFails := (allBanks.foldl (bankTested rs) u).mem.marchFails + 1 }
          rst := { (allBanks.foldl (bankTested rs) u).rst with
            phase := .stopped
            marchStopAt := if (allBanks.foldl (bankTested rs) u).mem.marchFails + 1 < 3 then
              some (allBanks.foldl (bankTested rs) u).now else none } }
      else loadConfig ([Bank.link, .stage, .image].foldl (bankFails rs) { allBanks.foldl (bankTested rs) u with
        mem := { (allBanks.foldl (bankTested rs) u).mem with marchFails := 0 } }) := by
  subst hu
  refine if_neg ?_
  rintro (h | ⟨hpass, hearly⟩)
  · exact h hphase
  · rcases hover with ⟨b, hb⟩ | hover
    · rw [List.any_eq_false] at hpass
      exact hpass b (by cases b <;> decide) (Option.isSome_iff_ne_none.2 hb)
    · exact absurd hearly (Nat.not_lt.2 hover)

section
variable {rs : List (Bank × Option MarchFail)} {s u : State} (hu : u = ensureStarted s) (hphase : u.rst.phase = .marching)
include hu hphase

/-- A test that ENGINE or INTERP fails stops the node (14 R755, R756). -/
theorem startupTest_stops (hfail : resultOf rs .engine ≠ none ∨ resultOf rs .interp ≠ none) :
    DoesSo (.startupTestComplete rs) s fun w => w.rst.phase = .stopped ∧ w.mem.marchFails = s.mem.marchFails + 1 ∧
      w.rst.marchStopAt = (if s.mem.marchFails + 1 < 3 then some s.now else none) ∧ w.live = u.live := by
  have hover : ∃ b : Bank, resultOf rs b ≠ none := hfail.elim (fun h => ⟨_, h⟩) fun h => ⟨_, h⟩
  have hrun := startupTestComplete_over hu hphase (.inl hover)
  have hsome : ((resultOf rs .engine).isSome || (resultOf rs .interp).isSome) = true := by
    rcases hfail with h | h <;> simp [Option.isSome_iff_ne_none.2 h]
  rw [if_pos hsome] at hrun
  have hstart := startKeeps_ensureStarted s
  rw [← hu] at hstart
  have htested := banksOnly_foldl_bankTested rs allBanks u
  generalize allBanks.foldl (bankTested rs) u = v at htested hrun
  have hfails : v.mem.marchFails = s.mem.marchFails := htested.bootKeeps.marchFails.trans hstart.marchFails
  have hnow : v.now = s.now := htested.bootKeeps.now.trans hstart.now
  rw [hfails, hnow] at hrun
  exact doesSo_of (congrArg finish hrun) ⟨rfl, rfl, rfl, htested.live⟩

/-- A test that ENGINE and INTERP pass, when it is over, loads the configuration (14 R757; 15 R792). -/
theorem startupTest_loads (hengine : resultOf rs .engine = none) (hinterp : resultOf rs .interp = none)
    (hover : (∃ b : Bank, resultOf rs b ≠ none) ∨ u.rst.since + testMicros ≤ s.now) :
    DoesSo (.startupTestComplete rs) s fun w =>
      w.rst.phase = .clocking ∧ w.mem.marchFails = 0 ∧ (∀ b : Bank, (w.bank b).st = .on) ∧
      (∀ b ∈ [Bank.link, .stage, .image], resultOf rs b ≠ none →
        (w.bank b).fault.live = true ∧ (w.bank b).ownerHeld = true) ∧
      w.live.hp = (imageCfg s).hp ∧ w.live.grp = (imageCfg s).grp ∧ w.live.remReset = (partCfg s).remReset ∧
      (∀ c : Ch, (w.chCfg c).safe = ((partCfg s).ch[c.val]).safe) := by
  have hstart := startKeeps_ensureStarted s
  rw [← hu] at hstart
  rw [← hstart.now] at hover
  have hrun := startupTestComplete_over hu hphase hover
  rw [if_neg (by rw [hengine, hinterp]; exact Bool.false_ne_true)] at hrun
  have htested := banksOnly_foldl_bankTested rs allBanks u
  have hon : ∀ b, ((allBanks.foldl (bankTested rs) u).bank b).st = .on :=
    fun b => bank_foldl_bankTested rs allBanks u b (.inl (by cases b <;> decide))
  generalize allBanks.foldl (bankTested rs) u = v at htested hrun hon
  have hfails := bootKeeps_foldl (bootKeeps_bankFails rs) [Bank.link, .stage, .image]
    { v with mem := { v.mem with marchFails := 0 } }
  have hbank := bank_foldl_bankFails rs [Bank.link, .stage, .image] { v with mem := { v.mem with marchFails := 0 } }
  generalize [Bank.link, .stage, .image].foldl (bankFails rs) { v with mem := { v.mem with marchFails := 0 } } = x
    at hfails hbank hrun
  obtain ⟨hclocking, hmem, hhp, hgrp, hrem, hsafe⟩ := loadConfig_loads x
  have himages : imageCfg x = imageCfg s :=
    imageCfg_congr (hfails.images.trans (htested.bootKeeps.images.trans hstart.images))
  have hpart : partCfg x = partCfg s := partCfg_congr (hfails.slot0.trans (htested.bootKeeps.slot0.trans hstart.slot0))
    (hfails.slot1.trans (htested.bootKeeps.slot1.trans hstart.slot1))
  have hloaded : ∀ b, (loadConfig x).bank b = x.bank b := fun b => by unfold State.bank; rw [hmem]
  refine doesSo_of (congrArg finish hrun) ⟨hclocking, (congrArg Mem.marchFails hmem).trans hfails.marchFails, fun b => ?_,
    fun b hb hfail => ?_, by rw [hhp, himages], by rw [hgrp, himages], by rw [hrem, hpart], fun c => by rw [hsafe, hpart]⟩
  · rw [hloaded]; exact (hbank b).1.trans (hon b)
  · rw [hloaded]; exact (hbank b).2 (.inl ⟨hb, hfail⟩)

theorem startupTest_early (hpass : ∀ b : Bank, resultOf rs b = none) (hearly : s.now < u.rst.since + testMicros) :
    Does (.startupTestComplete rs) s u := by
  subst hu
  have hnow := (startKeeps_ensureStarted s).now
  refine does_of (congrArg finish (if_pos (.inr ⟨?_, ?_⟩)))
  · rw [List.any_eq_false]
    intro b _
    rw [hpass b]
    exact Bool.false_ne_true
  · rw [hnow]; exact hearly

end

theorem startupTest_other {rs : List (Bank × Option MarchFail)} {s u : State} (hu : u = ensureStarted s)
    (hphase : u.rst.phase ≠ .marching) : Does (.startupTestComplete rs) s u := by
  subst hu
  exact does_of (congrArg finish (if_pos (.inl hphase)))

theorem marchFailureRestart_stopped {s : State} {t : Tick} (hphase : s.rst.phase = .stopped) (hstop : s.rst.marchStopAt = some t) :
    marchFailureRestart s = if t + usSec ≤ s.now then systemSource .marchRt (causeMask .marchRt) s else s := by
  unfold marchFailureRestart
  rw [hphase, hstop]

theorem marchFailureRestart_other {s : State} (h : s.rst.phase ≠ .stopped ∨ s.rst.marchStopAt = none) :
    marchFailureRestart s = s := by
  unfold marchFailureRestart
  split
  · rename_i hphase hstop
    rcases h with h | h
    · exact absurd hphase h
    · rw [h] at hstop; cases hstop
  · rfl

/-! ### The clock and the port (13 R733; 10 R569, R571) -/

/-- An XO that is found failed leaves the chain, and CLKFAIL stands (13 R712). -/
theorem xoFails_leaves (cause count : Nat) (s : State) : (xoFails cause count s).clk.chain = s.clk.chain ∧
    (xoFails cause count s).clk.xoFailed = true ∧ (xoFails cause count s).flags.clkFail.live = true ∧
    (xoFails cause count s).live = s.live := by
  unfold xoFails
  simp only
  generalize hv : onClk _ s = v
  have hchain : v.clk.chain = s.clk.chain ∧ v.clk.xoFailed = true ∧ v.live = s.live := by rw [← hv]; exact ⟨rfl, rfl, rfl⟩
  have hlog := logOnly_emitClk 0x0620 ([cause] ++ two16 count) v
  generalize emitClk 0x0620 ([cause] ++ two16 count) v = x at hlog ⊢
  have hstep := engineStep_clkFailCause true x
  refine ⟨?_, ?_, ?_, ?_⟩
  · rw [hstep.clk, ← hchain.1, ← hlog.clk]
  · rw [hstep.clk, ← hchain.2.1, ← hlog.clk]
  · rw [hstep.flags]; exact Flag.drive_live ..
  · rw [hstep.live, ← hchain.2.2, ← hlog.live]

/-- What CLOCK.SRC as applied leaves (13 R733). -/
theorem applySource_applies (edges : Nat) (s : State) : (applySource edges s).live = s.live ∧
    (applySource edges s).clk.chain =
      (if s.live.clock.srcIrc then .ircChain else if 16 ≤ edges ∧ s.clk.xoPassed = true then .xo else .ircChain) ∧
    (s.live.clock.srcIrc = false → (edges < 16 ∨ s.clk.xoPassed = false) →
      (applySource edges s).flags.clkFail.live = true ∧ (applySource edges s).clk.xoFailed = true) := by
  unfold applySource
  cases hirc : s.live.clock.srcIrc with
  | true => exact ⟨rfl, rfl, fun h => absurd h Bool.noConfusion⟩
  | false =>
    simp only [Bool.false_eq_true, if_false]
    by_cases hruns : 16 ≤ edges ∧ s.clk.xoPassed = true
    · have hpass : (edgesPass edges && s.clk.xoPassed) = true := by simp [edgesPass, hruns.1, hruns.2]
      rw [if_pos hpass, if_pos hruns]
      refine ⟨rfl, rfl, fun _ hnot => ?_⟩
      rcases hnot with h | h
      · exact absurd hruns.1 (Nat.not_le.2 h)
      · exact absurd (h.symm.trans hruns.2) Bool.noConfusion
    · have hfails : ¬ (edgesPass edges && s.clk.xoPassed) = true := by simpa [edgesPass] using hruns
      rw [if_neg hfails, if_neg hruns]
      obtain ⟨hchain, hfailed, hflag, hlive⟩ := xoFails_leaves (xoCauseNo s.clk.xofreq s.clk.xoCount) s.clk.xoCount
        (onClk (fun c => { c with chain := .ircChain, goal := none }) s)
      exact ⟨hlive, hchain, fun _ _ => ⟨hflag, hfailed⟩⟩

theorem portOpen_opens {s : State} (hbank : (s.bank .interp).st = .on) (hmode : s.power.mode ≠ .deep)
    (hturn : s.rst.phase = .opening ∨ (s.rst.phase = .up ∧ s.port.opened = false)) :
    (portOpen s).rst.phase = .up ∧ (portOpen s).port.opened = true ∧ (portOpen s).interp.running = true ∧
      ((portOpen s).port.events[0]).latched = true ∧ (portOpen s).live = s.live ∧ (portOpen s).engine = s.engine := by
  have hon : ¬ ((s.bank .interp).st ≠ .on ∨ s.power.mode = .deep) := fun h => h.elim (fun h => h hbank) hmode
  have hpulse : ((openPort s).port.events[0]).latched = true := by simp [openPort, onHpEvent, upd, Flag.pulse_latched]
  unfold portOpen
  rw [if_neg hon]
  rcases hturn with hopening | ⟨hup, hclosed⟩
  · rw [hopening]; exact ⟨rfl, rfl, rfl, hpulse, rfl, rfl⟩
  · rw [hup]
    simp only [hclosed, Bool.false_eq_true, if_false]
    exact ⟨hup, rfl, rfl, hpulse, rfl, rfl⟩

theorem portOpen_other {s : State} (hopening : s.rst.phase ≠ .opening) (hup : s.rst.phase ≠ .up ∨ s.port.opened = true) :
    portOpen s = s := by
  unfold portOpen
  split
  · rfl
  · split
    · exact absurd ‹_› hopening
    · rcases hup with h | h
      · exact absurd ‹_› h
      · exact if_pos h
    · rfl

/-- Settles O54: the supply and RESET_N by their levels and times, and each step of the start-up in its turn. -/
theorem powerComesAndStartUpRuns : Obligations.PowerComesAndStartUpRuns := by
  refine ⟨fun s mV us b => ⟨?on, ?off, fun hpower => ⟨?rail, ?loss⟩, ?railShort, ?lossHigh, ?resetN, ?resetShort, ?release, ?released⟩,
    fun s rs edges => ⟨fun u hu => ⟨fun hphase => ⟨startupTest_stops hu hphase, startupTest_loads hu hphase,
      startupTest_early hu hphase⟩, startupTest_other hu⟩, fun t hphase hstop => ⟨?restart, ?restartEarly⟩, ?restartOther, ?apply,
      ?applyOther, ?opens, ?opensOther⟩⟩
  case on =>
    intro hphase hhigh
    have hrun : powerOn mV b s = powerReset .por (setVsup mV { s with pins := { s.pins with asyncStrap := b } }) :=
      if_pos ⟨hphase, hhigh⟩
    refine doesSo_of (congrArg finish hrun) ⟨(restarted_powerReset ..).of_sectors rfl rfl rfl rfl rfl rfl, ?_, ?_⟩
    · exact fullReset_async ..
    · exact congrArg Pins.vsup (fullReset_pins ..)
  case off =>
    intro hnot
    exact does_of (congrArg finish (if_neg fun h => hnot.elim (fun hp => hp h.1) (Nat.not_lt.2 h.2)))
  case rail => exact fun hlong => doesSo_of (congrArg finish (if_pos ⟨hpower, hlong⟩)) (restarted_powerReset ..)
  case loss => exact powerLoss_next hpower
  case railShort => exact fun hshort => does_of (congrArg finish (if_neg fun h => absurd h.2 (Nat.not_le.2 hshort)))
  case lossHigh => exact fun hhigh => does_of (congrArg finish (if_neg fun h => absurd h.2 (Nat.not_lt.2 hhigh)))
  case resetN => exact fun hpower hlong => doesSo_of rfl (resetN_restarts hpower hlong)
  case resetShort =>
    intro hshort
    refine does_of (congrArg finish (if_neg ?_))
    rintro ⟨-, hlong | ⟨hone, htaken⟩⟩
    · rcases hshort with h | ⟨h, -⟩
      · exact absurd (le_trans (by decide : 1 ≤ 10) hlong) (Nat.not_le.2 h)
      · exact absurd hlong (Nat.not_le.2 h)
    · rcases hshort with h | ⟨-, h⟩
      · exact absurd hone (Nat.not_le.2 h)
      · exact absurd (h.symm.trans htaken) Bool.noConfusion
  case release => exact fun hheld => doesSo_of rfl (resetNRelease_starts hheld)
  case released => exact fun hnot => does_of (congrArg finish (if_neg fun h => hnot h.1))
  case restart =>
    intro hdue
    have hrun := (marchFailureRestart_stopped hphase hstop).trans (if_pos hdue)
    have hacts : sourceActs .marchRt s = true := by unfold sourceActs; rw [hphase, hstop]; rfl
    have h := restarted_systemSource (causeMask .marchRt) hacts
    exact doesSo_of (congrArg finish hrun) ⟨h.level.2.2.1, h.phase⟩
  case restartEarly =>
    exact fun hearly => does_of (congrArg finish ((marchFailureRestart_stopped hphase hstop).trans (if_neg (Nat.not_le.2 hearly))))
  case restartOther => exact fun h => does_of (congrArg finish (marchFailureRestart_other h))
  case apply =>
    intro hphase hwaits
    obtain ⟨hlive, hchain, hfails⟩ := applySource_applies edges s
    exact doesSo_of (congrArg finish (if_pos ⟨hphase, hwaits⟩)) ⟨rfl, hlive, hchain, hfails⟩
  case applyOther =>
    intro hnot
    refine does_of (congrArg finish (if_neg ?_))
    rintro ⟨hphase, hwaits⟩
    rcases hnot with h | h
    · exact h hphase
    · exact absurd (h.symm.trans hwaits) Bool.noConfusion
  case opens => exact fun hbank hmode hturn => doesSo_of rfl (portOpen_opens hbank hmode hturn)
  case opensOther => exact fun hopening hup => does_of (congrArg finish (portOpen_other hopening hup))

end Sys2Proof.Machine

/-! THE PANEL'S RAILS (08 R448–R451, R462, R463, R472, R479): how they rise, fail, are tried again and fall. -/

namespace Sys2Proof.Machine

section
variable {s : State}

theorem railStart_waits (hphase : s.panel.phase = .waiting) (hmay : railsMayRise s = true) : railStart s =
    { s with panel := { s.panel with
      phase := .risingVlcd s.now, backlight := false, flags := upd s.panel.flags 2 (Flag.drive true) } } := by
  refine if_pos ?_
  rw [decide_eq_true hphase, hmay]; rfl

theorem railStart_idle (h : s.panel.phase ≠ .waiting ∨ railsMayRise s = false) : railStart s = s := by
  refine if_neg fun hboth => ?_
  obtain ⟨hphase, hmay⟩ := Bool.and_eq_true_iff.1 hboth
  rcases h with h | h
  · exact h (of_decide_eq_true hphase)
  · exact absurd (h.symm.trans hmay) Bool.noConfusion

theorem vlcdReady_rising {t : Tick} (hphase : s.panel.phase = .risingVlcd t) : vlcdReady s =
    if s.panel.type = .bch then onPanel (fun p => { p with phase := .risingVhv t }) s else startClear s := by
  unfold vlcdReady; rw [hphase]

theorem vlcdReady_other (hphase : ∀ t, s.panel.phase ≠ .risingVlcd t) : vlcdReady s = s := by
  unfold vlcdReady
  split
  · exact absurd ‹_› (hphase _)
  · rfl

theorem vhvReady_rising {t : Tick} (hphase : s.panel.phase = .risingVhv t) (v : Nat) : vhvReady v s =
    if vhvInBand s.panel.drive v then startClear (vhvRead v s) else vhvRead v s := by
  unfold vhvReady; rw [hphase]; rfl

theorem vhvReady_other (hphase : ∀ t, s.panel.phase ≠ .risingVhv t) (v : Nat) : vhvReady v s = s := by
  unfold vhvReady
  split
  · exact absurd ‹_› (hphase _)
  · rfl

theorem vhvInBand_iff (drive : PanelCfg) (v : Nat) :
    vhvInBand drive v = true ↔ drive.vhv * 980 ≤ v * 100 ∧ v * 100 ≤ drive.vhv * 1020 := by
  unfold vhvInBand
  rw [Bool.and_eq_true, decide_eq_true_iff, decide_eq_true_iff, Nat.mul_assoc, Nat.mul_assoc]

theorem startClear_other (htype : s.panel.type ≠ .bch) : startClear s = { s with panel := { s.panel with
    phase := .clearFrame 0, parity := false, line := 0, startAt := s.now, writing := false, glass := .replicate 8 0 } } := by
  unfold startClear onPanel
  dsimp only
  rw [if_neg htype, decide_eq_false htype]

theorem vhvRead_bch (htype : s.panel.type = .bch) (v : Nat) : vhvRead v s = onPanel (fun p => { p with vhvTenths := v }) s := by
  unfold vhvRead onPanel
  dsimp only
  rw [if_pos htype]

theorem startClear_bch (htype : s.panel.type = .bch) : startClear s = { s with panel := { s.panel with
    phase := .clearFrame 0, parity := false, line := 0, startAt := s.now, writing := true
    glass := upd s.panel.glass 0 fun _ => 0 } } := by
  unfold startClear onPanel
  dsimp only
  rw [if_pos htype, decide_eq_true htype]

/-- A rail that has failed, with its record (08 R451). -/
def railFails (b : Fin 3) (s : State) : State :=
  onPanelFlag b (Flag.drive true) (onPanel (fun p => { p with phase := .fault s.now }) s)

theorem railTimeout_vlcd {t : Tick} (hphase : s.panel.phase = .risingVlcd t) :
    railTimeout s = if t + 5000 ≤ s.now then emitPanel 0x0250 (railFails 0 s) else s := by
  unfold railTimeout; rw [hphase]; rfl

theorem railTimeout_vhv {t : Tick} (hphase : s.panel.phase = .risingVhv t) :
    railTimeout s = if t + 25000 ≤ s.now then emitPanel 0x0251 (railFails 1 s) else s := by
  unfold railTimeout; rw [hphase]; rfl

theorem railTimeout_other (hphase : ∀ t, s.panel.phase ≠ .risingVlcd t ∧ s.panel.phase ≠ .risingVhv t) : railTimeout s = s := by
  unfold railTimeout
  split
  · exact absurd ‹_› (hphase _).1
  · exact absurd ‹_› (hphase _).2
  · rfl

theorem railRetry_fault {t : Tick} (hphase : s.panel.phase = .fault t) : railRetry s =
    if t + 10 * usSec ≤ s.now ∧ railsMayRise s = true then
      setDirty true (railsForgiven (onPanel (fun p => { p with phase := .risingVlcd s.now, vhvTenths := 0 }) s))
    else s := by
  unfold railRetry; rw [hphase]

theorem railRetry_other (hphase : ∀ t, s.panel.phase ≠ .fault t) : railRetry s = s := by
  unfold railRetry
  split
  · exact absurd ‹_› (hphase _)
  · rfl

theorem dischargeStepEnd_0 {t : Tick} (hphase : s.panel.phase = .discharging 0 t) : dischargeStepEnd s =
    if (if s.panel.type = .tn then slotEnded s.panel t s.now else lineOver s) then discharge s else s := by
  unfold dischargeStepEnd; rw [hphase]
  simp only [decide_eq_true_eq]

theorem dischargeStepEnd_1 {t : Tick} (hphase : s.panel.phase = .discharging 1 t) : dischargeStepEnd s =
    if s.panel.type = .tn then
      (if t + 10000 ≤ s.now then onPanel (fun p => { p with phase := .discharging 2 s.now }) s else s)
    else atRest s := by
  unfold dischargeStepEnd; rw [hphase]
  simp only [decide_eq_true_eq]

theorem dischargeStepEnd_2 {t : Tick} (hphase : s.panel.phase = .discharging 2 t) :
    dischargeStepEnd s = if t + 20000 ≤ s.now then atRest s else s := by
  unfold dischargeStepEnd; rw [hphase]; rfl

theorem dischargeStepEnd_other (hphase : ∀ (k : Nat) (t : Tick), s.panel.phase ≠ .discharging k t) : dischargeStepEnd s = s := by
  unfold dischargeStepEnd
  cases h : s.panel.phase with
  | discharging k t => exact absurd h (hphase k t)
  | _ => rfl

/-- What a panel at rest holds (08 R439, R462, R463). -/
theorem atRest_panel (s : State) : (atRest s).panel.phase = restPhase s.live.panel.type ∧ (atRest s).panel.type = s.live.panel.type ∧
    (atRest s).panel.drive = s.live.panel ∧ (atRest s).panel.backlight = false ∧ (atRest s).panel.vhvTenths = 0 ∧
    (atRest s).panel.glass = if s.panel.type = .tn then .replicate 8 0 else s.panel.glass := by
  unfold atRest takeDrive railsForgiven onPanelFlag onPanel
  exact ⟨rfl, rfl, rfl, rfl, rfl, rfl⟩

/-- What touches the panel and nothing else. -/
def PanelAlone (u t : State) : Prop := t = { u with panel := t.panel }

theorem PanelAlone.trans {u v t : State} (h : PanelAlone u v) (h' : PanelAlone v t) : PanelAlone u t := by
  unfold PanelAlone at *
  rw [h', h]

theorem panelAlone_onPanel (f : Panel → Panel) (s : State) : PanelAlone s (onPanel f s) := rfl

theorem panelAlone_onPanelFlag (b : Fin 3) (f : Flag → Flag) (s : State) : PanelAlone s (onPanelFlag b f s) :=
  panelAlone_onPanel (fun p => { p with flags := upd p.flags b f }) s

theorem panelAlone_atRest (s : State) : PanelAlone s (atRest s) := by
  unfold atRest takeDrive railsForgiven
  exact ((((panelAlone_onPanel _ s).trans (panelAlone_onPanelFlag 1 _ _)).trans (panelAlone_onPanelFlag 0 _ _)).trans
    (panelAlone_onPanel _ _)).trans (panelAlone_onPanel _ _)

end

end Sys2Proof.Machine

/-! WHAT THE PANEL SHOWS (08 R443–R459, R468, R472; 16 R822): the engine's bit pairs, the image of its sources, and the frames and
lines in which it is written. -/

namespace Sys2Proof.Machine

/-! ## The image (08 R454, R456, R461) -/

/-- The image of a line follows from the settings, the time and what the driver holds of the bit pairs. -/
theorem imageLine_congr {s t : State} (hlive : t.live = s.live) (htime : t.nodeTime = s.nodeTime)
    (htest : t.panel.testEnd = s.panel.testEnd) (htype : t.panel.type = s.panel.type)
    (hactive : t.panel.bankActive = s.panel.bankActive) (hunack : t.panel.bankUnack = s.panel.bankUnack) (k : Fin 8) :
    imageLine t k = imageLine s k := by
  unfold imageLine markers
  dsimp only
  rw [hlive, htime, htest, htype, hactive, hunack]

/-- The engine writes bit pairs: the panel is else as it was. -/
def PairsDrawn (s t : State) : Prop := ∃ a u, t = onPanel (fun p => { p with bankActive := a, bankUnack := u }) s

theorem PairsDrawn.refl (s : State) : PairsDrawn s s := ⟨s.panel.bankActive, s.panel.bankUnack, rfl⟩

theorem PairsDrawn.trans {s t w : State} (h : PairsDrawn s t) (h' : PairsDrawn t w) : PairsDrawn s w := by
  obtain ⟨a, u, rfl⟩ := h
  obtain ⟨a', u', rfl⟩ := h'
  exact ⟨a', u', rfl⟩

theorem pairsDrawn_refreshLine (k : Fin 8) (s : State) : PairsDrawn s (refreshLine k s) := by
  unfold refreshLine
  simp only
  split
  · exact ⟨_, _, rfl⟩
  · split
    · exact ⟨_, _, rfl⟩
    · exact .refl s

theorem pairsDrawn_foldl (l : List (Fin 8)) (s : State) : PairsDrawn s (l.foldl (fun s k => refreshLine k s) s) := by
  induction l generalizing s with
  | nil => exact .refl s
  | cons k l ih => exact (pairsDrawn_refreshLine k s).trans (ih _)

theorem pairsDrawn_refreshBank (s : State) : PairsDrawn s (refreshBank s) := pairsDrawn_foldl ..

theorem PairsDrawn.alone {s t : State} (h : PairsDrawn s t) : PanelAlone s t := by
  obtain ⟨a, u, rfl⟩ := h; exact panelAlone_onPanel ..

/-- The bit pairs that the engine writes of a line. -/
def activeRow (s : State) (k : Fin 8) : Segs := rowBits ((s.live.panel.seg[k.val]).toList.map fun x => (segShows s x).1)
def unackRow (s : State) (k : Fin 8) : Segs := rowBits ((s.live.panel.seg[k.val]).toList.map fun x => (segShows s x).2)

theorem refreshLine_runs {k : Fin 8} {s : State} (hruns : s.engine.running = true) : refreshLine k s =
    onPanel (fun p => { p with bankActive := upd p.bankActive k fun _ => activeRow s k
                               bankUnack := upd p.bankUnack k fun _ => unackRow s k }) s := by
  unfold refreshLine
  simp only [hruns, if_true]
  rfl

theorem rows_of_pairsDrawn {s t : State} (h : PairsDrawn s t) (k : Fin 8) : activeRow t k = activeRow s k ∧ unackRow t k = unackRow s k := by
  obtain ⟨a, u, rfl⟩ := h; exact ⟨rfl, rfl⟩

theorem rows_of_alone {s t : State} (h : PanelAlone s t) (k : Fin 8) : activeRow t k = activeRow s k ∧ unackRow t k = unackRow s k := by
  unfold PanelAlone at h
  generalize t.panel = p at h
  subst h
  exact ⟨rfl, rfl⟩

theorem foldl_refreshLine_rows (l : List (Fin 8)) (s t : State) (hdrawn : PairsDrawn s t) (hruns : s.engine.running = true) (j : Fin 8)
    (h : j ∈ l ∨ (t.panel.bankActive[j.val] = activeRow s j ∧ t.panel.bankUnack[j.val] = unackRow s j)) :
    (l.foldl (fun s k => refreshLine k s) t).panel.bankActive[j.val] = activeRow s j ∧
    (l.foldl (fun s k => refreshLine k s) t).panel.bankUnack[j.val] = unackRow s j := by
  induction l generalizing t with
  | nil => exact h.resolve_left List.not_mem_nil
  | cons k l ih =>
    refine ih _ (hdrawn.trans (pairsDrawn_refreshLine k t)) ?_
    have hruns' : t.engine.running = true := by obtain ⟨a, u, rfl⟩ := hdrawn; exact hruns
    obtain ⟨hactive, hunack⟩ := rows_of_pairsDrawn hdrawn k
    dsimp only
    rw [refreshLine_runs hruns', hactive, hunack]
    have hget : ∀ (v : Vector Segs 8) (x : Segs), (upd v k fun _ => x)[j.val] = if k = j then x else v[j.val] :=
      fun v x => upd_get ..
    by_cases hkj : k = j
    · subst hkj
      right
      exact ⟨(hget _ _).trans (if_pos rfl), (hget _ _).trans (if_pos rfl)⟩
    · rcases h with h | h
      · exact .inl ((List.mem_cons.1 h).resolve_left fun e => hkj e.symm)
      · right
        exact ⟨((hget _ _).trans (if_neg hkj)).trans h.1, ((hget _ _).trans (if_neg hkj)).trans h.2⟩

/-- While the engine runs every bit pair is what its segment's source shows. -/
theorem refreshBank_rows {s : State} (hruns : s.engine.running = true) (j : Fin 8) :
    (refreshBank s).panel.bankActive[j.val] = activeRow s j ∧ (refreshBank s).panel.bankUnack[j.val] = unackRow s j :=
  foldl_refreshLine_rows _ s s (.refl s) hruns j (.inl (List.mem_finRange j))

/-! ## Frames of a TN panel (08 R440, R449, R458) -/

/-- A drive setting takes effect at a boundary: it and what it leaves dirty alone. -/
def DriveTaken (s t : State) : Prop :=
  ∃ d a b c, t = onPanel (fun p => { p with drive := d, driveDue := a, rewriteDue := b, dirtyLines := c }) s ∧
    (s.panel.dirtyLines ≠ 0 → c ≠ 0) ∧ (s.panel.driveDue = false → c = s.panel.dirtyLines)

theorem driveTaken_boundaryDrive (s : State) : DriveTaken s (boundaryDrive s) := by
  unfold boundaryDrive
  cases hdue : s.panel.driveDue with
  | true =>
    refine ⟨_, _, _, _, if_pos rfl, fun hdirty => ?_, fun h => absurd (hdue.symm.trans h) Bool.noConfusion⟩
    split
    · decide
    · exact hdirty
  | false =>
    exact ⟨s.panel.drive, false, s.panel.rewriteDue, s.panel.dirtyLines,
      (if_neg Bool.false_ne_true).trans (by unfold onPanel; rw [← hdue]), fun h => h, fun _ => rfl⟩

/-- What a frame's beginning draws: the image of the sources as they stand. -/
structure FrameDrawn (s t : State) : Prop where
  alone : PanelAlone s t
  parity : t.panel.parity = !s.panel.parity
  startAt : t.panel.startAt = s.now
  glass : ∀ j : Fin 8, t.panel.glass[j.val] = imageLine t j
  rows : s.engine.running = true → ∀ j : Fin 8, t.panel.bankActive[j.val] = activeRow s j ∧ t.panel.bankUnack[j.val] = unackRow s j
  phase : t.panel.phase = s.panel.phase
  backlight : t.panel.backlight = s.panel.backlight
  flags : t.panel.flags = s.panel.flags

theorem frameDrawn_drawAll (s : State) : ∃ a u g, drawAll s = onPanel (fun p => { p with bankActive := a, bankUnack := u, glass := g }) s ∧
    (∀ j : Fin 8, g[j.val] = imageLine (drawAll s) j) ∧
    (s.engine.running = true → ∀ j : Fin 8, a[j.val] = activeRow s j ∧ u[j.val] = unackRow s j) := by
  obtain ⟨a, u, hdrawn⟩ := pairsDrawn_refreshBank s
  have hrows := fun hruns => refreshBank_rows (s := s) hruns
  have hrun : drawAll s = onPanel (fun p => { p with glass := Vector.ofFn fun k => imageLine (refreshBank s) k }) (refreshBank s) := rfl
  have himage : ∀ j : Fin 8, (Vector.ofFn fun k => imageLine (refreshBank s) k)[j.val] = imageLine (drawAll s) j := by
    intro j
    rw [Vector.getElem_ofFn, hrun]
    exact (imageLine_congr rfl rfl rfl rfl rfl rfl j).symm
  rw [hdrawn] at hrows
  exact ⟨a, u, Vector.ofFn fun k => imageLine (refreshBank s) k, by rw [hrun, hdrawn]; rfl, himage, hrows⟩

/-- The next frame, where no new type waits. -/
theorem frameDrawn_nextFrame {s : State} (htype : s.panel.typeDue = false) : FrameDrawn s (nextFrame s) := by
  have hrun : nextFrame s = drawAll (boundaryDrive (onPanel (fun p => { p with parity := !p.parity, startAt := s.now }) s)) :=
    if_neg (by rw [htype]; exact Bool.false_ne_true)
  obtain ⟨d, x, b, c, hdrive, -, -⟩ := driveTaken_boundaryDrive (onPanel (fun p => { p with parity := !p.parity, startAt := s.now }) s)
  obtain ⟨a, u, g, hdraw, hglass, hrows⟩ :=
    frameDrawn_drawAll (boundaryDrive (onPanel (fun p => { p with parity := !p.parity, startAt := s.now }) s))
  rw [← hrun] at hdraw hglass
  generalize nextFrame s = t at hdraw hglass ⊢
  rw [hdrive] at hdraw hrows
  have hrows' : s.engine.running = true → ∀ j : Fin 8, a[j.val] = activeRow s j ∧ u[j.val] = unackRow s j := hrows
  have hpanel : t.panel.bankActive = a ∧ t.panel.bankUnack = u ∧ t.panel.glass = g := by rw [hdraw]; exact ⟨rfl, rfl, rfl⟩
  exact {
    alone := by rw [hdraw]; rfl
    parity := by rw [hdraw]; rfl
    startAt := by rw [hdraw]; rfl
    glass := by rw [hpanel.2.2]; exact hglass
    rows := by rw [hpanel.1, hpanel.2.1]; exact hrows'
    phase := by rw [hdraw]; rfl
    backlight := by rw [hdraw]; rfl
    flags := by rw [hdraw]; rfl }

theorem frameBoundary_due {s : State} (htype : s.panel.type = .tn) (hover : usSec ≤ (s.now - s.panel.startAt) * s.panel.drive.frame) :
    frameBoundary s = match s.panel.phase with
      | .clearFrame _ => nextFrame (onPanel (fun p => { p with phase := .imageFrame 0 }) s)
      | .imageFrame _ => nextFrame (setDirty false (lightOn s))
      | .run => nextFrame s
      | _ => s := if_pos ⟨htype, decide_eq_true hover⟩

theorem nextFrame_discharges {s : State} (hdue : s.panel.typeDue = true) : nextFrame s = discharge s := if_pos hdue

/-! ## Lines of a BCH panel (08 R443, R445, R459, R479; 16 R822) -/

/-- The VHV measured while a line was written: the line is dirty where it was out of its band. -/
structure LineJudged (v : Nat) (s t : State) : Prop where
  alone : PanelAlone s t
  panel : t.panel = { s.panel with vhvTenths := v, dirtyLines := t.panel.dirtyLines, flags := t.panel.flags }
  good : s.panel.writing = false ∨ vhvInBand s.panel.drive v = true →
    t.panel.dirtyLines = s.panel.dirtyLines ∧ t.panel.flags = s.panel.flags
  bad : s.panel.writing = true → vhvInBand s.panel.drive v = false →
    t.panel.dirtyLines = s.panel.dirtyLines ||| BitVec.ofNat 8 (2 ^ s.panel.line.val) ∧ (t.panel.flags[2]).live = true

theorem lineJudged_judgeLine {v : Nat} {s : State} (htype : s.panel.type = .bch) : LineJudged v s (judgeLine v s) := by
  unfold judgeLine
  rw [vhvRead_bch htype]
  by_cases hgood : s.panel.writing = false ∨ vhvInBand s.panel.drive v = true
  · have hcond : (!s.panel.writing || vhvInBand s.panel.drive v) = true := by rcases hgood with h | h <;> simp [h]
    refine (if_pos hcond : _ = _) ▸ ⟨panelAlone_onPanel .., rfl, fun _ => ⟨rfl, rfl⟩, fun hw hb => ?_⟩
    rcases hgood with h | h
    · exact absurd (h.symm.trans hw) Bool.noConfusion
    · exact absurd (hb.symm.trans h) Bool.noConfusion
  · have hcond : ¬ (!s.panel.writing || vhvInBand s.panel.drive v) = true := by
      intro h
      rcases Bool.or_eq_true_iff.1 h with h | h
      · exact hgood (.inl (by simpa using h))
      · exact hgood (.inr h)
    refine (if_neg hcond : _ = _) ▸ ⟨(panelAlone_onPanel _ s).trans ((panelAlone_onPanel _ _).trans (panelAlone_onPanelFlag ..)),
      rfl, fun h => absurd h hgood, fun _ _ => ⟨rfl, ?_⟩⟩
    simp [setDirty, onPanelFlag, onPanel, upd]

/-- A line written as the image of its sources. -/
structure LineDrawn (k : Fin 8) (s t : State) : Prop where
  alone : PanelAlone s t
  panel : t.panel = { s.panel with
    line := k, startAt := s.now, writing := true, glass := upd s.panel.glass k fun _ => imageLine t k
    dirtyLines := s.panel.dirtyLines &&& ~~~(BitVec.ofNat 8 (2 ^ k.val))
    bankActive := t.panel.bankActive, bankUnack := t.panel.bankUnack }

theorem lineDrawn_fields {k : Fin 8} {s t : State} (h : LineDrawn k s t) : t.panel.phase = s.panel.phase ∧ t.panel.line = k ∧
    t.panel.glass = upd s.panel.glass k (fun _ => imageLine t k) ∧ t.panel.backlight = s.panel.backlight ∧
    t.panel.vhvTenths = s.panel.vhvTenths ∧
    t.panel.dirtyLines = s.panel.dirtyLines &&& ~~~(BitVec.ofNat 8 (2 ^ k.val)) ∧ t.panel.flags = s.panel.flags := by
  rw [h.panel]
  exact ⟨rfl, rfl, rfl, rfl, rfl, rfl, rfl⟩

theorem lineDrawn_drawLine (k : Fin 8) (s : State) : LineDrawn k s (drawLine k s) := by
  obtain ⟨a, u, hdrawn⟩ := pairsDrawn_refreshLine k s
  have hrun : drawLine k s = onPanel (fun p => { p with
      line := k, startAt := (refreshLine k s).now, writing := true
      glass := upd p.glass k (fun _ => imageLine (refreshLine k s) k)
      dirtyLines := p.dirtyLines &&& ~~~(BitVec.ofNat 8 (2 ^ k.val)) }) (refreshLine k s) := rfl
  have himage : imageLine (drawLine k s) k = imageLine (refreshLine k s) k := by
    rw [hrun]; exact imageLine_congr rfl rfl rfl rfl rfl rfl k
  rw [← himage, hdrawn] at hrun
  generalize drawLine k s = t at hrun
  exact ⟨by rw [hrun]; rfl, by rw [congrArg State.panel hrun]; rfl⟩

/-- What the driver does in `run` at the end of a line. -/
structure LinesRun (s t : State) : Prop where
  alone : PanelAlone s t
  phase : t.panel.phase = s.panel.phase
  backlight : t.panel.backlight = s.panel.backlight
  vhv : t.panel.vhvTenths = s.panel.vhvTenths
  written : t.panel.writing = true → t.panel.glass = upd s.panel.glass t.panel.line fun _ => imageLine t t.panel.line
  idle : t.panel.writing = false → t.panel.glass = s.panel.glass ∧ ∀ j : Fin 8, imageLine t j = s.panel.glass[j.val]
  dirty : s.panel.dirtyLines ≠ 0 → t.panel.flags = s.panel.flags ∧ t.panel.writing = true
  clean : s.panel.dirtyLines = 0 → s.panel.driveDue = false → s.flags.pwrWarn.live = false → (t.panel.flags[2]).live = false

/-- What stands before the next line is looked for. -/
structure LinesReady (s t : State) : Prop where
  alone : PanelAlone s t
  panel : t.panel = { s.panel with
    drive := t.panel.drive, driveDue := t.panel.driveDue, rewriteDue := t.panel.rewriteDue, dirtyLines := t.panel.dirtyLines
    bankActive := t.panel.bankActive, bankUnack := t.panel.bankUnack, flags := t.panel.flags }
  dirty : s.panel.dirtyLines ≠ 0 → t.panel.flags = s.panel.flags ∧ t.panel.dirtyLines ≠ 0
  clean : s.panel.dirtyLines = 0 → s.panel.driveDue = false → s.flags.pwrWarn.live = false → (t.panel.flags[2]).live = false

/-- DIRTY is let go where no line is dirty. -/
def dirtyJudged (s : State) : State :=
  if s.panel.dirtyLines = 0 ∧ s.flags.pwrWarn.live = false then setDirty false s else s

theorem linesReady (s : State) : LinesReady s (dirtyJudged (refreshBank (boundaryDrive s))) := by
  obtain ⟨d, x, b, c, hdrive, hdirty, hkeep⟩ := driveTaken_boundaryDrive s
  obtain ⟨a, u, hdrawn⟩ := pairsDrawn_refreshBank (boundaryDrive s)
  rw [hdrive] at hdrawn
  rw [hdrive, hdrawn]
  unfold dirtyJudged
  by_cases hclean : c = 0 ∧ s.flags.pwrWarn.live = false
  · refine (if_pos hclean : _ = _) ▸ ⟨?_, rfl, fun h => absurd hclean.1 (hdirty h), fun _ _ _ => ?_⟩
    · exact ((panelAlone_onPanel _ s).trans (panelAlone_onPanel _ _)).trans (panelAlone_onPanelFlag 2 _ _)
    · simp [setDirty, onPanelFlag, onPanel, upd]
  · refine (if_neg hclean : _ = _) ▸ ⟨(panelAlone_onPanel _ s).trans (panelAlone_onPanel _ _), rfl, fun h => ⟨rfl, hdirty h⟩, fun hzero hdue hwarn => ?_⟩
    exact absurd ⟨(hkeep hdue).trans hzero, hwarn⟩ hclean

theorem runLines_eq (s : State) : runLines s =
    match nextLine (dirtyJudged (refreshBank (boundaryDrive s))) with
    | some k => drawLine k (dirtyJudged (refreshBank (boundaryDrive s)))
    | none => onPanel (fun p => { p with writing := false }) (dirtyJudged (refreshBank (boundaryDrive s))) := rfl

/-- Every line is looked at, beginning after the last. -/
theorem mem_lineOrder (a j : Fin 8) : j ∈ (List.finRange 8).map fun i => a + 1 + i := by
  refine List.mem_map.2 ⟨j - (a + 1), List.mem_finRange _, ?_⟩
  simp

theorem nextLine_none {s : State} (h : nextLine s = none) (j : Fin 8) :
    s.panel.dirtyLines.getLsbD j.val = false ∧ imageLine s j = s.panel.glass[j.val] := by
  have hall := List.find?_eq_none.1 h j (mem_lineOrder s.panel.line j)
  simp only [Bool.or_eq_true, decide_eq_true_eq, not_or, not_not, Bool.not_eq_true] at hall
  exact hall

theorem linesRun_runLines (s : State) : LinesRun s (runLines s) := by
  have hready := linesReady s
  rw [runLines_eq]
  generalize dirtyJudged (refreshBank (boundaryDrive s)) = v at hready ⊢
  obtain ⟨halone, hpanel, hdirty, hclean⟩ := hready
  have hsame : v.panel.phase = s.panel.phase ∧ v.panel.backlight = s.panel.backlight ∧ v.panel.vhvTenths = s.panel.vhvTenths ∧
      v.panel.glass = s.panel.glass := by rw [hpanel]; exact ⟨rfl, rfl, rfl, rfl⟩
  obtain ⟨hphase, hlight, hvhv, hglass⟩ := hsame
  cases hnext : nextLine v with
  | some k =>
    obtain ⟨hdrawnAlone, hdrawn⟩ := lineDrawn_drawLine k v
    dsimp only
    generalize drawLine k v = t at hdrawnAlone hdrawn ⊢
    have hfields : t.panel.phase = v.panel.phase ∧ t.panel.backlight = v.panel.backlight ∧ t.panel.vhvTenths = v.panel.vhvTenths ∧
        t.panel.line = k ∧ t.panel.writing = true ∧ t.panel.glass = upd v.panel.glass k (fun _ => imageLine t k) ∧
        t.panel.flags = v.panel.flags := by rw [hdrawn]; exact ⟨rfl, rfl, rfl, rfl, rfl, rfl, rfl⟩
    obtain ⟨htphase, htlight, htvhv, htline, htwriting, htglass, htflags⟩ := hfields
    exact {
      alone := halone.trans hdrawnAlone
      phase := htphase.trans hphase
      backlight := htlight.trans hlight
      vhv := htvhv.trans hvhv
      written := fun _ => by rw [htline, htglass, hglass]
      idle := fun h => absurd (htwriting.symm.trans h) Bool.noConfusion
      dirty := fun h => ⟨htflags.trans (hdirty h).1, htwriting⟩
      clean := fun h h' h'' => by rw [htflags]; exact hclean h h' h'' }
  | none =>
    have hnone := nextLine_none hnext
    exact {
      alone := halone.trans (panelAlone_onPanel ..)
      phase := hphase
      backlight := hlight
      vhv := hvhv
      written := fun h => absurd h Bool.noConfusion
      idle := fun _ => ⟨hglass, fun j => by
        rw [← hglass, ← (hnone j).2]
        exact imageLine_congr rfl rfl rfl rfl rfl rfl j⟩
      dirty := fun h => absurd (BitVec.eq_of_getLsbD_eq fun i hi => ((hnone ⟨i, hi⟩).1).trans BitVec.getLsbD_zero.symm) (hdirty h).2
      clean := hclean }

theorem bchLineWriteEnd_due {v : Nat} {s : State} (htype : s.panel.type = .bch)
    (hover : s.panel.writing = false ∨ s.panel.startAt + s.panel.drive.bchline * 1000 ≤ s.now) :
    bchLineWriteEnd v s = match s.panel.phase with
      | .clearFrame k => if (vhvRead v s).panel.typeDue then discharge (vhvRead v s) else clearNext k (vhvRead v s)
      | .imageFrame k => if (judgeLine v s).panel.typeDue then discharge (judgeLine v s) else imageNext k (judgeLine v s)
      | .run => if (judgeLine v s).panel.typeDue then discharge (judgeLine v s) else runLines (judgeLine v s)
      | _ => s := by
  refine if_pos ⟨htype, ?_⟩
  unfold lineOver
  rcases hover with h | h
  · rw [h]; rfl
  · rw [decide_eq_true h, Bool.or_true]

theorem bit_of_line (a b : Fin 8) : (BitVec.ofNat 8 (2 ^ a.val)).getLsbD b.val = decide (a = b) := by
  revert a b; decide

theorem bit_written {a b : Fin 8} (x : BitVec 8) (hab : a ≠ b) :
    ((x ||| BitVec.ofNat 8 (2 ^ a.val)) &&& ~~~(BitVec.ofNat 8 (2 ^ b.val))).getLsbD a.val = true := by
  rw [BitVec.getLsbD_and, BitVec.getLsbD_or, BitVec.getLsbD_not, bit_of_line, bit_of_line, decide_eq_true rfl,
    decide_eq_false hab.symm, Bool.or_true, decide_eq_true a.isLt]
  rfl

theorem dirty_ne_zero (a : Fin 8) (x : BitVec 8) : x ||| BitVec.ofNat 8 (2 ^ a.val) ≠ 0 := by
  intro h
  have hbit : (x ||| BitVec.ofNat 8 (2 ^ a.val)).getLsbD a.val = (0 : BitVec 8).getLsbD a.val := by rw [h]
  rw [BitVec.getLsbD_or, bit_of_line, decide_eq_true rfl, Bool.or_true] at hbit
  exact absurd (hbit.trans BitVec.getLsbD_zero) Bool.noConfusion

/-! ## The statement -/

theorem panelTestExpiry_due {s : State} {t : Tick} (htest : s.panel.testEnd = some t) :
    panelTestExpiry s = if t ≤ s.now then onPanel (fun p => { p with testEnd := none }) s else s := by
  unfold panelTestExpiry; rw [htest]

/-- What a frame boundary begins its next frame with. -/
theorem frameBoundary_next {s : State} {k : Fin 8} (htype : s.panel.type = .tn)
    (hover : usSec ≤ (s.now - s.panel.startAt) * s.panel.drive.frame)
    (hphase : s.panel.phase = .clearFrame k ∨ s.panel.phase = .imageFrame k ∨ s.panel.phase = .run) :
    ∃ u, frameBoundary s = nextFrame u ∧ PanelAlone s u ∧ u.panel.typeDue = s.panel.typeDue ∧ u.panel.parity = s.panel.parity ∧
      u.panel.type = s.panel.type ∧
      (s.panel.phase = .clearFrame k → u.panel.phase = .imageFrame 0 ∧ u.panel.backlight = s.panel.backlight) ∧
      (s.panel.phase = .imageFrame k → u.panel.phase = .run ∧ u.panel.backlight = true ∧ (u.panel.flags[2]).live = false) ∧
      (s.panel.phase = .run → u.panel.phase = .run ∧ u.panel.backlight = s.panel.backlight) := by
  have hrun := frameBoundary_due htype hover
  rcases hphase with h | h | h <;> rw [h] at hrun ⊢
  · exact ⟨_, hrun, panelAlone_onPanel .., rfl, rfl, rfl, fun _ => ⟨rfl, rfl⟩, fun h => (by cases h), fun h => (by cases h)⟩
  · refine ⟨_, hrun, (panelAlone_onPanel _ s).trans (panelAlone_onPanelFlag 2 _ _), rfl, rfl, rfl, fun h => (by cases h),
      fun _ => ⟨rfl, rfl, ?_⟩, fun h => (by cases h)⟩
    simp [setDirty, onPanelFlag, onPanel, upd]
  · exact ⟨s, hrun, rfl, rfl, rfl, rfl, fun h => (by cases h), fun h => (by cases h), fun _ => ⟨h, rfl⟩⟩

/-- What a line's end goes on with: VHV measured, the line judged where one was written. -/
theorem lineEnd_reads {v : Nat} {s : State} {k : Fin 8} (htype : s.panel.type = .bch)
    (hover : s.panel.writing = false ∨ s.panel.startAt + s.panel.drive.bchline * 1000 ≤ s.now)
    (hphase : s.panel.phase = .clearFrame k ∨ s.panel.phase = .imageFrame k ∨ s.panel.phase = .run)
    (hdue : s.panel.typeDue = true) : ∃ u, bchLineWriteEnd v s = discharge u ∧ PanelAlone s u ∧ u.panel.type = .bch ∧
      u.panel.glass = s.panel.glass ∧ u.panel.vhvTenths = v := by
  have hrun := bchLineWriteEnd_due (v := v) htype hover
  have hjudged := lineJudged_judgeLine (v := v) htype
  generalize judgeLine v s = x at hrun hjudged
  have hfields : x.panel.type = s.panel.type ∧ x.panel.glass = s.panel.glass ∧ x.panel.vhvTenths = v ∧
      x.panel.typeDue = s.panel.typeDue := by rw [hjudged.panel]; exact ⟨rfl, rfl, rfl, rfl⟩
  obtain ⟨hxtype, hxglass, hxvhv, hxdue⟩ := hfields
  have hxdue' : x.panel.typeDue = true := hxdue.trans hdue
  rcases hphase with h | h | h <;> rw [h] at hrun
  · rw [vhvRead_bch htype] at hrun
    exact ⟨_, hrun.trans (if_pos hdue), panelAlone_onPanel .., htype, rfl, rfl⟩
  · exact ⟨x, hrun.trans (if_pos hxdue'), hjudged.alone, hxtype.trans htype, hxglass, hxvhv⟩
  · exact ⟨x, hrun.trans (if_pos hxdue'), hjudged.alone, hxtype.trans htype, hxglass, hxvhv⟩

/-! ### The end of a line, by the phase (08 R443, R445, R459) -/

section
variable {s : State} {v : Nat} {k : Fin 8} (htype : s.panel.type = .bch)
  (hover : s.panel.writing = false ∨ s.panel.startAt + s.panel.drive.bchline * 1000 ≤ s.now) (hdue : s.panel.typeDue = false)
  {w : State}
include htype hover hdue

/-- After the last line of the clear frame the first of the image is written. -/
theorem lineEnd_clearsLast (hphase : s.panel.phase = .clearFrame k) (hk : k = 7) (hw : w = bchLineWriteEnd v s) :
    w = { s with panel := w.panel } ∧ w.panel.phase = .imageFrame 0 ∧ w.panel.line = 0 ∧
    w.panel.glass = upd s.panel.glass 0 (fun _ => imageLine w 0) ∧ w.panel.backlight = s.panel.backlight ∧
    w.panel.vhvTenths = v := by
  have hrun := bchLineWriteEnd_due (v := v) htype hover
  rw [hphase, vhvRead_bch htype] at hrun
  have hrun' := hrun.trans ((if_neg (not_of_eq_false hdue)).trans (if_pos hk))
  obtain ⟨d, x, b, c, hdrive, -, -⟩ := driveTaken_boundaryDrive
    (onPanel (fun p => { p with phase := .imageFrame 0 }) (onPanel (fun p => { p with vhvTenths := v }) s))
  rw [hdrive] at hrun'
  have hdrawn := lineDrawn_drawLine 0 (onPanel (fun p => { p with drive := d, driveDue := x, rewriteDue := b, dirtyLines := c })
    (onPanel (fun p => { p with phase := .imageFrame 0 }) (onPanel (fun p => { p with vhvTenths := v }) s)))
  rw [← hw.trans hrun'] at hdrawn
  refine ⟨(((panelAlone_onPanel _ s).trans (panelAlone_onPanel _ _)).trans (panelAlone_onPanel _ _)).trans hdrawn.alone, ?_⟩
  clear hw
  rw [hdrawn.panel]
  exact ⟨rfl, rfl, rfl, rfl, rfl⟩

/-- After a line of the image frame the next is written; one written out of VHV's band is dirty. -/
theorem lineEnd_drawsNext (hphase : s.panel.phase = .imageFrame k) (hk : k ≠ 7) (hw : w = bchLineWriteEnd v s) :
    w = { s with panel := w.panel } ∧ w.panel.phase = .imageFrame (k + 1) ∧ w.panel.line = k + 1 ∧
    w.panel.glass = upd s.panel.glass (k + 1) (fun _ => imageLine w (k + 1)) ∧ w.panel.backlight = s.panel.backlight ∧
    w.panel.vhvTenths = v ∧
    (s.panel.writing = true → vhvInBand s.panel.drive v = false → s.panel.line ≠ k + 1 →
      w.panel.dirtyLines.getLsbD s.panel.line.val = true ∧ (w.panel.flags[2]).live = true) := by
  have hrun := bchLineWriteEnd_due (v := v) htype hover
  have hjudged := lineJudged_judgeLine (v := v) htype
  rw [hphase] at hrun
  generalize judgeLine v s = x at hrun hjudged
  have hfields : x.panel.glass = s.panel.glass ∧ x.panel.vhvTenths = v ∧ x.panel.typeDue = s.panel.typeDue ∧
      x.panel.backlight = s.panel.backlight := by rw [hjudged.panel]; exact ⟨rfl, rfl, rfl, rfl⟩
  obtain ⟨hglass, hvhv, hxdue, hlight⟩ := hfields
  have hrun' := hrun.trans ((if_neg (by rw [hxdue, hdue]; exact Bool.false_ne_true)).trans (if_neg hk))
  have hdrawn := lineDrawn_drawLine (k + 1) (onPanel (fun p => { p with phase := .imageFrame (k + 1) }) x)
  rw [← hw.trans hrun'] at hdrawn
  refine ⟨(hjudged.alone.trans (panelAlone_onPanel _ _)).trans hdrawn.alone, ?_⟩
  clear hw
  obtain ⟨htphase, htline, htglass, htlight, htvhv, htdirty, htflags⟩ := lineDrawn_fields hdrawn
  refine ⟨htphase, htline, htglass.trans (by rw [← hglass]; rfl), htlight.trans hlight, htvhv.trans hvhv,
    fun hwriting hband hline => ?_⟩
  obtain ⟨hdirty, hflag⟩ := hjudged.bad hwriting hband
  have htdirty' : w.panel.dirtyLines = x.panel.dirtyLines &&& ~~~(BitVec.ofNat 8 (2 ^ (k + 1).val)) := htdirty
  have htflags' : w.panel.flags = x.panel.flags := htflags
  rw [htdirty', htflags', hdirty]
  exact ⟨bit_written _ hline, hflag⟩

/-- After the last line of the image, and in RUN, a line that has changed or is dirty is written, where there is one. -/
theorem lineEnd_runs (hphase : s.panel.phase = .imageFrame k ∧ k = 7 ∨ s.panel.phase = .run) (hw : w = bchLineWriteEnd v s) :
    w = { s with panel := w.panel } ∧ w.panel.phase = .run ∧ (s.panel.phase = .imageFrame k → w.panel.backlight = true) ∧
    (s.panel.phase = .run → w.panel.backlight = s.panel.backlight) ∧ w.panel.vhvTenths = v ∧
    (w.panel.writing = true → w.panel.glass = upd s.panel.glass w.panel.line (fun _ => imageLine w w.panel.line)) ∧
    (w.panel.writing = false → w.panel.glass = s.panel.glass ∧ ∀ j : Fin 8, imageLine w j = s.panel.glass[j.val]) ∧
    (s.panel.writing = true → vhvInBand s.panel.drive v = false → (w.panel.flags[2]).live = true ∧ w.panel.writing = true) ∧
    (s.panel.writing = false ∨ vhvInBand s.panel.drive v = true → s.panel.dirtyLines = 0 → s.panel.driveDue = false →
      s.flags.pwrWarn.live = false → (w.panel.flags[2]).live = false) := by
  have hrun := bchLineWriteEnd_due (v := v) htype hover
  have hjudged := lineJudged_judgeLine (v := v) htype
  generalize judgeLine v s = x at hrun hjudged
  have hfields : x.panel.glass = s.panel.glass ∧ x.panel.vhvTenths = v ∧ x.panel.typeDue = s.panel.typeDue ∧
      x.panel.backlight = s.panel.backlight ∧ x.panel.driveDue = s.panel.driveDue ∧ x.panel.phase = s.panel.phase := by
    rw [hjudged.panel]; exact ⟨rfl, rfl, rfl, rfl, rfl, rfl⟩
  obtain ⟨hglass, hvhv, hxdue, hlight, hdrive, hxphase⟩ := hfields
  have hnot : ¬ x.panel.typeDue = true := by rw [hxdue, hdue]; exact Bool.false_ne_true
  have hlines : ∃ u, bchLineWriteEnd v s = runLines u ∧ PanelAlone x u ∧ u.panel.phase = .run ∧
      (s.panel.phase = .imageFrame k → u.panel.backlight = true) ∧ (s.panel.phase = .run → u.panel.backlight = s.panel.backlight) ∧
      u.panel.glass = x.panel.glass ∧ u.panel.vhvTenths = x.panel.vhvTenths ∧ u.panel.dirtyLines = x.panel.dirtyLines ∧
      u.panel.driveDue = x.panel.driveDue ∧ u.panel.flags = x.panel.flags := by
    rcases hphase with ⟨h, hk⟩ | h <;> rw [h] at hrun hxphase ⊢
    · exact ⟨lightOn x, hrun.trans ((if_neg hnot).trans (if_pos hk)), panelAlone_onPanel _ x, rfl, fun _ => rfl,
        fun h => (by cases h), rfl, rfl, rfl, rfl, rfl⟩
    · exact ⟨x, hrun.trans (if_neg hnot), rfl, hxphase, fun h => (by cases h), fun _ => hlight, rfl, rfl, rfl, rfl, rfl⟩
  obtain ⟨u, hrun', hualone, huphase, himage, hin, huglass, huvhv, hudirty, hudrive, huflags⟩ := hlines
  have hran := linesRun_runLines u
  rw [← hw.trans hrun'] at hran
  clear hw
  refine ⟨(hjudged.alone.trans hualone).trans hran.alone, hran.phase.trans huphase, fun h => hran.backlight.trans (himage h),
    fun h => hran.backlight.trans (hin h), hran.vhv.trans (huvhv.trans hvhv), fun h => ?_, fun h => ?_, fun hwriting hband => ?_,
    fun hgood hzero hnodrive hwarn => ?_⟩
  · rw [hran.written h, huglass, hglass]
  · obtain ⟨htglass, hsame⟩ := hran.idle h
    rw [huglass, hglass] at htglass hsame
    exact ⟨htglass, hsame⟩
  · obtain ⟨hdirty, hflag⟩ := hjudged.bad hwriting hband
    obtain ⟨htflags, hagain⟩ := hran.dirty (by rw [hudirty, hdirty]; exact dirty_ne_zero _ _)
    rw [htflags, huflags]
    exact ⟨hflag, hagain⟩
  · have hwarn' : u.flags.pwrWarn.live = false := by rw [hualone, hjudged.alone]; exact hwarn
    exact hran.clean (hudirty.trans ((hjudged.good hgood).1.trans hzero)) (hudrive.trans (hdrive.trans hnodrive)) hwarn'

end

/-- Settles O58: each phase of the rails by its event, and each frame and line by what it draws. -/
theorem panelRaisesRailsAndShows : Obligations.PanelRaisesRailsAndShows := by
  refine ⟨?rails, ?shows⟩
  case rails =>
    rintro s p rfl
    refine ⟨fun hphase hmay => does_of (congrArg finish (railStart_waits hphase hmay)),
      fun h => does_of (congrArg finish (railStart_idle h)), fun t hphase => ⟨fun hbch => ?_, fun htn => ?_, fun hlate => ?_, fun hearly => ?_⟩,
      fun h => does_of (congrArg finish (vlcdReady_other h)),
      fun t v hphase => ⟨fun hbch hlow hhigh => ?_, fun hbch hout => ?_, fun hlate => ?_, fun hearly => ?_⟩,
      fun h v => does_of (congrArg finish (vhvReady_other h v)), fun h => does_of (congrArg finish (railTimeout_other h)),
      fun t hphase => ⟨fun hlate hmay => ?_, fun h => ?_⟩, fun h => does_of (congrArg finish (railRetry_other h)),
      fun t hphase => ⟨fun hover => ?_, fun hnot => ?_⟩, fun t hphase htn => ⟨fun hlate => ?_, fun hearly => ?_⟩,
      fun t hphase hearly => ?_, fun t hphase => ?_, fun h => does_of (congrArg finish (dischargeStepEnd_other h))⟩
    · exact does_of (congrArg finish ((vlcdReady_rising hphase).trans (if_pos hbch)))
    · exact does_of (congrArg finish ((vlcdReady_rising hphase).trans ((if_neg htn).trans (startClear_other htn))))
    · exact doesLogged_of (congrArg finish ((railTimeout_vlcd hphase).trans (if_pos hlate))) (logOnly_emitBlock ..)
    · exact does_of (congrArg finish ((railTimeout_vlcd hphase).trans (if_neg (Nat.not_le.2 hearly))))
    · refine does_of (congrArg finish ((vhvReady_rising hphase v).trans ((if_pos ((vhvInBand_iff ..).2 ⟨hlow, hhigh⟩)).trans ?_)))
      rw [vhvRead_bch hbch]
      exact startClear_bch hbch
    · have hband : ¬ vhvInBand s.panel.drive v = true := by
        rw [vhvInBand_iff]
        rintro ⟨hlow, hhigh⟩
        rcases hout with h | h
        · exact absurd hlow (Nat.not_le.2 h)
        · exact absurd hhigh (Nat.not_le.2 h)
      exact does_of (congrArg finish ((vhvReady_rising hphase v).trans ((if_neg hband).trans (vhvRead_bch hbch v))))
    · exact doesLogged_of (congrArg finish ((railTimeout_vhv hphase).trans (if_pos hlate))) (logOnly_emitBlock ..)
    · exact does_of (congrArg finish ((railTimeout_vhv hphase).trans (if_neg (Nat.not_le.2 hearly))))
    · exact does_of (congrArg finish ((railRetry_fault hphase).trans (if_pos ⟨hlate, hmay⟩)))
    · refine does_of (congrArg finish ((railRetry_fault hphase).trans (if_neg ?_)))
      rintro ⟨hlate, hmay⟩
      rcases h with h | h
      · exact absurd hlate (Nat.not_le.2 h)
      · exact absurd (h.symm.trans hmay) Bool.noConfusion
    · exact does_of (congrArg finish ((dischargeStepEnd_0 hphase).trans (if_pos hover)))
    · exact does_of (congrArg finish ((dischargeStepEnd_0 hphase).trans (if_neg (not_of_eq_false hnot))))
    · exact does_of (congrArg finish ((dischargeStepEnd_1 hphase).trans ((if_pos htn).trans (if_pos hlate))))
    · exact does_of (congrArg finish ((dischargeStepEnd_1 hphase).trans ((if_pos htn).trans (if_neg (Nat.not_le.2 hearly)))))
    · exact does_of (congrArg finish ((dischargeStepEnd_2 hphase).trans (if_neg (Nat.not_le.2 hearly))))
    · have hrun : dischargeStepEnd s = atRest s := by
        rcases hphase with ⟨hphase, htn⟩ | ⟨hphase, hlate⟩
        · exact (dischargeStepEnd_1 hphase).trans (if_neg htn)
        · exact (dischargeStepEnd_2 hphase).trans (if_pos hlate)
      obtain ⟨hp, htype, hdrive, hlight, hvhv, hglass⟩ := atRest_panel s
      exact doesSo_of (congrArg finish hrun) ⟨panelAlone_atRest s, hp, htype, hdrive, hlight, hvhv,
        fun htn => hglass.trans (if_pos htn), fun htn => hglass.trans (if_neg htn)⟩
  case shows =>
    rintro s p k v rfl
    refine ⟨fun htype hover => ⟨fun hdue hphase => ?_, fun hdue hphase => ?_⟩, fun h => ?_,
      fun htype hover => ⟨fun hdue hphase => ?_, fun hdue => ⟨fun hphase hk => ?_, fun hphase hk => ?_, fun hphase hk => ?_, fun hphase => ?_⟩⟩,
      fun h => ?_, fun t htest => ⟨fun hlate => ?_, fun hearly => ?_⟩, fun htest => ?_⟩
    · obtain ⟨u, hrun, halone, htdue, hparity, -, hclear, himage, hin⟩ := frameBoundary_next htype hover hphase
      have hframe := frameDrawn_nextFrame (htdue.trans hdue)
      refine doesSo_of (congrArg finish hrun) ⟨halone.trans hframe.alone, by rw [hframe.parity, hparity],
        hframe.startAt.trans (by rw [halone]), fun j => ⟨hframe.glass j, fun hruns => ?_⟩, fun h => ?_, fun h => ?_, fun h => ?_⟩
      · obtain ⟨hactive, hunack⟩ := hframe.rows (by rw [halone]; exact hruns) j
        obtain ⟨hactive', hunack'⟩ := rows_of_alone halone j
        exact ⟨hactive.trans hactive', hunack.trans hunack'⟩
      · rw [hframe.phase, hframe.backlight]; exact hclear h
      · rw [hframe.phase, hframe.backlight, hframe.flags]; exact himage h
      · rw [hframe.phase, hframe.backlight]; exact hin h
    · obtain ⟨u, hrun, halone, htdue, -, hutype, -⟩ := frameBoundary_next htype hover hphase
      refine doesSo_of (congrArg finish (hrun.trans (nextFrame_discharges (htdue.trans hdue))))
        ⟨halone.trans (panelAlone_onPanel ..), ?_, rfl, if_pos (hutype.trans htype)⟩
      rw [show s.now = u.now by rw [halone]]; rfl
    · refine does_of (congrArg finish (if_neg ?_))
      rintro ⟨htn, hover⟩
      rcases h with h | h
      · exact h htn
      · exact absurd (of_decide_eq_true hover) (Nat.not_le.2 h)
    · obtain ⟨u, hrun, halone, hutype, hglass, hvhv⟩ := lineEnd_reads (v := v) htype hover hphase hdue
      refine doesSo_of (congrArg finish hrun) ⟨halone.trans (panelAlone_onPanel ..), ?_, rfl, ?_, hvhv⟩
      · rw [show s.now = u.now by rw [halone]]; rfl
      · exact (if_neg (by rw [hutype]; decide)).trans hglass
    · have hrun := bchLineWriteEnd_due (v := v) htype hover
      rw [hphase, vhvRead_bch htype] at hrun
      exact does_of (congrArg finish (hrun.trans ((if_neg (not_of_eq_false hdue)).trans (if_neg hk))))
    · exact doesSo_of rfl (lineEnd_clearsLast htype hover hdue hphase hk rfl)
    · exact doesSo_of rfl (lineEnd_drawsNext htype hover hdue hphase hk rfl)
    · exact doesSo_of rfl (lineEnd_runs htype hover hdue hphase rfl)
    · refine does_of (congrArg finish (if_neg ?_))
      rintro ⟨hbch, hlate⟩
      rcases h with h | ⟨hw, hearly⟩
      · exact h hbch
      · unfold lineOver at hlate
        rw [hw, decide_eq_false (Nat.not_le.2 hearly)] at hlate
        exact absurd hlate Bool.noConfusion
    · exact does_of (congrArg finish ((panelTestExpiry_due htest).trans (if_pos hlate)))
    · exact does_of (congrArg finish ((panelTestExpiry_due htest).trans (if_neg (Nat.not_le.2 hearly))))
    · refine does_of (congrArg finish ?_)
      unfold panelTestExpiry; rw [htest]

end Sys2Proof.Machine

/-! SWITCHES OF THE CLOCKS (13 R700–R711): how a line's switch is checked and held, and how it ends, at the lock or in a hang. -/

namespace Sys2Proof.Machine

/-! ## The lines -/

theorem LineTaken.clock {u t : State} (h : LineTaken u t) : t.interp.clock = u.interp.clock := by rw [h]
theorem LineTaken.panelClock {u t : State} (h : LineTaken u t) : t.interp.panelClock = u.interp.panelClock := by rw [h]

/-- A line whose work touches the clocks alone, and notes itself in the interpreter, is still the one that waits. -/
theorem keepsLine_clock (who : Sess) (u : State) (k : Clocks) (x : Option Work) :
    KeepsLine who u { u with clk := k, interp := { u.interp with clock := x } } := ⟨by cases who <;> rfl, rfl, rfl⟩

theorem keepsLine_panelClock (who : Sess) (u : State) (x : Option Work) :
    KeepsLine who u { u with interp := { u.interp with panelClock := x } } := ⟨by cases who <;> rfl, rfl, rfl⟩

theorem bodyClockSrc_busy {h : LineHdr} {toXo : Bool} {edges : Nat} {u : State} {y : Val}
    (hcheck : checkWrite h.sess (.clock .src) (srcText toXo) u = .ok y) (hbusy : u.interp.clock ≠ none) :
    bodyClockSrc h toXo edges u = refused .e08 u := by
  unfold bodyClockSrc; rw [hcheck]
  exact if_pos (Option.isSome_iff_ne_none.2 hbusy)

theorem bodyClockSrc_free {h : LineHdr} {toXo : Bool} {edges : Nat} {u : State} {y : Val}
    (hcheck : checkWrite h.sess (.clock .src) (srcText toXo) u = .ok y) (hfree : u.interp.clock = none) :
    bodyClockSrc h toXo edges u =
      if toXo && !(edgesPass edges && u.clk.xoPassed) then refused .e13 u else held (beginSwitch toXo (waiter h u) u) := by
  unfold bodyClockSrc; rw [hcheck]
  exact if_neg (by rw [hfree]; exact Bool.false_ne_true)

theorem exec_clockSrc (h : LineHdr) (edges : Nat) (toXo : Bool) (s : State) :
    ∃ n, (toXo = true → n = edges) ∧ exec (if toXo then .clockSrcXo h edges else .clockSrcIrc h) s =
      finish (runLine h (txt "SET") (bodyClockSrc h toXo n) s) := by
  cases toXo
  · exact ⟨0, fun h => Bool.noConfusion h, rfl⟩
  · exact ⟨edges, fun _ => rfl, rfl⟩

theorem bodyClockPanel_checked {h : LineHdr} {value : Text} {u : State} {y : Val}
    (hcheck : checkWrite h.sess (.clock .panel) value u = .ok y) : bodyClockPanel h value u =
      if u.interp.panelClock.isSome then refused .e08 u
      else if kwOf y = 1 ∧ u.clk.lpoFail.live then refused .e13 u
      else held { u with interp := { u.interp with panelClock := some (.panelClock (decide (kwOf y = 1)) u.now (waiter h u)) } } := by
  unfold bodyClockPanel; rw [hcheck]

/-! ## The lock and the hang -/

/-- What keeps the clocks, the settings and the sessions as they are. -/
structure ClocksKept (u t : State) : Prop where
  clk : t.clk = u.clk
  flags : t.flags = u.flags
  live : t.live = u.live
  interp : t.interp = u.interp
  keeps : ∀ who, KeepsLine who u t

theorem ClocksKept.trans {u v t : State} (h : ClocksKept u v) (h' : ClocksKept v t) : ClocksKept u t :=
  ⟨h'.clk.trans h.clk, h'.flags.trans h.flags, h'.live.trans h.live, h'.interp.trans h.interp, fun who => (h.keeps who).trans (h'.keeps who)⟩

theorem ClocksKept.refl (u : State) : ClocksKept u u := ⟨rfl, rfl, rfl, rfl, fun _ => .refl ..⟩

theorem EngineStep.clocksKept {u t : State} (h : EngineStep u t) : ClocksKept u t := ⟨h.clk, h.flags, h.live, h.interp, h.keeps⟩

theorem clocksKept_linksToXo (s : State) : ClocksKept s (linksToXo s) := by
  unfold linksToXo
  split
  · exact .refl s
  · exact ⟨rfl, rfl, rfl, rfl, fun _ => .of_eq rfl rfl⟩

theorem clocksKept_linksToIrc (s : State) : ClocksKept s (linksToIrc s) := by
  unfold linksToIrc
  split
  · exact .refl s
  · refine ClocksKept.trans (v := { s with
      can := s.can.map fun c => { c.cut with mode := .listenXo, rejoinDue := false, recovering := false }
      watch := { s.watch with lead := none } }) ⟨rfl, rfl, rfl, rfl, fun _ => .of_eq rfl rfl⟩ ?_
    exact (((engineStep_setCause 6 false _).trans (engineStep_setCause 7 false _)).trans (engineStep_stage3Own _)).clocksKept

/-- The domains have moved to the PLL's taps: of the clocks the failure of the XO alone may have ended (13 R703, R712). -/
structure DomainsMoved (g : Chain) (s t : State) : Prop where
  chain : t.clk.chain = g
  goal : t.clk.goal = none
  back : g = .xo → s.clk.xoFailed = true → t.clk.xoFailed = false ∧ t.flags.clkFail.live = false
  live : t.live = s.live
  interp : t.interp = s.interp
  keeps : ∀ who, KeepsLine who s t

theorem domainsMoved_backOnXo {g : Chain} (byWrite : Bool) (s : State) :
    DomainsMoved g s (backOnXo byWrite (onClk (fun c => { c with chain := g, goal := none }) s)) := by
  have hmoved : DomainsMoved g { s with clk := { s.clk with xoFailed := false } } (onClk (fun c => { c with chain := g, goal := none }) s) :=
    ⟨rfl, rfl, fun _ h => Bool.noConfusion h, rfl, rfl, fun _ => .of_eq rfl rfl⟩
  have hsame : (onClk (fun c => { c with chain := g, goal := none }) s).clk.xoFailed = s.clk.xoFailed := rfl
  generalize onClk (fun c => { c with chain := g, goal := none }) s = u at hmoved hsame ⊢
  have hkeeps : ∀ who, KeepsLine who s u := fun who =>
    (KeepsLine.of_eq rfl rfl : KeepsLine who s { s with clk := { s.clk with xoFailed := false } }).trans (hmoved.keeps who)
  have hulive : u.live = s.live := hmoved.live
  have huinterp : u.interp = s.interp := hmoved.interp
  unfold backOnXo
  cases hfailed : u.clk.xoFailed with
  | false => exact ⟨hmoved.chain, hmoved.goal, fun _ h => Bool.noConfusion ((hsame.symm.trans hfailed).symm.trans h), hulive, huinterp, hkeeps⟩
  | true =>
    rw [if_pos rfl]
    generalize hv : onClk (fun c => { c with xoFailed := false, autoStopped := false }) u = v
    have hclk : v.clk.chain = u.clk.chain ∧ v.clk.goal = u.clk.goal ∧ v.clk.xoFailed = false ∧ v.live = u.live ∧
        v.interp = u.interp ∧ v.port = u.port := by rw [← hv]; exact ⟨rfl, rfl, rfl, rfl, rfl, rfl⟩
    obtain ⟨hchain, hgoal, hxo, hlive, hinterp, hport⟩ := hclk
    have hlog := logOnly_emitClk 0x0621 [if byWrite then 1 else 0] v
    generalize emitClk 0x0621 [if byWrite then 1 else 0] v = x at hlog ⊢
    have hstep := engineStep_clkFailCause false x
    have hflag : (clkFailCause false x).flags.clkFail.live = false := by rw [hstep.flags]; exact Flag.drive_live ..
    generalize clkFailCause false x = t at hstep hflag
    have hclk' : t.clk = v.clk := hstep.clk.trans hlog.clk
    refine ⟨by rw [hclk', hchain, hmoved.chain], by rw [hclk', hgoal, hmoved.goal], fun _ _ => ⟨by rw [hclk', hxo], hflag⟩,
      ((hstep.live.trans hlog.live).trans hlive).trans hulive, ((hstep.interp.trans hlog.interp).trans hinterp).trans huinterp,
      fun who => (hkeeps who).trans ?_⟩
    exact ((KeepsLine.of_eq hport hinterp).trans (.of_eq hlog.port hlog.interp)).trans
      ((KeepsLine.of_eq rfl rfl : KeepsLine who x { x with flags := { x.flags with clkFail := x.flags.clkFail.drive false } }).trans
        (hstep.keeps who))

theorem DomainsMoved.then {g : Chain} {s v t : State} (h : DomainsMoved g s v) (h' : ClocksKept v t) : DomainsMoved g s t :=
  ⟨by rw [h'.clk, h.chain], by rw [h'.clk, h.goal], fun hg hf => by rw [h'.clk, h'.flags]; exact h.back hg hf,
    h'.live.trans h.live, h'.interp.trans h.interp, fun who => (h.keeps who).trans (h'.keeps who)⟩

/-- The links move with the domains. -/
def linksMove (g : Chain) (byWrite : Bool) (s : State) : State :=
  if g = .xo then linksToXo (backOnXo byWrite s)
  else if (s.can.toList.any fun c => decide (c.mode ≠ .listenXo)) then linksToIrc s else s

theorem domainsMoved_linksMove (g : Chain) (byWrite : Bool) (s : State) :
    DomainsMoved g s (linksMove g byWrite (onClk (fun c => { c with chain := g, goal := none }) s)) := by
  have hmoved : g ≠ .xo → DomainsMoved g s (onClk (fun c => { c with chain := g, goal := none }) s) := fun hg =>
    ⟨rfl, rfl, fun h => absurd h hg, rfl, rfl, fun _ => .of_eq rfl rfl⟩
  unfold linksMove
  split
  · exact (domainsMoved_backOnXo byWrite s).then (clocksKept_linksToXo _)
  · split
    · exact (hmoved ‹_›).then (clocksKept_linksToIrc _)
    · exact hmoved ‹_›

/-- The switch that a line waits for. -/
def switchOf (s : State) : Option (Bool × Waiter) :=
  match s.interp.clock with
  | some (.clock toXo w) => some (toXo, w)
  | _ => none

theorem pllLock_eq {s : State} {g : Chain} (hgoal : s.clk.goal = some g) : pllLock s =
    match switchOf s with
    | some (toXo, w) => switchWritten toXo w
        (linksMove g (switchOf s).isSome (onClk (fun c => { c with chain := g, goal := none }) s))
    | none => linksMove g (switchOf s).isSome (onClk (fun c => { c with chain := g, goal := none }) s) := by
  unfold pllLock
  rw [hgoal]
  rfl

theorem endClockWork_waits {e : Option Err} {s : State} {toXo : Bool} {w : Waiter} (hwork : s.interp.clock = some (.clock toXo w)) :
    endClockWork e s = deliver w (plainReply e) { s with interp := { s.interp with clock := none } } := by
  unfold endClockWork; rw [hwork]

/-- What the end of a line's switch leaves. -/
structure SwitchEnded (s t : State) : Prop where
  clk : t.clk = s.clk
  flags : t.flags = s.flags
  live : t.live = s.live
  engine : t.engine = s.engine

theorem switchEnded_endClockWork (e : Option Err) (s : State) : SwitchEnded s (endClockWork e s) := by
  unfold endClockWork
  split
  · have hdeliver := fun w r u => deliverStep_deliver w r u
    exact ⟨(hdeliver _ _ _).clk, (hdeliver _ _ _).flags, (hdeliver _ _ _).live, (hdeliver _ _ _).engine⟩
  · exact ⟨rfl, rfl, rfl, rfl⟩

/-- A switch of the chain that is written: the clocks stay, the setting takes its value. -/
theorem commitWrite_src (who : Sess) (src : Nat × Nat) (v : Val) (s : State) : ∃ t, LogOnly s t ∧
    commitWrite who src (.clock .src) v s = { t with live := putCfg (.clock .src) v t.live } := ⟨_, logOnly_logWrite .., rfl⟩

structure SwitchWritten (toXo : Bool) (w : Waiter) (s t : State) : Prop where
  clk : t.clk = s.clk
  flags : t.flags = s.flags
  srcIrc : t.live.clock.srcIrc = !toXo
  clock : s.interp.clock = some (.clock toXo w) → t.interp.clock = none
  came : s.interp.clock = some (.clock toXo w) → ∀ u, KeepsLine w.sess u s → Awaits u w → AnswerCame w {} u (settle t)

theorem switchWritten_writes (toXo : Bool) (w : Waiter) (s : State) : SwitchWritten toXo w s (switchWritten toXo w s) := by
  obtain ⟨v, hlog, hcommit⟩ := commitWrite_src w.sess (sessSource s w.sess) (.kw (if toXo then 0 else 1)) s
  unfold switchWritten
  simp only
  rw [hcommit]
  generalize hx : ({ v with live := putCfg (.clock .src) (.kw (if toXo then 0 else 1)) v.live } : State) = x
  have hxfields : x.clk = v.clk ∧ x.flags = v.flags ∧ x.port = v.port ∧ x.interp = v.interp ∧ x.live.clock.srcIrc = !toXo := by
    rw [← hx]; refine ⟨rfl, rfl, rfl, rfl, ?_⟩; cases toXo <;> rfl
  obtain ⟨hclk, hflags, hport, hinterp, hsrc⟩ := hxfields
  have hlog' := logOnly_emitClk 0x0622 [0, if toXo then 0 else 1] x
  generalize emitClk 0x0622 [0, if toXo then 0 else 1] x = y at hlog' ⊢
  have hended := switchEnded_endClockWork none y
  have hyinterp : y.interp = s.interp := (hlog'.interp.trans hinterp).trans hlog.interp
  have hyport : y.port = s.port := (hlog'.port.trans hport).trans hlog.port
  refine ⟨?_, ?_, ?_, fun hwork => ?_, fun hwork u hkeeps hwaits => ?_⟩
  · rw [hended.clk, hlog'.clk, hclk, hlog.clk]
  · rw [hended.flags, hlog'.flags, hflags, hlog.flags]
  · rw [hended.live, hlog'.live, hsrc]
  · rw [endClockWork_waits (by rw [hyinterp]; exact hwork), (deliverStep_deliver ..).rest]
  · rw [endClockWork_waits (by rw [hyinterp]; exact hwork)]
    refine answerCame_of_keepsLine ((hkeeps.trans (.of_eq hyport hyinterp)).trans ?_) hwaits
    exact keepsLine_clock w.sess y y.clk none

/-- A hang: its flag pulses, and its G31 member has its cause (13 R707, R734). -/
structure HangNoted (s t : State) : Prop where
  latched : t.flags.swHang.latched = true
  notLive : t.flags.swHang.live = false
  cause : (t.member 3).cause = true
  clk : t.clk = s.clk
  live : t.live = s.live
  interp : t.interp = s.interp
  keeps : ∀ who, KeepsLine who s t

theorem hangNoted_hung (d : Domain) (s : State) : HangNoted s (hung d s) := by
  unfold hung
  generalize hv : ({ s with flags := { s.flags with swHang := s.flags.swHang.pulse } } : State) = v
  have hfields : v.flags.swHang = s.flags.swHang.pulse ∧ v.clk = s.clk ∧ v.live = s.live ∧ v.interp = s.interp ∧ v.port = s.port := by
    rw [← hv]; exact ⟨rfl, rfl, rfl, rfl, rfl⟩
  obtain ⟨hflag, hclk, hlive, hinterp, hport⟩ := hfields
  have hlog := logOnly_emitClk 0x0623 [domNo d] v
  generalize emitClk 0x0623 [domNo d] v = x at hlog ⊢
  have hstep := engineStep_eventCause 3 x
  have hcause : ((eventCause 3 x).member 3).cause = true := (setCause_cause 3 3 true _).trans (if_pos rfl)
  generalize eventCause 3 x = t at hstep hcause ⊢
  have hflags : t.flags.swHang = s.flags.swHang.pulse := by rw [hstep.flags, hlog.flags, hflag]
  refine ⟨by rw [hflags]; exact Flag.pulse_latched _, by rw [hflags]; rfl, hcause, (hstep.clk.trans hlog.clk).trans hclk,
    (hstep.live.trans hlog.live).trans hlive, (hstep.interp.trans hlog.interp).trans hinterp, fun who => ?_⟩
  exact ((KeepsLine.of_eq hport hinterp).trans (.of_eq hlog.port hlog.interp)).trans (hstep.keeps who)

/-! ## The statement -/

theorem keepsLine_beginSwitch (who : Sess) (toXo : Bool) (w : Waiter) (s : State) : KeepsLine who s (beginSwitch toXo w s) :=
  keepsLine_clock who s { s.clk with chain := .irc, goal := some (if toXo then .xo else .ircChain) } (some (.clock toXo w))

theorem pllLock_moves {s : State} {g : Chain} (hgoal : s.clk.goal = some g) : (pllLock s).clk.chain = g ∧
    (pllLock s).clk.goal = none ∧ (g = .xo → s.clk.xoFailed = true →
      (pllLock s).clk.xoFailed = false ∧ (pllLock s).flags.clkFail.live = false) := by
  rw [pllLock_eq hgoal]
  have hmoved := domainsMoved_linksMove g (switchOf s).isSome s
  generalize linksMove g (switchOf s).isSome _ = u at hmoved ⊢
  cases hwork : switchOf s with
  | none => exact ⟨hmoved.chain, hmoved.goal, hmoved.back⟩
  | some p =>
    obtain ⟨toXo, w⟩ := p
    have hwritten := switchWritten_writes toXo w u
    dsimp only
    rw [hwritten.clk, hwritten.flags]
    exact ⟨hmoved.chain, hmoved.goal, hmoved.back⟩

theorem pllLock_writes {s : State} {g : Chain} {toXo : Bool} {w : Waiter} (hgoal : s.clk.goal = some g)
    (hwork : s.interp.clock = some (.clock toXo w)) : (pllLock s).interp.clock = none ∧
    (pllLock s).live.clock.srcIrc = !toXo ∧ (Awaits s w → AnswerCame w {} s (settle (pllLock s))) := by
  have hswitch : switchOf s = some (toXo, w) := by unfold switchOf; rw [hwork]
  rw [pllLock_eq hgoal]
  have hmoved := domainsMoved_linksMove g (switchOf s).isSome s
  generalize linksMove g (switchOf s).isSome _ = u at hmoved ⊢
  rw [hswitch]
  dsimp only
  have hwritten := switchWritten_writes toXo w u
  have hwork' : u.interp.clock = some (.clock toXo w) := by rw [hmoved.interp]; exact hwork
  exact ⟨hwritten.clock hwork', hwritten.srcIrc, hwritten.came hwork' s (hmoved.keeps _)⟩

theorem switchHang_chain {d : Domain} {s : State} {g : Chain} (hd : d ≠ .panel) (hgoal : s.clk.goal = some g) : switchHang d s =
    if g = .xo then endClockWork (some .e13) (hung d (onClk (fun c => { c with chain := .irc, goal := some .ircChain }) s))
    else hung d s := by
  unfold switchHang
  cases d with
  | panel => exact absurd rfl hd
  | _ => rw [hgoal]; cases g <;> rfl

theorem switchHang_panel {s : State} {toLpo : Bool} {since : Tick} {w : Waiter}
    (hwork : s.interp.panelClock = some (.panelClock toLpo since w)) : switchHang .panel s =
    deliver w (plainReply (some .e13))
      (hung .panel (onClk (fun c => { c with panelLpo := false }) { s with interp := { s.interp with panelClock := none } })) := by
  unfold switchHang; rw [hwork]

/-- Settles O51: each line by its checks, and the lock and the hang by what they end. -/
theorem clockSwitchesAreHeld : Obligations.ClockSwitchesAreHeld := by
  refine ⟨?src, ?panel, fun s g hgoal => ⟨?lock, fun toXo w hwork => ?written, fun d hd => ?hang⟩, fun s hgoal => ?idle,
    fun s toLpo since w hwork => ?panelHang⟩
  case src =>
    rintro h s edges toXo cmd u y rfl hacc rfl hcheck
    obtain ⟨n, hn, hexec⟩ := exec_clockSrc h edges toXo s
    have hline := lineTaken_lineStart h (txt "SET") s
    have hclock : (setStart h s).interp.clock = s.interp.clock := hline.clock
    have hclk : (setStart h s).clk = s.clk := hline.clk
    refine ⟨fun hbusy => ?_, fun hfree hxo hbad => ?_, fun hfree hgood => ?_⟩
    · unfold LineRefused LineDone Next
      rw [hexec]
      exact line_refused h _ _ s .e08 hacc (bodyClockSrc_busy hcheck fun hn => hbusy (hclock.symm.trans hn))
    · unfold LineRefused LineDone Next
      rw [hexec]
      refine line_refused h _ _ s .e13 hacc ((bodyClockSrc_free hcheck (hclock.trans hfree)).trans (if_pos ?_))
      rw [hclk, hn hxo, hxo]
      rcases hbad with h | h
      · rw [show edgesPass edges = false from decide_eq_false (Nat.not_le.2 h)]; rfl
      · rw [h, Bool.and_false]; rfl
    · unfold LineHeld Next
      rw [hexec]
      refine line_held h _ _ s _ hacc ((bodyClockSrc_free hcheck (hclock.trans hfree)).trans (if_neg ?_)) (keepsLine_beginSwitch ..)
      cases toXo with
      | false => exact Bool.false_ne_true
      | true =>
        obtain ⟨hedges, hpassed⟩ := hgood rfl
        rw [hclk, hn rfl, hpassed, show edgesPass edges = true from decide_eq_true hedges]
        exact Bool.false_ne_true
  case panel =>
    rintro h s value u y hacc rfl hcheck
    have hline := lineTaken_lineStart h (txt "SET") s
    have hclock : (setStart h s).interp.panelClock = s.interp.panelClock := hline.panelClock
    have hclk : (setStart h s).clk = s.clk := hline.clk
    have hbody := bodyClockPanel_checked hcheck
    refine ⟨fun hbusy => ?_, fun hfree hlpo hfail => ?_, fun hfree hgood => ?_⟩
    · exact line_refused h _ _ s .e08 hacc (hbody.trans (if_pos (by rw [hclock]; exact Option.isSome_iff_ne_none.2 hbusy)))
    · refine line_refused h _ _ s .e13 hacc (hbody.trans ((if_neg ?_).trans (if_pos ⟨hlpo, ?_⟩)))
      · rw [hclock, hfree]; exact Bool.false_ne_true
      · rw [hclk]; exact hfail
    · refine line_held h _ _ s _ hacc (hbody.trans ((if_neg ?_).trans (if_neg ?_))) (keepsLine_panelClock ..)
      · rw [hclock, hfree]; exact Bool.false_ne_true
      · rintro ⟨hlpo, hfail⟩
        rw [hclk, hgood hlpo] at hfail
        exact Bool.noConfusion hfail
  case lock => exact doesSo_of rfl (pllLock_moves hgoal)
  case written => exact ⟨_, rfl, pllLock_writes hgoal hwork⟩
  case hang =>
    have hrun := switchHang_chain hd hgoal
    by_cases hxo : g = .xo
    · have hnoted := hangNoted_hung d (onClk (fun c => { c with chain := .irc, goal := some .ircChain }) s)
      have hended := switchEnded_endClockWork (some .e13) (hung d (onClk (fun c => { c with chain := .irc, goal := some .ircChain }) s))
      have hrun' := hrun.trans (if_pos hxo)
      generalize endClockWork _ _ = t at hrun' hended
      generalize hung d _ = v at hnoted hended
      refine doesSo_of (congrArg finish hrun') ⟨?_, ?_, ?_, ?_, fun _ => ⟨?_, ?_⟩⟩
      · rw [hended.flags]; exact hnoted.latched
      · rw [hended.flags]; exact hnoted.notLive
      · exact (congrArg G31Alarm.cause (member_congr (congrArg Engine.g31 hended.engine) 3)).trans hnoted.cause
      · rw [hended.clk, hnoted.clk, if_pos hxo]; rfl
      · rw [hended.clk, hnoted.clk]; rfl
      · rw [hended.live, hnoted.live]; rfl
    · have hnoted := hangNoted_hung d s
      refine doesSo_of (congrArg finish (hrun.trans (if_neg hxo))) ⟨hnoted.latched, hnoted.notLive, hnoted.cause, ?_, fun h => absurd h hxo⟩
      rw [hnoted.clk, if_neg hxo]; exact hgoal
  case idle =>
    refine does_of (congrArg finish ?_)
    unfold pllLock; rw [hgoal]
  case panelHang =>
    refine ⟨_, congrArg finish (switchHang_panel hwork), ?_⟩
    have hbegun : KeepsLine w.sess s
        (onClk (fun c => { c with panelLpo := false }) { s with interp := { s.interp with panelClock := none } }) :=
      (keepsLine_panelClock w.sess s none).trans (.of_eq rfl rfl)
    have hfields : (onClk (fun c => { c with panelLpo := false }) { s with interp := { s.interp with panelClock := none } }).interp.panelClock = none ∧
        (onClk (fun c => { c with panelLpo := false }) { s with interp := { s.interp with panelClock := none } }).clk.panelLpo = false ∧
        (onClk (fun c => { c with panelLpo := false }) { s with interp := { s.interp with panelClock := none } }).live = s.live := ⟨rfl, rfl, rfl⟩
    generalize onClk (fun c => { c with panelLpo := false }) { s with interp := { s.interp with panelClock := none } } = v at hbegun hfields ⊢
    obtain ⟨hnone, hlpo, hlive⟩ := hfields
    have hnoted := hangNoted_hung .panel v
    generalize hung .panel v = x at hnoted ⊢
    have hdeliver := deliverStep_deliver w (plainReply (some .e13)) x
    refine ⟨?_, ?_, ?_, ?_, answerCame_of_keepsLine (hbegun.trans (hnoted.keeps _))⟩
    · exact (by rw [hdeliver.rest] : (deliver w (plainReply (some .e13)) x).interp.panelClock = x.interp.panelClock).trans
        (by rw [hnoted.interp]; exact hnone)
    · exact (congrArg Clocks.panelLpo (hdeliver.clk.trans hnoted.clk)).trans hlpo
    · exact (hdeliver.live.trans hnoted.live).trans hlive
    · exact (congrArg (fun f : NodeFlags => f.swHang.latched) hdeliver.flags).trans hnoted.latched

end Sys2Proof.Machine

/-! THE CODE OF THE MEMORY BANKS (14 R742–R745): the check bits are linear in the data, every column has an odd number of bits, so one
flipped bit is found and corrected, and two are found. -/

namespace Sys2Proof.Machine

/-- The check bits that a list of data bits with their columns adds to `c`. -/
def checkFold (l : List (Nat × BitVec 7)) (d : BitVec 32) (c : BitVec 7) : BitVec 7 :=
  l.foldl (fun c p => if d.getLsbD p.1 then c ^^^ p.2 else c) c

theorem checkFold_xor (l : List (Nat × BitVec 7)) (d e : BitVec 32) (a b : BitVec 7) :
    checkFold l (d ^^^ e) (a ^^^ b) = checkFold l d a ^^^ checkFold l e b := by
  induction l generalizing a b with
  | nil => rfl
  | cons p l ih =>
    have hhead : (if (d ^^^ e).getLsbD p.1 then a ^^^ b ^^^ p.2 else a ^^^ b) =
        (if d.getLsbD p.1 then a ^^^ p.2 else a) ^^^ (if e.getLsbD p.1 then b ^^^ p.2 else b) := by
      rw [BitVec.getLsbD_xor]
      cases d.getLsbD p.1 <;> cases e.getLsbD p.1
      · rfl
      · exact BitVec.xor_assoc ..
      · exact (BitVec.xor_assoc ..).trans ((congrArg _ (BitVec.xor_comm ..)).trans (BitVec.xor_assoc ..).symm)
      · exact (show a ^^^ b = a ^^^ p.2 ^^^ (b ^^^ p.2) by
          rw [BitVec.xor_comm b, BitVec.xor_assoc, ← BitVec.xor_assoc p.2, BitVec.xor_self, BitVec.zero_xor])
    unfold checkFold
    rw [List.foldl_cons, hhead]
    exact ih ..

/-- The check bits of a sum of data are the sum of theirs. -/
theorem checkBits_xor (d e : BitVec 32) : checkBits (d ^^^ e) = checkBits d ^^^ checkBits e :=
  checkFold_xor ((List.range 32).zip eccColumns) d e 0 0

/-- What a flipped bit of a word, of its data or of its check bits, shows of itself. -/
def bitSyndrome (i : Fin 39) : BitVec 7 :=
  if i.val < 32 then checkBits (BitVec.ofNat 32 (2 ^ i.val)) else BitVec.ofNat 7 (2 ^ (i.val - 32))

/-- A word with one bit changed. -/
def flipBit (i : Fin 39) (w : RawWord) : RawWord :=
  if i.val < 32 then { w with data := w.data ^^^ BitVec.ofNat 32 (2 ^ i.val) }
  else { w with check := w.check ^^^ BitVec.ofNat 7 (2 ^ (i.val - 32)) }

theorem syndrome_encodeWord (d : BitVec 32) : syndrome (encodeWord d) = 0#7 := BitVec.xor_self

theorem syndrome_flipBit (i : Fin 39) (w : RawWord) : syndrome (flipBit i w) = syndrome w ^^^ bitSyndrome i := by
  unfold syndrome flipBit bitSyndrome
  split
  · dsimp only
    rw [checkBits_xor, BitVec.xor_assoc]
  · dsimp only
    rw [BitVec.xor_assoc, BitVec.xor_comm (BitVec.ofNat 7 _), BitVec.xor_assoc]

/-- Whether an odd number of the bits of a list of places is set. -/
def oddOf (l : List Nat) (x : BitVec 7) : Bool := l.foldr (fun i b => x.getLsbD i ^^ b) false

/-- Whether a syndrome has an odd number of bits. -/
def oddBits (x : BitVec 7) : Bool := oddOf (List.range 7) x

theorem oddOf_xor (l : List Nat) (x y : BitVec 7) : oddOf l (x ^^^ y) = (oddOf l x ^^ oddOf l y) := by
  have hswap : ∀ a b c d : Bool, ((a ^^ b) ^^ (c ^^ d)) = ((a ^^ c) ^^ (b ^^ d)) := by decide
  induction l with
  | nil => rfl
  | cons i l ih =>
    unfold oddOf at ih ⊢
    rw [List.foldr_cons, List.foldr_cons, List.foldr_cons, ih, BitVec.getLsbD_xor, hswap]

theorem oddBits_xor (x y : BitVec 7) : oddBits (x ^^^ y) = (oddBits x ^^ oddBits y) := oddOf_xor ..

theorem oddBits_bitSyndrome : ∀ i : Fin 39, oddBits (bitSyndrome i) = true := by decide

theorem bitSyndrome_injective : ∀ i j : Fin 39, bitSyndrome i = bitSyndrome j → i = j := by decide

theorem oddBits_unit : ∀ i : Fin 7, oddBits (BitVec.ofNat 7 (2 ^ i.val)) = true := by decide

theorem oddBits_column : ∀ x ∈ eccColumns, oddBits x = true := by decide

theorem readWord_clean {w : RawWord} (h : syndrome w = 0) : readWord w = .clean w.data := by
  unfold readWord; exact if_pos h

/-- A syndrome that is not zero and has an even number of bits is of no single bit. -/
theorem readWord_double {w : RawWord} (hne : syndrome w ≠ 0) (heven : oddBits (syndrome w) = false) : readWord w = .double := by
  have hunit : ¬ ((List.range 7).any fun i => decide (syndrome w = BitVec.ofNat 7 (2 ^ i))) = true := by
    intro h
    obtain ⟨i, hi, heq⟩ := List.any_eq_true.1 h
    have hodd := oddBits_unit ⟨i, List.mem_range.1 hi⟩
    rw [← of_decide_eq_true heq, heven] at hodd
    exact Bool.noConfusion hodd
  have hcolumn : (List.range 32).find? (fun i => decide (eccColumns[i]? = some (syndrome w))) = none := by
    refine List.find?_eq_none.2 fun i _ h => ?_
    have hodd := oddBits_column _ (List.mem_of_getElem? (of_decide_eq_true h))
    rw [heven] at hodd
    exact Bool.noConfusion hodd
  unfold readWord
  rw [if_neg hne, if_neg hunit, hcolumn]

/-- What a read makes of a syndrome of one bit. -/
def bitFound (i : Fin 39) : Option Nat :=
  if (List.range 7).any (fun j => decide (bitSyndrome i = BitVec.ofNat 7 (2 ^ j))) then none
  else (List.range 32).find? fun j => decide (eccColumns[j]? = some (bitSyndrome i))

theorem bitFound_eq : ∀ i : Fin 39, bitSyndrome i ≠ 0 ∧ bitFound i = if i.val < 32 then some i.val else none := by decide

theorem bitFound_check : ∀ i : Fin 39, ¬ i.val < 32 → (List.range 7).any (fun j => decide (bitSyndrome i = BitVec.ofNat 7 (2 ^ j))) = true := by
  decide

/-- A word with one bit changed reads as it was written. -/
theorem readWord_flipBit (d : BitVec 32) (i : Fin 39) : readWord (flipBit i (encodeWord d)) = .corrected d := by
  have hsyndrome : syndrome (flipBit i (encodeWord d)) = bitSyndrome i := by
    rw [syndrome_flipBit, syndrome_encodeWord, BitVec.zero_xor]
  obtain ⟨hne, hfound⟩ := bitFound_eq i
  unfold readWord
  rw [hsyndrome, if_neg hne]
  by_cases hi : i.val < 32
  · rw [if_pos hi] at hfound
    have hunit : ¬ (List.range 7).any (fun j => decide (bitSyndrome i = BitVec.ofNat 7 (2 ^ j))) = true := by
      intro h
      unfold bitFound at hfound
      rw [if_pos h] at hfound
      cases hfound
    have hfind : (List.range 32).find? (fun j => decide (eccColumns[j]? = some (bitSyndrome i))) = some i.val := by
      unfold bitFound at hfound
      rwa [if_neg hunit] at hfound
    have hdata : (flipBit i (encodeWord d)).data = d ^^^ BitVec.ofNat 32 (2 ^ i.val) := by unfold flipBit; rw [if_pos hi]; rfl
    rw [if_neg hunit, hfind, hdata]
    dsimp only
    rw [BitVec.xor_assoc, BitVec.xor_self, BitVec.xor_zero]
  · have hdata : (flipBit i (encodeWord d)).data = d := by unfold flipBit; rw [if_neg hi]; rfl
    rw [if_pos (bitFound_check i hi), hdata]

/-- A word with two bits changed reads as a double-bit error. -/
theorem readWord_flipTwo (d : BitVec 32) {i j : Fin 39} (hij : i ≠ j) : readWord (flipBit i (flipBit j (encodeWord d))) = .double := by
  have hsyndrome : syndrome (flipBit i (flipBit j (encodeWord d))) = bitSyndrome j ^^^ bitSyndrome i := by
    rw [syndrome_flipBit, syndrome_flipBit, syndrome_encodeWord, BitVec.zero_xor]
  refine readWord_double ?_ ?_
  · rw [hsyndrome]
    intro hzero
    refine hij (bitSyndrome_injective _ _ ?_).symm
    have h : bitSyndrome j ^^^ bitSyndrome i ^^^ bitSyndrome i = 0#7 ^^^ bitSyndrome i := by rw [hzero]; rfl
    rwa [BitVec.xor_assoc, BitVec.xor_self, BitVec.xor_zero, BitVec.zero_xor] at h
  · rw [hsyndrome, oddBits_xor, oddBits_bitSyndrome, oddBits_bitSyndrome]; rfl

end Sys2Proof.Machine

/-! THE BANKS (14 R743–R751, R758–R765): their owners, their errors, the zeroing and the march test on request. -/

namespace Sys2Proof.Machine

theorem onBank_onBank (b : Bank) (f g : BankSt → BankSt) (s : State) : onBank b g (onBank b f s) = onBank b (fun x => g (f x)) s := by
  have hupd : ∀ v : Vector BankSt 5, upd (upd v (bankIdx b) f) (bankIdx b) g = upd v (bankIdx b) fun x => g (f x) := by
    intro v
    apply Vector.ext
    intro i hi
    rw [upd_nat, upd_nat, upd_nat]
    split <;> rfl
  unfold onBank
  rw [hupd]

theorem bankIdx_surjective : ∀ i : Fin 5, ∃ b : Bank, bankIdx b = i
  | 0 => ⟨.engine, rfl⟩ | 1 => ⟨.interp, rfl⟩ | 2 => ⟨.link, rfl⟩ | 3 => ⟨.stage, rfl⟩ | 4 => ⟨.image, rfl⟩

/-- Something stands of some bank of the list exactly where it stands of a bank. -/
theorem any_banks (s : State) (p : BankSt → Bool) : s.mem.banks.toList.any p = true ↔ ∃ b : Bank, p (s.bank b) = true := by
  rw [List.any_eq_true]
  constructor
  · rintro ⟨x, hx, hp⟩
    obtain ⟨i, hi, rfl⟩ := Vector.mem_iff_getElem.1 (Vector.mem_toList_iff.1 hx)
    obtain ⟨b, hb⟩ := bankIdx_surjective ⟨i, hi⟩
    refine ⟨b, ?_⟩
    unfold State.bank
    simp only [hb]
    exact hp
  · rintro ⟨b, hp⟩
    exact ⟨_, Vector.mem_toList_iff.2 (Vector.getElem_mem (bankIdx b).isLt), hp⟩

theorem anyClearing_false {s : State} (h : ∀ b : Bank, (s.bank b).st ≠ .clearing) : anyClearing s = false := by
  refine Bool.eq_false_iff.2 fun hany => ?_
  obtain ⟨b, hb⟩ := (any_banks ..).1 hany
  exact h b (of_decide_eq_true hb)

/-! ## The owners (14 R745, R758) -/

/-- What the reset, the restart or the end of an owner keeps: the banks, the settings, the slices, the march test and the cause
of MEMFAULT. -/
structure OwnerMoved (u t : State) : Prop where
  mem : t.mem = u.mem
  live : t.live = u.live
  slices : t.slices = u.slices
  march : t.interp.march = u.interp.march
  cause : (t.member 8).cause = (u.member 8).cause

theorem OwnerMoved.refl (u : State) : OwnerMoved u u := ⟨rfl, rfl, rfl, rfl, rfl⟩

theorem OwnerMoved.trans {u v t : State} (h : OwnerMoved u v) (h' : OwnerMoved v t) : OwnerMoved u t :=
  ⟨h'.mem.trans h.mem, h'.live.trans h.live, h'.slices.trans h.slices, h'.march.trans h.march, h'.cause.trans h.cause⟩

theorem OwnerMoved.bank {u t : State} (h : OwnerMoved u t) (b : Bank) : t.bank b = u.bank b := by unfold State.bank; rw [h.mem]

theorem EngineStep.ownerMoved {u t : State} (h : EngineStep u t) (hcause : (t.member 8).cause = (u.member 8).cause) : OwnerMoved u t :=
  ⟨h.mem, h.live, h.slices, by rw [h.interp], hcause⟩

theorem ownerMoved_setCause {m : Member} (hm : m ≠ 8) (v : Bool) (s : State) : OwnerMoved s (setCause m v s) :=
  (engineStep_setCause ..).ownerMoved ((setCause_cause ..).trans (if_neg hm))

theorem DeliverStep.ownerMoved {u t : State} (h : DeliverStep u t) : OwnerMoved u t :=
  ⟨h.mem, h.live, h.slices, by rw [h.rest], congrArg G31Alarm.cause (member_congr (congrArg Engine.g31 h.engine) 8)⟩

theorem PanelOnly.ownerMoved {u t : State} (h : PanelOnly u t) : OwnerMoved u t := by
  unfold PanelOnly at h; rw [h]; exact ⟨rfl, rfl, rfl, rfl, rfl⟩

theorem LineTaken.ownerMoved {u t : State} (h : LineTaken u t) : OwnerMoved u t :=
  ⟨h.mem, h.live, h.slices, by rw [h], congrArg G31Alarm.cause (member_congr (congrArg Engine.g31 h.engine) 8)⟩

theorem ownerMoved_resetCan (b : Bus) (s : State) : OwnerMoved s (resetCan b s) :=
  have hcan : OwnerMoved s (onCan b (fun c => { ({} : Can) with rejoinDue := s.watch.joined, wdrop := c.wdrop, rxlost := c.rxlost }) s) :=
    ⟨rfl, rfl, rfl, rfl, rfl⟩
  hcan.trans (ownerMoved_setCause (by cases b <;> decide) ..)

theorem ownerMoved_onCan (b : Bus) (f : Can → Can) (s : State) : OwnerMoved s (onCan b f s) := ⟨rfl, rfl, rfl, rfl, rfl⟩

theorem ownerMoved_logFullCause (v : Bool) (s : State) : OwnerMoved s (logFullCause v s) :=
  have hflag : OwnerMoved s { s with flags := { s.flags with logFull := s.flags.logFull.drive v } } := ⟨rfl, rfl, rfl, rfl, rfl⟩
  hflag.trans (ownerMoved_setCause (by decide) ..)

theorem resetLogw_eq (s : State) : resetLogw s =
    match s.log.clearing.map (·.by_) with
    | some w => deliver w (plainReply (some .e17))
        (storeDone w (if s.flags.logFull.live then logFullCause false (writerReset s) else writerReset s))
    | none => if s.flags.logFull.live then logFullCause false (writerReset s) else writerReset s := rfl

theorem ownerMoved_resetLogw (s : State) : OwnerMoved s (resetLogw s) := by
  have hreset : OwnerMoved s (if s.flags.logFull.live then logFullCause false (writerReset s) else writerReset s) := by
    have hwriter : OwnerMoved s (writerReset s) := ⟨rfl, rfl, rfl, rfl, rfl⟩
    split
    · exact hwriter.trans (ownerMoved_logFullCause ..)
    · exact hwriter
  rw [resetLogw_eq]
  generalize (if s.flags.logFull.live then logFullCause false (writerReset s) else writerReset s) = u at hreset ⊢
  split
  · rename_i w _
    have hdone : OwnerMoved u (storeDone w u) := by
      unfold storeDone
      split
      · exact ⟨rfl, rfl, rfl, rfl, rfl⟩
      · exact .refl u
    exact (hreset.trans hdone).trans (deliverStep_deliver ..).ownerMoved
  · exact hreset

/-- The controller of an owner that is held does not rejoin. -/
def canHeld (b : Bus) (s : State) : State := onCan b (fun c => { c with rejoinDue := false }) (resetCan b s)

/-- What the owner of a bank gives up as it is held. -/
def ownerGivenUp (b : Bank) (s : State) : State :=
  match b with
  | .link =>
    { canHeld .canB (canHeld .canA s) with caller := { (canHeld .canB (canHeld .canA s)).caller with calls := .replicate 8 (.replicate 32 {}) } }
  | .stage => resetLogw s
  | .image => resetPanel s
  | _ => s

theorem holdOwner_eq (b : Bank) (s : State) : holdOwner b s = ownerGivenUp b (onBank b (fun x => { x with ownerHeld := true }) s) := by
  cases b <;> rfl

theorem ownerMoved_canHeld (b : Bus) (s : State) : OwnerMoved s (canHeld b s) := (ownerMoved_resetCan b s).trans (ownerMoved_onCan ..)

theorem ownerMoved_ownerGivenUp (b : Bank) (s : State) : OwnerMoved s (ownerGivenUp b s) := by
  cases b with
  | link =>
    have hcan := (ownerMoved_canHeld .canA s).trans (ownerMoved_canHeld .canB _)
    exact hcan.trans (show OwnerMoved (canHeld .canB (canHeld .canA s)) _ from ⟨rfl, rfl, rfl, rfl, rfl⟩)
  | stage => exact ownerMoved_resetLogw s
  | image => exact (panelOnly_resetPanel s).ownerMoved
  | engine => exact .refl s
  | interp => exact .refl s

theorem blockReset_canHeld (b : Bus) (s : State) : BlockReset s (canHeld b s) :=
  (blockReset_resetCan b s).trans ⟨rfl, rfl, rfl, rfl, rfl, fun _ => .of_eq rfl rfl⟩

theorem BlockReset.refl (u : State) : BlockReset u u := ⟨rfl, rfl, rfl, rfl, rfl, fun _ => .refl ..⟩

theorem blockReset_ownerGivenUp {b : Bank} {s : State} (hidle : s.log.clearing = none) : BlockReset s (ownerGivenUp b s) := by
  cases b with
  | link =>
    have hcan := (blockReset_canHeld .canA s).trans (blockReset_canHeld .canB _)
    exact hcan.trans (show BlockReset (canHeld .canB (canHeld .canA s)) _ from ⟨rfl, rfl, rfl, rfl, rfl, fun _ => .of_eq rfl rfl⟩)
  | stage => exact blockReset_resetLogw hidle
  | image => exact (panelOnly_resetPanel s).blockReset
  | engine => exact .refl s
  | interp => exact .refl s

/-- What the owner of a bank does as it restarts. -/
def ownerBack (b : Bank) (s : State) : State :=
  match b with
  | .link =>
    if s.watch.joined then { s with can := s.can.map fun c => { c with rejoinDue := true } }
    else match s.rst.phase with
      | .booting | .opening | .up => joinLinks s
      | _ => s
  | .stage => onLog (fun l => { l with refused := .replicate 7 0, dropped := 0 }) s
  | .image => resetPanel s
  | _ => s

theorem releaseOwner_eq (b : Bank) (s : State) : releaseOwner b s = ownerBack b (onBank b (fun x => { x with ownerHeld := false }) s) := by
  cases b <;> rfl

/-- A step of both kinds. -/
def OwnerStep (u t : State) : Prop := OwnerMoved u t ∧ BlockReset u t

theorem OwnerStep.trans {u v t : State} (h : OwnerStep u v) (h' : OwnerStep v t) : OwnerStep u t := ⟨h.1.trans h'.1, h.2.trans h'.2⟩

theorem OwnerStep.refl (u : State) : OwnerStep u u := ⟨.refl u, .refl u⟩

theorem stage3Own_member8 (s : State) : ((stage3Own s).member 8).cause = (s.member 8).cause :=
  congrArg G31Alarm.cause (member_congr (stage3Own_g31 s) 8)

theorem ownerStep_joinLinks (s : State) : OwnerStep s (joinLinks s) := by
  have hjoin : OwnerStep s (joinBus .canB (joinBus .canA { s with watch := { s.watch with joined := true, nextHb := s.now } })) :=
    ⟨⟨rfl, rfl, rfl, rfl, rfl⟩, ⟨rfl, rfl, rfl, rfl, rfl, fun _ => .of_eq rfl rfl⟩⟩
  unfold joinLinks
  dsimp only
  generalize joinBus .canB (joinBus .canA { s with watch := { s.watch with joined := true, nextHb := s.now } }) = u at hjoin ⊢
  split
  · have hlead : OwnerStep u { u with watch := { u.watch with lead := none } } :=
      ⟨⟨rfl, rfl, rfl, rfl, rfl⟩, ⟨rfl, rfl, rfl, rfl, rfl, fun _ => .of_eq rfl rfl⟩⟩
    have hstep := engineStep_stage3Own { u with watch := { u.watch with lead := none } }
    exact (hjoin.trans hlead).trans ⟨hstep.ownerMoved (stage3Own_member8 _), hstep.blockReset⟩
  · exact hjoin

theorem ownerStep_ownerBack (b : Bank) (s : State) : OwnerStep s (ownerBack b s) := by
  cases b with
  | link =>
    unfold ownerBack
    dsimp only
    split
    · exact ⟨⟨rfl, rfl, rfl, rfl, rfl⟩, ⟨rfl, rfl, rfl, rfl, rfl, fun _ => .of_eq rfl rfl⟩⟩
    · split
      case h_4 => exact .refl s
      all_goals exact ownerStep_joinLinks s
  | stage => exact ⟨⟨rfl, rfl, rfl, rfl, rfl⟩, ⟨rfl, rfl, rfl, rfl, rfl, fun _ => .of_eq rfl rfl⟩⟩
  | image => exact ⟨(panelOnly_resetPanel s).ownerMoved, (panelOnly_resetPanel s).blockReset⟩
  | engine => exact .refl s
  | interp => exact .refl s

end Sys2Proof.Machine

/-! WHAT THE EVENTS OF THE BANKS LEAVE (14 R743–R751, R758–R765). -/

namespace Sys2Proof.Machine

/-! ## The march test (14 R758, R759) -/

theorem LineTaken.march {u t : State} (h : LineTaken u t) : t.interp.march = u.interp.march := by rw [h]

theorem bank_congr {u t : State} (h : t.mem = u.mem) (b : Bank) : t.bank b = u.bank b := by unfold State.bank; rw [h]

/-- A bank in its test, before its owner is held. -/
def marchBegun (b : Bank) (d : Bool) (w : Waiter) (u : State) : State :=
  onBank b (fun x => { x with st := .test }) { u with interp := { u.interp with march := some (.march b d u.now w) } }

theorem bodyMarch_may {h : LineHdr} {b : Bank} {d : Bool} {u : State} (hmay : may u h .engineer = true) :
    bodyMarch h (some b) d u =
      if d && !ownerHolds b then refused .e04 u
      else if u.interp.march.isSome ∨ (u.bank b).st ≠ .on then refused .e08 u
      else held (if d then holdOwner b (marchBegun b d (waiter h u) u) else marchBegun b d (waiter h u) u) := by
  unfold bodyMarch
  dsimp only
  rw [if_neg (by rw [hmay]; exact Bool.noConfusion)]
  rfl

theorem exec_testMarch (h : LineHdr) (b : Bank) (d : Bool) (s : State) :
    exec (if d then .testMarchDestructive h (some b) else .testMarchPreserving h (some b)) s =
      finish (runLine h (txt "TEST") (bodyMarch h (some b) d) s) := by cases d <;> rfl

/-- What the beginning of a test leaves. -/
structure MarchBegins (b : Bank) (d : Bool) (w : Waiter) (u t : State) : Prop where
  st : (t.bank b).st = .test
  march : t.interp.march = some (.march b d u.now w)
  live : t.live = u.live
  held : (t.bank b).ownerHeld = (d || (u.bank b).ownerHeld)
  slices : t.slices = u.slices
  images : t.images = u.images
  line : ∀ who, KeepsLine who u t

theorem marchBegins {b : Bank} {d : Bool} {w : Waiter} {u : State} (hidle : u.log.clearing = none) :
    MarchBegins b d w u (if d then holdOwner b (marchBegun b d w u) else marchBegun b d w u) := by
  have hbank : (marchBegun b d w u).bank b = { u.bank b with st := .test } := by
    unfold marchBegun; rw [bank_onBank, if_pos rfl]; rfl
  have hline : ∀ who, KeepsLine who u (marchBegun b d w u) := fun who => ⟨by cases who <;> rfl, rfl, rfl⟩
  have hfields : (marchBegun b d w u).interp.march = some (.march b d u.now w) ∧ (marchBegun b d w u).live = u.live ∧
      (marchBegun b d w u).slices = u.slices ∧ (marchBegun b d w u).images = u.images ∧ (marchBegun b d w u).log = u.log :=
    ⟨rfl, rfl, rfl, rfl, rfl⟩
  obtain ⟨hmarch, hlive, hslices, himages, hlog⟩ := hfields
  generalize marchBegun b d w u = v at hbank hline hmarch hlive hslices himages hlog ⊢
  cases d with
  | false => exact ⟨by rw [if_neg Bool.false_ne_true, hbank], hmarch, hlive, by rw [if_neg Bool.false_ne_true, hbank]; rfl, hslices, himages, hline⟩
  | true =>
    rw [if_pos rfl, holdOwner_eq]
    have hheld : (onBank b (fun x => { x with ownerHeld := true }) v).bank b = { v.bank b with ownerHeld := true } := by
      rw [bank_onBank, if_pos rfl]
    have hidle' : (onBank b (fun x => { x with ownerHeld := true }) v).log.clearing = none := by
      rw [show (onBank b (fun x => { x with ownerHeld := true }) v).log = v.log from rfl, hlog]
      exact hidle
    have hfields : (onBank b (fun x => { x with ownerHeld := true }) v).interp = v.interp ∧
        (onBank b (fun x => { x with ownerHeld := true }) v).live = v.live ∧
        (onBank b (fun x => { x with ownerHeld := true }) v).slices = v.slices ∧
        (onBank b (fun x => { x with ownerHeld := true }) v).images = v.images ∧
        (onBank b (fun x => { x with ownerHeld := true }) v).port = v.port := ⟨rfl, rfl, rfl, rfl, rfl⟩
    generalize onBank b (fun x => { x with ownerHeld := true }) v = x at hheld hidle' hfields ⊢
    obtain ⟨hxi, hxl, hxs, hxm, hxp⟩ := hfields
    have hmoved := ownerMoved_ownerGivenUp b x
    have hreset := blockReset_ownerGivenUp (b := b) hidle'
    generalize ownerGivenUp b x = t at hmoved hreset ⊢
    refine ⟨?_, ?_, ?_, ?_, ?_, ?_, fun who => ((hline who).trans (.of_eq hxp hxi)).trans (hreset.line who)⟩
    · rw [hmoved.bank, hheld, hbank]
    · rw [hmoved.march, hxi, hmarch]
    · rw [hmoved.live, hxl, hlive]
    · rw [hmoved.bank, hheld]; rfl
    · rw [hmoved.slices, hxs, hslices]
    · rw [hreset.images, hxm, himages]

/-! ## The end of a march test (14 R752, R753, R759, R765) -/

theorem marchTestComplete_waits {s : State} {b : Bank} {d : Bool} {since : Tick} {w : Waiter} (fail : Option MarchFail)
    (hmarch : s.interp.march = some (.march b d since w)) : marchTestComplete fail s =
      if fail.isNone ∧ cyclesGone since (marchCycles b d) s = false then s
      else deliver w { data := [txt "= " ++ marchText b d fail (s.now - since)] }
        (if d then releaseOwner b (bankFault b fail.isSome (emitMarch b (if d then 1 else 2) fail
            (onBank b (fun x => { x with st := if x.st = .test then .on else x.st }) { s with
              interp := { s.interp with march := none }
              mem := { s.mem with last := some (marchText b d fail (s.now - since)) } })))
          else bankFault b fail.isSome (emitMarch b (if d then 1 else 2) fail
            (onBank b (fun x => { x with st := if x.st = .test then .on else x.st }) { s with
              interp := { s.interp with march := none }
              mem := { s.mem with last := some (marchText b d fail (s.now - since)) } }))) := by
  unfold marchTestComplete
  rw [hmarch]

/-- The result of a test stands: its bank, its line and its FAULT. -/
structure MarchResult (b : Bank) (fail : Option MarchFail) (line : Text) (s t : State) : Prop where
  march : t.interp.march = none
  last : t.mem.last = some line
  fault : (t.bank b).fault.live = fail.isSome
  st : (s.bank b).st = .test → (t.bank b).st = .on
  live : t.live = s.live
  slices : t.slices = s.slices
  line : ∀ who, KeepsLine who s t

theorem marchResult_bankFault {b : Bank} {mode : Nat} {fail : Option MarchFail} {line : Text} {s : State} :
    MarchResult b fail line s (bankFault b fail.isSome (emitMarch b mode fail
      (onBank b (fun x => { x with st := if x.st = .test then .on else x.st }) { s with
        interp := { s.interp with march := none }, mem := { s.mem with last := some line } }))) := by
  have hset : (onBank b (fun x => { x with st := if x.st = .test then .on else x.st })
      { s with interp := { s.interp with march := none }, mem := { s.mem with last := some line } }).bank b =
      { s.bank b with st := if (s.bank b).st = .test then .on else (s.bank b).st } := by
    rw [bank_onBank, if_pos rfl]; rfl
  have hline : ∀ who, KeepsLine who s (onBank b (fun x => { x with st := if x.st = .test then .on else x.st })
      { s with interp := { s.interp with march := none }, mem := { s.mem with last := some line } }) :=
    fun who => ⟨by cases who <;> rfl, rfl, rfl⟩
  have hfields : (onBank b (fun x => { x with st := if x.st = .test then .on else x.st })
      { s with interp := { s.interp with march := none }, mem := { s.mem with last := some line } }).interp.march = none ∧
      (onBank b (fun x => { x with st := if x.st = .test then .on else x.st })
      { s with interp := { s.interp with march := none }, mem := { s.mem with last := some line } }).mem.last = some line ∧
      (onBank b (fun x => { x with st := if x.st = .test then .on else x.st })
      { s with interp := { s.interp with march := none }, mem := { s.mem with last := some line } }).live = s.live ∧
      (onBank b (fun x => { x with st := if x.st = .test then .on else x.st })
      { s with interp := { s.interp with march := none }, mem := { s.mem with last := some line } }).slices = s.slices :=
    ⟨rfl, rfl, rfl, rfl⟩
  generalize onBank b (fun x => { x with st := if x.st = .test then .on else x.st })
    { s with interp := { s.interp with march := none }, mem := { s.mem with last := some line } } = v at hset hline hfields ⊢
  obtain ⟨hmarch, hlast, hlive, hslices⟩ := hfields
  have hlog := logOnly_emitMarch b mode fail v
  generalize emitMarch b mode fail v = x at hlog ⊢
  have hstep := engineStep_bankFault b fail.isSome x
  have hbank := bank_bankFault b b fail.isSome x
  rw [if_pos rfl, bank_congr hlog.mem b, hset] at hbank
  generalize bankFault b fail.isSome x = t at hstep hbank ⊢
  have hmemLast : (onBank b (fun x => { x with fault := x.fault.drive fail.isSome }) x).mem.last = x.mem.last := rfl
  have hpart : (onBank b (fun x => { x with fault := x.fault.drive fail.isSome }) x).interp = x.interp ∧
      (onBank b (fun x => { x with fault := x.fault.drive fail.isSome }) x).live = x.live ∧
      (onBank b (fun x => { x with fault := x.fault.drive fail.isSome }) x).slices = x.slices ∧
      (onBank b (fun x => { x with fault := x.fault.drive fail.isSome }) x).port = x.port := ⟨rfl, rfl, rfl, rfl⟩
  generalize onBank b (fun x => { x with fault := x.fault.drive fail.isSome }) x = y at hstep hmemLast hpart
  obtain ⟨hyi, hyl, hys, hyp⟩ := hpart
  exact {
    march := by rw [hstep.interp, hyi, hlog.interp, hmarch]
    last := by rw [hstep.mem, hmemLast, hlog.mem, hlast]
    fault := by rw [hbank]; exact Flag.drive_live ..
    st := fun h => by rw [hbank]; exact if_pos h
    live := by rw [hstep.live, hyl, hlog.live, hlive]
    slices := by rw [hstep.slices, hys, hlog.slices, hslices]
    line := fun who => (((hline who).trans (.of_eq hlog.port hlog.interp)).trans (.of_eq hyp hyi)).trans (hstep.keeps who) }

theorem bank_releaseOwner (b : Bank) (s : State) : (releaseOwner b s).bank b = { s.bank b with ownerHeld := false } := by
  rw [releaseOwner_eq, (ownerStep_ownerBack ..).1.bank, bank_onBank, if_pos rfl]

theorem MarchResult.release {b : Bank} {fail : Option MarchFail} {line : Text} {s v : State} (h : MarchResult b fail line s v) :
    MarchResult b fail line s (releaseOwner b v) := by
  have hbank := bank_releaseOwner b v
  rw [releaseOwner_eq] at hbank ⊢
  have hfields : (onBank b (fun x => { x with ownerHeld := false }) v).interp = v.interp ∧
      (onBank b (fun x => { x with ownerHeld := false }) v).live = v.live ∧
      (onBank b (fun x => { x with ownerHeld := false }) v).slices = v.slices ∧
      (onBank b (fun x => { x with ownerHeld := false }) v).port = v.port ∧
      (onBank b (fun x => { x with ownerHeld := false }) v).mem.last = v.mem.last := ⟨rfl, rfl, rfl, rfl, rfl⟩
  generalize onBank b (fun x => { x with ownerHeld := false }) v = x at hbank hfields ⊢
  obtain ⟨hi, hl, hs, hp, hm⟩ := hfields
  obtain ⟨hmoved, hreset⟩ := ownerStep_ownerBack b x
  generalize ownerBack b x = t at hbank hmoved hreset ⊢
  exact {
    march := by rw [hmoved.march, hi, h.march]
    last := by rw [hmoved.mem, hm, h.last]
    fault := by rw [hbank]; exact h.fault
    st := fun hst => by rw [hbank]; exact h.st hst
    live := by rw [hmoved.live, hl, h.live]
    slices := by rw [hmoved.slices, hs, h.slices]
    line := fun who => ((h.line who).trans (.of_eq hp hi)).trans (hreset.line who) }

theorem MarchResult.deliver {b : Bank} {fail : Option MarchFail} {line : Text} {s v : State} (h : MarchResult b fail line s v) (w : Waiter)
    (r : Reply) : (deliver w r v).interp.march = none ∧ (deliver w r v).mem.last = some line ∧
      ((deliver w r v).bank b).fault.live = fail.isSome ∧ ((s.bank b).st = .test → ((deliver w r v).bank b).st = .on) ∧
      (deliver w r v).bank b = v.bank b ∧ (deliver w r v).live = s.live ∧ (deliver w r v).slices = s.slices ∧
      (Awaits s w → AnswerCame w r s (settle (deliver w r v))) := by
  have hmoved := (deliverStep_deliver w r v).ownerMoved
  refine ⟨hmoved.march.trans h.march, by rw [hmoved.mem]; exact h.last, ?_, fun hst => ?_, hmoved.bank b,
    hmoved.live.trans h.live, hmoved.slices.trans h.slices, answerCame_of_keepsLine (h.line _)⟩
  · rw [hmoved.bank]; exact h.fault
  · rw [hmoved.bank]; exact h.st hst

/-! ## ECC (14 R743–R746) -/

theorem noteRead_corrected {b : Bank} {word : Nat} {raw : RawWord} {d : BitVec 32} (hread : readWord raw = .corrected d) (s : State) :
    noteRead b word raw s = onBank b (fun x => { x with errorRead := some { word := word, data := d, back := some (encodeWord d) } }) s := by
  unfold noteRead errorRead; rw [hread]

theorem eccSingle_idle {b : Bank} {word : Nat} {raw : RawWord} {s : State}
    (h : bankReads s b = false ∨ bankWords b ≤ word ∨ singleError raw = false) : eccSingle b word raw s = s := by
  refine if_neg fun hall => ?_
  obtain ⟨hreads, hsingle⟩ := Bool.and_eq_true_iff.1 hall
  obtain ⟨hreads, hword⟩ := Bool.and_eq_true_iff.1 hreads
  rcases h with h | h | h
  · exact Bool.noConfusion (h.symm.trans hreads)
  · exact absurd (of_decide_eq_true hword) (Nat.not_lt.2 h)
  · exact Bool.noConfusion (h.symm.trans hsingle)

theorem eccDouble_idle {b : Bank} {word : Nat} {raw : RawWord} {s : State}
    (h : bankReads s b = false ∨ bankWords b ≤ word ∨ readWord raw ≠ .double) : eccDouble b word raw s = s := by
  refine if_neg fun hall => ?_
  obtain ⟨hreads, hdouble⟩ := Bool.and_eq_true_iff.1 hall
  obtain ⟨hreads, hword⟩ := Bool.and_eq_true_iff.1 hreads
  rcases h with h | h | h
  · exact Bool.noConfusion (h.symm.trans hreads)
  · exact absurd (of_decide_eq_true hword) (Nat.not_lt.2 h)
  · exact h (of_decide_eq_true hdouble)

/-- A single-bit error noted: counted, with the corrected word. -/
def sbeNoted (word : Nat) (d : BitVec 32) (x : BankSt) : BankSt :=
  { x with sbe := min 65535 (x.sbe + 1), errorRead := some { word := word, data := d, back := some (encodeWord d) } }

theorem eccSingle_found {b : Bank} {word : Nat} {raw : RawWord} {d : BitVec 32} {s : State} (hreads : bankReads s b = true)
    (hword : word < bankWords b) (hread : readWord raw = .corrected d) : eccSingle b word raw s =
      if (match (s.bank b).sbeLogged with
        | some t => decide (t + usSec ≤ s.now)
        | none => true) then
        emitBlock 7 0x0260 (BitVec.ofNat 32 ((onBank b (sbeNoted word d) s).bank b).sbe) ([(bankIdx b).val] ++ two16 word)
          (onBank b (fun x => { sbeNoted word d x with sbeLogged := some s.now }) s)
      else onBank b (sbeNoted word d) s := by
  have hsingle : singleError raw = true := by unfold singleError; rw [hread]
  have hlogged : ((onBank b (sbeNoted word d) s).bank b).sbeLogged = (s.bank b).sbeLogged := by rw [bank_onBank, if_pos rfl]; rfl
  have hnoted : onBank b (fun x => { x with sbe := sat16 x.sbe }) (noteRead b word raw s) = onBank b (sbeNoted word d) s := by
    rw [noteRead_corrected hread, onBank_onBank]; rfl
  unfold eccSingle
  rw [hreads, decide_eq_true hword, hsingle]
  simp only [Bool.and_self, if_true]
  rw [hnoted, hlogged, onBank_onBank]
  rfl

/-- A bank's failure noted: its FAULT, and the cause of MEMFAULT (14 R746). -/
def faultNoted (b : Bank) (word : Nat) (s : State) : State := bankFault b true (emitBlock 7 0x0261 0 ([(bankIdx b).val] ++ two16 word) s)

theorem blockFault_eq (b : Bank) (word : Nat) (s : State) : blockFault b word s =
    clearBank b (if ownerHolds b then holdOwner b (faultNoted b word s)
      else if b = .interp then dropInterp (faultNoted b word s) else faultNoted b word s) := rfl

theorem bank_faultNoted (b : Bank) (word : Nat) (s : State) :
    (faultNoted b word s).bank b = { s.bank b with fault := (s.bank b).fault.drive true } := by
  unfold faultNoted
  rw [bank_bankFault, if_pos rfl, bank_congr (logOnly_emitBlock ..).mem]

theorem faultNoted_keeps (b : Bank) (word : Nat) (s : State) : (faultNoted b word s).live = s.live ∧
    (faultNoted b word s).slices = s.slices ∧ ((faultNoted b word s).member 8).cause = true := by
  unfold faultNoted
  have hlog := logOnly_emitBlock 7 0x0261 0 ([(bankIdx b).val] ++ two16 word) s
  generalize emitBlock 7 0x0261 0 ([(bankIdx b).val] ++ two16 word) s = x at hlog ⊢
  have hstep := engineStep_bankFault b true x
  refine ⟨hstep.live.trans hlog.live, hstep.slices.trans hlog.slices, ?_⟩
  unfold bankFault
  dsimp only
  rw [setCause_cause, if_pos rfl, any_banks]
  refine ⟨b, ?_⟩
  rw [bank_onBank, if_pos rfl]
  exact Flag.drive_live ..

theorem ownerMoved_foldl {α : Type} {f : State → α → State} (hf : ∀ s a, OwnerMoved s (f s a)) (l : List α) (s : State) :
    OwnerMoved s (l.foldl f s) := by
  induction l generalizing s with
  | nil => exact .refl s
  | cons a l ih => exact (hf s a).trans (ih _)

theorem ownerMoved_dropInterp (s : State) : OwnerMoved s (dropInterp s) := by
  have habandon : OwnerMoved s (abandonHost s) := by
    unfold abandonHost
    dsimp only
    split <;> exact ⟨rfl, rfl, rfl, rfl, rfl⟩
  have hends : OwnerMoved (abandonHost s) (endAllSessions (abandonHost s)) := by
    generalize abandonHost s = u
    have hfold := (lineTaken_endSession .host 2 u).ownerMoved.trans
      (ownerMoved_foldl (f := fun u (c : Console) => endSession (.console c.k) 2 u)
        (fun _ _ => (lineTaken_endSession ..).ownerMoved) u.interp.consoles _)
    exact hfold.trans ⟨rfl, rfl, rfl, rfl, rfl⟩
  exact (habandon.trans hends).trans ⟨rfl, rfl, rfl, rfl, rfl⟩

theorem dropInterp_port (s : State) : (dropInterp s).port.opened = false ∧ (dropInterp s).interp.running = false ∧
    (dropInterp s).port.sess.role = .observer := ⟨rfl, rfl, rfl⟩

/-- What a double-bit error of a bank other than ENGINE leaves. -/
structure BankDown (b : Bank) (s t : State) : Prop where
  st : (t.bank b).st = .clearing
  fault : (t.bank b).fault.live = true
  cause : (t.member 8).cause = true
  live : t.live = s.live
  slices : t.slices = s.slices
  port : b = .interp → t.port.opened = false ∧ t.interp.running = false ∧ t.port.sess.role = .observer
  held : b ≠ .interp → (t.bank b).ownerHeld = true

theorem bank_clearBank (b : Bank) (s : State) : (clearBank b s).bank b = { s.bank b with st := .clearing, since := s.now } := by
  unfold clearBank; rw [bank_onBank, if_pos rfl]

theorem bankDown_of_held {b : Bank} {s v : State} (hne : b ≠ .interp) (hbank : (v.bank b).fault.live = true)
    (hcause : (v.member 8).cause = true) (hlive : v.live = s.live) (hslices : v.slices = s.slices) : BankDown b s (clearBank b (holdOwner b v)) := by
  rw [holdOwner_eq]
  have hset : (onBank b (fun x => { x with ownerHeld := true }) v).bank b = { v.bank b with ownerHeld := true } := by
    rw [bank_onBank, if_pos rfl]
  have hfields : ((onBank b (fun x => { x with ownerHeld := true }) v).member 8).cause = (v.member 8).cause ∧
      (onBank b (fun x => { x with ownerHeld := true }) v).live = v.live ∧
      (onBank b (fun x => { x with ownerHeld := true }) v).slices = v.slices := ⟨rfl, rfl, rfl⟩
  generalize onBank b (fun x => { x with ownerHeld := true }) v = x at hset hfields ⊢
  obtain ⟨hxc, hxl, hxs⟩ := hfields
  have hmoved := ownerMoved_ownerGivenUp b x
  generalize ownerGivenUp b x = y at hmoved ⊢
  have hclear := bank_clearBank b y
  have hpart : ((clearBank b y).member 8).cause = (y.member 8).cause ∧ (clearBank b y).live = y.live ∧ (clearBank b y).slices = y.slices :=
    ⟨rfl, rfl, rfl⟩
  generalize clearBank b y = t at hclear hpart ⊢
  obtain ⟨htc, htl, hts⟩ := hpart
  exact {
    st := by rw [hclear]
    fault := by rw [hclear, hmoved.bank, hset]; exact hbank
    cause := by rw [htc, hmoved.cause, hxc, hcause]
    live := by rw [htl, hmoved.live, hxl, hlive]
    slices := by rw [hts, hmoved.slices, hxs, hslices]
    port := fun h => absurd h hne
    held := fun _ => by rw [hclear, hmoved.bank, hset] }

theorem bankDown_blockFault {b : Bank} (word : Nat) (s : State) (hne : b ≠ .engine) : BankDown b s (blockFault b word s) := by
  have hbank : ((faultNoted b word s).bank b).fault.live = true := by rw [bank_faultNoted]; exact Flag.drive_live ..
  obtain ⟨hlive, hslices, hcause⟩ := faultNoted_keeps b word s
  rw [blockFault_eq]
  generalize faultNoted b word s = v at hbank hlive hslices hcause ⊢
  cases b with
  | engine => exact absurd rfl hne
  | interp =>
    rw [if_neg (by decide), if_pos rfl]
    have hmoved := ownerMoved_dropInterp v
    have hport := dropInterp_port v
    generalize dropInterp v = y at hmoved hport ⊢
    have hclear := bank_clearBank .interp y
    exact {
      st := bank_clearBank_same ..
      fault := by rw [hclear, hmoved.bank]; exact hbank
      cause := hmoved.cause.trans hcause
      live := hmoved.live.trans hlive
      slices := hmoved.slices.trans hslices
      port := fun _ => hport
      held := fun h => absurd rfl h }
  | link => exact bankDown_of_held (by decide) hbank hcause hlive hslices
  | stage => exact bankDown_of_held (by decide) hbank hcause hlive hslices
  | image => exact bankDown_of_held (by decide) hbank hcause hlive hslices

theorem eccDouble_found {b : Bank} {word : Nat} {raw : RawWord} {s : State} (hreads : bankReads s b = true) (hword : word < bankWords b)
    (hread : readWord raw = .double) (hne : b ≠ .engine) : eccDouble b word raw s = blockFault b word (noteRead b word raw s) := by
  unfold eccDouble
  rw [hreads, decide_eq_true hword, decide_eq_true hread]
  exact if_neg hne

/-! ## Zeroing (14 R750, R751) -/

/-- A bank that has been zeroed is on, and its owner restarts. -/
def bankZeroed (b : Bank) (s : State) : State :=
  if ((onBank b (fun x => { x with st := .on }) s).bank b).ownerHeld then releaseOwner b (onBank b (fun x => { x with st := .on }) s)
  else onBank b (fun x => { x with st := .on }) s

theorem zeroingComplete_idle {b : Bank} {s : State} (h : ((ensureStarted s).bank b).st ≠ .clearing ∨
    cyclesGone ((ensureStarted s).bank b).since (bankWords b) (ensureStarted s) = false) : zeroingComplete b s = ensureStarted s := if_pos h

theorem zeroingComplete_over {b : Bank} {s : State} (hst : ((ensureStarted s).bank b).st = .clearing)
    (hover : cyclesGone ((ensureStarted s).bank b).since (bankWords b) (ensureStarted s) = true) : zeroingComplete b s =
      if (bankZeroed b (ensureStarted s)).rst.phase = .zeroing ∧ anyClearing (bankZeroed b (ensureStarted s)) = false
      then loadConfig (bankZeroed b (ensureStarted s)) else bankZeroed b (ensureStarted s) := by
  refine if_neg fun h => ?_
  rcases h with h | h
  · exact h hst
  · exact Bool.noConfusion (h.symm.trans hover)

theorem bankZeroed_zeroes (b : Bank) (u : State) : ((bankZeroed b u).bank b).st = .on ∧ ((bankZeroed b u).bank b).ownerHeld = false ∧
    (∀ j, j ≠ b → (bankZeroed b u).bank j = u.bank j) ∧ (bankZeroed b u).rst = u.rst ∧ (bankZeroed b u).live = u.live := by
  have hset : (onBank b (fun x => { x with st := .on }) u).bank b = { u.bank b with st := .on } := by rw [bank_onBank, if_pos rfl]
  have hother : ∀ j, j ≠ b → (onBank b (fun x => { x with st := .on }) u).bank j = u.bank j := fun j hj => by
    rw [bank_onBank, if_neg hj]
  have hfields : (onBank b (fun x => { x with st := .on }) u).rst = u.rst ∧ (onBank b (fun x => { x with st := .on }) u).live = u.live :=
    ⟨rfl, rfl⟩
  unfold bankZeroed
  generalize onBank b (fun x => { x with st := .on }) u = v at hset hother hfields ⊢
  obtain ⟨hrst, hlive⟩ := hfields
  by_cases hheld : (v.bank b).ownerHeld = true
  · rw [if_pos hheld]
    have hbank := bank_releaseOwner b v
    rw [releaseOwner_eq] at hbank ⊢
    have hother' : ∀ j, j ≠ b → (onBank b (fun x => { x with ownerHeld := false }) v).bank j = v.bank j := fun j hj => by
      rw [bank_onBank, if_neg hj]
    have hfields' : (onBank b (fun x => { x with ownerHeld := false }) v).rst = v.rst ∧
        (onBank b (fun x => { x with ownerHeld := false }) v).live = v.live := ⟨rfl, rfl⟩
    generalize onBank b (fun x => { x with ownerHeld := false }) v = x at hbank hother' hfields' ⊢
    obtain ⟨hmoved, hreset⟩ := ownerStep_ownerBack b x
    generalize ownerBack b x = t at hbank hmoved hreset ⊢
    refine ⟨by rw [hbank, hset], by rw [hbank], fun j hj => ?_, ?_, ?_⟩
    · rw [hmoved.bank, hother' j hj, hother j hj]
    · rw [hreset.rst, hfields'.1, hrst]
    · rw [hmoved.live, hfields'.2, hlive]
  · rw [if_neg hheld]
    exact ⟨by rw [hset], Bool.eq_false_iff.2 hheld, hother, hrst, hlive⟩

theorem zeroingComplete_leaves {b : Bank} {s : State} (hst : ((ensureStarted s).bank b).st = .clearing)
    (hover : cyclesGone ((ensureStarted s).bank b).since (bankWords b) (ensureStarted s) = true) :
    ((zeroingComplete b s).bank b).st = .on ∧ ((zeroingComplete b s).bank b).ownerHeld = false ∧
      ((ensureStarted s).rst.phase = .zeroing → (∀ x : Bank, x ≠ b → ((ensureStarted s).bank x).st ≠ .clearing) →
        (zeroingComplete b s).rst.phase = .clocking) ∧
      ((ensureStarted s).rst.phase ≠ .zeroing → (zeroingComplete b s).rst.phase = (ensureStarted s).rst.phase ∧
        (zeroingComplete b s).live = (ensureStarted s).live) := by
  obtain ⟨hon, hfree, hother, hrst, hlive⟩ := bankZeroed_zeroes b (ensureStarted s)
  rw [zeroingComplete_over hst hover]
  generalize ensureStarted s = u at hon hfree hother hrst hlive ⊢
  generalize bankZeroed b u = v at hon hfree hother hrst hlive ⊢
  by_cases hload : v.rst.phase = .zeroing ∧ anyClearing v = false
  · rw [if_pos hload]
    obtain ⟨hphase, hmem, -⟩ := loadConfig_loads v
    rw [bank_congr hmem]
    exact ⟨hon, hfree, fun _ _ => hphase, fun h => absurd ((congrArg Reset.phase hrst).symm.trans hload.1) h⟩
  · rw [if_neg hload]
    refine ⟨hon, hfree, fun hphase hall => absurd ⟨(congrArg Reset.phase hrst).trans hphase, anyClearing_false fun x => ?_⟩ hload,
      fun _ => ⟨congrArg Reset.phase hrst, hlive⟩⟩
    by_cases hx : x = b
    · rw [hx, hon]; decide
    · rw [hother x hx]; exact hall x hx

/-! ## The statement -/

/-- Settles O50: TEST MARCH and its end, the code of the words, and each event of a bank. -/
theorem banksAreTestedAndFail : Obligations.BanksAreTestedAndFail := by
  refine ⟨⟨?begins, fun s b d since w fail line hmarch hline => ?ends⟩, fun d bit hbit => ?code, fun s b word raw =>
    ⟨fun h => ⟨?idleSingle, ?idleDouble⟩, fun h => ?noSingle, fun h => ?noDouble, fun hreads hword =>
      ⟨fun d hread => ⟨fun hdue => ?logged, fun t hlogged hearly => ?counted⟩, fun hne hread => ?down⟩, ?zeroing⟩⟩
  case begins =>
    rintro h s b d cmd u rfl hacc rfl hmay
    have hbody := bodyMarch_may (b := b) (d := d) hmay
    have hline := lineTaken_lineStart h (txt "TEST") s
    refine ⟨fun hd hb => ?_, fun holds => ⟨fun hbusy => ?_, fun hfree hon hidle => ?_⟩⟩
    · unfold LineRefused LineDone Next
      rw [exec_testMarch]
      refine line_refused h _ _ s .e04 hacc (hbody.trans (if_pos ?_))
      rw [hd]; rcases hb with rfl | rfl <;> rfl
    · have hok : ¬ (d && !ownerHolds b) = true := by
        cases d with
        | false => exact Bool.false_ne_true
        | true => rw [holds rfl]; exact Bool.false_ne_true
      unfold LineRefused LineDone Next
      rw [exec_testMarch]
      refine line_refused h _ _ s .e08 hacc (hbody.trans ((if_neg hok).trans (if_pos ?_)))
      rw [hline.march, bank_congr hline.mem]
      exact hbusy.imp_left Option.isSome_iff_ne_none.2
    · have hok : ¬ (d && !ownerHolds b) = true := by
        cases d with
        | false => exact Bool.false_ne_true
        | true => rw [holds rfl]; exact Bool.false_ne_true
      have hfree' : ¬ ((lineStart h (txt "TEST") s).interp.march.isSome ∨ ((lineStart h (txt "TEST") s).bank b).st ≠ .on) := by
        rw [hline.march, bank_congr hline.mem, hfree]
        rintro (h | h)
        · exact Bool.noConfusion h
        · exact h hon
      have hidle' : (lineStart h (txt "TEST") s).log.clearing = none := (by rw [hline] : _ = s.log.clearing).trans hidle
      have hbegins := marchBegins (b := b) (d := d) (w := waiter h (lineStart h (txt "TEST") s)) hidle'
      obtain ⟨t, hexec, hheld, hsettled⟩ := line_held h _ _ s _ hacc (hbody.trans ((if_neg hok).trans (if_neg hfree'))) (hbegins.line _)
      refine ⟨t, (exec_testMarch ..).trans hexec, hheld, ?_⟩
      rw [hsettled]
      refine ⟨hbegins.st, hbegins.march, hbegins.live.trans hline.live, ?_, hbegins.slices.trans hline.slices, hbegins.images.trans hline.images⟩
      exact hbegins.held.trans (by rw [bank_congr hline.mem])
  case ends =>
    subst hline
    have hrun := marchTestComplete_waits fail hmarch
    refine ⟨fun hover => ?_, fun hpass hearly => does_of (congrArg finish (hrun.trans (if_pos ⟨by rw [hpass]; rfl, hearly⟩)))⟩
    have hover' : ¬ (fail.isNone = true ∧ cyclesGone since (marchCycles b d) s = false) := by
      rintro ⟨hnone, hearly⟩
      rcases hover with h | h
      · exact h (Option.isNone_iff_eq_none.1 hnone)
      · exact Bool.noConfusion (hearly.symm.trans h)
    refine ⟨_, congrArg finish (hrun.trans (if_neg hover')), ?_⟩
    have hresult := marchResult_bankFault (b := b) (mode := if d then 1 else 2) (fail := fail)
      (line := marchText b d fail (s.now - since)) (s := s)
    generalize bankFault b fail.isSome _ = v at hresult ⊢
    cases d with
    | false =>
      obtain ⟨h1, h2, h3, h4, -, h6, h7, h8⟩ := hresult.deliver w { data := [txt "= " ++ marchText b false fail (s.now - since)] }
      exact ⟨h1, h2, h3, h4, fun h => Bool.noConfusion h, h6, h7, h8⟩
    | true =>
      obtain ⟨h1, h2, h3, h4, h5, h6, h7, h8⟩ := hresult.release.deliver w { data := [txt "= " ++ marchText b true fail (s.now - since)] }
      refine ⟨h1, h2, h3, h4, fun _ => ?_, h6, h7, h8⟩
      exact (congrArg BankSt.ownerHeld h5).trans (congrArg BankSt.ownerHeld (bank_releaseOwner b v))
  case code =>
    have hflip : bit = flipBit := by
      funext i w
      rw [hbit]; rfl
    subst hflip
    exact ⟨readWord_clean (syndrome_encodeWord d), readWord_flipBit d, fun i j hij => readWord_flipTwo d hij⟩
  case idleSingle => exact does_of (congrArg finish (eccSingle_idle (h.imp_right .inl)))
  case idleDouble => exact does_of (congrArg finish (eccDouble_idle (h.imp_right .inl)))
  case noSingle => exact does_of (congrArg finish (eccSingle_idle (.inr (.inr h))))
  case noDouble => exact does_of (congrArg finish (eccDouble_idle (.inr (.inr h))))
  case logged =>
    refine doesLogged_of (congrArg finish ((eccSingle_found hreads hword hread).trans (if_pos ?_))) (logOnly_emitBlock ..)
    rcases hdue with h | ⟨t, h, hover⟩
    · rw [h]
    · rw [h]; exact decide_eq_true hover
  case counted =>
    refine does_of (congrArg finish ((eccSingle_found hreads hword hread).trans (if_neg ?_)))
    rw [hlogged]
    exact fun h => absurd (of_decide_eq_true h) (Nat.not_le.2 hearly)
  case down =>
    have hdown := bankDown_blockFault word (noteRead b word raw s) hne
    exact doesSo_of (congrArg finish (eccDouble_found hreads hword hread hne))
      ⟨hdown.st, hdown.fault, hdown.cause, hdown.live, hdown.slices, hdown.port, hdown.held⟩
  case zeroing =>
    rintro u rfl
    exact ⟨fun h => does_of (congrArg finish (zeroingComplete_idle h)),
      fun hst hover => doesSo_of rfl (zeroingComplete_leaves hst hover)⟩

end Sys2Proof.Machine

/-! ENTRY TO DEEP (15 R797–R799): what a reply to other work leaves of the line's own reply, and what each step of the entry keeps. -/

namespace Sys2Proof.Machine

/-! ## Replies to other work -/

/-- Work that a reply ends leaves a reply that has gone out at the host port, and a configuration that is loaded. -/
structure RepliesKept (u t : State) : Prop where
  answer : u.port.answer.reply ≠ none → t.port.answer = u.port.answer
  loaded : configLoaded u.rst.phase = true → configLoaded t.rst.phase = true

theorem RepliesKept.refl (u : State) : RepliesKept u u := ⟨fun _ => rfl, fun h => h⟩

theorem RepliesKept.trans {u v t : State} (h : RepliesKept u v) (h' : RepliesKept v t) : RepliesKept u t :=
  ⟨fun hr => (h'.answer (by rw [h.answer hr]; exact hr)).trans (h.answer hr), fun hl => h'.loaded (h.loaded hl)⟩

theorem RepliesKept.of_eq {u t : State} (hport : t.port.answer = u.port.answer) (hrst : t.rst = u.rst) : RepliesKept u t :=
  ⟨fun _ => hport, fun h => by rw [hrst]; exact h⟩

theorem LogOnly.repliesKept {u t : State} (h : LogOnly u t) : RepliesKept u t := .of_eq (by rw [h.port]) h.rst

theorem ConsoleSent.repliesKept {k : Fin 16} {u t : State} (h : ConsoleSent k u t) : RepliesKept u t :=
  .of_eq (by rw [h.rest]) (by rw [h.rest])

theorem repliesKept_foldl {α : Type} {f : State → α → State} (hf : ∀ s a, RepliesKept s (f s a)) (l : List α) (s : State) :
    RepliesKept s (l.foldl f s) := by
  induction l generalizing s with
  | nil => exact .refl s
  | cons a l ih => exact (hf s a).trans (ih _)

theorem repliesKept_replyEnds (who : Sess) (s : State) : RepliesKept s (replyEnds who s) := by
  unfold replyEnds
  cases who <;> exact .of_eq rfl rfl

theorem repliesKept_answer (w : Waiter) (r : Reply) (s : State) : RepliesKept s (answer w r s) := by
  unfold answer
  cases w.sess with
  | host =>
    dsimp only
    split
    · rename_i h
      exact ⟨fun hr => absurd h.2.2 hr, fun h => h⟩
    · exact .refl s
  | console k =>
    dsimp only
    split
    · split
      · refine RepliesKept.trans ?_ (repliesKept_replyEnds ..)
        refine RepliesKept.trans ?_ (repliesKept_foldl (fun s l => (sendConsoleLine_sent k l s).repliesKept) _ _)
        exact .of_eq rfl rfl
      · exact .refl s
    · exact .refl s
  | script n => exact .refl s

/-- A script's end, its records and results noted. -/
def scriptNoted (run : Running) (err : Option Err) (cause : Nat) (s : State) : State :=
  let s := emitSess (.script run.script) 0x0407 0 [run.script.val, run.last, errNo err, cause] s
  { s with
    interp := { s.interp with script := none, ends := upd s.interp.ends run.script fun _ => some ⟨run.last, err⟩ }
    rst := if run.boot then { s.rst with phase := .opening } else s.rst }

/-- What a script's end says of itself. -/
def scriptReply (run : Running) (err : Option Err) (cause : Nat) : Reply :=
  { data :=
      (match err with
        | some e => [txt "= " ++ lineText run.script run.last ++ txt " " ++ errText e]
        | none => []) ++
      [txt "= " ++ scriptText run.script ++ (if cause = 2 then txt " STOPPED L" else txt " END L") ++ showPadded 2 run.last]
    err := err }

theorem endScript_eq (run : Running) (err : Option Err) (cause : Nat) (s : State) : endScript run err cause s =
    if run.boot then scriptNoted run err cause s else answer run.by_ (scriptReply run err cause) (scriptNoted run err cause s) := rfl

theorem repliesKept_scriptNoted (run : Running) (err : Option Err) (cause : Nat) (s : State) :
    RepliesKept s (scriptNoted run err cause s) := by
  unfold scriptNoted
  have hlog := (logOnly_emitSess (.script run.script) 0x0407 0 [run.script.val, run.last, errNo err, cause] s).repliesKept
  generalize emitSess (.script run.script) 0x0407 0 [run.script.val, run.last, errNo err, cause] s = u at hlog ⊢
  refine hlog.trans ⟨fun _ => rfl, fun h => ?_⟩
  dsimp only
  split
  · rfl
  · exact h

theorem repliesKept_endScript (run : Running) (err : Option Err) (cause : Nat) (s : State) : RepliesKept s (endScript run err cause s) := by
  rw [endScript_eq]
  split
  · exact repliesKept_scriptNoted ..
  · exact (repliesKept_scriptNoted ..).trans (repliesKept_answer ..)

theorem repliesKept_scriptStatus (r : Reply) (s : State) : RepliesKept s (scriptStatus r s) := by
  unfold scriptStatus
  split
  · exact .refl s
  · dsimp only
    split
    · exact repliesKept_endScript ..
    · split
      · exact repliesKept_endScript ..
      · split
        · exact repliesKept_endScript ..
        · exact .of_eq rfl rfl

theorem repliesKept_deliver (w : Waiter) (r : Reply) (s : State) : RepliesKept s (deliver w r s) := by
  unfold deliver
  split
  · split
    · split
      · exact (RepliesKept.of_eq rfl rfl : RepliesKept s (portTakes s)).trans (repliesKept_scriptStatus ..)
      · exact .refl s
    · exact .refl s
  · exact repliesKept_answer ..

/-! ## What the entry keeps -/

/-- What the work that the entry ends keeps. -/
structure EntryKeeps (u t : State) : Prop where
  now : t.now = u.now
  nodeTime : t.nodeTime = u.nodeTime
  ident : t.ident = u.ident
  live : t.live = u.live
  slices : t.slices = u.slices
  engine : t.engine = u.engine
  caller : t.caller = u.caller
  mem : t.mem = u.mem
  replies : RepliesKept u t

theorem EntryKeeps.refl (u : State) : EntryKeeps u u := ⟨rfl, rfl, rfl, rfl, rfl, rfl, rfl, rfl, .refl u⟩

theorem EntryKeeps.trans {u v t : State} (h : EntryKeeps u v) (h' : EntryKeeps v t) : EntryKeeps u t :=
  ⟨h'.now.trans h.now, h'.nodeTime.trans h.nodeTime, h'.ident.trans h.ident, h'.live.trans h.live, h'.slices.trans h.slices,
    h'.engine.trans h.engine, h'.caller.trans h.caller, h'.mem.trans h.mem, h.replies.trans h'.replies⟩

theorem LogOnly.entryKeeps {u t : State} (h : LogOnly u t) : EntryKeeps u t :=
  ⟨h.now, h.nodeTime, h.ident, h.live, h.slices, h.engine, h.caller, h.mem, h.repliesKept⟩

theorem entryKeeps_deliver (w : Waiter) (r : Reply) (s : State) : EntryKeeps s (deliver w r s) :=
  have h := deliverStep_deliver w r s
  ⟨h.now, h.nodeTime, h.ident, h.live, h.slices, h.engine, h.caller, h.mem, repliesKept_deliver w r s⟩

theorem entryKeeps_endClockWork (e : Option Err) (s : State) : EntryKeeps s (endClockWork e s) := by
  unfold endClockWork
  split
  · have hnone : EntryKeeps s { s with interp := { s.interp with clock := none } } :=
      ⟨rfl, rfl, rfl, rfl, rfl, rfl, rfl, rfl, .of_eq rfl rfl⟩
    exact hnone.trans (entryKeeps_deliver ..)
  · exact .refl s

/-- A measurement under way ends as the node goes to DEEP. -/
def measureEnded (s : State) : State :=
  match s.interp.measure with
  | some (.measure _ _ _ _ w) => deliver w (plainReply (some .e13)) { s with interp := { s.interp with measure := none } }
  | _ => s

theorem measureEnded_waits {s : State} {a b : ClkName} {n : Nat} {t : Tick} {w : Waiter}
    (h : s.interp.measure = some (.measure a b n t w)) : measureEnded s =
      deliver w (plainReply (some .e13)) { s with interp := { s.interp with measure := none } } := by
  unfold measureEnded; rw [h]

theorem measureEnded_idle {s : State} (h : ∀ a b n t w, s.interp.measure ≠ some (.measure a b n t w)) : measureEnded s = s := by
  unfold measureEnded
  split
  · exact absurd ‹_› (h _ _ _ _ _)
  · rfl

theorem entryKeeps_measureEnded (s : State) : EntryKeeps s (measureEnded s) := by
  unfold measureEnded
  split
  · have hnone : EntryKeeps s { s with interp := { s.interp with measure := none } } :=
      ⟨rfl, rfl, rfl, rfl, rfl, rfl, rfl, rfl, .of_eq rfl rfl⟩
    exact hnone.trans (entryKeeps_deliver ..)
  · exact .refl s

/-- The work that the entry to DEEP ends, with its record. -/
def workEnded (s : State) : State := measureEnded (endClockWork (some .e13) (emitMode [2] s))

theorem entryKeeps_workEnded (s : State) : EntryKeeps s (workEnded s) :=
  ((logOnly_emitBlock 0 0x0604 0 [2] s).entryKeeps.trans (entryKeeps_endClockWork ..)).trans (entryKeeps_measureEnded _)

/-! ## What the banks lose (14 R747, R749) -/

/-- What stands whatever banks go off. -/
structure LossKeeps (u t : State) : Prop where
  now : t.now = u.now
  nodeTime : t.nodeTime = u.nodeTime
  live : t.live = u.live
  slices : t.slices = u.slices
  mem : t.mem = u.mem
  answer : t.port.answer = u.port.answer

theorem LossKeeps.refl (u : State) : LossKeeps u u := ⟨rfl, rfl, rfl, rfl, rfl, rfl⟩

theorem LossKeeps.trans {u v t : State} (h : LossKeeps u v) (h' : LossKeeps v t) : LossKeeps u t :=
  ⟨h'.now.trans h.now, h'.nodeTime.trans h.nodeTime, h'.live.trans h.live, h'.slices.trans h.slices, h'.mem.trans h.mem,
    h'.answer.trans h.answer⟩

theorem endSession_answer (who : Sess) (cause : Nat) (s : State) : (endSession who cause s).port.answer = s.port.answer := by
  unfold endSession
  split
  · have hlog := (logOnly_emitSess who 0x0503 0 [cause] s).port
    generalize emitSess who 0x0503 0 [cause] s = u at hlog ⊢
    rw [← hlog]
    cases who <;> rfl
  · rfl

theorem lossKeeps_endSession (who : Sess) (cause : Nat) (s : State) : LossKeeps s (endSession who cause s) :=
  have h := lineTaken_endSession who cause s
  ⟨h.now, h.nodeTime, h.live, h.slices, h.mem, endSession_answer who cause s⟩

theorem lossKeeps_endAllSessions (s : State) : LossKeeps s (endAllSessions s) := by
  have hfold : ∀ (l : List Console) (u : State), LossKeeps u (l.foldl (fun s c => endSession (.console c.k) 2 s) u) := by
    intro l
    induction l with
    | nil => exact fun u => .refl u
    | cons c l ih => exact fun u => (lossKeeps_endSession ..).trans (ih _)
  exact ((lossKeeps_endSession .host 2 s).trans (hfold s.interp.consoles _)).trans ⟨rfl, rfl, rfl, rfl, rfl, rfl⟩

/-- INTERP that goes off loses the sessions and the script. -/
def interpLost (s : State) : State :=
  if goesOff s .interp then { endAllSessions s with interp := { (endAllSessions s).interp with script := none } } else s

/-- LINK that goes off loses the queues and the copies of the calls. -/
def linkLost (s : State) : State :=
  if goesOff s .link then { s with
    can := s.can.map fun c => { c with queue := [], tx := .replicate 32 {}, rx := .replicate 64 none }
    caller := { s.caller with calls := .replicate 8 (.replicate 32 {}) } }
  else s

/-- IMAGE that goes off loses the bit pairs. -/
def imageLost (s : State) : State :=
  if goesOff s .image then { s with panel := { s.panel with bankActive := .replicate 8 0, bankUnack := .replicate 8 0 } } else s

theorem loseBanks_eq (s : State) : loseBanks s = imageLost (linkLost (interpLost s)) := rfl

theorem lossKeeps_loseBanks (s : State) : LossKeeps s (loseBanks s) := by
  have hinterp : LossKeeps s (interpLost s) := by
    unfold interpLost
    split
    · exact (lossKeeps_endAllSessions s).trans ⟨rfl, rfl, rfl, rfl, rfl, rfl⟩
    · exact .refl s
  have hlink : ∀ u, LossKeeps u (linkLost u) := by
    intro u; unfold linkLost; split
    · exact ⟨rfl, rfl, rfl, rfl, rfl, rfl⟩
    · exact .refl u
  have himage : ∀ u, LossKeeps u (imageLost u) := by
    intro u; unfold imageLost; split
    · exact ⟨rfl, rfl, rfl, rfl, rfl, rfl⟩
    · exact .refl u
  rw [loseBanks_eq]
  exact (hinterp.trans (hlink _)).trans (himage _)

theorem PanelAlone.lossKeeps {u t : State} (h : PanelAlone u t) : LossKeeps u t := by
  unfold PanelAlone at h; rw [h]; exact ⟨rfl, rfl, rfl, rfl, rfl, rfl⟩

/-! ## The entry (15 R799) -/

/-- The last step of the entry, from what the banks have lost. -/
def deepAsleep (hold : LineHold) (s : State) : State :=
  { s with
    can := s.can.map Can.toDeep
    mem := { s.mem with banks := Vector.ofFn fun i => deepBank s.live.memOff[i.val] s.mem.banks[i.val] }
    engine := { s.engine with running := false, hold := some hold }
    port := { s.port with opened := false, transaction := false }
    interp := { s.interp with running := false }
    clk := { s.clk with chain := .irc, goal := none, xoPassed := false, healthySince := none, xoWaking := false }
    power :=
      { mode := .deep, deepAt := s.now, deepWake := s.live.power.deepWake, deepPeriod := s.live.power.deepPeriod
        deepRate := s.live.power.deepRate, warnAtEntry := s.flags.pwrWarn.latched
        lpoAtEntry := s.clk.lpoFail.latched } }

theorem enterDeep_eq (s : State) : enterDeep s =
    deepAsleep { al := Vector.ofFn (alLevel (workEnded s)), co := Vector.ofFn (coLevel (workEnded s)) } (loseBanks (atRest (workEnded s))) := by
  unfold enterDeep workEnded
  generalize endClockWork (some .e13) (emitMode [2] s) = v
  dsimp only
  split
  · rw [measureEnded_waits ‹_›]
    rfl
  · rw [measureEnded_idle fun a b n t w h => ‹∀ a b n t w, v.interp.measure = some (.measure a b n t w) → False› a b n t w h]
    rfl

/-- The node stands in DEEP. -/
structure InDeep (s t : State) : Prop where
  power : t.power.mode = .deep ∧ t.power.deepAt = s.now ∧ t.power.deepWake = s.live.power.deepWake ∧
    t.power.deepPeriod = s.live.power.deepPeriod
  running : t.engine.running = false
  hold : configLoaded s.rst.phase = true → t.engine.hold = some { al := Vector.ofFn (alLevel s), co := Vector.ofFn (coLevel s) }
  closed : t.port.opened = false ∧ t.interp.running = false
  can : ∀ b : Bus, (t.canOf b).mode = .off ∧ (t.canOf b).heldStandby = true
  banks : ∀ b : Bank, (t.bank b).st = if s.live.memOff[(bankIdx b).val] then .off else .ret
  live : t.live = s.live
  slices : t.slices = s.slices
  nodeTime : t.nodeTime = s.nodeTime
  answer : s.port.answer.reply ≠ none → t.port.answer = s.port.answer

theorem alLevel_loaded {s v : State} (h : EntryKeeps s v) (hloaded : configLoaded s.rst.phase = true) (i : Fin 16) :
    alLevel v i = alLevel s i := by
  have hv := h.replies.loaded hloaded
  unfold alLevel drivenLine fastTripped stage3On allCalls grpActive State.grpCfg State.chCfg State.slice
  rw [h.live, h.ident, h.slices, h.engine, h.caller, hv, hloaded]
  rfl

theorem inDeep_enterDeep (s : State) : InDeep s (enterDeep s) := by
  have hkeeps := entryKeeps_workEnded s
  rw [enterDeep_eq]
  generalize workEnded s = v at hkeeps ⊢
  have hhold : configLoaded s.rst.phase = true →
      ({ al := Vector.ofFn (alLevel v), co := Vector.ofFn (coLevel v) } : LineHold) =
        { al := Vector.ofFn (alLevel s), co := Vector.ofFn (coLevel s) } := fun hloaded => by
    rw [funext (alLevel_loaded hkeeps hloaded), funext (coLevel_congr hkeeps.live hkeeps.engine hkeeps.caller)]
  generalize ({ al := Vector.ofFn (alLevel v), co := Vector.ofFn (coLevel v) } : LineHold) = held at hhold ⊢
  have hloss := (panelAlone_atRest v).lossKeeps.trans (lossKeeps_loseBanks (atRest v))
  generalize loseBanks (atRest v) = x at hloss ⊢
  exact {
    power := ⟨rfl, hloss.now.trans hkeeps.now, congrArg (fun l : Settings => l.power.deepWake) (hloss.live.trans hkeeps.live),
      congrArg (fun l : Settings => l.power.deepPeriod) (hloss.live.trans hkeeps.live)⟩
    running := rfl
    hold := fun h => congrArg some (hhold h)
    closed := ⟨rfl, rfl⟩
    can := fun b => by simp [deepAsleep, State.canOf, Can.toDeep]
    banks := fun b => by
      have hlive : x.live = s.live := hloss.live.trans hkeeps.live
      simp only [deepAsleep, State.bank, Vector.getElem_ofFn, hlive]
      rfl
    live := hloss.live.trans hkeeps.live
    slices := hloss.slices.trans hkeeps.slices
    nodeTime := hloss.nodeTime.trans hkeeps.nodeTime
    answer := fun h => hloss.answer.trans (hkeeps.replies.answer h) }

end Sys2Proof.Machine

/-! THE WAKE (15 R801–R803; 04 R265; 14 R749): what the rebuild and the links leave, and what stands once the node is up. -/

namespace Sys2Proof.Machine

/-! ## The rebuild as a step -/

/-- The engine set running anew, before its alarms are rebuilt. -/
def engineAnew (keep : Bool) (s : State) : State :=
  { s with engine := { s.engine with
    running := true, hold := none, coreAt := none, ranAt := s.now
    first := if keep then s.engine.first else .replicate 32 none
    gstate := if keep then s.engine.gstate else .replicate 32 .normal
    gchanged := if keep then s.engine.gchanged else .replicate 32 0 } }

/-- The alarms as they are read from the slices, before they move. -/
def alarmsRead (keep sameCycle : Bool) (s : State) : State :=
  { s with
    slices := Vector.ofFn fun (c : Ch) => (if linkUp s c then readHists sameCycle s (s.slice c) else s.slice c)
    engine := { s.engine with alarms := Vector.ofFn fun (c : Ch) =>
      (if linkUp s c then Vector.ofFn fun i => rebuiltBase s keep c i else s.engine.alarms[c.val]) } }

/-- The moves of the rebuild. -/
def rebuildMoves (s : State) : Moving :=
  (((channels s.ident.part).filter (linkUp s)).flatMap fun c =>
      (allConds.filter fun k => decide (rebuiltState s c k ≠ (s.alarm c k).st)).map fun k => (c, k)).foldl
    (fun w p => move p.1 p.2 (rebuiltState w.1 p.1 p.2) w) (s, [])

theorem engineStep_disableBits (s : State) : EngineStep s (disableBits s) :=
  engineStep_foldl _ (fun _ _ => engineStep_pushAck ..) _ s

theorem engineStep_rebuildMoves (s : State) : EngineStep s (rebuildMoves s).1 :=
  engineStep_foldl_moving _ (fun _ _ => engineStep_move ..) _ (s, [])

theorem engineStep_rebuildMember (keep : Bool) (m : Member) (w : Moving) : EngineStep w.1 (rebuildMember keep m w).1 := by
  unfold rebuildMember
  dsimp only
  have hset := fun st : AlarmState => engineStep_onMember m (fun a => { a with st := st }) w.1
  generalize (if keep then (w.1.member m).st else AlarmState.normal) = base
  have hmoved : ∀ new, EngineStep w.1 (moveMember m new (onMember m (fun a => { a with st := base }) w.1, w.2)).1 :=
    fun new => (hset base).trans (engineStep_moveMember m new (_, w.2))
  split
  · split
    · exact hset _
    · exact hmoved _
  · split
    · exact hmoved _
    · exact hmoved _
    · exact hset _

theorem rebuild_eq (keep sameCycle : Bool) (s : State) : rebuild keep sameCycle s =
    publishAll (List.finRange 32) ((List.finRange 19).foldl (fun w m => rebuildMember keep m w)
      (rebuildMoves (disableBits (alarmsRead keep sameCycle (engineAnew keep s))))) := rfl

/-- The rebuild is a step of the engine that runs anew on what it has read. -/
theorem engineStep_rebuild (keep sameCycle : Bool) (s : State) :
    EngineStep (alarmsRead keep sameCycle (engineAnew keep s)) (rebuild keep sameCycle s) := by
  rw [rebuild_eq]
  exact (((engineStep_disableBits _).trans (engineStep_rebuildMoves _)).trans
    (engineStep_foldl_moving _ (fun _ _ => engineStep_rebuildMember ..) _ _)).trans (engineStep_publishAll ..)

/-- What the rebuild reads: the slices' histories and the alarms, with the engine set running. -/
theorem alarmsRead_anew (keep sameCycle : Bool) (s : State) :
    (alarmsRead keep sameCycle (engineAnew keep s) = { s with
      slices := (alarmsRead keep sameCycle (engineAnew keep s)).slices
      engine := (alarmsRead keep sameCycle (engineAnew keep s)).engine }) ∧
    (alarmsRead keep sameCycle (engineAnew keep s)).engine.running = true ∧
    (alarmsRead keep sameCycle (engineAnew keep s)).engine.hold = none := by
  have hanew : engineAnew keep s = { s with engine := (engineAnew keep s).engine } := rfl
  have hfields : (engineAnew keep s).engine.running = true ∧ (engineAnew keep s).engine.hold = none := ⟨rfl, rfl⟩
  generalize engineAnew keep s = u at hanew hfields ⊢
  obtain ⟨hrunning, hhold⟩ := hfields
  refine ⟨?_, by unfold alarmsRead; exact hrunning, by unfold alarmsRead; exact hhold⟩
  have hread : alarmsRead keep sameCycle u = { u with
    slices := (alarmsRead keep sameCycle u).slices, engine := (alarmsRead keep sameCycle u).engine } := rfl
  generalize alarmsRead keep sameCycle u = t at hread ⊢
  rw [hread, hanew]

/-! ## What stands through the wake -/

/-- What the later steps of a wake leave. -/
structure WakeKeeps (u t : State) : Prop where
  power : t.power = u.power
  live : t.live = u.live
  chain : t.clk = u.clk
  mem : t.mem = u.mem
  rst : t.rst = u.rst
  interp : t.interp.running = u.interp.running
  running : t.engine.running = u.engine.running
  hold : t.engine.hold = u.engine.hold
  opened : t.port.opened = u.port.opened
  woken : (u.port.events[1]).latched = true → (t.port.events[1]).latched = true

theorem WakeKeeps.trans {u v t : State} (h : WakeKeeps u v) (h' : WakeKeeps v t) : WakeKeeps u t :=
  ⟨h'.power.trans h.power, h'.live.trans h.live, h'.chain.trans h.chain, h'.mem.trans h.mem, h'.rst.trans h.rst,
    h'.interp.trans h.interp, h'.running.trans h.running, h'.hold.trans h.hold, h'.opened.trans h.opened,
    fun hw => h'.woken (h.woken hw)⟩

theorem EngineStep.wakeKeeps {u t : State} (h : EngineStep u t) (hwoken : t.port.events[1] = u.port.events[1]) : WakeKeeps u t :=
  ⟨h.power, h.live, h.clk, h.mem, h.rst, by rw [h.interp], h.running, h.hold, by rw [h.rest], fun hw => by rw [hwoken]; exact hw⟩

theorem beginStage_events (n : NodeNo) (g : Grp) (target : Nat) (code : BitVec 16) (s : State) :
    (beginStage n g target code s).port.events[1] = s.port.events[1] := by
  unfold beginStage callChanged sendCall
  dsimp only
  generalize hv : send (Msg.call _) _ = v
  have hport : v.port = s.port := by rw [← hv, send_rest]; rfl
  have hlog : ∀ c, (emitCall g code c 0 v).port = v.port := fun c => (logOnly_emitCall g code c 0 v).port
  have hother : ∀ u : State, (onHpEvent 4 Flag.pulse u).port.events[1] = u.port.events[1] := fun u => by
    simp [onHpEvent, upd]
  rw [hother, hlog, hport]

theorem stage3Own_events (s : State) : (stage3Own s).port.events[1] = s.port.events[1] := by
  unfold stage3Own
  generalize List.finRange 32 = l
  induction l generalizing s with
  | nil => rfl
  | cons g l ih =>
    rw [List.foldl_cons, ih]
    split
    · exact beginStage_events ..
    · rfl

theorem wakeKeeps_joinLinks (s : State) : WakeKeeps s (joinLinks s) := by
  have hjoin : WakeKeeps s (joinBus .canB (joinBus .canA { s with watch := { s.watch with joined := true, nextHb := s.now } })) :=
    ⟨rfl, rfl, rfl, rfl, rfl, rfl, rfl, rfl, rfl, fun h => h⟩
  unfold joinLinks
  dsimp only
  generalize joinBus .canB (joinBus .canA { s with watch := { s.watch with joined := true, nextHb := s.now } }) = u at hjoin ⊢
  split
  · have hlead : WakeKeeps u { u with watch := { u.watch with lead := none } } :=
      ⟨rfl, rfl, rfl, rfl, rfl, rfl, rfl, rfl, rfl, fun h => h⟩
    exact (hjoin.trans hlead).trans ((engineStep_stage3Own _).wakeKeeps (stage3Own_events _))
  · exact hjoin

theorem joinLinks_joined (s : State) : (joinLinks s).watch.joined = true := by
  have hjoin : (joinBus .canB (joinBus .canA { s with watch := { s.watch with joined := true, nextHb := s.now } })).watch.joined = true := rfl
  unfold joinLinks
  dsimp only
  generalize joinBus .canB (joinBus .canA { s with watch := { s.watch with joined := true, nextHb := s.now } }) = u at hjoin ⊢
  split
  · have hstep := (engineStep_stage3Own { u with watch := { u.watch with lead := none } }).rest
    rw [hstep]
    exact hjoin
  · exact hjoin

/-- The links join with a heartbeat that carries REBUILD. -/
def linksBack (s : State) : State := { joinLinks s with watch := { (joinLinks s).watch with sendRebuild := true } }

theorem wakeKeeps_linksBack (s : State) : WakeKeeps s (linksBack s) :=
  (wakeKeeps_joinLinks s).trans ⟨rfl, rfl, rfl, rfl, rfl, rfl, rfl, rfl, rfl, fun h => h⟩

/-! ## The wake -/

/-- The node runs on the IRC chain with its banks on. -/
def awake (s : State) : State :=
  shiftTimers (s.now - s.power.deepAt) { s with
    power := { returnAt := if s.live.power.deepReturn = 0 then none else some (s.now + s.live.power.deepReturn * usMin) }
    mem := { s.mem with banks := s.mem.banks.map fun b => { b with st := .on } }
    clk := { s.clk with chain := .ircChain, goal := none, xoWaking := !(s.live.clock.srcIrc || s.clk.xoFailed) }
    lx := s.lx.map fun x => { x with lastStatus := s.now } }

/-- The wake with the records that waited for it. -/
def wakeLogged (source : Nat) (s : State) : State := flushResets (logNew s.power (emitMode [0, source] (awake s)))

/-- The engine rebuilt, with the interpreter and the port as they stood. -/
def wakeRebuilt (keep : Bool) (v : State) : State :=
  let s := rebuild keep false { v with dies := v.dies.map fun d => { d with lastFrame := v.now } }
  { s with interp := { s.interp with running := true }, port := { s.port with opened := decide (s.rst.phase = .up) } }

/-- A CORE reset taken in DEEP completes. -/
def wakeCleared (v : State) : State := coreClear { v with rst := { v.rst with coreDeep := false } }

/-- The wake is shown at the port, and the links go on where they can. -/
def wakeShown (s : State) : State :=
  if (onHpEvent 1 Flag.pulse s).clk.xoWaking ∨ ((onHpEvent 1 Flag.pulse s).bank .link).ownerHeld then onHpEvent 1 Flag.pulse s
  else linksBack (onHpEvent 1 Flag.pulse s)

theorem wakeUp_eq (source : Nat) (s : State) : wakeUp source s =
    wakeShown (if (wakeLogged source s).rst.coreDeep then wakeCleared (wakeLogged source s)
      else wakeRebuilt (decide ((s.bank .engine).st = .ret)) (wakeLogged source s)) := by
  unfold wakeUp wakeLogged awake
  dsimp only
  generalize flushResets _ = v
  generalize decide ((s.bank .engine).st = .ret) = keep
  split
  · unfold wakeCleared
    generalize coreClear _ = x
    rfl
  · unfold wakeRebuilt
    dsimp only
    generalize rebuild keep false _ = x
    rfl

/-- What stands once the node is awake, before the engine and the links go on. -/
structure Awake (s t : State) : Prop where
  mode : t.power.mode = .run
  back : s.live.power.deepReturn ≠ 0 → t.power.returnAt = some (s.now + s.live.power.deepReturn * usMin)
  live : t.live = s.live
  chain : t.clk.chain = .ircChain
  banks : ∀ b : Bank, (t.bank b).st = .on
  coreDeep : t.rst.coreDeep = s.rst.coreDeep
  phase : t.rst.phase = s.rst.phase

theorem awake_awake (s : State) : Awake s (awake s) where
  mode := rfl
  back := fun h => if_neg h
  live := rfl
  chain := rfl
  banks := fun b => by simp [awake, shiftTimers, State.bank]
  coreDeep := rfl
  phase := rfl

theorem logOnly_logNew (p : Power) (s : State) : LogOnly s (logNew p s) := by
  have hwarn : LogOnly s (if s.flags.pwrWarn.latched && !p.warnAtEntry then
      emitBlock 0 0x0602 (BitVec.ofNat 32 s.pins.vsup) [] s else s) := by
    split
    · exact logOnly_emitBlock ..
    · exact LogOnly.refl s
  unfold logNew
  dsimp only
  generalize (if s.flags.pwrWarn.latched && !p.warnAtEntry then
      emitBlock 0 0x0602 (BitVec.ofNat 32 s.pins.vsup) [] s else s) = u at hwarn ⊢
  split
  · exact hwarn.trans (logOnly_emitClk ..)
  · exact hwarn

theorem Awake.flushed {s u t : State} (h : Awake s u) (hflush : ResetsFlushed u t) : Awake s t := by
  have hmem : t.mem = u.mem := by rw [hflush]
  exact ⟨by rw [hflush]; exact h.mode, by rw [hflush]; exact h.back, by rw [hflush]; exact h.live, by rw [hflush]; exact h.chain,
    fun b => by rw [bank_congr hmem]; exact h.banks b, by rw [hflush]; exact h.coreDeep, by rw [hflush]; exact h.phase⟩

theorem awake_wakeLogged (source : Nat) (s : State) : Awake s (wakeLogged source s) :=
  (((awake_awake s).flushed (logOnly_emitBlock 0 0x0604 0 [0, source] _).resetsFlushed).flushed
    (logOnly_logNew ..).resetsFlushed).flushed (resetsFlushed_flushResets _)

/-- What the engine and the links are after a wake without a CORE reset. -/
structure WakeRebuilt (v t : State) : Prop where
  power : t.power = v.power
  live : t.live = v.live
  clk : t.clk = v.clk
  mem : t.mem = v.mem
  running : t.engine.running = true
  hold : t.engine.hold = none
  interp : t.interp.running = true
  opened : t.port.opened = decide (v.rst.phase = .up)

theorem wakeRebuilt_rebuilds (keep : Bool) (v : State) : WakeRebuilt v (wakeRebuilt keep v) := by
  unfold wakeRebuilt
  dsimp only
  generalize hu : ({ v with dies := v.dies.map fun d => { d with lastFrame := v.now } } : State) = u
  have hfields : u.power = v.power ∧ u.live = v.live ∧ u.clk = v.clk ∧ u.mem = v.mem ∧ u.rst = v.rst := by
    rw [← hu]; exact ⟨rfl, rfl, rfl, rfl, rfl⟩
  obtain ⟨hpower, hlive, hclk, hmem, hrst⟩ := hfields
  have hstep := engineStep_rebuild keep false u
  obtain ⟨hbase, hrunning, hhold⟩ := alarmsRead_anew keep false u
  generalize alarmsRead keep false (engineAnew keep u) = x at hstep hbase hrunning hhold
  generalize rebuild keep false u = t at hstep ⊢
  have hrst' : t.rst = v.rst := by rw [hstep.rst, hbase]; exact hrst
  exact ⟨by rw [hstep.power, hbase]; exact hpower, by rw [hstep.live, hbase]; exact hlive, by rw [hstep.clk, hbase]; exact hclk,
    by rw [hstep.mem, hbase]; exact hmem, hstep.running.trans hrunning, hstep.hold.trans hhold, rfl, by rw [← hrst']⟩

/-- What a CORE reset that completes at the wake leaves. -/
structure WakeCleared (v t : State) : Prop where
  power : t.power = v.power
  live : t.live = v.live
  clk : t.clk = v.clk
  running : t.engine.running = false
  bank : (t.bank .engine).st = .clearing
  coreDeep : t.rst.coreDeep = false

theorem wakeCleared_clears (v : State) : WakeCleared v (wakeCleared v) := by
  have hbegun : ({ v with rst := { v.rst with coreDeep := false } } : State).power = v.power ∧
      ({ v with rst := { v.rst with coreDeep := false } } : State).live = v.live ∧
      ({ v with rst := { v.rst with coreDeep := false } } : State).clk = v.clk ∧
      ({ v with rst := { v.rst with coreDeep := false } } : State).rst.coreDeep = false := ⟨rfl, rfl, rfl, rfl⟩
  unfold wakeCleared
  generalize ({ v with rst := { v.rst with coreDeep := false } } : State) = u at hbegun ⊢
  obtain ⟨hpower, hlive, hclk, hdeep⟩ := hbegun
  rw [coreClear_eq]
  have hquiet := coreQuiet_coreQuieted u
  generalize coreQuieted u = x at hquiet ⊢
  have htouched := ((coreTouched_coreBase x).trans (coreTouched_clearBank .interp _)).trans (coreTouched_clearBank .engine _)
  have hengine : (clearBank .engine (clearBank .interp (coreBase x))).engine = (clearEngine x).engine := by
    rw [clearBank_engine, clearBank_engine, coreBase_eq, linksForgotten_engine, relockRoles_engine, clearCaller_engine]
  exact ⟨by rw [htouched, ← hpower, hquiet], by rw [htouched, ← hlive, hquiet], by rw [htouched, ← hclk, hquiet],
    by rw [hengine]; rfl, bank_clearBank_same .., by rw [htouched, ← hdeep, hquiet]⟩

theorem wakeShown_keeps (u : State) : WakeKeeps u (wakeShown u) ∧ ((wakeShown u).port.events[1]).latched = true := by
  have hshown : WakeKeeps u (onHpEvent 1 Flag.pulse u) :=
    ⟨rfl, rfl, rfl, rfl, rfl, rfl, rfl, rfl, rfl, fun _ => by simp [onHpEvent, upd, Flag.pulse_latched]⟩
  have hwoken : ((onHpEvent 1 Flag.pulse u).port.events[1]).latched = true := by simp [onHpEvent, upd, Flag.pulse_latched]
  unfold wakeShown
  generalize onHpEvent 1 Flag.pulse u = v at hshown hwoken ⊢
  split
  · exact ⟨hshown, hwoken⟩
  · exact ⟨hshown.trans (wakeKeeps_linksBack v), (wakeKeeps_linksBack v).woken hwoken⟩

/-- What the wake of a node leaves. -/
structure Woken (s t : State) : Prop where
  mode : t.power.mode = .run
  live : t.live = s.live
  shown : (t.port.events[1]).latched = true
  chain : t.clk.chain = .ircChain
  rebuilt : s.rst.coreDeep = false → t.engine.running = true ∧ t.engine.hold = none ∧ t.interp.running = true ∧
    t.port.opened = decide (s.rst.phase = .up) ∧ ∀ b : Bank, (t.bank b).st = .on
  cleared : s.rst.coreDeep = true → t.engine.running = false ∧ (t.bank .engine).st = .clearing ∧ t.rst.coreDeep = false
  back : s.live.power.deepReturn ≠ 0 → t.power.returnAt = some (s.now + s.live.power.deepReturn * usMin)

theorem woken_wakeUp (source : Nat) (s : State) : Woken s (wakeUp source s) := by
  rw [wakeUp_eq]
  have hawake := awake_wakeLogged source s
  generalize wakeLogged source s = v at hawake ⊢
  cases hdeep : s.rst.coreDeep with
  | true =>
    rw [if_pos (hawake.coreDeep.trans hdeep)]
    have hcleared := wakeCleared_clears v
    generalize wakeCleared v = u at hcleared ⊢
    obtain ⟨hkeeps, hshown⟩ := wakeShown_keeps u
    generalize wakeShown u = t at hkeeps hshown ⊢
    exact {
      mode := by rw [hkeeps.power, hcleared.power]; exact hawake.mode
      live := by rw [hkeeps.live, hcleared.live]; exact hawake.live
      shown := hshown
      chain := by rw [hkeeps.chain, hcleared.clk]; exact hawake.chain
      rebuilt := fun h => Bool.noConfusion (hdeep.symm.trans h)
      cleared := fun _ => ⟨hkeeps.running.trans hcleared.running, by rw [bank_congr hkeeps.mem]; exact hcleared.bank,
        by rw [hkeeps.rst]; exact hcleared.coreDeep⟩
      back := by rw [hkeeps.power, hcleared.power]; exact hawake.back }
  | false =>
    rw [if_neg (by rw [hawake.coreDeep, hdeep]; exact Bool.false_ne_true)]
    have hrebuilt := wakeRebuilt_rebuilds (decide ((s.bank .engine).st = .ret)) v
    generalize wakeRebuilt (decide ((s.bank .engine).st = .ret)) v = u at hrebuilt ⊢
    obtain ⟨hkeeps, hshown⟩ := wakeShown_keeps u
    generalize wakeShown u = t at hkeeps hshown ⊢
    exact {
      mode := by rw [hkeeps.power, hrebuilt.power]; exact hawake.mode
      live := by rw [hkeeps.live, hrebuilt.live]; exact hawake.live
      shown := hshown
      chain := by rw [hkeeps.chain, hrebuilt.clk]; exact hawake.chain
      rebuilt := fun _ => ⟨hkeeps.running.trans hrebuilt.running, hkeeps.hold.trans hrebuilt.hold,
        hkeeps.interp.trans hrebuilt.interp, by rw [hkeeps.opened, hrebuilt.opened, hawake.phase],
        fun b => by rw [bank_congr hkeeps.mem, bank_congr hrebuilt.mem]; exact hawake.banks b⟩
      cleared := fun h => Bool.noConfusion (hdeep.symm.trans h)
      back := by rw [hkeeps.power, hrebuilt.power]; exact hawake.back }

theorem wake_acts {src : WakeSource} {s : State} (hdeep : s.power.mode = .deep)
    (hon : src = .trip ∨ s.power.deepWake.getLsbD (wakeNo src) = true) (hstands : sourceStands src s = true) :
    wake src s = wakeUp (wakeNo src) s := if_pos ⟨hdeep, hon, hstands⟩

theorem wakeXoReady_ready {edges : Nat} {s : State} (hmode : s.power.mode ≠ .deep) (hwaking : s.clk.xoWaking = true)
    (hpassed : s.clk.xoPassed = true) : wakeXoReady edges s =
      if 16 ≤ edges then
        if ((onClk (fun c => { c with chain := .xo, goal := none, xoWaking := false }) s).bank .link).ownerHeld then
          onClk (fun c => { c with chain := .xo, goal := none, xoWaking := false }) s
        else linksBack (onClk (fun c => { c with chain := .xo, goal := none, xoWaking := false }) s)
      else s := by
  unfold wakeXoReady
  rw [decide_eq_true hmode, hwaking, hpassed]
  by_cases h : 16 ≤ edges
  · rw [if_pos h, show edgesPass edges = true from decide_eq_true h]; rfl
  · rw [if_neg h, show edgesPass edges = false from decide_eq_false h]; rfl

theorem deepReturn_due {s : State} {t : Tick} (hback : s.power.returnAt = some t) (hmode : s.power.mode ≠ .deep) : deepReturn s =
    if s.now < t then s
    else if anyUnacked s = false ∧ deepRefusal s = none then enterDeep s
    else { s with power := { s.power with returnAt := some (t + usMin) } } := by
  unfold deepReturn
  rw [hback]
  simp only [hmode, false_or]

/-! ## The lines of POWER.MODE (15 R797, R798) -/

theorem logOnly_logMode (h : LineHdr) (m : PowerMode) (s : State) : LogOnly s (logMode h m s) := logOnly_logWrite ..

theorem deepRefusal_congr {s u : State} (hpower : u.power = s.power) (hlive : u.live = s.live) (hcaller : u.caller = s.caller)
    (hmarch : u.interp.march = s.interp.march) (hclk : u.clk = s.clk) : deepRefusal u = deepRefusal s := by
  unfold deepRefusal callRuns allCalls
  rw [hpower, hlive, hcaller, hmarch, hclk]

theorem powerDown_dark (s : State) : (powerDown s).panel.backlight = false := by
  unfold powerDown
  split
  · rfl
  · rfl
  · rfl
  · exact (atRest_panel s).2.2.2.1
  · split <;> rfl

theorem LogOnly.mode {u t x : State} {m : PowerMode} (h : LogOnly u t) (h' : LogOnly { t with power := { t.power with mode := m } } x) :
    LogOnly { u with power := { u.power with mode := m } } x := by
  unfold LogOnly at *
  rw [h', h]

end Sys2Proof.Machine

/-! THE POWER MODES: the lines of POWER.MODE, the wake and the return (15 R796–R806). -/

namespace Sys2Proof.Machine

theorem runMode_runs {h : LineHdr} {s : State} (hacc : Accepted h (txt "SET") s) (hmay : may (setStart h s) h .engineer = true) :
    LineLeaves (.powerModeRun h) h (txt "SET") {} s fun w =>
      LogOnly { setStart h s with power := { (setStart h s).power with mode := .run } } w := by
  have hlog := logOnly_logMode h .run (setStart h s)
  have hbody : ∃ w, bodyRunMode h (setStart h s) = ok w ∧
      LogOnly { logMode h .run (setStart h s) with power := { (logMode h .run (setStart h s)).power with mode := .run } } w := by
    refine ⟨_, if_neg (by rw [hmay]; exact Bool.noConfusion), ?_⟩
    split
    · exact LogOnly.refl _
    · exact logOnly_emitBlock ..
  obtain ⟨w, hrun, hleaves⟩ := hbody
  have hall := hlog.mode hleaves
  obtain ⟨t, hexec, hreply, honly⟩ := line_replies h (txt "SET") (bodyRunMode h) s w _ hacc hrun (.of_eq hall.port hall.interp)
  exact ⟨t, hexec, hreply, w, honly, hall⟩

/-- The mode SLEEP: the panel goes dark. -/
def asleep (h : LineHdr) (s : State) : State := { logMode h .sleep s with power := { (logMode h .sleep s).power with mode := .sleep } }

theorem sleepMode_runs {h : LineHdr} {s : State} (hacc : Accepted h (txt "SET") s) (hmay : may (setStart h s) h .engineer = true) :
    LineLeaves (.powerModeSleep h) h (txt "SET") {} s fun w =>
      LogOnly { setStart h s with power := { (setStart h s).power with mode := .sleep }, panel := w.panel } w ∧ w.panel.backlight = false := by
  have hlog := logOnly_logMode h .sleep (setStart h s)
  have hbody : ∃ w, bodySleepMode h (setStart h s) = ok w ∧ LogOnly (powerDown (asleep h (setStart h s))) w := by
    refine ⟨_, if_neg (by rw [hmay]; exact Bool.noConfusion), ?_⟩
    split
    · exact LogOnly.refl _
    · exact logOnly_emitBlock ..
  obtain ⟨w, hrun, hleaves⟩ := hbody
  have hasleep : LogOnly { setStart h s with power := { (setStart h s).power with mode := .sleep } } (asleep h (setStart h s)) :=
    hlog.mode (LogOnly.refl _)
  have hpanel := (hasleep.panelOnly.trans (panelOnly_powerDown _)).trans hleaves.panelOnly
  have hdark : w.panel.backlight = false := by rw [hleaves.panel]; exact powerDown_dark _
  obtain ⟨t, hexec, hreply, honly⟩ := line_replies h (txt "SET") (bodySleepMode h) s w _ hacc hrun
    (.of_eq (by rw [hpanel]; rfl) (by rw [hpanel]; rfl))
  exact ⟨t, hexec, hreply, w, honly, hpanel, hdark⟩

theorem deepMode_refused {h : LineHdr} {s : State} {e : Err} (hacc : Accepted h (txt "SET") s)
    (hmay : may (setStart h s) h .engineer = true) (hrefusal : deepRefusal s = some e) : LineRefused (.powerModeDeep h) h (txt "SET") e s := by
  have hline := lineTaken_lineStart h (txt "SET") s
  have hrefusal' : deepRefusal (setStart h s) = some e :=
    (deepRefusal_congr hline.power hline.live hline.caller hline.march hline.clk).trans hrefusal
  refine line_refused h (txt "SET") (bodyDeepMode h) s e hacc ?_
  refine (if_neg (by rw [show may (lineStart h (txt "SET") s) h .engineer = true from hmay]; exact Bool.noConfusion)).trans ?_
  rw [show deepRefusal (lineStart h (txt "SET") s) = some e from hrefusal']

/-- The line's reply goes out, then the node goes to DEEP. -/
theorem deepMode_runs {h : LineHdr} {s : State} (hacc : Accepted h (txt "SET") s) (hmay : may (setStart h s) h .engineer = true)
    (hrefusal : deepRefusal s = none) : runLine h (txt "SET") (bodyDeepMode h) s =
      enterDeep (deliver (waiter h (logMode h .deep (setStart h s))) (plainReply none) (logMode h .deep (setStart h s))) := by
  have hline := lineTaken_lineStart h (txt "SET") s
  have hrefusal' : deepRefusal (setStart h s) = none :=
    (deepRefusal_congr hline.power hline.live hline.caller hline.march hline.clk).trans hrefusal
  have hscript : ¬ isScript h.sess = true := by
    have hheard := hacc.1
    cases hs : h.sess with
    | script n => rw [hs] at hheard; exact absurd hheard Bool.false_ne_true
    | _ => exact Bool.false_ne_true
  refine runLine_held hacc ?_
  refine (if_neg (by rw [show may (lineStart h (txt "SET") s) h .engineer = true from hmay]; exact Bool.noConfusion)).trans ?_
  rw [show deepRefusal (lineStart h (txt "SET") s) = none from hrefusal']
  exact if_neg hscript

/-- A state whose work has left the settings, the engine and what they show as they were. -/
structure LineQuiet (s u : State) : Prop where
  now : u.now = s.now
  nodeTime : u.nodeTime = s.nodeTime
  ident : u.ident = s.ident
  live : u.live = s.live
  slices : u.slices = s.slices
  engine : u.engine = s.engine
  caller : u.caller = s.caller
  rst : u.rst = s.rst

theorem lineQuiet_logMode (h : LineHdr) (m : PowerMode) (s : State) : LineQuiet s (logMode h m (setStart h s)) :=
  have hline := lineTaken_lineStart h (txt "SET") s
  have hlog := logOnly_logMode h m (setStart h s)
  ⟨hlog.now.trans hline.now, hlog.nodeTime.trans hline.nodeTime, hlog.ident.trans hline.ident, hlog.live.trans hline.live,
    hlog.slices.trans hline.slices, hlog.engine.trans hline.engine, hlog.caller.trans hline.caller, hlog.rst.trans hline.rst⟩

/-- What stands in DEEP once the line's reply has gone out. -/
theorem inDeep_deepMode {h : LineHdr} {s : State} (hacc : Accepted h (txt "SET") s) : ∃ d,
    InDeep d (enterDeep (deliver (waiter h (logMode h .deep (setStart h s))) (plainReply none) (logMode h .deep (setStart h s)))) ∧
    d.now = s.now ∧ d.live = s.live ∧ d.slices = s.slices ∧ d.nodeTime = s.nodeTime ∧
    (s.rst.phase = .up → configLoaded d.rst.phase = true ∧ alLevel d = alLevel s ∧ coLevel d = coLevel s) ∧
    (h.sess = .host → d.port.answer.reply ≠ none ∧ Replied h (txt "SET") {} s d) := by
  have hquiet := lineQuiet_logMode h .deep s
  have hlog := logOnly_logMode h .deep (setStart h s)
  have hwaiter : waiter h (logMode h .deep (setStart h s)) = waiter h (setStart h s) := by unfold waiter; rw [hlog.interp]
  rw [hwaiter]
  obtain ⟨hreply, -⟩ := reply_stands h (txt "SET") s (logMode h .deep (setStart h s)) (plainReply none) hacc.1 (.of_eq hlog.port hlog.interp)
  have hkeeps := entryKeeps_deliver (waiter h (setStart h s)) (plainReply none) (logMode h .deep (setStart h s))
  have hreply' : Replied h (txt "SET") {} s (deliver (waiter h (setStart h s)) (plainReply none) (logMode h .deep (setStart h s))) := by
    unfold Replied at hreply ⊢
    rw [answerAt_settle] at hreply
    exact hreply
  generalize logMode h .deep (setStart h s) = u at hquiet hkeeps hreply' ⊢
  generalize deliver (waiter h (setStart h s)) (plainReply none) u = d at hkeeps hreply' ⊢
  refine ⟨d, inDeep_enterDeep d, hkeeps.now.trans hquiet.now, hkeeps.live.trans hquiet.live, hkeeps.slices.trans hquiet.slices,
    hkeeps.nodeTime.trans hquiet.nodeTime, fun hup => ?_, fun hhost => ⟨?_, hreply'⟩⟩
  · have hloaded : configLoaded u.rst.phase = true := by rw [hquiet.rst, hup]; rfl
    refine ⟨hkeeps.replies.loaded hloaded, (funext (alLevel_loaded hkeeps hloaded)).trans ?_, ?_⟩
    · exact funext (alLevel_congr hquiet.live (by rw [hquiet.rst]) hquiet.ident hquiet.slices hquiet.engine hquiet.caller)
    · exact funext (coLevel_congr (hkeeps.live.trans hquiet.live) (hkeeps.engine.trans hquiet.engine) (hkeeps.caller.trans hquiet.caller))
  · unfold Replied at hreply'
    rw [hhost] at hreply'
    rw [Option.some.inj hreply']
    exact Option.some_ne_none _

theorem replied_of_answer {h : LineHdr} {verb : Text} {r : Reply} {s d t : State} (hhost : h.sess = .host) (hreply : Replied h verb r s d)
    (hanswer : t.port.answer = d.port.answer) : Replied h verb r s t := by
  unfold Replied at hreply ⊢
  rw [hhost] at hreply ⊢
  exact (congrArg some hanswer).trans hreply

theorem powerLines {h : LineHdr} {s : State} (hacc : Accepted h (txt "SET") s) (hmay : may (setStart h s) h .engineer = false) :
    LineRefused (.powerModeRun h) h (txt "SET") .e06 s ∧ LineRefused (.powerModeSleep h) h (txt "SET") .e06 s ∧
      LineRefused (.powerModeDeep h) h (txt "SET") .e06 s :=
  ⟨line_refused h _ (bodyRunMode h) s .e06 hacc (if_pos hmay), line_refused h _ (bodySleepMode h) s .e06 hacc (if_pos hmay),
    line_refused h _ (bodyDeepMode h) s .e06 hacc (if_pos hmay)⟩

/-- Settles O56: each line of POWER.MODE by what refuses it, the entry in its steps, and each event of the wake. -/
theorem powerModesEnterAndWake : Obligations.PowerModesEnterAndWake := by
  refine ⟨?lines, fun s => ⟨fun src => ⟨fun hdeep hon hstands => ?wakes, fun h => ?still, fun hsrc hoff => ?barred⟩,
    fun hdeep hon => ⟨fun hdue => ?timer, fun hearly => ?early⟩, fun edges hmode hwaking hpassed => ⟨fun hedges => ?xo, fun hedges => ?noXo⟩,
    fun t hback hmode => ⟨fun hearly => ?tooEarly, fun hdue hquiet hrefusal => ?goes, fun hdue h => ?again⟩⟩⟩
  case lines =>
    rintro h s u hacc rfl
    refine ⟨powerLines hacc, fun hmay => ⟨runMode_runs hacc hmay, sleepMode_runs hacc hmay, fun hsleep => ?_, fun hmode hbusy => ?_,
      fun hmode hdead hcalls hmarch => ⟨fun hfail => ?_, fun hgood => ?_⟩⟩⟩
    · exact deepMode_refused hacc hmay (if_pos hsleep)
    · refine deepMode_refused hacc hmay ((if_neg hmode).trans (if_pos ?_))
      exact hbusy.imp_right fun h => h.imp_right Option.isSome_iff_ne_none.2
    · have hfree : ¬ (s.live.dead.en = true ∨ callRuns s = true ∨ s.interp.march.isSome = true) := by
        rw [hdead, hcalls, hmarch]; decide
      exact deepMode_refused hacc hmay ((if_neg hmode).trans ((if_neg hfree).trans (if_pos hfail)))
    · have hfree : ¬ (s.live.dead.en = true ∨ callRuns s = true ∨ s.interp.march.isSome = true) := by
        rw [hdead, hcalls, hmarch]; decide
      have hrefusal : deepRefusal s = none :=
        (if_neg hmode).trans ((if_neg hfree).trans (if_neg (by rw [hgood]; exact Bool.false_ne_true)))
      obtain ⟨d, hin, hnow, hlive, hslices, htime, hup, hhost⟩ := inDeep_deepMode hacc
      have hrun := deepMode_runs hacc hmay hrefusal
      generalize enterDeep _ = t at hin hrun
      obtain ⟨hpmode, hpat, hpwake, hpperiod⟩ := hin.power
      refine ⟨_, congrArg finish hrun, hpmode, hpat.trans hnow, hpwake.trans (by rw [hlive]), hpperiod.trans (by rw [hlive]), hin.running,
        fun h => ?_, hin.closed.1, hin.closed.2, hin.can, fun b => (hin.banks b).trans (by rw [hlive]), hin.live.trans hlive,
        hin.slices.trans hslices, hin.nodeTime.trans htime, fun hh => ?_⟩
      · obtain ⟨hloaded, hal, hco⟩ := hup h
        have hhold := hin.hold hloaded
        rw [hal, hco] at hhold
        exact hhold
      · obtain ⟨hreplied, hstands⟩ := hhost hh
        exact replied_of_answer (t := settle t) hh hstands (hin.answer hreplied)
  case wakes =>
    have hwoken := woken_wakeUp (wakeNo src) s
    exact doesSo_of (congrArg finish (wake_acts hdeep hon hstands))
      ⟨hwoken.mode, hwoken.live, hwoken.shown, hwoken.chain, hwoken.rebuilt, hwoken.cleared, hwoken.back⟩
  case still =>
    refine does_of (congrArg finish (if_neg ?_))
    rintro ⟨hdeep, -, hstands⟩
    rcases h with h | h
    · exact h hdeep
    · exact Bool.noConfusion (h.symm.trans hstands)
  case barred =>
    refine does_of (congrArg finish (if_neg ?_))
    rintro ⟨-, hon, -⟩
    rcases hon with h | h
    · exact hsrc h
    · exact Bool.noConfusion (hoff.symm.trans h)
  case timer =>
    have hwoken := woken_wakeUp (wakeNo .timer) s
    have hrun : deepTimerWake s = wakeUp (wakeNo .timer) s := (if_pos hdue).trans (wake_acts hdeep (.inr hon) rfl)
    exact doesSo_of (congrArg finish hrun) ⟨hwoken.mode, hwoken.shown, hwoken.live⟩
  case early => exact does_of (congrArg finish (if_neg (Nat.not_le.2 hearly)))
  case xo =>
    have hrun := (wakeXoReady_ready hmode hwaking hpassed).trans (if_pos hedges)
    have hbegun : (onClk (fun c => { c with chain := .xo, goal := none, xoWaking := false }) s).clk.chain = .xo ∧
        (onClk (fun c => { c with chain := .xo, goal := none, xoWaking := false }) s).clk.xoWaking = false ∧
        (onClk (fun c => { c with chain := .xo, goal := none, xoWaking := false }) s).live = s.live ∧
        (onClk (fun c => { c with chain := .xo, goal := none, xoWaking := false }) s).mem = s.mem := ⟨rfl, rfl, rfl, rfl⟩
    generalize onClk (fun c => { c with chain := .xo, goal := none, xoWaking := false }) s = u at hrun hbegun
    obtain ⟨hchain, hwaking', hlive, hmem⟩ := hbegun
    rw [bank_congr hmem] at hrun
    by_cases hheld : (s.bank .link).ownerHeld = true
    · exact doesSo_of (congrArg finish (hrun.trans (if_pos hheld)))
        ⟨hchain, hwaking', hlive, fun h => Bool.noConfusion (h.symm.trans hheld)⟩
    · have hkeeps := wakeKeeps_linksBack u
      refine doesSo_of (congrArg finish (hrun.trans (if_neg hheld))) ⟨?_, ?_, hkeeps.live.trans hlive, fun _ => ⟨joinLinks_joined u, rfl⟩⟩
      · rw [hkeeps.chain]; exact hchain
      · rw [hkeeps.chain]; exact hwaking'
  case noXo => exact does_of (congrArg finish ((wakeXoReady_ready hmode hwaking hpassed).trans (if_neg (Nat.not_le.2 hedges))))
  case tooEarly => exact does_of (congrArg finish ((deepReturn_due hback hmode).trans (if_pos hearly)))
  case goes =>
    have hin := inDeep_enterDeep s
    refine doesSo_of (congrArg finish ((deepReturn_due hback hmode).trans ((if_neg (Nat.not_lt.2 hdue)).trans (if_pos ⟨hquiet, hrefusal⟩))))
      ⟨hin.power.1, hin.running, hin.live, hin.slices⟩
  case again =>
    refine does_of (congrArg finish ((deepReturn_due hback hmode).trans ((if_neg (Nat.not_lt.2 hdue)).trans (if_neg ?_))))
    rintro ⟨hquiet, hrefusal⟩
    rcases h with h | h
    · exact Bool.noConfusion (h.symm.trans hquiet)
    · exact h hrefusal

end Sys2Proof.Machine

/-! THE ALARMS AS THE ENGINE MOVES THEM (04 R215–R225): what each operation of the engine makes of one alarm, and that it leaves the
others. -/

namespace Sys2Proof.Machine

/-! ## What keeps every alarm -/

/-- What leaves the alarms and the die links as they are. -/
structure AlarmsStay (u t : State) : Prop where
  alarms : t.engine.alarms = u.engine.alarms
  dies : t.dies = u.dies

theorem AlarmsStay.refl (u : State) : AlarmsStay u u := ⟨rfl, rfl⟩

theorem AlarmsStay.trans {u v t : State} (h : AlarmsStay u v) (h' : AlarmsStay v t) : AlarmsStay u t :=
  ⟨h'.alarms.trans h.alarms, h'.dies.trans h.dies⟩

theorem AlarmsStay.alarm {u t : State} (h : AlarmsStay u t) (c : Ch) (k : Cond) : t.alarm c k = u.alarm c k := by
  unfold State.alarm; rw [h.alarms]

theorem AlarmsStay.of_engine {u t : State} (hengine : t.engine = u.engine) (hdies : t.dies = u.dies) : AlarmsStay u t :=
  ⟨by rw [hengine], hdies⟩

theorem LogOnly.alarmsStay {u t : State} (h : LogOnly u t) : AlarmsStay u t := .of_engine h.engine h.dies

theorem alarmsStay_foldl {α : Type} {f : State → α → State} (hf : ∀ s a, AlarmsStay s (f s a)) (l : List α) (s : State) :
    AlarmsStay s (l.foldl f s) := by
  induction l generalizing s with
  | nil => exact .refl s
  | cons a l ih => exact (hf s a).trans (ih _)

theorem alarmsStay_send (m : Msg) (s : State) : AlarmsStay s (send m s) := .of_engine (send_engine ..) (send_dies ..)

theorem alarmsStay_emit (e : Event) (s : State) : AlarmsStay s (emit e s) := (logOnly_emit ..).alarmsStay

theorem publish_dies (x : Change) (s : State) : (publish x s).dies = s.dies := by
  unfold publish
  cases x.of <;> dsimp only <;> split <;> simp

theorem alarmsStay_publish (x : Change) (s : State) : AlarmsStay s (publish x s) := .of_engine (publish_engine x s) (publish_dies x s)

theorem alarmsStay_markFirst (chs : List Change) (g : Grp) (s : State) : AlarmsStay s (markFirst chs g s) := by
  unfold markFirst
  split
  · exact .refl s
  · dsimp only
    split
    · exact .refl s
    · exact ⟨by rw [emit_engine], by rw [emit_dies]⟩

theorem alarmsStay_updateGroup (g : Grp) (s : State) : AlarmsStay s (updateGroup g s) := by
  have hmark : AlarmsStay s (if firstClears (memberStates s g) ∧ s.engine.first[g.val] ≠ none then
      { s with engine := { s.engine with first := upd s.engine.first g fun _ => none } } else s) := by
    split <;> exact ⟨rfl, rfl⟩
  unfold updateGroup
  dsimp only at hmark ⊢
  generalize (if firstClears (memberStates s g) ∧ s.engine.first[g.val] ≠ none then _ else s) = u at hmark ⊢
  split
  · exact hmark
  · refine hmark.trans (AlarmsStay.trans ?_ ((alarmsStay_emit ..).trans (alarmsStay_send ..)))
    exact ⟨rfl, rfl⟩

theorem alarmsStay_publishAll (gs : List Grp) (w : Moving) : AlarmsStay w.1 (publishAll gs w) :=
  ((alarmsStay_foldl (fun s x => alarmsStay_publish x s) _ _).trans (alarmsStay_foldl (fun s g => alarmsStay_markFirst w.2 g s) gs _)).trans
    (alarmsStay_foldl (fun s g => alarmsStay_updateGroup g s) gs _)

theorem beginStage_dies (n : NodeNo) (g : Grp) (k : Nat) (code : BitVec 16) (s : State) : (beginStage n g k code s).dies = s.dies := by
  simp [beginStage, callChanged, emitCall, sendCall]

theorem endCall_dies (n : NodeNo) (g : Grp) (s : State) : (endCall n g s).dies = s.dies := by
  simp [endCall, callChanged, emitCall, sendCall]

theorem groupCall_dies (n : NodeNo) (g : Grp) (old new : AlarmState) (entered deadman missed : Bool) (s : State) :
    (groupCall n g old new entered deadman missed s).dies = s.dies := by
  have hstart : ∀ cls u, (startCall n g cls u).dies = u.dies := fun cls u => by simp [startCall, beginStage_dies]
  have hrestart : ∀ u, (restartCall n g u).dies = u.dies := fun u => by simp [restartCall, beginStage_dies]
  have hreclass : ∀ cls u, (reclassCall n g cls u).dies = u.dies := fun cls u => by simp [reclassCall, sendCall]
  simp only [groupCall, apply_ite State.dies, hstart, endCall_dies, hrestart, hreclass, ite_self]

theorem alarmsStay_groupCall (n : NodeNo) (g : Grp) (old new : AlarmState) (entered deadman missed : Bool) (s : State) :
    AlarmsStay s (groupCall n g old new entered deadman missed s) := .of_engine (groupCall_engine ..) (groupCall_dies ..)

/-- The end of an engine step moves no alarm. -/
theorem alarmsStay_commit (more : List Grp) (w : Moving) : AlarmsStay w.1 (commit more w) := by
  unfold commit
  refine (alarmsStay_publishAll ..).trans (alarmsStay_foldl (fun s p => ?_) _ _)
  dsimp only
  refine AlarmsStay.trans ?_ (alarmsStay_groupCall ..)
  split
  · exact alarmsStay_send ..
  · exact .refl s

theorem alarmsStay_onMember (m : Member) (f : G31Alarm → G31Alarm) (s : State) : AlarmsStay s (onMember m f s) := ⟨rfl, rfl⟩

theorem alarmsStay_moveMember (m : Member) (new : AlarmState) (w : Moving) : AlarmsStay w.1 (moveMember m new w).1 := by
  unfold moveMember
  dsimp only
  split
  · exact .refl _
  · exact alarmsStay_onMember ..

/-- A cause of G31 moves its member alone. -/
theorem alarmsStay_setCause (m : Member) (v : Bool) (s : State) : AlarmsStay s (setCause m v s) := by
  unfold setCause
  dsimp only
  split
  · exact alarmsStay_onMember ..
  · split
    · refine AlarmsStay.trans (v := onHpEvent 3 Flag.pulse (onMember m (fun a => { a with cause := v }) s)) ⟨rfl, rfl⟩ ?_
      split
      · exact (alarmsStay_moveMember m _ (_, [])).trans (alarmsStay_commit ..)
      · exact (alarmsStay_moveMember m _ (_, [])).trans (alarmsStay_commit ..)
      · exact alarmsStay_commit [] (_, [])
    · refine (alarmsStay_onMember m (fun a => { a with cause := v }) s).trans ?_
      split
      · exact (alarmsStay_moveMember m _ (_, [])).trans (alarmsStay_commit ..)
      · exact (alarmsStay_moveMember m _ (_, [])).trans (alarmsStay_commit ..)
      · exact alarmsStay_commit [] (_, [])

/-! ## One alarm -/

theorem alarm_onAlarm (c d : Ch) (k j : Cond) (f : Alarm → Alarm) (s : State) :
    (onAlarm c k f s).alarm d j = if c = d ∧ k = j then f (s.alarm d j) else s.alarm d j := by
  unfold State.alarm onAlarm
  dsimp only
  rw [upd_get]
  by_cases hc : c = d
  · subst hc
    rw [if_pos rfl]
    rw [upd_get]
    by_cases hk : k = j
    · subst hk; simp
    · rw [if_neg (fun e => hk (condIdx_inj e)), if_neg (fun e => hk e.2)]
  · simp [hc]

theorem alarm_pushAck (c d : Ch) (k j : Cond) (v : Bool) (s : State) : (pushAck c k v s).alarm d j =
    if c = d ∧ k = j then { s.alarm d j with ackBit := v } else s.alarm d j := alarm_onAlarm ..

/-- What an operation on one alarm leaves: the others, the conditions as last read, and the times of the dies' frames. -/
structure AlarmMoved (c : Ch) (k : Cond) (u t : State) : Prop where
  step : EngineStep u t
  others : ∀ d j, (d, j) ≠ (c, k) → t.alarm d j = u.alarm d j
  on : (t.alarm c k).on = (u.alarm c k).on
  steep : (t.alarm c k).steep = (u.alarm c k).steep
  frames : ∀ d : Die, (t.dies[d.val]).lastFrame = (u.dies[d.val]).lastFrame
  g31 : t.engine.g31 = u.engine.g31

theorem AlarmMoved.refl (c : Ch) (k : Cond) (u : State) : AlarmMoved c k u u := ⟨.refl u, fun _ _ _ => rfl, rfl, rfl, fun _ => rfl, rfl⟩

theorem AlarmMoved.trans {c : Ch} {k : Cond} {u v t : State} (h : AlarmMoved c k u v) (h' : AlarmMoved c k v t) : AlarmMoved c k u t :=
  ⟨h.step.trans h'.step, fun d j hne => (h'.others d j hne).trans (h.others d j hne), h'.on.trans h.on, h'.steep.trans h.steep,
    fun d => (h'.frames d).trans (h.frames d), h'.g31.trans h.g31⟩

theorem alarmMoved_onAlarm {c : Ch} {k : Cond} {f : Alarm → Alarm} (s : State) (hon : ∀ a, (f a).on = a.on)
    (hsteep : ∀ a, (f a).steep = a.steep) : AlarmMoved c k s (onAlarm c k f s) where
  step := engineStep_onAlarm ..
  others := fun d j hne => by
    rw [alarm_onAlarm, if_neg]
    rintro ⟨rfl, rfl⟩
    exact hne rfl
  on := by rw [alarm_onAlarm, if_pos ⟨rfl, rfl⟩, hon]
  steep := by rw [alarm_onAlarm, if_pos ⟨rfl, rfl⟩, hsteep]
  frames := fun _ => rfl
  g31 := rfl

theorem alarmMoved_pushAck (c : Ch) (k : Cond) (v : Bool) (s : State) : AlarmMoved c k s (pushAck c k v s) where
  step := engineStep_pushAck ..
  others := fun d j hne => by
    rw [alarm_pushAck, if_neg]
    rintro ⟨rfl, rfl⟩
    exact hne rfl
  on := by rw [alarm_pushAck, if_pos ⟨rfl, rfl⟩]
  steep := by rw [alarm_pushAck, if_pos ⟨rfl, rfl⟩]
  frames := fun d => by
    unfold pushAck
    dsimp only
    rw [upd_get]
    split <;> rfl
  g31 := rfl

/-- An alarm as it has moved, before its acknowledge bit is written. -/
def movedAlarm (new : AlarmState) (s : State) (a : Alarm) : Alarm :=
  { a with
    st := new
    delayEnd := if new = .steeping then a.delayEnd else none
    shelfEnd := if new = .shelved then a.shelfEnd else none
    entered := if new = .activeUnack then s.cycle else a.entered
    enteredTime := if new = .activeUnack then s.nodeTime else a.enteredTime
    changed := s.nodeTime }

/-- The acknowledge bit's write of a move. -/
def moveAck (c : Ch) (k : Cond) (old new : AlarmState) (s : State) : State :=
  if new = .activeUnack then pushAck c k false s else if setsAck old new then pushAck c k true s else s

theorem move_of_ne {c : Ch} {k : Cond} {new : AlarmState} {w : Moving} (hne : (w.1.alarm c k).st ≠ new) :
    (move c k new w).1 = moveAck c k (w.1.alarm c k).st new (onAlarm c k (movedAlarm new w.1) w.1) := by
  unfold move
  dsimp only
  rw [if_neg hne]
  rfl

theorem move_of_eq {c : Ch} {k : Cond} {new : AlarmState} {w : Moving} (heq : (w.1.alarm c k).st = new) : move c k new w = w := if_pos heq

theorem alarmMoved_moveAck (c : Ch) (k : Cond) (old new : AlarmState) (s : State) : AlarmMoved c k s (moveAck c k old new s) := by
  unfold moveAck
  split
  · exact alarmMoved_pushAck ..
  · split
    · exact alarmMoved_pushAck ..
    · exact .refl ..

theorem moveAck_st (c : Ch) (k : Cond) (old new : AlarmState) (s : State) : ((moveAck c k old new s).alarm c k).st = (s.alarm c k).st ∧
    ((moveAck c k old new s).alarm c k).shelfEnd = (s.alarm c k).shelfEnd ∧
    ((moveAck c k old new s).alarm c k).delayEnd = (s.alarm c k).delayEnd := by
  unfold moveAck
  split
  · rw [alarm_pushAck, if_pos ⟨rfl, rfl⟩]; exact ⟨rfl, rfl, rfl⟩
  · split
    · rw [alarm_pushAck, if_pos ⟨rfl, rfl⟩]; exact ⟨rfl, rfl, rfl⟩
    · exact ⟨rfl, rfl, rfl⟩

theorem alarmMoved_move (c : Ch) (k : Cond) (new : AlarmState) (w : Moving) : AlarmMoved c k w.1 (move c k new w).1 := by
  by_cases hne : (w.1.alarm c k).st = new
  · rw [move_of_eq hne]; exact .refl ..
  · rw [move_of_ne hne]
    exact (alarmMoved_onAlarm (f := movedAlarm new w.1) w.1 (fun _ => rfl) (fun _ => rfl)).trans (alarmMoved_moveAck ..)

/-- A move takes its alarm to its state. -/
@[simp] theorem move_st (c : Ch) (k : Cond) (new : AlarmState) (w : Moving) : ((move c k new w).1.alarm c k).st = new := by
  by_cases hne : (w.1.alarm c k).st = new
  · rw [move_of_eq hne]; exact hne
  · rw [move_of_ne hne, (moveAck_st ..).1, alarm_onAlarm, if_pos ⟨rfl, rfl⟩]; rfl

theorem alarmMoved_startDelay (c : Ch) (k : Cond) (w : Moving) : AlarmMoved c k w.1 (startDelay c k w).1 := by
  unfold startDelay
  split
  · exact alarmMoved_move ..
  · exact (alarmMoved_move c k .steeping w).trans (alarmMoved_onAlarm _ (fun _ => rfl) (fun _ => rfl))

theorem startDelay_st (c : Ch) (k : Cond) (w : Moving) :
    ((startDelay c k w).1.alarm c k).st = if groupDelay w.1 c = 0 then .activeUnack else .steeping := by
  unfold startDelay
  split
  · rw [move_st]
  · dsimp only
    rw [alarm_onAlarm, if_pos ⟨rfl, rfl⟩]
    exact move_st ..

section
variable (c : Ch) (k : Cond) (w : Moving)

theorem alarmMoved_becameTrue : AlarmMoved c k w.1 (becameTrue c k w).1 := by
  unfold becameTrue
  split
  · exact alarmMoved_startDelay ..
  · exact alarmMoved_startDelay ..
  · exact alarmMoved_move ..
  · exact .refl ..

theorem alarmMoved_becameFalse : AlarmMoved c k w.1 (becameFalse c k w).1 := by
  unfold becameFalse
  split
  · exact alarmMoved_move ..
  · exact alarmMoved_move ..
  · split
    · exact alarmMoved_move ..
    · exact .refl ..
  · exact .refl ..

theorem alarmMoved_steepStarted : AlarmMoved c k w.1 (steepStarted c k w).1 := by
  unfold steepStarted
  split
  · exact alarmMoved_move ..
  · exact .refl ..

theorem alarmMoved_steepEnded : AlarmMoved c k w.1 (steepEnded c k w).1 := by
  unfold steepEnded
  split
  · split
    · exact .refl ..
    · exact alarmMoved_move ..
  · exact .refl ..

theorem alarmMoved_leave (b : Bool) : AlarmMoved c k w.1 (leave b c k w).1 := by
  unfold leave
  dsimp only
  split
  · exact alarmMoved_move ..
  · split
    · split
      · exact alarmMoved_move ..
      · exact alarmMoved_startDelay ..
    · split <;> exact alarmMoved_move ..

theorem alarmMoved_evalInhibit1 : AlarmMoved c k w.1 (evalInhibit1 c k w).1 := by
  unfold evalInhibit1
  dsimp only
  split
  · exact .refl ..
  · split
    · split
      · exact alarmMoved_move ..
      · exact .refl ..
    · split
      · exact alarmMoved_leave ..
      · exact .refl ..

theorem alarmMoved_ackCond (p : Alarm → Bool) : AlarmMoved c k w.1 (ackCond p c k w).1 := by
  unfold ackCond
  dsimp only
  split
  · split
    · exact alarmMoved_move ..
    · exact .refl ..
  · split
    · exact alarmMoved_move ..
    · exact .refl ..
  · exact .refl ..

end

/-- The steps of a reading in their order (04 R215): what was true may have fallen, what rose since, what fell after it, and the
steep timer. -/
def readFell (r : CondRead) (w : Moving) : Moving := if r.hist ∧ r.wasOn then becameFalse r.c r.k w else w
def readRose (r : CondRead) (w : Moving) : Moving := if r.hist ∨ (r.on ∧ ¬ r.wasOn) then becameTrue r.c r.k w else w
def readFellAgain (r : CondRead) (w : Moving) : Moving := if ¬ r.on ∧ (r.hist ∨ r.wasOn) then becameFalse r.c r.k w else w
def readSteep (r : CondRead) (w : Moving) : Moving :=
  if r.steep ∧ ¬ r.wasSteep then steepStarted r.c r.k w
  else if r.wasSteep ∧ ¬ r.steep ∧ ¬ r.on then steepEnded r.c r.k w else w

theorem applyRead_eq (r : CondRead) (w : Moving) : applyRead r w =
    if inhibitedBy w.1 r.c r.k ∧ (w.1.alarm r.c r.k).st.plain then move r.c r.k .inhibited w
    else readSteep r (readFellAgain r (readRose r (readFell r w))) := rfl

theorem alarmMoved_applyRead (r : CondRead) (w : Moving) : AlarmMoved r.c r.k w.1 (applyRead r w).1 := by
  have hfell : AlarmMoved r.c r.k w.1 (readFell r w).1 := by
    unfold readFell; split
    · exact alarmMoved_becameFalse ..
    · exact .refl ..
  have hrose : ∀ u : Moving, AlarmMoved r.c r.k u.1 (readRose r u).1 := by
    intro u; unfold readRose; split
    · exact alarmMoved_becameTrue ..
    · exact .refl ..
  have hagain : ∀ u : Moving, AlarmMoved r.c r.k u.1 (readFellAgain r u).1 := by
    intro u; unfold readFellAgain; split
    · exact alarmMoved_becameFalse ..
    · exact .refl ..
  have hsteep : ∀ u : Moving, AlarmMoved r.c r.k u.1 (readSteep r u).1 := by
    intro u; unfold readSteep; split
    · exact alarmMoved_steepStarted ..
    · split
      · exact alarmMoved_steepEnded ..
      · exact .refl ..
  rw [applyRead_eq]
  split
  · exact alarmMoved_move ..
  · exact ((hfell.trans (hrose _)).trans (hagain _)).trans (hsteep _)

theorem alarmMoved_delayEnds (w : Moving) (p : Ch × Cond) : AlarmMoved p.1 p.2 w.1 (delayEnds w p).1 := by
  unfold delayEnds
  dsimp only
  split
  · split
    · exact alarmMoved_move ..
    · exact .refl ..
  · exact .refl ..

/-! ## Inhibit (04 R241, R242) -/

/-- A group without INHIB inhibits nothing. -/
theorem inhibitedBy_none {s : State} {c : Ch} {k : Cond} (h : (s.grpCfg (s.chCfg c).grp).inhib = none) : inhibitedBy s c k = false := by
  unfold inhibitedBy
  dsimp only
  rw [h]

theorem grpInhib_congr {s t : State} (hlive : t.live = s.live) (c : Ch) :
    (t.grpCfg (t.chCfg c).grp).inhib = (s.grpCfg (s.chCfg c).grp).inhib := by
  unfold State.grpCfg State.chCfg; rw [hlive]

/-- An alarm that no inhibit can touch is left. -/
theorem evalInhibit1_none {w : Moving} {c : Ch} {k : Cond} (hinhib : (w.1.grpCfg (w.1.chCfg c).grp).inhib = none)
    (hst : (w.1.alarm c k).st ≠ .inhibited) : evalInhibit1 c k w = w := by
  unfold evalInhibit1
  dsimp only
  rw [inhibitedBy_none hinhib]
  simp [hst]

/-- The evaluation of every inhibit leaves the alarms of a group without INHIB that are not INHIBITED. -/
theorem evalInhibit_others {w : Moving} {c : Ch} {k : Cond} (hinhib : (w.1.grpCfg (w.1.chCfg c).grp).inhib = none)
    (hst : (w.1.alarm c k).st ≠ .inhibited) : (evalInhibit w).1.alarm c k = w.1.alarm c k := by
  have hone : ∀ (x : Moving) (d : Ch) (j : Cond), x.1.live = w.1.live ∧ x.1.alarm c k = w.1.alarm c k →
      (evalInhibit1 d j x).1.live = w.1.live ∧ (evalInhibit1 d j x).1.alarm c k = w.1.alarm c k := by
    rintro x d j ⟨hlive, halarm⟩
    have hmoved := alarmMoved_evalInhibit1 d j x
    refine ⟨hmoved.step.live.trans hlive, ?_⟩
    by_cases hkey : (c, k) = (d, j)
    · obtain ⟨rfl, rfl⟩ := Prod.mk.injEq .. ▸ hkey
      rw [evalInhibit1_none ((grpInhib_congr hlive c).trans hinhib) (by rw [halarm]; exact hst)]
      exact halarm
    · exact (hmoved.others c k hkey).trans halarm
  unfold evalInhibit
  refine (List.foldlRecOn (motive := fun x : Moving => x.1.live = w.1.live ∧ x.1.alarm c k = w.1.alarm c k) _ _ ⟨rfl, rfl⟩
    fun x hx d _ => ?_).2
  exact List.foldlRecOn (motive := fun x : Moving => x.1.live = w.1.live ∧ x.1.alarm c k = w.1.alarm c k) _ _ hx
    fun x hx j _ => hone x d j hx

/-- What any number of moves leaves of every alarm. -/
structure AlarmsMoved (u t : State) : Prop where
  step : EngineStep u t
  on : ∀ c k, (t.alarm c k).on = (u.alarm c k).on
  steep : ∀ c k, (t.alarm c k).steep = (u.alarm c k).steep
  frames : ∀ d : Die, (t.dies[d.val]).lastFrame = (u.dies[d.val]).lastFrame
  g31 : t.engine.g31 = u.engine.g31

theorem AlarmsMoved.refl (u : State) : AlarmsMoved u u := ⟨.refl u, fun _ _ => rfl, fun _ _ => rfl, fun _ => rfl, rfl⟩

theorem AlarmsMoved.trans {u v t : State} (h : AlarmsMoved u v) (h' : AlarmsMoved v t) : AlarmsMoved u t :=
  ⟨h.step.trans h'.step, fun c k => (h'.on c k).trans (h.on c k), fun c k => (h'.steep c k).trans (h.steep c k),
    fun d => (h'.frames d).trans (h.frames d), h'.g31.trans h.g31⟩

theorem AlarmMoved.moved {c : Ch} {k : Cond} {u t : State} (h : AlarmMoved c k u t) : AlarmsMoved u t := by
  refine ⟨h.step, fun d j => ?_, fun d j => ?_, h.frames, h.g31⟩
  · by_cases hkey : (d, j) = (c, k)
    · obtain ⟨rfl, rfl⟩ := Prod.mk.injEq .. ▸ hkey; exact h.on
    · rw [h.others d j hkey]
  · by_cases hkey : (d, j) = (c, k)
    · obtain ⟨rfl, rfl⟩ := Prod.mk.injEq .. ▸ hkey; exact h.steep
    · rw [h.others d j hkey]

theorem alarmsMoved_foldl {α : Type} {f : Moving → α → Moving} (hf : ∀ w a, AlarmsMoved w.1 (f w a).1) (l : List α) (w : Moving) :
    AlarmsMoved w.1 (l.foldl f w).1 := by
  induction l generalizing w with
  | nil => exact .refl _
  | cons a l ih => exact (hf w a).trans (ih _)

theorem alarmsMoved_evalInhibit (w : Moving) : AlarmsMoved w.1 (evalInhibit w).1 :=
  alarmsMoved_foldl (fun w c => alarmsMoved_foldl (fun w k => (alarmMoved_evalInhibit1 c k w).moved) _ w) _ w

theorem alarmsMoved_commit (more : List Grp) (w : Moving) : AlarmsMoved w.1 (commit more w) :=
  have h := alarmsStay_commit more w
  ⟨engineStep_commit more w, fun c k => by rw [h.alarm], fun c k => by rw [h.alarm], fun d => by rw [h.dies], commit_g31 more w⟩

/-- What inhibits an alarm follows from the settings, the conditions as last read and what other nodes have said. -/
theorem inhibitedBy_congr {u t : State} (hlive : t.live = u.live) (hnode : t.watch.node = u.watch.node)
    (hpeers : t.watch.peers = u.watch.peers) (hold : t.watch.causesOld = u.watch.causesOld) (hremote : t.watch.remote = u.watch.remote)
    (hon : ∀ c k, (t.alarm c k).on = (u.alarm c k).on) (c : Ch) (k : Cond) : inhibitedBy t c k = inhibitedBy u c k := by
  have hcause : ∀ g, causeTrue t g = causeTrue u g := by
    intro g
    unfold causeTrue State.grpCfg
    rw [hlive]
    cases (u.live.grp[g.val]).inhib with
    | none => rfl
    | some x =>
      dsimp only
      unfold State.condCfg State.chCfg remoteState
      rw [hon, hlive, hnode, hpeers, hold, hremote]
  unfold inhibitedBy
  dsimp only
  rw [grpInhib_congr hlive]
  rw [hcause, show (t.chCfg c) = u.chCfg c by unfold State.chCfg; rw [hlive], hnode]

theorem inhibitedBy_moved {u t : State} (h : AlarmsMoved u t) (c : Ch) (k : Cond) : inhibitedBy t c k = inhibitedBy u c k :=
  inhibitedBy_congr h.step.live (by rw [h.step.rest]) (by rw [h.step.rest]) (by rw [h.step.rest]) (by rw [h.step.rest]) h.on c k

end Sys2Proof.Machine

/-! A FRAME OF A DIE REACHES THE ENGINE (04 R215, R257; 16 R819): what a reading takes from a slice, and what it makes of an
alarm. -/

namespace Sys2Proof.Machine

/-! ## Folds in which each key comes up once -/

section
variable {α K V : Type} {f : α → K → α} {get : α → K → V}

/-- A fold whose steps each change one key leaves the keys that are not in its list. -/
theorem foldl_out (hf : ∀ w q p, p ≠ q → get (f w q) p = get w p) {l : List K} {p : K} (hout : p ∉ l) (w : α) :
    get (l.foldl f w) p = get w p := by
  induction l generalizing w with
  | nil => rfl
  | cons q l ih =>
    obtain ⟨hq, hl⟩ := not_or.1 (fun e => hout (List.mem_cons.2 e))
    exact (ih hl _).trans (hf w q p hq)

/-- A key that comes up once: what its own step makes of it is what stands at the end. -/
theorem foldl_once (hf : ∀ w q p, p ≠ q → get (f w q) p = get w p) {l : List K} (hnodup : l.Nodup) {p : K} (hmem : p ∈ l) (w : α) :
    ∃ before : List K, get (before.foldl f w) p = get w p ∧ get (l.foldl f w) p = get (f (before.foldl f w) p) p := by
  obtain ⟨before, after, rfl⟩ := List.append_of_mem hmem
  obtain ⟨-, hcons, hapart⟩ := List.nodup_append.1 hnodup
  refine ⟨before, foldl_out hf (fun h => hapart _ h _ List.mem_cons_self rfl) w, ?_⟩
  rw [List.foldl_append, List.foldl_cons]
  exact foldl_out hf (List.nodup_cons.1 hcons).1 _

end

/-- A fold over alarms leaves those that are not in its list. -/
theorem keyed_foldl_out {f : Moving → Ch × Cond → Moving} (hf : ∀ w q, AlarmMoved q.1 q.2 w.1 (f w q).1) {c : Ch} {k : Cond}
    {l : List (Ch × Cond)} (hout : (c, k) ∉ l) (w : Moving) : (l.foldl f w).1.alarm c k = w.1.alarm c k :=
  foldl_out (get := fun (w : Moving) (p : Ch × Cond) => w.1.alarm p.1 p.2) (fun w q p hne => (hf w q).others p.1 p.2 hne) hout w

/-- A fold in which an alarm comes up once: what its own step makes of it is what stands at the end. -/
theorem keyed_foldl_once {f : Moving → Ch × Cond → Moving} (hf : ∀ w q, AlarmMoved q.1 q.2 w.1 (f w q).1) {c : Ch} {k : Cond}
    {l : List (Ch × Cond)} (hnodup : l.Nodup) (hmem : (c, k) ∈ l) (w : Moving) :
    ∃ x : Moving, AlarmsMoved w.1 x.1 ∧ x.1.alarm c k = w.1.alarm c k ∧ (l.foldl f w).1.alarm c k = (f x (c, k)).1.alarm c k :=
  have ⟨before, hsame, hlast⟩ := foldl_once (get := fun (w : Moving) (p : Ch × Cond) => w.1.alarm p.1 p.2)
    (fun w q p hne => (hf w q).others p.1 p.2 hne) hnodup hmem w
  ⟨before.foldl f w, alarmsMoved_foldl (fun w q => (hf w q).moved) before w, hsame, hlast⟩

theorem mem_allConds (k : Cond) : k ∈ allConds := by cases k <;> decide

theorem nodup_allConds : allConds.Nodup := by decide

theorem mem_dieChannels {c : Ch} {d : Die} : c ∈ dieChannels d ↔ dieOf c = d := by
  unfold dieChannels dieOf
  constructor
  · intro h
    obtain ⟨i, -, rfl⟩ := List.mem_map.1 h
    exact Fin.ext (by simp only [Nat.mul_comm d.val, Nat.mul_add_div (by decide : 0 < 16), Nat.div_eq_of_lt i.isLt, Nat.add_zero])
  · rintro rfl
    refine List.mem_map.2 ⟨⟨c.val % 16, Nat.mod_lt _ (by decide)⟩, List.mem_finRange _, Fin.ext ?_⟩
    exact Nat.div_add_mod' c.val 16

theorem nodup_dieChannels (d : Die) : (dieChannels d).Nodup := by
  refine (List.nodup_finRange 16).map fun i j h => Fin.ext ?_
  exact Nat.add_left_cancel (Fin.mk.inj h)

/-- The conditions of some channels that pass a test, each once. -/
theorem nodup_conds {cs : List Ch} (h : cs.Nodup) (p : Ch → Cond → Bool) :
    (cs.flatMap fun c => (allConds.filter (p c)).map fun k => (c, k)).Nodup := by
  refine List.nodup_flatMap.2 ⟨fun c _ => (nodup_allConds.filter _).map fun _ _ e => (Prod.mk.inj e).2, ?_⟩
  refine h.imp fun hne q hq hq' => hne ?_
  obtain ⟨_, -, rfl⟩ := List.mem_map.1 hq
  obtain ⟨_, -, e⟩ := List.mem_map.1 hq'
  exact (Prod.mk.inj e).1.symm

theorem mem_conds {cs : List Ch} {p : Ch → Cond → Bool} {c : Ch} {k : Cond} :
    (c, k) ∈ (cs.flatMap fun c => (allConds.filter (p c)).map fun k => (c, k)) ↔ c ∈ cs ∧ p c k = true := by
  simp only [List.mem_flatMap, List.mem_map, List.mem_filter, Prod.mk.injEq]
  constructor
  · rintro ⟨d, hd, j, ⟨-, hp⟩, rfl, rfl⟩; exact ⟨hd, hp⟩
  · rintro ⟨hc, hp⟩; exact ⟨c, hc, k, ⟨mem_allConds k, hp⟩, rfl, rfl⟩

/-! ## Reading (01 R22, 16 R819) -/

/-- An alarm as a reading leaves it. -/
def readAlarm (s : State) (c : Ch) (k : Cond) (a : Alarm) : Alarm :=
  { a with
    on := (s.cond c k).on
    steep := steepRuns s c k
    since := if (s.cond c k).hist then (s.cond c k).since else a.since
    occ := (s.cond c k).occ
    ackBit := if (s.cond c k).hist then false else a.ackBit }

/-- What reading some conditions leaves: their history latches are cleared and their alarms know them; nothing else moves. -/
structure CondsRead (ps : List (Ch × Cond)) (u t : State) : Prop where
  rest : t = { u with slices := t.slices, engine := { u.engine with alarms := t.engine.alarms } }
  cond : ∀ c k, t.cond c k = if (c, k) ∈ ps then { u.cond c k with hist := false } else u.cond c k
  alarm : ∀ c k, t.alarm c k = if (c, k) ∈ ps then readAlarm u c k (u.alarm c k) else u.alarm c k

/-- Reads one condition. -/
def takeReading (s : State) (p : Ch × Cond) : State := (readCond1 p.1 p.2 s).1

/-- What a reading found. -/
def reading (s : State) (p : Ch × Cond) : CondRead := (readCond1 p.1 p.2 s).2

theorem condsRead_one (p : Ch × Cond) (s : State) : CondsRead [p] s (takeReading s p) := by
  obtain ⟨c, k⟩ := p
  have hiff : ∀ d j, (d, j) ∈ [(c, k)] ↔ c = d ∧ k = j := fun d j => by
    rw [List.mem_singleton, Prod.mk.injEq, eq_comm (a := d), eq_comm (a := j)]
  refine ⟨rfl, fun d j => ?_, fun d j => ?_⟩
  · show (onAlarm c k _ (onCond c k _ s)).cond d j = _
    rw [show (onAlarm c k _ (onCond c k _ s)).cond d j = (onCond c k (fun y => { y with hist := false }) s).cond d j from rfl,
      cond_onCond]
    simp only [hiff]
  · show (onAlarm c k _ (onCond c k _ s)).alarm d j = _
    rw [alarm_onAlarm]
    simp only [hiff]
    by_cases h : c = d ∧ k = j
    · obtain ⟨rfl, rfl⟩ := h
      simp only [and_self, if_true]
      rfl
    · rw [if_neg h, if_neg h]
      rfl

theorem condsRead_readAll {ps : List (Ch × Cond)} (hnodup : ps.Nodup) (s : State) : CondsRead ps s (ps.foldl takeReading s) := by
  induction ps generalizing s with
  | nil => exact ⟨rfl, fun _ _ => rfl, fun _ _ => rfl⟩
  | cons p ps ih =>
    obtain ⟨hp, hps⟩ := List.nodup_cons.1 hnodup
    obtain ⟨hrest, hcond, halarm⟩ := condsRead_one p s
    obtain ⟨hrest', hcond', halarm'⟩ := ih hps (takeReading s p)
    rw [List.foldl_cons]
    generalize takeReading s p = v at *
    generalize ps.foldl takeReading v = t at *
    refine ⟨?_, fun c k => ?_, fun c k => ?_⟩
    · rw [hrest', hrest]
    · rw [hcond', hcond]
      by_cases hq : (c, k) = p
      · rw [if_neg (hq ▸ hp), if_pos (hq ▸ List.mem_singleton_self _), if_pos (hq ▸ List.mem_cons_self)]
      · simp only [List.mem_cons, List.not_mem_nil, or_false, hq, false_or, if_false]
    · by_cases hq : (c, k) = p
      · rw [halarm', if_neg (hq ▸ hp), halarm, if_pos (hq ▸ List.mem_singleton_self _), if_pos (hq ▸ List.mem_cons_self)]
      · have hsame : v.cond c k = s.cond c k := by rw [hcond, if_neg (fun e => hq (List.mem_singleton.1 e))]
        have hsame' : v.alarm c k = s.alarm c k := by rw [halarm, if_neg (fun e => hq (List.mem_singleton.1 e))]
        rw [halarm', hsame']
        simp only [List.mem_cons, hq, false_or, readAlarm, steepRuns, hsame]

/-- What a reading finds follows from its condition and its alarm. -/
theorem reading_congr {s t : State} {p : Ch × Cond} (hcond : t.cond p.1 p.2 = s.cond p.1 p.2)
    (halarm : t.alarm p.1 p.2 = s.alarm p.1 p.2) : reading t p = reading s p := by
  unfold reading readCond1 steepRuns
  dsimp only
  rw [hcond, halarm]

/-- Readings of different conditions do not meet: each finds what stood at the start. -/
theorem readings_eq {ps : List (Ch × Cond)} (hnodup : ps.Nodup) (s : State) (acc : List CondRead) :
    ps.foldl (fun (a : State × List CondRead) p => (takeReading a.1 p, a.2 ++ [reading a.1 p])) (s, acc) =
      (ps.foldl takeReading s, acc ++ ps.map (reading s)) := by
  induction ps generalizing s acc with
  | nil => simp
  | cons p ps ih =>
    obtain ⟨hp, hps⟩ := List.nodup_cons.1 hnodup
    obtain ⟨-, hcond, halarm⟩ := condsRead_one p s
    rw [List.foldl_cons, ih hps, List.foldl_cons, List.map_cons, List.append_assoc, List.singleton_append]
    have hsame : ps.map (reading (takeReading s p)) = ps.map (reading s) := by
      refine List.map_congr_left fun q hq => ?_
      have hne : q ∉ [p] := fun e => hp (List.mem_singleton.1 e ▸ hq)
      exact reading_congr (by rw [hcond, if_neg hne]) (by rw [halarm, if_neg hne])
    rw [hsame]

/-! ## A frame of a die -/

theorem mem_dieNews {s : State} {d : Die} {c : Ch} {k : Cond} : (c, k) ∈ dieNews s d ↔
    (dieOf c = d ∧ chFitted s.ident.part c = true) ∧ (reading s (c, k)).news = true := by
  unfold dieNews
  rw [mem_conds (p := fun c k => (readCond1 c k s).2.news), List.mem_filter, mem_dieChannels]
  rfl

theorem nodup_dieNews (s : State) (d : Die) : (dieNews s d).Nodup :=
  nodup_conds ((nodup_dieChannels d).filter _) fun c k => (readCond1 c k s).2.news

theorem readDie_eq (w : Moving) (d : Die) : readDie w d =
    (dieNews w.1 d).foldl (fun x p => applyRead (reading w.1 p) x) ((dieNews w.1 d).foldl takeReading w.1, w.2) := by
  have h := readings_eq (nodup_dieNews w.1 d) w.1 []
  unfold readDie
  dsimp only
  show List.foldl _ ((List.foldl (fun (a : State × List CondRead) p => (takeReading a.1 p, a.2 ++ [reading a.1 p])) (w.1, []) (dieNews w.1 d)).1,
    w.2) (List.foldl (fun (a : State × List CondRead) p => (takeReading a.1 p, a.2 ++ [reading a.1 p])) (w.1, []) (dieNews w.1 d)).2 = _
  rw [h]
  dsimp only
  rw [List.nil_append, List.foldl_map]

/-- A reading moves its own alarm. -/
theorem alarmMoved_reading (s : State) (x : Moving) (p : Ch × Cond) : AlarmMoved p.1 p.2 x.1 (applyRead (reading s p) x).1 :=
  alarmMoved_applyRead (reading s p) x

/-! ## What a reading makes of an alarm (04 R215) -/

section
variable {r : CondRead} {w : Moving} (hinhib : (w.1.grpCfg (w.1.chCfg r.c).grp).inhib = none)
include hinhib

theorem applyRead_plain : applyRead r w = readSteep r (readFellAgain r (readRose r (readFell r w))) := by
  rw [applyRead_eq, inhibitedBy_none hinhib, if_neg (fun h => Bool.noConfusion h.1)]

/-- A condition that has become true and still stands brings up an alarm that was NORMAL or RETURN_UNACK. -/
theorem applyRead_rises (hst : (w.1.alarm r.c r.k).st = .normal ∨ (w.1.alarm r.c r.k).st = .returnUnack) (hon : r.on = true)
    (hnew : r.hist = true ∨ r.wasOn = false) (hsteep : r.steep = false) : ((applyRead r w).1.alarm r.c r.k).st =
      if (w.1.alarm r.c r.k).st = .normal ∧ groupDelay w.1 r.c ≠ 0 then .steeping else .activeUnack := by
  have hfell : readFell r w = w := by
    unfold readFell becameFalse
    rcases hst with hst | hst <;> simp [hst]
  have hrose : readRose r w = becameTrue r.c r.k w := if_pos (hnew.imp_right fun h => ⟨hon, by simp [h]⟩)
  have hagain : ∀ u, readFellAgain r u = u := fun u => if_neg fun h => h.1 hon
  have hend : ∀ u, readSteep r u = u := fun u => by unfold readSteep; simp [hsteep, hon]
  rw [applyRead_plain hinhib, hfell, hrose, hagain, hend]
  unfold becameTrue
  rcases hst with hst | hst
  · rw [hst]
    dsimp only
    rw [startDelay_st]
    by_cases hdelay : groupDelay w.1 r.c = 0 <;> simp [hdelay]
  · rw [hst]
    dsimp only
    rw [move_st, if_neg (fun h => AlarmState.noConfusion h.1)]

/-- A condition that has become false takes ACTIVE_UNACK to RETURN_UNACK. -/
theorem applyRead_falls (hst : (w.1.alarm r.c r.k).st = .activeUnack) (hon : r.on = false) (hnew : r.hist = true ∨ r.wasOn = true) :
    ((applyRead r w).1.alarm r.c r.k).st = .returnUnack := by
  have hfell : ((readFell r w).1.alarm r.c r.k).st = if r.hist ∧ r.wasOn then .returnUnack else .activeUnack := by
    unfold readFell
    split
    · unfold becameFalse; rw [hst]; exact move_st ..
    · exact hst
  have hrose : ((readRose r (readFell r w)).1.alarm r.c r.k).st = .activeUnack := by
    generalize readFell r w = u at hfell
    unfold readRose becameTrue
    by_cases hboth : r.hist ∧ r.wasOn
    · rw [if_pos hboth] at hfell
      rw [if_pos (.inl hboth.1), hfell]
      exact move_st ..
    · rw [if_neg hboth] at hfell
      rw [hfell]
      split <;> exact hfell
  have hagain : ((readFellAgain r (readRose r (readFell r w))).1.alarm r.c r.k).st = .returnUnack := by
    unfold readFellAgain
    rw [if_pos ⟨by simp [hon], hnew⟩]
    unfold becameFalse
    rw [hrose]
    exact move_st ..
  rw [applyRead_plain hinhib]
  generalize readFellAgain r (readRose r (readFell r w)) = u at hagain
  unfold readSteep steepStarted steepEnded
  rw [hagain]
  split
  · exact hagain
  · split <;> exact hagain

/-- A condition that has become false takes ACTIVE_ACK to NORMAL. -/
theorem applyRead_clears (hst : (w.1.alarm r.c r.k).st = .activeAck) (hon : r.on = false) (hwas : r.wasOn = true)
    (hhist : r.hist = false) (hsteep : r.steep = false) : ((applyRead r w).1.alarm r.c r.k).st = .normal := by
  have hfell : readFell r w = w := if_neg fun h => not_of_eq_false hhist h.1
  have hrose : readRose r w = w := if_neg fun h => h.elim (not_of_eq_false hhist) fun h => not_of_eq_false hon h.1
  have hagain : ((readFellAgain r w).1.alarm r.c r.k).st = .normal := by
    unfold readFellAgain
    rw [if_pos ⟨by simp [hon], .inr hwas⟩]
    unfold becameFalse
    rw [hst]
    exact move_st ..
  rw [applyRead_plain hinhib, hfell, hrose]
  generalize readFellAgain r w = u at hagain
  unfold readSteep steepEnded
  rw [hagain, if_neg fun h => not_of_eq_false hsteep h.1]
  split <;> exact hagain

end
end Sys2Proof.Machine

/-! A DIE'S FRAME MOVES THE ALARMS OF ITS CHANNELS (01 R18, R19; 04 R214–R216; 16 R819). -/

namespace Sys2Proof.Machine

/-- The condition changes of one die that the engine hears. -/
def dieRead (d : Die) (u : State) : State := commit [] (evalInhibit (readDie (u, []) d))

theorem dieHeard_noteFrame (d : Die) (s : State) : dieHeard (noteFrame d s) d = dieHeard s d := by
  have hvalid : ((noteFrame d s).dies[d.val]).valid = (s.dies[d.val]).valid := by
    show ((upd s.dies d _)[d.val]).valid = _
    rw [upd_same]
    rfl
  unfold dieHeard
  rw [hvalid]
  rfl

theorem condChanges_deaf {d : Die} {s : State} (h : dieSends s d = false ∨ (s.dies[d.val]).valid = false) : condChanges [d] [] s = s := by
  have hnone : (dieSends s d && (s.dies[d.val]).valid) = false := by rcases h with h | h <;> simp [h]
  unfold condChanges
  simp [hnone]

theorem condChanges_noted {d : Die} {s : State} (hsends : dieSends s d = true) (hvalid : (s.dies[d.val]).valid = true) :
    condChanges [d] [] s = if dieHeard s d = true then dieRead d (noteFrame d s) else noteFrame d s := by
  unfold condChanges dieRead
  simp only [List.filter_cons, List.filter_nil, hsends, hvalid, Bool.and_self, if_true]
  rw [show ([d] : List Die).eraseDups = [d] from rfl]
  simp only [List.foldl_cons, List.foldl_nil, List.filter_cons, List.filter_nil, dieHeard_noteFrame]
  split <;> simp

/-- What a reading of a die leaves, and what it makes of its alarms before inhibits are judged. -/
theorem dieRead_leaves (d : Die) (u : State) : (dieRead d u).live = u.live ∧ (dieRead d u).watch.lead = u.watch.lead ∧
    ((dieRead d u).dies[d.val]).lastFrame = (u.dies[d.val]).lastFrame ∧
    ∀ c k, (dieRead d u).cond c k = if (c, k) ∈ dieNews u d then { u.cond c k with hist := false } else u.cond c k := by
  have hread := condsRead_readAll (nodup_dieNews u d) u
  have hmoved : AlarmsMoved ((dieNews u d).foldl takeReading u) (dieRead d u) := by
    unfold dieRead
    rw [readDie_eq]
    exact ((alarmsMoved_foldl (fun x p => (alarmMoved_reading u x p).moved) (dieNews u d) ((dieNews u d).foldl takeReading u, [])).trans (alarmsMoved_evalInhibit _)).trans
      (alarmsMoved_commit [] _)
  generalize (dieNews u d).foldl takeReading u = v at hread hmoved
  generalize dieRead d u = t at hmoved ⊢
  obtain ⟨hrest, hcond, -⟩ := hread
  have hslices : t.slices = v.slices := by rw [hmoved.step.rest]
  refine ⟨hmoved.step.live.trans (by rw [hrest]), ?_, (hmoved.frames d).trans (by rw [hrest]), fun c k => ?_⟩
  · rw [hmoved.step.rest, hrest]
  · rw [← hcond]
    unfold State.cond State.slice
    rw [hslices]

/-- An alarm that no inhibit touches, of a condition that brings no news, stays. -/
theorem dieRead_alarm_stays {d : Die} {u : State} {c : Ch} {k : Cond} (hnews : (c, k) ∉ dieNews u d)
    (hinhib : (u.grpCfg (u.chCfg c).grp).inhib = none) (hst : (u.alarm c k).st ≠ .inhibited) :
    (dieRead d u).alarm c k = u.alarm c k := by
  have hread := condsRead_readAll (nodup_dieNews u d) u
  unfold dieRead
  rw [(alarmsStay_commit ..).alarm, readDie_eq]
  dsimp only
  obtain ⟨x, hx⟩ : ∃ x, x = (dieNews u d).foldl (fun x p => applyRead (reading u p) x) ((dieNews u d).foldl takeReading u, []) := ⟨_, rfl⟩
  have hmoved : AlarmsMoved ((dieNews u d).foldl takeReading u) x.1 := by
    rw [hx]; exact alarmsMoved_foldl (fun x p => (alarmMoved_reading u x p).moved) _ (_, [])
  have hsame : x.1.alarm c k = u.alarm c k := by
    rw [hx, keyed_foldl_out (fun w q => alarmMoved_reading u w q) hnews]
    dsimp only
    rw [hread.alarm, if_neg hnews]
  rw [← hx, evalInhibit_others _ (by rw [hsame]; exact hst), hsame]
  exact (grpInhib_congr (hmoved.step.live.trans (by rw [hread.rest])) c).trans hinhib

/-- An alarm that no inhibit touches, of a condition that brings news, comes to what its reading makes of it. -/
theorem dieRead_alarm_moves {d : Die} {u : State} {c : Ch} {k : Cond} (hnews : (c, k) ∈ dieNews u d)
    (hinhib : (u.grpCfg (u.chCfg c).grp).inhib = none) {new : AlarmState} (hnew : new ≠ .inhibited)
    (hmoves : ∀ x : Moving, x.1.live = u.live → (x.1.alarm c k).st = (u.alarm c k).st →
      ((applyRead (reading u (c, k)) x).1.alarm c k).st = new) : ((dieRead d u).alarm c k).st = new := by
  have hread := condsRead_readAll (nodup_dieNews u d) u
  have hlive : ((dieNews u d).foldl takeReading u).live = u.live := by rw [hread.rest]
  unfold dieRead
  rw [(alarmsStay_commit ..).alarm, readDie_eq]
  dsimp only
  obtain ⟨x, hx⟩ : ∃ x, x = (dieNews u d).foldl (fun x p => applyRead (reading u p) x) ((dieNews u d).foldl takeReading u, []) := ⟨_, rfl⟩
  have hmoved : AlarmsMoved ((dieNews u d).foldl takeReading u) x.1 := by
    rw [hx]; exact alarmsMoved_foldl (fun x p => (alarmMoved_reading u x p).moved) _ (_, [])
  have hst : (x.1.alarm c k).st = new := by
    obtain ⟨y, hy, hsame, hlast⟩ := keyed_foldl_once (fun w q => alarmMoved_reading u w q) (nodup_dieNews u d) hnews
      ((dieNews u d).foldl takeReading u, [])
    rw [hx, hlast]
    refine hmoves y (hy.step.live.trans hlive) ?_
    rw [hsame]
    dsimp only
    rw [hread.alarm, if_pos hnews]
    rfl
  rw [← hx, evalInhibit_others _ (by rw [hst]; exact hnew), hst]
  exact (grpInhib_congr (hmoved.step.live.trans hlive) c).trans hinhib

/-- What the readings of a die say, alarm by alarm (04 R215). -/
theorem dieRead_alarms {d : Die} {u : State} {c : Ch} {k : Cond} (hdie : dieOf c = d) (hfit : chFitted u.ident.part c = true)
    (hinhib : (u.grpCfg (u.chCfg c).grp).inhib = none) (hst : (u.alarm c k).st ≠ .inhibited) :
    (((u.alarm c k).st = .normal ∨ (u.alarm c k).st = .returnUnack) → (u.cond c k).on = true →
      ((u.cond c k).hist = true ∨ (u.alarm c k).on = false) → ((dieRead d u).alarm c k).st =
        if (u.alarm c k).st = .normal ∧ groupDelay u c ≠ 0 then .steeping else .activeUnack) ∧
    ((u.alarm c k).st = .activeUnack → (u.cond c k).on = false → ((u.cond c k).hist = true ∨ (u.alarm c k).on = true) →
      ((dieRead d u).alarm c k).st = .returnUnack) ∧
    ((u.alarm c k).st = .activeAck → (u.cond c k).on = false → (u.alarm c k).on = true → (u.cond c k).hist = false →
      steepRuns u c k = false → ((dieRead d u).alarm c k).st = .normal) ∧
    ((u.cond c k).on = (u.alarm c k).on → (u.cond c k).hist = false → steepRuns u c k = (u.alarm c k).steep →
      (dieRead d u).alarm c k = u.alarm c k) := by
  have hnews : ∀ {b : Bool}, (reading u (c, k)).news = b → ((c, k) ∈ dieNews u d ↔ b = true) := fun h => by
    rw [mem_dieNews, h]; simp only [hdie, hfit, and_self, true_and]
  have hthere : (u.cond c k).hist = true ∨ (u.alarm c k).on ≠ (u.cond c k).on → (c, k) ∈ dieNews u d := fun h => by
    refine (hnews (b := true) ?_).2 rfl
    unfold CondRead.news
    show ((u.cond c k).hist || decide ((u.alarm c k).on ≠ (u.cond c k).on) || _) = true
    rcases h with h | h
    · rw [h]; rfl
    · rw [decide_eq_true h, Bool.or_true, Bool.true_or]
  refine ⟨fun hup hon hnew => ?_, fun hup hon hnew => ?_, fun hup hon hwas hhist hsteep => ?_, fun hon hhist hsteep => ?_⟩
  · refine dieRead_alarm_moves (hthere (hnew.imp_right fun h => by rw [h, hon]; exact Bool.false_ne_true)) hinhib
      (by split <;> exact AlarmState.noConfusion) fun x hlive hx => ?_
    have hrises := applyRead_rises (r := reading u (c, k)) (w := x) ((grpInhib_congr hlive c).trans hinhib) (by rw [← hx] at hup; exact hup)
      hon hnew (by show ((u.cond c k).raw && !(u.cond c k).on) = false; rw [hon]; exact Bool.and_false _)
    have hdelay : groupDelay x.1 c = groupDelay u c := by unfold groupDelay State.grpCfg State.chCfg; rw [hlive]
    rw [← hx, ← hdelay]
    exact hrises
  · refine dieRead_alarm_moves (hthere (hnew.imp_right fun h => by rw [h, hon]; exact Bool.noConfusion)) hinhib AlarmState.noConfusion
      fun x hlive hx => ?_
    exact applyRead_falls (r := reading u (c, k)) ((grpInhib_congr hlive c).trans hinhib) (hx.trans hup) hon hnew
  · refine dieRead_alarm_moves (hthere (.inr (by rw [hwas, hon]; exact Bool.noConfusion))) hinhib AlarmState.noConfusion
      fun x hlive hx => ?_
    exact applyRead_clears (r := reading u (c, k)) ((grpInhib_congr hlive c).trans hinhib) (hx.trans hup) hon hwas hhist hsteep
  · refine dieRead_alarm_stays (fun h => Bool.false_ne_true ((hnews (b := false) ?_).1 h)) hinhib hst
    unfold CondRead.news
    show ((u.cond c k).hist || decide ((u.alarm c k).on ≠ (u.cond c k).on) || decide ((u.alarm c k).steep ≠ steepRuns u c k)) = false
    rw [hon, hhist, hsteep]
    simp

/-- Settles O47: a frame that holds is noted and, where the engine hears the die, its news are read condition by condition; one that
fails its CRC leaves only what else falls in its cycle. -/
theorem dieFramesMoveAlarms : Obligations.DieFramesMoveAlarms := by
  unfold Obligations.DieFramesMoveAlarms
  intro s d
  refine ⟨fun m => ⟨does_of rfl, does_of rfl⟩, does_of (congrArg finish ?_), fun h => does_of (congrArg finish (condChanges_deaf h)),
    fun hsends hvalid hrun => does_of (congrArg finish ?_), fun hheard => doesSo_of (u := dieRead d (noteFrame d s)) (congrArg finish ?_) ?_⟩
  · exact matesChange_none s
  · show condChanges [d] [] s = _
    rw [condChanges_noted hsends hvalid, if_neg]
    unfold dieHeard
    simp [hrun]
  · obtain ⟨⟨hsends, -⟩, hvalid⟩ : (dieSends s d = true ∧ s.engine.running = true) ∧ (s.dies[d.val]).valid = true := by
      simpa [dieHeard] using hheard
    show condChanges [d] [] s = _
    rw [condChanges_noted hsends hvalid, if_pos hheard]
  · obtain ⟨hlive, hlead, hframe, hcond⟩ := dieRead_leaves d (noteFrame d s)
    refine ⟨hlive, hlead, hframe.trans ?_, fun c k => ?_, fun c k x a hdie hfit hx ha hinhib hst => ?_, fun c k hdie hinhib hst => ?_⟩
    · show ((upd s.dies d _)[d.val]).lastFrame = _
      rw [upd_same]
    · rw [hcond]
      have hsame : (noteFrame d s).cond c k = s.cond c k := rfl
      rw [hsame]
      by_cases hch : dieOf c = d ∧ chFitted s.ident.part c = true
      · rw [if_pos hch]
        split
        · rfl
        next hnews =>
          have hhist : (s.cond c k).hist = false := by
            by_contra hon
            refine hnews (mem_dieNews.2 ⟨hch, ?_⟩)
            unfold CondRead.news
            show ((s.cond c k).hist || _ || _) = true
            rw [eq_true_of_ne_false hon]
            rfl
          rw [← hhist]
      · rw [if_neg hch, if_neg fun h => hch (mem_dieNews (s := noteFrame d s).1 h).1]
    · subst hx ha
      exact dieRead_alarms (u := noteFrame d s) hdie hfit hinhib hst
    · exact dieRead_alarm_stays (u := noteFrame d s) (fun h => hdie (mem_dieNews.1 h).1.1) hinhib hst

end Sys2Proof.Machine

/-! A DIE LINK FAILS AND COMES BACK, AND THE ENGINE'S TIMERS END (01 R18–R20, R25, R900; 04 R215–R217, R250, R260). -/

namespace Sys2Proof.Machine

/-! ## The link of a die -/

/-- A slice that takes a setting moves alone. -/
theorem sliceStep_sliceTakes (i : SettingId) (s : State) : ∃ c, SliceStep c s (sliceTakes i s) := by
  have htrip : ∀ c, SliceStep c s (applyTrip c s) := fun c => by
    unfold applyTrip
    dsimp only
    split
    · exact .refl _ _
    · exact sliceStep_onSlice ..
  have hchar : ∀ c, SliceStep c s (applyChar c s) := fun c => by
    unfold applyChar
    dsimp only
    split
    · exact .refl _ _
    · split
      · exact ((sliceStep_wireStep ..).trans (sliceStep_onCond ..)).trans (sliceStep_onCond ..)
      · exact sliceStep_wireStep ..
  have hbase : ∀ c, SliceStep c s (applyBase c s) := fun c => by
    unfold applyBase
    dsimp only
    split
    · exact sliceStep_onLamp ..
    · exact .refl _ _
  unfold sliceTakes
  split
  · exact ⟨_, sliceStep_onSlice ..⟩
  · exact ⟨_, htrip _⟩
  · exact ⟨_, htrip _⟩
  · exact ⟨_, htrip _⟩
  · exact ⟨_, hchar _⟩
  · exact ⟨_, sliceStep_onLamp ..⟩
  · exact ⟨_, sliceStep_onLamp ..⟩
  · exact ⟨_, sliceStep_onLamp ..⟩
  · exact ⟨_, hbase _⟩
  · exact ⟨_, hbase _⟩
  · exact ⟨0, .refl _ _⟩

/-- What the delivery of kept settings and writes leaves of the die links: the time. -/
structure LinkTime (u t : State) : Prop where
  now : t.now = u.now
  dies : t.dies = u.dies

theorem LinkTime.refl (u : State) : LinkTime u u := ⟨rfl, rfl⟩

theorem LinkTime.trans {u v t : State} (h : LinkTime u v) (h' : LinkTime v t) : LinkTime u t :=
  ⟨h'.now.trans h.now, h'.dies.trans h.dies⟩

theorem linkTime_foldl {α : Type} {f : State → α → State} (hf : ∀ s a, LinkTime s (f s a)) (l : List α) (s : State) :
    LinkTime s (l.foldl f s) := by
  induction l generalizing s with
  | nil => exact .refl s
  | cons a l ih => exact (hf s a).trans (ih _)

theorem linkTime_sliceTakes (i : SettingId) (s : State) : LinkTime s (sliceTakes i s) :=
  have ⟨_, h⟩ := sliceStep_sliceTakes i s
  ⟨by rw [h.rest], h.dies⟩

/-- The settings of a die's channels as its slices have carried them out. -/
def cfgsReturned (d : Die) (h : DieHold) (s : State) : State :=
  (List.finRange 16).foldl (fun s i =>
    let c : Ch := ⟨d.val * 16 + i.val, by omega⟩
    let f := fun x => returnedCfg x (h.cfgs[i.val]) (h.todo.contains (SettingId.ch c .mode))
    { s with live := { s.live with ch := upd s.live.ch c f } }) s

/-- The link delivers valid frames. -/
def linkReturned (d : Die) (s : State) : State := { s with dies := upd s.dies d fun d => { d with held := none } }

theorem deliverSettings_held {d : Die} {h : DieHold} {s : State} (hheld : (s.dies[d.val]).held = some h) :
    deliverSettings d s = h.todo.foldl (fun s i => sliceTakes i s) (linkReturned d (cfgsReturned d h s)) := by
  unfold deliverSettings
  rw [hheld]
  rfl

/-- The settings written while the link was down reach the slices, and the link delivers valid frames. -/
theorem deliverSettings_valid (d : Die) (s : State) : (deliverSettings d s).now = s.now ∧
    ((deliverSettings d s).dies[d.val]).valid = true := by
  cases hheld : (s.dies[d.val]).held with
  | none =>
    rw [show deliverSettings d s = s by unfold deliverSettings; rw [hheld]]
    exact ⟨rfl, by unfold DieLink.valid; rw [hheld]; rfl⟩
  | some h =>
    have hcfgs : LinkTime s (cfgsReturned d h s) := by
      unfold cfgsReturned
      refine linkTime_foldl (fun _ _ => ?_) _ s
      exact ⟨rfl, rfl⟩
    have htodo := linkTime_foldl (fun s i => linkTime_sliceTakes i s) h.todo (linkReturned d (cfgsReturned d h s))
    rw [deliverSettings_held hheld]
    generalize cfgsReturned d h s = v at hcfgs htodo ⊢
    refine ⟨htodo.now.trans hcfgs.now, ?_⟩
    rw [htodo.dies]
    unfold linkReturned
    dsimp only
    rw [upd_same]
    rfl

/-- The kept writes of the acknowledge bits reach the slices. -/
theorem deliverAll_link (d : Die) (s : State) : (deliverAll d s).now = s.now ∧
    ((deliverAll d s).dies[d.val]).valid = (s.dies[d.val]).valid := by
  have h := linkTime_foldl (f := fun s w => takeAck w s) (fun _ _ => ⟨rfl, rfl⟩) (s.dies[d.val]).queue
    { s with dies := upd s.dies d fun d => { d with queue := [] } }
  unfold deliverAll
  dsimp only at h ⊢
  refine ⟨h.now, ?_⟩
  rw [h.dies]
  dsimp only
  rw [upd_same]
  rfl

/-- The state of the link when its frames are back and what was kept has been delivered. -/
theorem noteFrame_restored (d : Die) (s : State) : ((noteFrame d (deliverAll d (deliverSettings d s))).dies[d.val]).valid = true ∧
    ((noteFrame d (deliverAll d (deliverSettings d s))).dies[d.val]).lastFrame = s.now := by
  obtain ⟨hnow, hvalid⟩ := deliverSettings_valid d s
  obtain ⟨hnow', hvalid'⟩ := deliverAll_link d (deliverSettings d s)
  generalize deliverAll d (deliverSettings d s) = v at *
  unfold noteFrame
  dsimp only
  rw [upd_same]
  exact ⟨hvalid'.trans hvalid, hnow'.trans hnow⟩

/-- The link of every die after the alarms of one have been judged. -/
theorem judgeDie_links (d k : Die) (s : State) : ((judgeDie d s).dies[k.val]).valid = (s.dies[k.val]).valid ∧
    ((judgeDie d s).dies[k.val]).lastFrame = (s.dies[k.val]).lastFrame := by
  unfold judgeDie
  dsimp only
  have hread := linkTime_foldl (f := takeReading) (fun _ _ => ⟨rfl, rfl⟩)
    (((dieChannels d).filter (chFitted s.ident.part)).flatMap fun c => allConds.map fun k => (c, k)) s
  change LinkTime s (List.foldl (fun s (p : Ch × Cond) => (readCond1 p.1 p.2 s).1) s _) at hread
  generalize (((dieChannels d).filter (chFitted s.ident.part)).flatMap fun c => allConds.map fun k => (c, k)) = l at hread ⊢
  generalize l.foldl _ s = v at hread ⊢
  have hmoved := alarmsMoved_foldl (f := fun w (p : Ch × Cond) => if (w.1.alarm p.1 p.2).st.plain then move p.1 p.2
    (rebuiltPlain (w.1.cond p.1 p.2).on (w.1.cond p.1 p.2).ack (steepRuns w.1 p.1 p.2)) w else w)
    (fun w p => by split; exact (alarmMoved_move ..).moved; exact .refl _) l (v, [])
  have h := (hmoved.trans (alarmsMoved_evalInhibit _)).trans (alarmsMoved_commit [] _)
  exact ⟨(h.step.links k).trans (by rw [hread.dies]), (h.frames k).trans (by rw [hread.dies])⟩

/-- Only the cause and the alarm of a member change by its cause: what ends its event stays. -/
theorem setCause_eventEnd (m j : Member) (v : Bool) (s : State) : ((setCause m v s).member j).eventEnd = (s.member j).eventEnd := by
  have hput : ∀ u : State, ((onMember m (fun a => { a with cause := v }) u).member j).eventEnd = (u.member j).eventEnd := fun u => by
    rw [member_onMember]; split <;> rfl
  have hmove : ∀ new w, ((moveMember m new w).1.member j).eventEnd = (w.1.member j).eventEnd := fun new w => by
    unfold moveMember
    dsimp only
    split
    · rfl
    · dsimp only; rw [member_onMember]; split <;> rfl
  have hcommit : ∀ w, ((commit [] w).member j).eventEnd = (w.1.member j).eventEnd := fun w => by rw [member_congr (commit_g31 [] w)]
  rw [← hput s]
  unfold setCause
  dsimp only
  split
  · rfl
  · split
    · rw [hcommit]
      split
      · exact hmove ..
      · exact hmove ..
      · rfl
    · rw [hcommit]
      split
      · exact hmove ..
      · exact hmove ..
      · rfl

theorem dieLinkFault_idle {d : Die} {s : State} (h : (s.dies[d.val]).valid = false ∨ s.now < (s.dies[d.val]).lastFrame + 1000) :
    dieLinkFault d s = s := by
  unfold dieLinkFault
  dsimp only
  rw [if_neg]
  rcases h with h | h
  · simp [h]
  · simp [Nat.not_le.2 h]

theorem cond_takeAck (a : AckWrite) (s : State) (c : Ch) (k : Cond) : (takeAck a s).cond c k = if a.c = c ∧ a.k = k then
    (if a.value ∧ (s.cond c k).occ ≠ a.occ then s.cond c k else { s.cond c k with ack := a.value }) else s.cond c k := cond_onCond ..

section
variable {s : State} {d : Die}

/-- A link of which no valid frame has come for 1 ms fails (01 R19, R900). -/
theorem dieLinkFault_fails (hsends : dieSends s d = true) (hvalid : (s.dies[d.val]).valid = true)
    (hold : (s.dies[d.val]).lastFrame + 1000 ≤ s.now) (hmode : s.power.mode ≠ .deep) :
    DoesSo (.dieLinkFault d) s fun w => (w.dies[d.val]).valid = false ∧ (w.dies[d.val]).held = some (holdOf d s) ∧
      (w.member (felink d)).cause = true ∧ (w.dies[d.val]).queue = latestWrites (s.dies[d.val]).queue ∧
      w.slices = s.slices ∧ w.engine.alarms = s.engine.alarms ∧ w.live = s.live := by
  obtain ⟨u, hu⟩ : ∃ u, u = { s with dies := upd s.dies d fun x => { x with held := some (holdOf d s), queue := latestWrites x.queue } } :=
    ⟨_, rfl⟩
  have hfault : dieLinkFault d s = setCause (felink d) true u := by
    rw [hu]
    unfold dieLinkFault
    dsimp only
    rw [if_pos (by simp [hsends, hvalid, hold, hmode])]
  have hdie : u.dies[d.val] = { s.dies[d.val] with held := some (holdOf d s), queue := latestWrites (s.dies[d.val]).queue } := by
    rw [hu]
    exact upd_same ..
  have hstay := alarmsStay_setCause (felink d) true u
  have hstep := engineStep_setCause (felink d) true u
  have hcause := setCause_cause (felink d) (felink d) true u
  have hrest : u.slices = s.slices ∧ u.engine = s.engine ∧ u.live = s.live := by rw [hu]; exact ⟨rfl, rfl, rfl⟩
  clear hu
  refine doesSo_of (congrArg finish hfault) ?_
  generalize setCause (felink d) true u = t at *
  rw [if_pos rfl] at hcause
  rw [hstay.dies, hdie]
  exact ⟨rfl, rfl, hcause, rfl, (show t.slices = u.slices by rw [hstep.rest]).trans hrest.1, hstay.alarms.trans (by rw [hrest.2.1]),
    hstep.live.trans hrest.2.2⟩

/-- Over a valid link the slice takes the write made first; a set that names an earlier occurrence is dropped (04 R221). -/
theorem ackBitWrite_takes (hvalid : (s.dies[d.val]).valid = true) {a : AckWrite} {r : List AckWrite}
    (hqueue : (s.dies[d.val]).queue = a :: r) : DoesSo (.ackBitWrite d true) s fun w =>
      (w.dies[d.val]).queue = r ∧ w.engine = s.engine ∧
      (w.cond a.c a.k).ack = (if a.value = true ∧ (s.cond a.c a.k).occ ≠ a.occ then (s.cond a.c a.k).ack else a.value) ∧
      (∀ (c : Ch) (k : Cond), (c, k) ≠ (a.c, a.k) → w.cond c k = s.cond c k) := by
  have htake : ackBitWrite d true s = takeAck a { s with dies := upd s.dies d fun x => { x with queue := r } } := by
    unfold ackBitWrite
    dsimp only
    rw [hvalid, hqueue]
    rfl
  refine doesSo_of (congrArg finish htake) ⟨?_, rfl, ?_, fun c k hne => ?_⟩
  · show ((upd s.dies d _)[d.val]).queue = r
    rw [upd_same]
  · rw [cond_takeAck, if_pos ⟨rfl, rfl⟩]
    show (if a.value ∧ (s.cond a.c a.k).occ ≠ a.occ then s.cond a.c a.k else { s.cond a.c a.k with ack := a.value }).ack = _
    split <;> rfl
  · rw [cond_takeAck, if_neg]
    · rfl
    · rintro ⟨rfl, rfl⟩
      exact hne rfl

/-- A link that is back is valid, and its FELINK ends (01 R19, R900). -/
theorem dieLinkRestored_restores (hvalid : (s.dies[d.val]).valid = false) (hsends : dieSends s d = true) :
    DoesSo (.dieLinkRestored d) s fun w => (w.dies[d.val]).valid = true ∧
      (w.dies[d.val]).lastFrame = s.now ∧ (w.member (felink d)).cause = false := by
  obtain ⟨v, hv⟩ : ∃ v, v = noteFrame d (deliverAll d (deliverSettings d s)) := ⟨_, rfl⟩
  have hback : dieLinkRestored d s = setCause (felink d) false (if v.engine.running then judgeDie d v else v) := by
    rw [hv]
    unfold dieLinkRestored
    rw [if_pos (by simp [hsends, hvalid])]
  obtain ⟨hvalid', hframe'⟩ := noteFrame_restored d s
  rw [← hv] at hvalid' hframe'
  have hlinks : ((if v.engine.running then judgeDie d v else v).dies[d.val]).valid = true ∧
      ((if v.engine.running then judgeDie d v else v).dies[d.val]).lastFrame = s.now := by
    obtain ⟨hjudged, hjudged'⟩ := judgeDie_links d d v
    split
    · exact ⟨hjudged.trans hvalid', hjudged'.trans hframe'⟩
    · exact ⟨hvalid', hframe'⟩
  refine doesSo_of (congrArg finish hback) ?_
  generalize (if v.engine.running then judgeDie d v else v) = t at hlinks ⊢
  rw [(alarmsStay_setCause ..).dies, setCause_cause, if_pos rfl]
  exact ⟨hlinks.1, hlinks.2, rfl⟩

end

/-- A die link that fails and comes back (01 R18–R20, R900). -/
theorem dieLink_acts (s : State) (d : Die) :
    (dieSends s d = true → (s.dies[d.val]).valid = true → (s.dies[d.val]).lastFrame + 1000 ≤ s.now → s.power.mode ≠ .deep →
      DoesSo (.dieLinkFault d) s fun w => (w.dies[d.val]).valid = false ∧ (w.dies[d.val]).held = some (holdOf d s) ∧
        (w.member (felink d)).cause = true ∧ (w.dies[d.val]).queue = latestWrites (s.dies[d.val]).queue ∧
        w.slices = s.slices ∧ w.engine.alarms = s.engine.alarms ∧ w.live = s.live) ∧
    (s.now < (s.dies[d.val]).lastFrame + 1000 → Does (.dieLinkFault d) s s) ∧
    ((s.dies[d.val]).valid = true →
      Does (.dieLinkRestored d) s s ∧ Does (.ackBitWrite d false) s s ∧
      (∀ (a : AckWrite) (r : List AckWrite), (s.dies[d.val]).queue = a :: r → DoesSo (.ackBitWrite d true) s fun w =>
        (w.dies[d.val]).queue = r ∧ w.engine = s.engine ∧
        (w.cond a.c a.k).ack = (if a.value = true ∧ (s.cond a.c a.k).occ ≠ a.occ then (s.cond a.c a.k).ack else a.value) ∧
        (∀ (c : Ch) (k : Cond), (c, k) ≠ (a.c, a.k) → w.cond c k = s.cond c k))) ∧
    ((s.dies[d.val]).valid = false → Does (.dieLinkFault d) s s ∧ (∀ ok : Bool, Does (.ackBitWrite d ok) s s) ∧
      (dieSends s d = true → DoesSo (.dieLinkRestored d) s fun w => (w.dies[d.val]).valid = true ∧
        (w.dies[d.val]).lastFrame = s.now ∧ (w.member (felink d)).cause = false)) := by
  refine ⟨dieLinkFault_fails, fun h => does_of (congrArg finish (dieLinkFault_idle (.inr h))),
    fun hvalid => ⟨?_, ?_, fun a r hqueue => ackBitWrite_takes hvalid hqueue⟩,
    fun hvalid => ⟨does_of (congrArg finish (dieLinkFault_idle (.inl hvalid))), fun ok => ?_, dieLinkRestored_restores hvalid⟩⟩
  · refine does_of (congrArg finish ?_)
    show dieLinkRestored d s = s
    unfold dieLinkRestored
    rw [if_neg (by simp [hvalid])]
  · refine does_of (congrArg finish ?_)
    show ackBitWrite d false s = s
    rfl
  · refine does_of (congrArg finish ?_)
    show ackBitWrite d ok s = s
    unfold ackBitWrite
    dsimp only
    rw [hvalid, Bool.and_false]

/-! ## The engine's timers -/

theorem delayEnds_st {w : Moving} {c : Ch} {k : Cond} {e : Tick} (hst : (w.1.alarm c k).st = .steeping)
    (hend : (w.1.alarm c k).delayEnd = some e) (hon : (w.1.alarm c k).on = true) (hrun : w.1.engine.running = true)
    (hlink : linkUp w.1 c = true) :
    ((delayEnds w (c, k)).1.alarm c k).st = if e ≤ w.1.now then .activeUnack else .steeping := by
  unfold delayEnds
  dsimp only
  rw [hst, hend, hrun, hlink, hon]
  simp only [Bool.true_and, Bool.and_true, decide_eq_true_eq]
  split
  · exact move_st ..
  · exact hst

theorem leave_st (c : Ch) (k : Cond) (w : Moving) : ((leave true c k w).1.alarm c k).st = unshelvedState w.1 c k := by
  unfold leave unshelvedState
  dsimp only
  split
  · exact move_st ..
  · split
    · rw [if_pos rfl]; exact move_st ..
    · split <;> exact move_st ..

/-- A group delay that ends or goes on (04 R215, R217). -/
theorem groupDelay_ends {s : State} {c : Ch} {k : Cond} {e : Tick} (hrun : s.engine.running = true) (hlink : linkUp s c = true)
    (hst : (s.alarm c k).st = .steeping) (hend : (s.alarm c k).delayEnd = some e) (hon : (s.alarm c k).on = true)
    (hinhib : (s.grpCfg (s.chCfg c).grp).inhib = none) : DoesSo (.groupDelayExpiry c k {}) s fun w => EngineStep s w ∧
      (w.alarm c k).st = (if e ≤ s.now then .activeUnack else .steeping) ∧
      (∀ (d : Ch) (j : Cond), (d, j) ≠ (c, k) → (s.grpCfg (s.chCfg d).grp).inhib = none → (s.alarm d j).st ≠ .inhibited →
        w.alarm d j = s.alarm d j) := by
  have hrun' : groupDelayExpiry c k {} s = commit [] (evalInhibit (delayEnds (s, []) (c, k))) := rfl
  have hmoved := alarmMoved_delayEnds (s, []) (c, k)
  have hends := delayEnds_st (w := (s, [])) hst hend hon hrun hlink
  refine doesSo_of (congrArg finish hrun') ?_
  generalize delayEnds (s, []) (c, k) = x at hmoved hends ⊢
  refine ⟨(hmoved.step.trans (engineStep_evalInhibit x)).trans (engineStep_commit [] _), ?_, fun d j hne hfree hout => ?_⟩
  · rw [(alarmsStay_commit ..).alarm, evalInhibit_others ((grpInhib_congr hmoved.step.live c).trans hinhib), hends]
    rw [hends]
    split <;> exact AlarmState.noConfusion
  · rw [(alarmsStay_commit ..).alarm, evalInhibit_others ((grpInhib_congr hmoved.step.live d).trans hfree), hmoved.others d j hne]
    rw [hmoved.others d j hne]
    exact hout

/-- A shelving that ends (04 R215, R216, R260). -/
theorem shelving_ends {s : State} {c : Ch} {k : Cond} {e : Tick} (hrun : s.engine.running = true) (hlink : linkUp s c = true)
    (hst : (s.alarm c k).st = .shelved) (hend : (s.alarm c k).shelfEnd = some e) (hdue : e ≤ s.nodeTime) :
    DoesSo (.shelvingExpiry c k {}) s fun w => EngineStep s w ∧ (w.alarm c k).st = unshelvedState s c k ∧
      (∀ (d : Ch) (j : Cond), (d, j) ≠ (c, k) → w.alarm d j = s.alarm d j) := by
  obtain ⟨u, hu⟩ : ∃ u, u = emit (alarmEvent s c k 0x0106 .shelved .shelved) s := ⟨_, rfl⟩
  have hlog : LogOnly s u := hu ▸ logOnly_emit ..
  have hemit : EngineStep s u := hu ▸ engineStep_emit ..
  have hends : endShelving c k s = commit [] (leave true c k (u, [])) := by
    rw [hu]
    unfold endShelving
    dsimp only
    rw [hst, hend]
    dsimp only
    rw [if_pos (by simp [hrun, hlink, hdue])]
  clear hu
  have hsame : unshelvedState u c k = unshelvedState s c k := by
    rw [hlog]; rfl
  have hmoved := alarmMoved_leave c k (u, []) true
  have hleft := leave_st c k (u, [])
  refine doesSo_of (congrArg finish hends) ?_
  generalize leave true c k (u, []) = x at hmoved hleft ⊢
  refine ⟨(hemit.trans hmoved.step).trans (engineStep_commit [] _), ?_, fun d j hne => ?_⟩
  · rw [(alarmsStay_commit ..).alarm, hleft]
    exact hsame
  · rw [(alarmsStay_commit ..).alarm, hmoved.others d j hne]
    exact hlog.alarmsStay.alarm d j

theorem shelving_stays {s : State} {c : Ch} {k : Cond} {e : Tick} (hend : (s.alarm c k).shelfEnd = some e) (hearly : s.nodeTime < e) :
    Does (.shelvingExpiry c k {}) s s := by
  refine does_of (congrArg finish ?_)
  show endShelving c k s = s
  unfold endShelving
  dsimp only
  rw [hend]
  split
  next heq =>
    rw [if_neg]
    rw [← Option.some.inj heq]
    simp [Nat.not_le.2 hearly]
  · rfl

/-- An event member's second (04 R250). -/
theorem eventExpiry_acts {s : State} {m : Member} {e : Tick} (hend : (s.member m).eventEnd = some e) :
    (e ≤ s.now → DoesSo (.g31EventExpiry m) s fun w => EngineStep s w ∧ (w.member m).cause = false ∧
      (w.member m).eventEnd = none ∧ w.engine.alarms = s.engine.alarms) ∧
    (s.now < e → Does (.g31EventExpiry m) s s) := by
  have hrun : g31EventExpiry m s = if e ≤ s.now then setCause m false (onMember m (fun a => { a with eventEnd := none }) s) else s := by
    unfold g31EventExpiry
    rw [hend]
  refine ⟨fun hdue => doesSo_of (congrArg finish (hrun.trans (if_pos hdue))) ⟨?_, ?_, ?_, ?_⟩,
    fun hearly => does_of (congrArg finish (hrun.trans (if_neg (Nat.not_le.2 hearly))))⟩
  · exact (engineStep_onMember ..).trans (engineStep_setCause ..)
  · rw [setCause_cause, if_pos rfl]
  · rw [setCause_eventEnd, member_onMember, if_pos rfl]
  · exact (alarmsStay_setCause ..).alarms

/-- Lines held through a core reset (01 R25). -/
theorem lineHold_acts {s : State} {e : Tick} {h : LineHold} (hcore : s.engine.coreAt = some e) (hhold : s.engine.hold = some h)
    (hrun : s.engine.running = false) (hmode : s.power.mode ≠ .deep) :
    (e + 2 * usSec ≤ s.now → Does .lineHoldExpiry s { s with engine := { s.engine with hold := none } }) ∧
    (s.now < e + 2 * usSec → Does .lineHoldExpiry s s) := by
  have hend : lineHoldExpiry s = if s.engine.running = false ∧ e + 2 * usSec ≤ s.now ∧ s.power.mode ≠ .deep then
      { s with engine := { s.engine with hold := none } } else s := by
    unfold lineHoldExpiry
    rw [hcore, hhold]
  refine ⟨fun hdue => does_of (congrArg finish (hend.trans (if_pos ⟨hrun, hdue, hmode⟩))),
    fun hearly => does_of (congrArg finish (hend.trans (if_neg fun hnow => Nat.not_le.2 hearly hnow.2.1)))⟩

/-- Settles O48: the link's part by what is kept of a die, the timers' part by the moves of one alarm or one member. -/
theorem linksFailAndTimersEnd : Obligations.LinksFailAndTimersEnd := by
  unfold Obligations.LinksFailAndTimersEnd
  refine ⟨fun s d => dieLink_acts s d, fun s c k m e => ⟨fun x => ⟨does_of rfl, rfl⟩, fun hrun hlink => ⟨?_, fun hst hend => ⟨?_, ?_⟩⟩,
    fun hend => eventExpiry_acts hend, fun h => lineHold_acts⟩⟩
  · exact fun hst hend hon hinhib => groupDelay_ends hrun hlink hst hend hon hinhib
  · exact fun hdue => shelving_ends hrun hlink hst hend hdue
  · exact fun hearly => shelving_stays hend hearly

end Sys2Proof.Machine

/-! THE CALLS AS THE CALLER MOVES THEM (05 R278–R296, R312–R316): what each operation makes of one call, and that it leaves the other
calls, the alarms and the die links. -/

namespace Sys2Proof.Machine

/-- What moves calls, records and frames, and nothing of the alarm engine or the die links. -/
structure CallStep (u t : State) : Prop where
  step : EngineStep u t
  engine : t.engine = u.engine
  dies : t.dies = u.dies

theorem CallStep.refl (u : State) : CallStep u u := ⟨.refl u, rfl, rfl⟩

theorem CallStep.trans {u v t : State} (h : CallStep u v) (h' : CallStep v t) : CallStep u t :=
  ⟨h.step.trans h'.step, h'.engine.trans h.engine, h'.dies.trans h.dies⟩

theorem callStep_foldl {α : Type} {f : State → α → State} (hf : ∀ s a, CallStep s (f s a)) (l : List α) (s : State) :
    CallStep s (l.foldl f s) := by
  induction l generalizing s with
  | nil => exact .refl s
  | cons a l ih => exact (hf s a).trans (ih _)

/-- What moves one call: the others stay. -/
structure CallMoved (n : NodeNo) (g : Grp) (u t : State) : Prop extends CallStep u t where
  others : ∀ m j, (m, j) ≠ (n, g) → t.call m j = u.call m j

section
variable (n m : NodeNo) (g j : Grp)

theorem CallMoved.refl (u : State) : CallMoved n g u u := ⟨.refl u, fun _ _ _ => rfl⟩

variable {n g} in
theorem CallMoved.trans {u v t : State} (h : CallMoved n g u v) (h' : CallMoved n g v t) : CallMoved n g u t :=
  ⟨h.toCallStep.trans h'.toCallStep, fun m j hne => (h'.others m j hne).trans (h.others m j hne)⟩

theorem call_onCall (f : Call → Call) (s : State) : (onCall n g f s).call m j = if n = m ∧ g = j then f (s.call m j) else s.call m j := by
  unfold State.call onCall
  dsimp only
  rw [upd_get]
  by_cases hn : n = m
  · subst hn
    rw [if_pos rfl, upd_get]
    by_cases hg : g = j
    · subst hg; simp
    · rw [if_neg hg, if_neg (fun e => hg e.2)]
  · rw [if_neg hn, if_neg (fun e => hn e.1)]

theorem callMoved_onCall (f : Call → Call) (s : State) : CallMoved n g s (onCall n g f s) :=
  ⟨⟨engineStep_onCall .., rfl, rfl⟩, fun m j hne => by
    rw [call_onCall, if_neg]
    rintro ⟨rfl, rfl⟩
    exact hne rfl⟩

theorem callMoved_send (b : Msg) (s : State) : CallMoved n g s (send b s) :=
  ⟨⟨engineStep_send .., send_engine .., send_dies ..⟩, fun m j _ => by unfold State.call; rw [send_caller]⟩

theorem callMoved_emit (e : Event) (s : State) : CallMoved n g s (emit e s) :=
  ⟨⟨engineStep_emit .., emit_engine .., emit_dies ..⟩, fun m j _ => by unfold State.call; rw [emit_caller]⟩

/-- A change of a call is sent and recorded. -/
theorem callMoved_told (a b : Bool) (code : BitVec 16) (c : Call) (u : Nat) (s : State) :
    CallMoved n g s (callChanged (emitCall g code c u (sendCall n g a b s))) :=
  ((callMoved_send ..).trans (callMoved_emit ..)).trans ⟨⟨engineStep_onHpEvent .., rfl, rfl⟩, fun _ _ _ => rfl⟩

theorem callMoved_beginStage (k : Nat) (code : BitVec 16) (s : State) : CallMoved n g s (beginStage n g k code s) :=
  (callMoved_onCall ..).trans (callMoved_told ..)

theorem callMoved_startCall (cls : Fin 4) (s : State) : CallMoved n g s (startCall n g cls s) :=
  (callMoved_onCall ..).trans (callMoved_beginStage ..)

theorem callMoved_restartCall (s : State) : CallMoved n g s (restartCall n g s) :=
  (callMoved_onCall ..).trans (callMoved_beginStage ..)

theorem callMoved_endCall (s : State) : CallMoved n g s (endCall n g s) := (callMoved_onCall ..).trans (callMoved_told ..)

theorem callMoved_reclassCall (cls : Fin 4) (s : State) : CallMoved n g s (reclassCall n g cls s) :=
  (callMoved_onCall ..).trans (callMoved_send ..)

theorem callMoved_takeCall (s : State) : CallMoved n g s (takeCall n g s) := by
  unfold takeCall
  dsimp only
  split
  · exact .refl ..
  · exact (((callMoved_onCall ..).trans (callMoved_send ..)).trans (callMoved_emit ..)).trans (callMoved_onCall ..)

theorem callMoved_groupCall (old new : AlarmState) (entered deadman missed : Bool) (s : State) :
    CallMoved n g s (groupCall n g old new entered deadman missed s) := by
  unfold groupCall
  split
  · exact .refl ..
  · dsimp only
    split
    · split
      · exact callMoved_startCall ..
      · exact .refl ..
    · have hmissed : CallMoved n g s (if g = 31 ∧ missed = true ∧ (s.call n g).cls ≠ callClass s n g deadman then
          reclassCall n g (callClass s n g deadman) s else s) := by
        split
        · exact callMoved_reclassCall ..
        · exact .refl ..
      have hkept : ∀ b : Bool, CallMoved n g s (if b = true then endCall n g s else
          if entered = true ∧ (s.call n g).st = .accepted then
            restartCall n g (if g = 31 ∧ missed = true ∧ (s.call n g).cls ≠ callClass s n g deadman then
              reclassCall n g (callClass s n g deadman) s else s)
          else if g = 31 ∧ missed = true ∧ (s.call n g).cls ≠ callClass s n g deadman then
            reclassCall n g (callClass s n g deadman) s else s) := by
        intro b
        split
        · exact callMoved_endCall ..
        · split
          · exact hmissed.trans (callMoved_restartCall ..)
          · exact hmissed
      exact hkept _

theorem callMoved_startMissing (s : State) : CallMoved n g s (startMissing n g s) := by
  unfold startMissing
  dsimp only
  split
  · exact callMoved_startCall ..
  · exact .refl ..

theorem callMoved_endFinished (s : State) : CallMoved n g s (endFinished n g s) := by
  unfold endFinished
  dsimp only
  split
  · exact callMoved_endCall ..
  · exact .refl ..

end

/-- The lead takes up every call of the copy. -/
theorem callStep_takeAllCalls (s : State) : CallStep s (takeAllCalls s) := by
  have hall : ∀ (f : NodeNo → Grp → State → State), (∀ n g u, CallMoved n g u (f n g u)) →
      ∀ u, CallStep u (callKeys.foldl (fun s p => f p.1 p.2 s) u) :=
    fun f hf u => callStep_foldl (f := fun s p => f p.1 p.2 s) (fun s p => (hf p.1 p.2 s).toCallStep) callKeys u
  unfold takeAllCalls
  exact ((hall takeCall callMoved_takeCall s).trans (hall endFinished callMoved_endFinished _)).trans (hall startMissing callMoved_startMissing _)

theorem callStep_startOwnCalls (s : State) : CallStep s (startOwnCalls s) := by
  unfold startOwnCalls
  split
  · exact callStep_foldl (fun s g => (callMoved_startMissing s.watch.node g s).toCallStep) _ s
  · exact .refl s

theorem callStep_stage3Own (s : State) : CallStep s (stage3Own s) := by
  refine callStep_foldl (fun s g => ?_) _ s
  split
  · exact (callMoved_beginStage ..).toCallStep
  · exact .refl s

/-! ## What one call comes to -/

theorem call_beginStage (n : NodeNo) (g : Grp) (k : Nat) (code : BitVec 16) (s : State) :
    (beginStage n g k code s).call n g = stageCall s (s.call n g) k := by
  unfold beginStage
  dsimp only
  rw [call_told, call_onCall_same]

end Sys2Proof.Machine

/-! THE ENGINE REBUILDS FROM THE SLICES (01 R19, R22, R26, R41; 04 R222; 15 R792; log 151). -/

namespace Sys2Proof.Machine

theorem mem_channels {p : Part} {c : Ch} : c ∈ channels p ↔ chFitted p c = true := by
  unfold channels
  simp

theorem condAt_condIdx (k : Cond) : condAt (condIdx k) = k := by cases k <;> rfl

/-! ## What is read (01 R22, R41; 04 R222) -/

theorem alarmsRead_up {s : State} {c : Ch} (hlink : linkUp s c = true) (keep same : Bool) (k : Cond) :
    ((alarmsRead keep same s).cond c k).hist = ((s.cond c k).hist && histStays same s (s.cond c k)) ∧
    (alarmsRead keep same s).alarm c k = rebuiltBase s keep c (condIdx k) := by
  unfold alarmsRead State.cond State.slice State.alarm
  dsimp only
  rw [Vector.getElem_ofFn, if_pos hlink, Vector.getElem_ofFn, if_pos hlink, Vector.getElem_ofFn]
  refine ⟨?_, rfl⟩
  unfold readHists
  dsimp only
  rw [Vector.getElem_map]

theorem alarmsRead_down {s : State} {c : Ch} (hlink : linkUp s c = false) (keep same : Bool) (k : Cond) :
    (alarmsRead keep same s).cond c k = s.cond c k ∧ (alarmsRead keep same s).alarm c k = s.alarm c k := by
  unfold alarmsRead State.cond State.slice State.alarm
  dsimp only
  rw [Vector.getElem_ofFn, if_neg (by rw [hlink]; exact Bool.false_ne_true), Vector.getElem_ofFn,
    if_neg (by rw [hlink]; exact Bool.false_ne_true)]
  exact ⟨rfl, rfl⟩

/-- Setting the engine running changes nothing of what the rebuild reads. -/
theorem engineAnew_reads (keep : Bool) (s : State) (c : Ch) (k : Cond) : (engineAnew keep s).cond c k = s.cond c k ∧
    linkUp (engineAnew keep s) c = linkUp s c ∧ (∀ b x, histStays b (engineAnew keep s) x = histStays b s x) ∧
    (engineAnew keep s).alarm c k = s.alarm c k ∧ rebuiltBase (engineAnew keep s) keep c (condIdx k) = rebuiltBase s keep c (condIdx k) := by
  have hcond : ∀ j, (engineAnew keep s).cond c j = s.cond c j := fun _ => rfl
  have halarm : ∀ j, (engineAnew keep s).alarm c j = s.alarm c j := fun _ => rfl
  have hcfg : ∀ j, (engineAnew keep s).condCfg c j = s.condCfg c j := fun _ => rfl
  have htime : (engineAnew keep s).nodeTime = s.nodeTime := rfl
  have hlink : linkUp (engineAnew keep s) c = linkUp s c := rfl
  have hcycle : (engineAnew keep s).cycle = s.cycle := rfl
  generalize engineAnew keep s = u at *
  refine ⟨hcond k, hlink, fun b x => by unfold histStays; rw [hcycle], halarm k, ?_⟩
  unfold rebuiltBase steepRuns
  dsimp only
  rw [hcond, halarm, hcfg, htime]

/-! ## The acknowledge bits of what is disabled -/

/-- Only alarms that are DISABLED, and of these only the acknowledge bit, are touched. -/
theorem disableBits_alarm (s : State) (c : Ch) (k : Cond) :
    ((disableBits s).alarm c k).st = (s.alarm c k).st ∧ ((s.alarm c k).st ≠ .disabled → (disableBits s).alarm c k = s.alarm c k) := by
  have hbit : ∀ (l : List (Ch × Cond)) (u : State),
      ((l.foldl (fun s p => pushAck p.1 p.2 true s) u).alarm c k).st = (u.alarm c k).st ∧
      ((c, k) ∉ l → (l.foldl (fun s p => pushAck p.1 p.2 true s) u).alarm c k = u.alarm c k) := by
    intro l
    induction l with
    | nil => exact fun u => ⟨rfl, fun _ => rfl⟩
    | cons p l ih =>
      intro u
      obtain ⟨hst, hout⟩ := ih (pushAck p.1 p.2 true u)
      rw [List.foldl_cons]
      refine ⟨hst.trans ?_, fun h => ?_⟩
      · rw [alarm_pushAck]; split <;> rfl
      · obtain ⟨hp, hl⟩ := not_or.1 (fun e => h (List.mem_cons.2 e))
        exact (hout hl).trans ((alarmMoved_pushAck p.1 p.2 true u).others c k hp)
  refine ⟨(hbit _ s).1, fun hst => (hbit _ s).2 fun h => ?_⟩
  obtain ⟨-, hpass⟩ := (mem_conds (p := fun c k => decide ((s.alarm c k).st = .disabled) && !(s.alarm c k).ackBit)).1 h
  exact hst (of_decide_eq_true (Bool.and_eq_true_iff.1 hpass).1)

/-! ## The moves of the rebuild -/

/-- Without INHIB the state that the rebuild gives follows from the settings and the alarm alone. -/
theorem rebuiltState_congr {u t : State} {c : Ch} {k : Cond} (hlive : t.live = u.live) (halarm : t.alarm c k = u.alarm c k)
    (hinhib : (u.grpCfg (u.chCfg c).grp).inhib = none) : rebuiltState t c k = rebuiltState u c k := by
  have hcfg : t.condCfg c k = u.condCfg c k := by unfold State.condCfg State.chCfg; rw [hlive]
  unfold rebuiltState
  rw [inhibitedBy_none hinhib, inhibitedBy_none ((grpInhib_congr hlive c).trans hinhib), halarm, hcfg]

/-- The rebuild takes every alarm of a fitted channel whose link is up to its state, and leaves the others. -/
theorem rebuildMoves_st (s : State) (c : Ch) (k : Cond) :
    (chFitted s.ident.part c = true → linkUp s c = true → (s.grpCfg (s.chCfg c).grp).inhib = none →
      ((rebuildMoves s).1.alarm c k).st = rebuiltState s c k) ∧
    (linkUp s c = false → (rebuildMoves s).1.alarm c k = s.alarm c k) := by
  have hf : ∀ (w : Moving) (q : Ch × Cond), AlarmMoved q.1 q.2 w.1 (move q.1 q.2 (rebuiltState w.1 q.1 q.2) w).1 :=
    fun w q => alarmMoved_move ..
  unfold rebuildMoves
  have hnodup := nodup_conds (((List.nodup_finRange 128).filter (chFitted s.ident.part)).filter (linkUp s))
    fun c k => decide (rebuiltState s c k ≠ (s.alarm c k).st)
  have hmem : ((c, k) ∈ ((channels s.ident.part).filter (linkUp s)).flatMap fun c =>
      (allConds.filter fun k => decide (rebuiltState s c k ≠ (s.alarm c k).st)).map fun k => (c, k)) ↔
      (chFitted s.ident.part c = true ∧ linkUp s c = true) ∧ rebuiltState s c k ≠ (s.alarm c k).st := by
    rw [mem_conds (p := fun c k => decide (rebuiltState s c k ≠ (s.alarm c k).st)), List.mem_filter, mem_channels, decide_eq_true_iff]
  change List.Nodup (((channels s.ident.part).filter (linkUp s)).flatMap fun c =>
      (allConds.filter fun k => decide (rebuiltState s c k ≠ (s.alarm c k).st)).map fun k => (c, k)) at hnodup
  generalize (((channels s.ident.part).filter (linkUp s)).flatMap fun c =>
      (allConds.filter fun k => decide (rebuiltState s c k ≠ (s.alarm c k).st)).map fun k => (c, k)) = l at hnodup hmem ⊢
  have hstays := fun (h : (c, k) ∉ l) => keyed_foldl_out hf h (s, [])
  refine ⟨fun hfit hlink hinhib => ?_, fun hlink => hstays fun h => Bool.false_ne_true (hlink.symm.trans (hmem.1 h).1.2)⟩
  by_cases hmoves : rebuiltState s c k = (s.alarm c k).st
  · rw [hstays fun h => (hmem.1 h).2 hmoves]
    exact hmoves.symm
  · obtain ⟨x, hx, hsame, hlast⟩ := keyed_foldl_once hf hnodup (hmem.2 ⟨⟨hfit, hlink⟩, hmoves⟩) (s, [])
    rw [hlast, move_st]
    exact rebuiltState_congr hx.step.live hsame hinhib

/-- The state that the rebuild gives to an alarm that it has read from its slice (04 R222). -/
theorem rebuiltState_read {s u : State} {c : Ch} {k : Cond} (hlive : u.live = s.live)
    (hinhib : (s.grpCfg (s.chCfg c).grp).inhib = none)
    (hread : (s.condCfg c k).en = true → u.alarm c k = rebuiltBase s false c (condIdx k)) :
    rebuiltState u c k = if (s.condCfg c k).en = false then .disabled
      else if (s.cond c k).on = true then (if (s.cond c k).ack = true then .activeAck else .activeUnack)
      else if (s.cond c k).ack = false then .returnUnack
      else if steepRuns s c k = true then .steeping else .normal := by
  have hcfg : u.condCfg c k = s.condCfg c k := by unfold State.condCfg State.chCfg; rw [hlive]
  unfold rebuiltState
  dsimp only
  rw [hcfg, inhibitedBy_none ((grpInhib_congr hlive c).trans hinhib)]
  cases hen : (s.condCfg c k).en with
  | false => rw [if_pos rfl, if_pos rfl]
  | true =>
    have hnot : ¬ (true = false) := fun h => Bool.noConfusion h
    rw [if_neg hnot, if_neg hnot, hread hen]
    unfold rebuiltBase rebuiltPlain
    simp only [condAt_condIdx, hen, Bool.false_and]
    cases (s.cond c k).ack <;> simp

/-! ## After the rebuild -/

/-- The members of G31 are rebuilt, and everything is published, without a move of an alarm. -/
theorem alarmsStay_rebuildEnds (keep : Bool) (w : Moving) :
    AlarmsStay w.1 (publishAll (List.finRange 32) ((List.finRange 19).foldl (fun w m => rebuildMember keep m w) w)) := by
  have hmember : ∀ (m : Member) (w : Moving), AlarmsStay w.1 (rebuildMember keep m w).1 := by
    intro m w
    unfold rebuildMember
    dsimp only
    have hset := fun st : AlarmState => alarmsStay_onMember m (fun a => { a with st := st }) w.1
    generalize (if keep then (w.1.member m).st else AlarmState.normal) = base
    have hmoved : ∀ new, AlarmsStay w.1 (moveMember m new (onMember m (fun a => { a with st := base }) w.1, w.2)).1 :=
      fun new => (hset base).trans (alarmsStay_moveMember m new (_, w.2))
    split
    · split
      · exact hset _
      · exact hmoved _
    · split
      · exact hmoved _
      · exact hmoved _
      · exact hset _
  have hall : ∀ (l : List Member) (w : Moving), AlarmsStay w.1 (l.foldl (fun w m => rebuildMember keep m w) w).1 := by
    intro l
    induction l with
    | nil => exact fun w => .refl _
    | cons m l ih => exact fun w => (hmember m w).trans (ih _)
  exact (hall _ w).trans (alarmsStay_publishAll ..)

/-- What stands once the alarms are rebuilt. -/
structure Rebuilt (same : Bool) (s w : State) : Prop where
  running : w.engine.running = true
  hold : w.engine.hold = none
  live : w.live = s.live
  phase : w.rst.phase = s.rst.phase
  alarms : ∀ (c : Ch) (k : Cond), chFitted s.ident.part c = true →
    (linkUp s c = true → (w.cond c k).hist = ((s.cond c k).hist && histStays same s (s.cond c k)) ∧
      ((s.grpCfg (s.chCfg c).grp).inhib = none → (w.alarm c k).st = if (s.condCfg c k).en = false then .disabled
        else if (s.cond c k).on = true then (if (s.cond c k).ack = true then .activeAck else .activeUnack)
        else if (s.cond c k).ack = false then .returnUnack
        else if steepRuns s c k = true then .steeping else .normal)) ∧
    (linkUp s c = false → w.cond c k = s.cond c k ∧ (w.alarm c k).st = (s.alarm c k).st)

theorem rebuilt_rebuild (same : Bool) (s : State) : Rebuilt same s (rebuild false same s) := by
  have hstep := engineStep_rebuild false same s
  obtain ⟨hread, hrunning, hhold⟩ := alarmsRead_anew false same s
  have hbits := disableBits_alarm (alarmsRead false same (engineAnew false s))
  have hbitsStep := engineStep_disableBits (alarmsRead false same (engineAnew false s))
  have hmoves := rebuildMoves_st (disableBits (alarmsRead false same (engineAnew false s)))
  have hends := alarmsStay_rebuildEnds false (rebuildMoves (disableBits (alarmsRead false same (engineAnew false s))))
  rw [← rebuild_eq] at hends
  have hlinkRead : ∀ c, linkUp (alarmsRead false same (engineAnew false s)) c = linkUp s c := fun c => by
    unfold linkUp State.linkOf
    rw [hread]
  have hup : ∀ c k, linkUp s c = true → ((alarmsRead false same (engineAnew false s)).cond c k).hist =
      ((s.cond c k).hist && histStays same s (s.cond c k)) ∧
      (alarmsRead false same (engineAnew false s)).alarm c k = rebuiltBase s false c (condIdx k) :=
    fun c k h => by
      obtain ⟨hcond, hlink, hstays, -, hbase⟩ := engineAnew_reads false s c k
      obtain ⟨hhist, halarm⟩ := alarmsRead_up (hlink.trans h) false same k
      rw [hcond, hstays] at hhist
      exact ⟨hhist, halarm.trans hbase⟩
  have hdown : ∀ c k, linkUp s c = false → (alarmsRead false same (engineAnew false s)).cond c k = s.cond c k ∧
      (alarmsRead false same (engineAnew false s)).alarm c k = s.alarm c k :=
    fun c k h => by
      obtain ⟨hcond, hlink, -, halarm, -⟩ := engineAnew_reads false s c k
      obtain ⟨hcond', halarm'⟩ := alarmsRead_down (hlink.trans h) false same k
      exact ⟨hcond'.trans hcond, halarm'.trans halarm⟩
  generalize alarmsRead false same (engineAnew false s) = r at *
  have hlinkBits : ∀ c, linkUp (disableBits r) c = linkUp s c := fun c => (hbitsStep.links (dieOf c)).trans (hlinkRead c)
  have hliveBits : (disableBits r).live = s.live := hbitsStep.live.trans (by rw [hread])
  have hfitBits : (disableBits r).ident = s.ident := hbitsStep.ident.trans (by rw [hread])
  generalize disableBits r = b at *
  generalize rebuildMoves b = m at *
  generalize rebuild false same s = w at *
  have hcond : ∀ c k, w.cond c k = r.cond c k := fun c k => by unfold State.cond State.slice; rw [hstep.rest]
  refine ⟨hstep.running.trans hrunning, hstep.hold.trans hhold, hstep.live.trans (by rw [hread]),
    (by rw [hstep.rst, hread]), fun c k hfit => ⟨fun hlink => ⟨?_, fun hinhib => ?_⟩, fun hlink => ⟨?_, ?_⟩⟩⟩
  · rw [hcond]
    exact (hup c k hlink).1
  · rw [hends.alarm, (hmoves c k).1 (by rw [hfitBits]; exact hfit) ((hlinkBits c).trans hlink) ((grpInhib_congr hliveBits c).trans hinhib)]
    have hbase := (hup c k hlink).2
    refine rebuiltState_read hliveBits hinhib fun hen => ?_
    rw [(hbits c k).2, hbase]
    rw [hbase]
    unfold rebuiltBase
    simp [condAt_condIdx, hen]
  · rw [hcond]
    exact (hdown c k hlink).1
  · rw [hends.alarm, (hmoves c k).2 ((hlinkBits c).trans hlink), (hbits c k).1, (hdown c k hlink).2]

/-- What the steps after the rebuild leave of what it made. -/
structure RebuildStays (u t : State) : Prop where
  slices : t.slices = u.slices
  engine : t.engine = u.engine
  live : t.live = u.live

theorem RebuildStays.trans {u v t : State} (h : RebuildStays u v) (h' : RebuildStays v t) : RebuildStays u t :=
  ⟨h'.slices.trans h.slices, h'.engine.trans h.engine, h'.live.trans h.live⟩

theorem CallStep.rebuildStays {u t : State} (h : CallStep u t) : RebuildStays u t := ⟨by rw [h.step.rest], h.engine, h.step.live⟩

theorem Rebuilt.stays {same : Bool} {s u t : State} (h : Rebuilt same s u) (hstays : RebuildStays u t) (hphase : t.rst.phase = u.rst.phase) :
    Rebuilt same s t := by
  obtain ⟨hslices, hengine, hlive⟩ := hstays
  have hcond : ∀ c k, t.cond c k = u.cond c k := fun c k => by unfold State.cond State.slice; rw [hslices]
  have halarm : ∀ c k, t.alarm c k = u.alarm c k := fun c k => by unfold State.alarm; rw [hengine]
  refine ⟨by rw [hengine]; exact h.running, by rw [hengine]; exact h.hold, hlive.trans h.live, hphase.trans h.phase, fun c k => ?_⟩
  rw [hcond, halarm]
  exact h.alarms c k

/-- The controllers join their buses. -/
def busesJoin (s : State) : State := joinBus .canB (joinBus .canA { s with watch := { s.watch with joined := true, nextHb := s.now } })

theorem joinLinks_eq (s : State) : joinLinks s =
    if linksListenXo (busesJoin s) then stage3Own { busesJoin s with watch := { (busesJoin s).watch with lead := none } } else busesJoin s := rfl

theorem rebuildStays_joinLinks (s : State) : RebuildStays s (joinLinks s) ∧ (joinLinks s).rst = s.rst := by
  have hbuses : RebuildStays s (busesJoin s) ∧ (busesJoin s).rst = s.rst := ⟨⟨rfl, rfl, rfl⟩, rfl⟩
  rw [joinLinks_eq]
  generalize busesJoin s = v at hbuses ⊢
  obtain ⟨hstays, hrst⟩ := hbuses
  split
  · obtain ⟨u, hu⟩ : ∃ u, u = { v with watch := { v.watch with lead := none } } := ⟨_, rfl⟩
    have hlead : RebuildStays v u ∧ u.rst = v.rst := by rw [hu]; exact ⟨⟨rfl, rfl, rfl⟩, rfl⟩
    rw [← hu]
    have h := callStep_stage3Own u
    exact ⟨(hstays.trans hlead.1).trans h.rebuildStays, h.step.rst.trans (hlead.2.trans hrst)⟩
  · exact ⟨hstays, hrst⟩

/-- The first part of a refresh leaves the backlog. -/
def feedOne (x : RefreshItem) (r : List RefreshItem) (s : State) : State :=
  match itemMsg { s with watch := { s.watch with backlog := r } } x with
  | some m => send m { s with watch := { s.watch with backlog := r } }
  | none => { s with watch := { s.watch with backlog := r } }

theorem rebuildStays_feedOne (x : RefreshItem) (r : List RefreshItem) (s : State) :
    RebuildStays s (feedOne x r s) ∧ (feedOne x r s).rst = s.rst := by
  unfold feedOne
  split
  · exact ⟨⟨send_slices .., send_engine .., send_live ..⟩, send_rst ..⟩
  · exact ⟨⟨rfl, rfl, rfl⟩, rfl⟩

theorem rebuildStays_feed (k : Nat) (s : State) : RebuildStays s (feed k s) ∧ (feed k s).rst = s.rst := by
  induction k generalizing s with
  | zero => exact ⟨⟨rfl, rfl, rfl⟩, rfl⟩
  | succ k ih =>
    unfold feed
    split
    · exact ⟨⟨rfl, rfl, rfl⟩, rfl⟩
    next x r _ =>
      split
      · obtain ⟨hone, hrst⟩ := rebuildStays_feedOne x r s
        obtain ⟨hrest, hrst'⟩ := ih (feedOne x r s)
        exact ⟨hone.trans hrest, hrst'.trans hrst⟩
      · exact ⟨⟨rfl, rfl, rfl⟩, rfl⟩

theorem rebuildStays_sendRefresh (s : State) : RebuildStays s (sendRefresh s) ∧ (sendRefresh s).rst = s.rst := by
  unfold sendRefresh
  dsimp only
  obtain ⟨u, hu⟩ : ∃ u, u = { s with watch := { s.watch with backlog := s.watch.backlog ++ refreshItems s, refreshDue := false } } := ⟨_, rfl⟩
  have hdue : RebuildStays s u ∧ u.rst = s.rst := by rw [hu]; exact ⟨⟨rfl, rfl, rfl⟩, rfl⟩
  rw [← hu]
  obtain ⟨hfeed, hrst⟩ := rebuildStays_feed ((refreshItems s).length + s.watch.backlog.length) u
  exact ⟨hdue.1.trans hfeed, hrst.trans hdue.2⟩

/-! ## The event -/

theorem rebuilt_rebuildStart (same : Bool) (s : State) : ∃ u, Rebuilt same s u ∧
    rebuildStart same s = { u with rst := { u.rst with phase := .booting } } := by
  have h := rebuilt_rebuild same s
  unfold rebuildStart
  dsimp only
  generalize rebuild false same s = v at h ⊢
  have hlinks : Rebuilt same s (if (v.bank .link).ownerHeld then v else joinLinks v) := by
    split
    · exact h
    · obtain ⟨hstays, hrst⟩ := rebuildStays_joinLinks v
      exact h.stays hstays (by rw [hrst])
  generalize (if (v.bank .link).ownerHeld then v else joinLinks v) = t at hlinks ⊢
  refine ⟨if t.live.dead.en then startPeriod (emitDead 0x0310 0 t) else t, ?_, rfl⟩
  split
  · have hlog := logOnly_emitDead 0x0310 0 t
    generalize emitDead 0x0310 0 t = x at hlog ⊢
    refine hlinks.stays (RebuildStays.trans (v := x) ⟨hlog.slices, hlog.engine, hlog.live⟩ ⟨rfl, rfl, rfl⟩) ?_
    show x.rst.phase = _
    rw [hlog.rst]
  · exact hlinks

/-- The steps after the rebuild of a CORE reset: the node is ready, the dead-man timer goes on, the calls are taken up, and a
refresh that is due is sent. -/
def readyAgain (s : State) : State := { s with watch := { s.watch with ready := true, nextHb := s.now } }
def periodAgain (s : State) : State := if s.caller.dead.periodEnd.isSome then startPeriod s else s
def callsAgain (s : State) : State := if inWatch s then (if isLead s then takeAllCalls s else s) else startOwnCalls s
def refreshAgain (s : State) : State := if s.watch.refreshDue then sendRefresh s else s

theorem rebuildCore_eq (same : Bool) (s : State) :
    rebuildCore same s = refreshAgain (callsAgain (periodAgain (readyAgain (rebuild false same s)))) := by
  unfold rebuildCore
  generalize rebuild false same s = u
  rfl

theorem rebuilt_rebuildCore (same : Bool) (s : State) : Rebuilt same s (rebuildCore same s) := by
  have hready : ∀ u, Rebuilt same s u → Rebuilt same s (readyAgain u) := fun u h => h.stays ⟨rfl, rfl, rfl⟩ rfl
  have hperiod : ∀ u, Rebuilt same s u → Rebuilt same s (periodAgain u) := fun u h => by
    unfold periodAgain
    split
    · exact h.stays ⟨rfl, rfl, rfl⟩ rfl
    · exact h
  have hcalls : ∀ u, Rebuilt same s u → Rebuilt same s (callsAgain u) := fun u h => by
    unfold callsAgain
    split
    · split
      · have hstep := callStep_takeAllCalls u
        exact h.stays hstep.rebuildStays (by rw [hstep.step.rst])
      · exact h
    · have hstep := callStep_startOwnCalls u
      exact h.stays hstep.rebuildStays (by rw [hstep.step.rst])
  have hrefresh : ∀ u, Rebuilt same s u → Rebuilt same s (refreshAgain u) := fun u h => by
    unfold refreshAgain
    split
    · obtain ⟨hstays, hrst⟩ := rebuildStays_sendRefresh u
      exact h.stays hstays (by rw [hrst])
    · exact h
  rw [rebuildCore_eq]
  exact hrefresh _ (hcalls _ (hperiod _ (hready _ (rebuilt_rebuild same s))))

/-- Settles O49: what is read, the moves to each alarm's state, and that nothing after them touches an alarm. -/
theorem engineRebuildsFromSlices : Obligations.EngineRebuildsFromSlices := by
  unfold Obligations.EngineRebuildsFromSlices
  refine fun s same => ⟨fun hrun hmode hbank hphase => ?_, fun hidle => does_of (congrArg finish ?_)⟩
  · have hgo : ¬ (s.engine.running = true ∨ s.power.mode = .deep ∨ (s.bank .engine).st ≠ .on) := by
      rintro (h | h | h)
      · exact Bool.noConfusion (hrun.symm.trans h)
      · exact hmode h
      · exact h hbank
    rcases hphase with hphase | ⟨hphase, hcore⟩
    · obtain ⟨u, hu, hstart⟩ := rebuilt_rebuildStart same s
      refine doesSo_of (congrArg finish ((if_neg hgo).trans ?_)) (u := rebuildStart same s) ?_
      · rw [hphase]
      · rw [hstart]
        exact ⟨hu.running, hu.hold, hu.live, fun _ => rfl, fun h => Phase.noConfusion (hphase.symm.trans h), hu.alarms⟩
    · have h := rebuilt_rebuildCore same s
      refine doesSo_of (congrArg finish ((if_neg hgo).trans ?_)) (u := rebuildCore same s) ?_
      · rw [hphase]
        exact if_pos (Option.isSome_iff_ne_none.2 hcore)
      · exact ⟨h.running, h.hold, h.live, fun h => Phase.noConfusion (hphase.symm.trans h), fun _ => h.phase.trans hphase, h.alarms⟩
  · show engineRebuild same s = s
    unfold engineRebuild
    by_cases hstop : s.engine.running = true ∨ s.power.mode = .deep ∨ (s.bank .engine).st ≠ .on
    · exact if_pos hstop
    · obtain ⟨hnot, hup⟩ : s.rst.phase ≠ .rebuilding ∧ (s.rst.phase ≠ .up ∨ s.engine.coreAt = none) := by
        simpa only [or_assoc, hstop, false_or] using (show (s.engine.running = true ∨ s.power.mode = .deep ∨ (s.bank .engine).st ≠ .on) ∨ _ by
          rw [or_assoc, or_assoc]; exact hidle)
      rw [if_neg hstop]
      split
      next h => exact absurd h hnot
      next h => rw [hup.resolve_left fun e => e h]; rfl
      · rfl

end Sys2Proof.Machine

/-! ACK, SHELVE AND UNSHELVE (04 R215, R216, R224–R230; 06 R360): what each makes of the alarms of its target. -/

namespace Sys2Proof.Machine

/-! ## Targets (04 R224, R227, R231) -/

theorem targetConds_congr {u t : State} (hident : t.ident = u.ident) (hlive : t.live = u.live) (x : Target) :
    targetConds t x = targetConds u x := by
  unfold targetConds State.chCfg
  rw [hident, hlive]

theorem targetMembers_congr {u t : State} (hident : t.ident = u.ident) (x : Target) : targetMembers t x = targetMembers u x := by
  unfold targetMembers
  rw [hident]

theorem nodup_allOf {cs : List Ch} (h : cs.Nodup) : (cs.flatMap fun c => allConds.map fun k => (c, k)).Nodup := by
  have hall := nodup_conds h fun _ _ => true
  simp only [List.filter_true] at hall
  exact hall

/-- No alarm comes up twice in a target. -/
theorem nodup_targetConds (s : State) (x : Target) : (targetConds s x).Nodup := by
  have hchannels : (channels s.ident.part).Nodup := (List.nodup_finRange 128).filter _
  cases x with
  | cond c k => exact List.nodup_singleton _
  | ch c => exact nodup_allConds.map fun _ _ e => (Prod.mk.inj e).2
  | grp g =>
    unfold targetConds
    dsimp only
    split
    · exact List.nodup_nil
    · exact nodup_allOf (hchannels.filter _)
  | member m => exact List.nodup_nil
  | all => exact nodup_allOf hchannels

theorem nodup_targetMembers (s : State) (x : Target) : (targetMembers s x).Nodup := by
  have hmembers : ((List.finRange 19).filter (memberFitted s.ident.part)).Nodup := (List.nodup_finRange 19).filter _
  cases x with
  | cond c k => exact List.nodup_nil
  | ch c => exact List.nodup_nil
  | grp g =>
    unfold targetMembers
    dsimp only
    split
    · exact hmembers
    · exact List.nodup_nil
  | member m => exact List.nodup_singleton _
  | all => exact hmembers

/-! ## Acknowledging (04 R224, R225) -/

/-- The judgement of an alarm's occurrence against the cycle that captured the line. -/
def beganBefore (cycle : Nat) (a : Alarm) : Bool := decide (a.entered < cycle)

/-- The same of a member of G31. -/
def memberBefore (cycle : Nat) (a : G31Alarm) : Bool := decide (a.entered < cycle)

/-- Where an acknowledgement takes an alarm that its judgement lets go (04 R215, R225). -/
def ackedBy (p : Alarm → Bool) (a : Alarm) : AlarmState :=
  match a.st with
  | .activeUnack => if p a then .activeAck else .activeUnack
  | .returnUnack => if p a then (if a.steep then .steeping else .normal) else .returnUnack
  | st => st

theorem ackedBy_beganBefore (n : Nat) (a : Alarm) : ackedBy (beganBefore n) a = ackedState n a := by
  unfold ackedBy ackedState beganBefore
  cases a.st with
  | activeUnack | returnUnack => simp only [decide_eq_true_eq]
  | normal | steeping | activeAck | shelved | inhibited | disabled => rfl

theorem ackCond_st (p : Alarm → Bool) (c : Ch) (k : Cond) (w : Moving) :
    ((ackCond p c k w).1.alarm c k).st = ackedBy p (w.1.alarm c k) := by
  unfold ackCond ackedBy
  dsimp only
  cases hst : (w.1.alarm c k).st with
  | activeUnack | returnUnack =>
    by_cases hold : p (w.1.alarm c k) = true
    · simp [hold]
    · simp [hold, hst]
  | normal | steeping | activeAck | shelved | inhibited | disabled => exact hst

theorem moveMember_st (m : Member) (new : AlarmState) (w : Moving) : ((moveMember m new w).1.member m).st = new := by
  unfold moveMember
  dsimp only
  split
  next h => exact h
  · dsimp only; rw [member_onMember, if_pos rfl]

theorem moveMember_others (m : Member) (new : AlarmState) (w : Moving) {j : Member} (hne : j ≠ m) :
    (moveMember m new w).1.member j = w.1.member j := by
  unfold moveMember
  dsimp only
  split
  · rfl
  · dsimp only; rw [member_onMember, if_neg hne.symm]

theorem ackMember_st (n : Nat) (m : Member) (w : Moving) :
    ((ackMember (memberBefore n) m w).1.member m).st = ackedMember n (w.1.member m) := by
  unfold ackMember ackedMember memberBefore
  dsimp only
  cases hst : (w.1.member m).st with
  | activeUnack | returnUnack =>
    by_cases hold : (w.1.member m).entered < n
    · simp [hold, moveMember_st]
    · simp [hold, hst]
  | normal | steeping | activeAck | shelved | inhibited | disabled => exact hst

theorem ackMember_others (p : G31Alarm → Bool) (m : Member) (w : Moving) {j : Member} (hne : j ≠ m) :
    (ackMember p m w).1.member j = w.1.member j := by
  unfold ackMember
  dsimp only
  split
  · split
    · exact moveMember_others m _ w hne
    · rfl
  · split
    · exact moveMember_others m _ w hne
    · rfl
  · rfl

theorem alarmsStay_ackMember (p : G31Alarm → Bool) (m : Member) (w : Moving) : AlarmsStay w.1 (ackMember p m w).1 := by
  unfold ackMember
  dsimp only
  split
  · split
    · exact alarmsStay_moveMember ..
    · exact .refl _
  · split
    · exact alarmsStay_moveMember ..
    · exact .refl _
  · exact .refl _

/-- The members' part of an acknowledgement moves no alarm. -/
theorem alarmsStay_ackMembers (p : G31Alarm → Bool) (l : List Member) (w : Moving) :
    AlarmsStay w.1 (l.foldl (fun w m => ackMember p m w) w).1 := by
  induction l generalizing w with
  | nil => exact .refl _
  | cons m l ih => exact (alarmsStay_ackMember p m w).trans (ih _)

theorem alarmMoved_ackOne (p : Alarm → Bool) (w : Moving) (q : Ch × Cond) : AlarmMoved q.1 q.2 w.1 (ackCond p q.1 q.2 w).1 :=
  alarmMoved_ackCond q.1 q.2 w _

/-- An acknowledgement moves the alarms of its target that its judgement lets go, and leaves every other. -/
theorem ackTarget_conds (p : Alarm → Bool) (pm : G31Alarm → Bool) (x : Target) (s : State) (c : Ch) (k : Cond) :
    ((ackTarget p pm x s).alarm c k).st = if (c, k) ∈ targetConds s x then ackedBy p (s.alarm c k) else (s.alarm c k).st := by
  have hrun : ackTarget p pm x s = commit [] ((targetMembers s x).foldl (fun w m => ackMember pm m w)
      ((targetConds s x).foldl (fun w q => ackCond p q.1 q.2 w) (s, []))) := rfl
  rw [hrun, (alarmsStay_commit ..).alarm, (alarmsStay_ackMembers ..).alarm]
  split
  next hin =>
    obtain ⟨y, -, hsame, hlast⟩ := keyed_foldl_once (alarmMoved_ackOne p) (nodup_targetConds s x) hin (s, [])
    rw [hlast, ackCond_st, hsame]
  next hout => rw [keyed_foldl_out (alarmMoved_ackOne p) hout (s, [])]

/-- An acknowledgement moves the members of its target on, and leaves every other. -/
theorem ackTarget_members (p : Alarm → Bool) (n : Nat) (x : Target) (s : State) (m : Member) :
    ((ackTarget p (memberBefore n) x s).member m).st =
      if m ∈ targetMembers s x then ackedMember n (s.member m) else (s.member m).st := by
  have hmoved := alarmsMoved_foldl (fun w q => (alarmMoved_ackOne p w q).moved) (targetConds s x) (s, [])
  have hrun : ackTarget p (memberBefore n) x s = commit [] ((targetMembers s x).foldl (fun w m => ackMember (memberBefore n) m w)
      ((targetConds s x).foldl (fun w q => ackCond p q.1 q.2 w) (s, []))) := rfl
  rw [hrun]
  generalize (targetConds s x).foldl (fun w q => ackCond p q.1 q.2 w) (s, []) = w at hmoved ⊢
  have hothers : ∀ (w : Moving) (q j : Member), j ≠ q → (ackMember (memberBefore n) q w).1.member j = w.1.member j :=
    fun w q j hne => ackMember_others _ q w hne
  rw [member_congr (commit_g31 ..), ← member_congr hmoved.g31]
  split
  next hin =>
    obtain ⟨before, hsame, hlast⟩ := foldl_once (get := fun (w : Moving) m => w.1.member m) hothers (nodup_targetMembers s x) hin w
    rw [hlast, ackMember_st, hsame]
  next hout => rw [foldl_out (get := fun (w : Moving) m => w.1.member m) hothers hout w]

/-- An acknowledgement of what began before a cycle. -/
theorem ackTarget_acks (n : Nat) (x : Target) (s : State) :
    (∀ c k, ((ackTarget (beganBefore n) (memberBefore n) x s).alarm c k).st =
      if (c, k) ∈ targetConds s x then ackedState n (s.alarm c k) else (s.alarm c k).st) ∧
    (∀ m, ((ackTarget (beganBefore n) (memberBefore n) x s).member m).st =
      if m ∈ targetMembers s x then ackedMember n (s.member m) else (s.member m).st) :=
  ⟨fun c k => by rw [ackTarget_conds, ackedBy_beganBefore], ackTarget_members _ n x s⟩

/-! ## Shelving (04 R227, R228) -/

theorem alarmMoved_shelveOne (until_ : Tick) (c : Ch) (k : Cond) (w : Moving) : AlarmMoved c k w.1 (shelveOne until_ c k w).1 := by
  unfold shelveOne
  split
  · exact .refl ..
  · exact (alarmMoved_move ..).trans (alarmMoved_onAlarm _ (fun _ => rfl) fun _ => rfl)

theorem shelveOne_shelves {until_ : Tick} {c : Ch} {k : Cond} {w : Moving} (hst : (w.1.alarm c k).st ≠ .disabled) :
    ((shelveOne until_ c k w).1.alarm c k).st = .shelved ∧ ((shelveOne until_ c k w).1.alarm c k).shelfEnd = some until_ := by
  unfold shelveOne
  rw [if_neg hst]
  dsimp only
  rw [alarm_onAlarm, if_pos ⟨rfl, rfl⟩]
  exact ⟨move_st .., rfl⟩

theorem shelveOne_disabled {until_ : Tick} {c : Ch} {k : Cond} {w : Moving} (hst : (w.1.alarm c k).st = .disabled) :
    shelveOne until_ c k w = w := if_pos hst

/-- Every alarm of the target that is not DISABLED is shelved, and every other stays. -/
theorem shelve_shelves (until_ : Tick) (x : Target) (s : State) (c : Ch) (k : Cond) :
    if (c, k) ∈ targetConds s x ∧ (s.alarm c k).st ≠ .disabled then
      ((commit [] ((targetConds s x).foldl (fun w p => shelveOne until_ p.1 p.2 w) (s, []))).alarm c k).st = .shelved ∧
      ((commit [] ((targetConds s x).foldl (fun w p => shelveOne until_ p.1 p.2 w) (s, []))).alarm c k).shelfEnd = some until_
    else ((commit [] ((targetConds s x).foldl (fun w p => shelveOne until_ p.1 p.2 w) (s, []))).alarm c k).st = (s.alarm c k).st := by
  have hshelve : ∀ (w : Moving) (q : Ch × Cond), AlarmMoved q.1 q.2 w.1 (shelveOne until_ q.1 q.2 w).1 := fun w q => alarmMoved_shelveOne ..
  rw [(alarmsStay_commit ..).alarm]
  by_cases hin : (c, k) ∈ targetConds s x
  · obtain ⟨y, -, hsame, hlast⟩ := keyed_foldl_once hshelve (nodup_targetConds s x) hin (s, [])
    rw [hlast]
    split
    next h => exact shelveOne_shelves (by rw [hsame]; exact h.2)
    next h =>
      have hdis : (s.alarm c k).st = .disabled := not_not.1 fun e => h ⟨hin, e⟩
      rw [shelveOne_disabled (by rw [hsame]; exact hdis), hsame]
  · rw [if_neg fun h => hin h.1, keyed_foldl_out hshelve hin (s, [])]

/-! ## Unshelving (04 R216, R229) -/

/-- Unshelves one alarm. -/
def unshelveOne (w : Moving) (p : Ch × Cond) : Moving := if (w.1.alarm p.1 p.2).st = .shelved then leave true p.1 p.2 w else w

theorem alarmMoved_unshelveOne (w : Moving) (p : Ch × Cond) : AlarmMoved p.1 p.2 w.1 (unshelveOne w p).1 := by
  unfold unshelveOne
  split
  · exact alarmMoved_leave ..
  · exact .refl ..

theorem unshelvedState_congr {u t : State} (hinhib : ∀ c k, inhibitedBy t c k = inhibitedBy u c k)
    (hon : ∀ c k, (t.alarm c k).on = (u.alarm c k).on) (hsteep : ∀ c k, (t.alarm c k).steep = (u.alarm c k).steep) (c : Ch) (k : Cond) :
    unshelvedState t c k = unshelvedState u c k := by
  unfold unshelvedState
  rw [hinhib, hon, hsteep]

/-- Every shelved alarm of the target comes to the state that its condition asks for, and every other stays. -/
theorem unshelve_unshelves (x : Target) (s : State) (c : Ch) (k : Cond) :
    ((commit [] ((targetConds s x).foldl unshelveOne (s, []))).alarm c k).st =
      if (c, k) ∈ targetConds s x ∧ (s.alarm c k).st = .shelved then unshelvedState s c k else (s.alarm c k).st := by
  rw [(alarmsStay_commit ..).alarm]
  by_cases hin : (c, k) ∈ targetConds s x
  · obtain ⟨y, hy, hsame, hlast⟩ := keyed_foldl_once alarmMoved_unshelveOne (nodup_targetConds s x) hin (s, [])
    rw [hlast]
    unfold unshelveOne
    dsimp only
    rw [hsame]
    by_cases hst : (s.alarm c k).st = .shelved
    · rw [if_pos hst, if_pos ⟨hin, hst⟩, leave_st]
      exact unshelvedState_congr (inhibitedBy_moved hy) hy.on hy.steep c k
    · rw [if_neg hst, if_neg fun h => hst h.2, hsame]
  · rw [if_neg fun h => hin h.1, keyed_foldl_out alarmMoved_unshelveOne hin (s, [])]

theorem engineStep_targetFold {f : Moving → Ch × Cond → Moving} (hf : ∀ w q, AlarmMoved q.1 q.2 w.1 (f w q).1)
    (l : List (Ch × Cond)) (s : State) : EngineStep s (commit [] (l.foldl f (s, []))) :=
  (alarmsMoved_foldl (fun w q => (hf w q).moved) l (s, [])).step.trans (engineStep_commit ..)

/-! ## The lines -/

theorem boundNode {node : Option NodeNo} {s : State} (h : node = none ∨ node = some s.watch.node) : node.getD s.watch.node = s.watch.node := by
  rcases h with rfl | rfl <;> rfl

/-- What a line's start leaves of what inhibits an alarm. -/
theorem LineTaken.inhibitedBy {u t : State} (h : LineTaken u t) (c : Ch) (k : Cond) : inhibitedBy t c k = Machine.inhibitedBy u c k :=
  inhibitedBy_congr h.live (by rw [h]) (by rw [h]) (by rw [h]) (by rw [h]) (fun c k => by unfold State.alarm; rw [h.engine]) c k

theorem LineTaken.node {u t : State} (h : LineTaken u t) : t.watch.node = u.watch.node := by rw [h]

theorem LineTaken.alarm {u t : State} (h : LineTaken u t) (c : Ch) (k : Cond) : t.alarm c k = u.alarm c k := by
  unfold State.alarm; rw [h.engine]

/-- What stands before the work of a line that moves alarms: the line is taken and its action recorded. -/
structure Recorded (u v : State) : Prop where
  log : LogOnly u v
  step : EngineStep u v

theorem recorded_emitAction (a : Nat) (t : Target) (o n m : Nat) (s : State) : Recorded s (emitAction a t o n m s) :=
  ⟨logOnly_emitAction .., engineStep_emitAction ..⟩

theorem bodyShelve_runs {h : LineHdr} {x : Target} {minutes : Option Text} {n : Nat} {u : State}
    (hfit : targetFitted u.ident.part x = true) (hmay : may u h .operator = true)
    (hminutes : (match minutes with
      | some t => readWhole t
      | none => .ok u.live.shelveMax) = .ok n)
    (hlow : 1 ≤ n) (hhigh : n ≤ u.live.shelveMax) (hshelvable : shelvable u x = true) : bodyShelve h (some x) minutes u =
      ok (if (emitAction 2 x (originOf u h.sess).1 (originOf u h.sess).2 n u).engine.running then
        commit [] ((targetConds (emitAction 2 x (originOf u h.sess).1 (originOf u h.sess).2 n u) x).foldl (fun w p => shelveOne
          ((emitAction 2 x (originOf u h.sess).1 (originOf u h.sess).2 n u).nodeTime + n * usMin) p.1 p.2 w)
          (emitAction 2 x (originOf u h.sess).1 (originOf u h.sess).2 n u, []))
      else emitAction 2 x (originOf u h.sess).1 (originOf u h.sess).2 n u) := by
  have hrange : ¬ (n < 1 ∨ u.live.shelveMax < n ∨ shelvable u x = false) := by
    rw [hshelvable]
    rintro (h | h | h)
    · exact Nat.not_lt.2 hlow h
    · exact Nat.not_lt.2 hhigh h
    · exact Bool.noConfusion h
  unfold bodyShelve
  cases minutes with
  | none =>
    obtain rfl : u.live.shelveMax = n := Except.ok.inj hminutes
    dsimp only
    rw [hfit, hmay, if_neg Bool.noConfusion, if_neg Bool.noConfusion, if_neg hrange]
  | some t =>
    dsimp only at hminutes ⊢
    rw [hminutes]
    dsimp only
    rw [hfit, hmay, if_neg Bool.noConfusion, if_neg Bool.noConfusion, if_neg hrange]

theorem bodyUnshelve_runs {h : LineHdr} {x : Target} {u : State} (hfit : targetFitted u.ident.part x = true)
    (hmay : may u h .operator = true) : bodyUnshelve h (some x) u =
      ok (if (emitAction 3 x (originOf u h.sess).1 (originOf u h.sess).2 0 u).engine.running then
        commit [] ((targetConds (emitAction 3 x (originOf u h.sess).1 (originOf u h.sess).2 0 u) x).foldl unshelveOne
          (emitAction 3 x (originOf u h.sess).1 (originOf u h.sess).2 0 u, []))
      else emitAction 3 x (originOf u h.sess).1 (originOf u h.sess).2 0 u) := by
  unfold bodyUnshelve
  dsimp only
  rw [hfit, hmay]
  rfl

section
variable {h : LineHdr} {s : State} {x : Target}

/-- ACK of a target of this node: every occurrence of it that began before the latch point is acknowledged (04 R224). -/
theorem ack_acknowledges {u : State} (hu : u = lineStart h (txt "ACK") s) (hacc : Accepted h (txt "ACK") s)
    (hmay : may u h .operator = true) {node : Option NodeNo} (hnode : node = none ∨ node = some s.watch.node)
    (hfit : targetFitted s.ident.part x = true) :
    LineLeaves (.ack h node (some x) {}) h (txt "ACK") {} s fun t => EngineStep u t ∧
      (∀ (c : Ch) (k : Cond), (t.alarm c k).st =
        if s.engine.running = true ∧ (c, k) ∈ targetConds u x then ackedState (latchCycle h u) (s.alarm c k)
        else (s.alarm c k).st) ∧
      (∀ m : Member, (t.member m).st =
        if s.engine.running = true ∧ m ∈ targetMembers u x then ackedMember (latchCycle h u) (u.member m)
        else (u.member m).st) := by
  have hline := lineTaken_lineStart h (txt "ACK") s
  rw [← hu] at hline
  obtain ⟨v, hv⟩ : ∃ v, v = emitAction 1 x (originOf u h.sess).1 (originOf u h.sess).2 0 u := ⟨_, rfl⟩
  have hlog : LogOnly u v := hv ▸ logOnly_emitAction ..
  have hemit : EngineStep u v := hv ▸ engineStep_emitAction ..
  have hcycle : latchCycle h v = latchCycle h u := by unfold latchCycle; rw [hlog]
  have hconds := targetConds_congr hlog.ident hlog.live x
  have hmembers := targetMembers_congr hlog.ident x
  have hbody : bodyAck h node (some x) u = ok (if v.engine.running then
      ackTarget (beganBefore (latchCycle h v)) (memberBefore (latchCycle h v)) x v else v) := by
    have hnode' : node.getD u.watch.node = u.watch.node := boundNode (by rw [hline.node]; exact hnode)
    rw [hv]
    unfold bodyAck
    dsimp only
    rw [hnode', hline.ident, hfit, hmay, decide_eq_true rfl]
    rfl
  obtain ⟨hacks, hmacks⟩ := ackTarget_acks (latchCycle h v) x v
  have hstep : EngineStep u (if v.engine.running then ackTarget (beganBefore (latchCycle h v)) (memberBefore (latchCycle h v)) x v else v) := by
    split
    · exact hemit.trans (engineStep_ackTarget ..)
    · exact hemit
  clear hv
  have hbody' : bodyAck h node (some x) (lineStart h (txt "ACK") s) = (_, some {}) := hu ▸ hbody
  obtain ⟨t, hexec, hreply, honly⟩ := line_replies h (txt "ACK") (bodyAck h node (some x)) s _ {} hacc hbody' (hu ▸ hstep.keeps h.sess)
  refine ⟨t, hexec, hreply, _, honly, hstep, fun c k => ?_, fun m => ?_⟩
  · have halarm : v.alarm c k = s.alarm c k := by unfold State.alarm; rw [hlog.engine, hline.engine]
    have hvrun : v.engine.running = s.engine.running := by rw [hlog.engine, hline.engine]
    rw [hvrun]
    by_cases hrun : s.engine.running = true
    · rw [if_pos hrun, hacks, hconds, hcycle, halarm]
      simp only [hrun, true_and]
    · rw [if_neg hrun, if_neg fun h => hrun h.1, halarm]
  · have hmember : v.member m = u.member m := by unfold State.member; rw [hlog.engine]
    have hvrun : v.engine.running = s.engine.running := by rw [hlog.engine, hline.engine]
    rw [hvrun]
    by_cases hrun : s.engine.running = true
    · rw [if_pos hrun, hmacks, hmembers, hcycle, hmember]
      simp only [hrun, true_and]
    · rw [if_neg hrun, if_neg fun h => hrun h.1, hmember]

/-- ACK of a target of another node goes out to it as a frame (06 R360). -/
theorem ack_forwards {u : State} (hu : u = lineStart h (txt "ACK") s) (hacc : Accepted h (txt "ACK") s)
    (hmay : may u h .operator = true) {n : NodeNo} (hn : n ≠ s.watch.node) :
    LineLeaves (.ack h (some n) (some x) {}) h (txt "ACK") {} s fun t =>
      t.engine = u.engine ∧ t.slices = s.slices ∧ t.log = u.log := by
  have hline := lineTaken_lineStart h (txt "ACK") s
  rw [← hu] at hline
  have hother : decide (n = u.watch.node) = false := by rw [hline.node]; exact decide_eq_false hn
  have hbody : bodyAck h (some n) (some x) u =
      ok (send (.ack ⟨n, some x, (originOf u h.sess).1, (originOf u h.sess).2, u.nodeTime⟩) u) := by
    unfold bodyAck
    dsimp only [Option.getD_some]
    rw [hother, hmay]
    rfl
  have hbody' : bodyAck h (some n) (some x) (lineStart h (txt "ACK") s) = (_, some {}) := hu ▸ hbody
  obtain ⟨t, hexec, hreply, honly⟩ := line_replies h (txt "ACK") (bodyAck h (some n) (some x)) s _ {} hacc hbody'
    (hu ▸ (engineStep_send ..).keeps h.sess)
  exact ⟨t, hexec, hreply, _, honly, hu ▸ send_engine .., hu ▸ (send_slices ..).trans hline.slices, hu ▸ send_log ..⟩

variable (hfit : targetFitted s.ident.part x = true) (hrun : s.engine.running = true)
include hfit hrun

/-- SHELVE shelves every alarm of its target that is not DISABLED (04 R227). -/
theorem shelve_line {minutes : Option Text} {n : Nat} (hacc : Accepted h (txt "SHELVE") s)
    (hmay : may (lineStart h (txt "SHELVE") s) h .operator = true)
    (hminutes : (match minutes with
      | some t => readWhole t
      | none => .ok s.live.shelveMax) = .ok n)
    (hlow : 1 ≤ n) (hhigh : n ≤ s.live.shelveMax) (hshelvable : shelvable (lineStart h (txt "SHELVE") s) x = true) :
    LineLeaves (.shelve h (some x) minutes) h (txt "SHELVE") {} s fun t =>
      EngineStep (lineStart h (txt "SHELVE") s) t ∧ ∀ (c : Ch) (k : Cond),
        if (c, k) ∈ targetConds (lineStart h (txt "SHELVE") s) x ∧ (s.alarm c k).st ≠ .disabled then
          (t.alarm c k).st = .shelved ∧ (t.alarm c k).shelfEnd = some (s.nodeTime + n * usMin)
        else (t.alarm c k).st = (s.alarm c k).st := by
  have hline := lineTaken_lineStart h (txt "SHELVE") s
  obtain ⟨u, hu⟩ : ∃ u, u = lineStart h (txt "SHELVE") s := ⟨_, rfl⟩
  rw [← hu] at hline hmay hshelvable ⊢
  obtain ⟨v, hv⟩ : ∃ v, v = emitAction 2 x (originOf u h.sess).1 (originOf u h.sess).2 n u := ⟨_, rfl⟩
  have hrec : Recorded u v := hv ▸ recorded_emitAction ..
  have hbody : bodyShelve h (some x) minutes u =
      ok (commit [] ((targetConds v x).foldl (fun w p => shelveOne (v.nodeTime + n * usMin) p.1 p.2 w) (v, []))) := by
    have hvrun : v.engine.running = true := by rw [hrec.log.engine, hline.engine]; exact hrun
    refine (bodyShelve_runs (by rw [hline.ident]; exact hfit) hmay ?_ hlow (by rw [hline.live]; exact hhigh) hshelvable).trans ?_
    · rw [← hline.live] at hminutes
      exact hminutes
    · rw [← hv]
      exact congrArg ok (if_pos hvrun)
  have hstep := hrec.step.trans (engineStep_targetFold (fun w q => alarmMoved_shelveOne (v.nodeTime + n * usMin) q.1 q.2 w) (targetConds v x) v)
  have hshelves := shelve_shelves (v.nodeTime + n * usMin) x v
  have hbody' : bodyShelve h (some x) minutes (lineStart h (txt "SHELVE") s) = (_, some {}) := hu ▸ hbody
  obtain ⟨t, hexec, hreply, honly⟩ := line_replies h (txt "SHELVE") (bodyShelve h (some x) minutes) s _ {} hacc hbody' (hu ▸ hstep.keeps h.sess)
  refine ⟨t, hexec, hreply, _, honly, hstep, fun c k => ?_⟩
  have halarm : v.alarm c k = s.alarm c k := (hrec.log.alarmsStay.alarm c k).trans (hline.alarm c k)
  have hthis := hshelves c k
  rw [halarm, targetConds_congr hrec.log.ident hrec.log.live, hrec.log.nodeTime, hline.nodeTime] at hthis
  rw [hrec.log.nodeTime, hline.nodeTime]
  rw [targetConds_congr hrec.log.ident hrec.log.live]
  exact hthis

/-- UNSHELVE takes every shelved alarm of its target to the state that its condition asks for (04 R229). -/
theorem unshelve_line (hacc : Accepted h (txt "UNSHELVE") s) (hmay : may (lineStart h (txt "UNSHELVE") s) h .operator = true) :
    LineLeaves (.unshelve h (some x)) h (txt "UNSHELVE") {} s fun t =>
      EngineStep (lineStart h (txt "UNSHELVE") s) t ∧ ∀ (c : Ch) (k : Cond), (t.alarm c k).st =
        if (c, k) ∈ targetConds (lineStart h (txt "UNSHELVE") s) x ∧ (s.alarm c k).st = .shelved then
          unshelvedState s c k else (s.alarm c k).st := by
  have hline := lineTaken_lineStart h (txt "UNSHELVE") s
  obtain ⟨u, hu⟩ : ∃ u, u = lineStart h (txt "UNSHELVE") s := ⟨_, rfl⟩
  rw [← hu] at hline hmay ⊢
  obtain ⟨v, hv⟩ : ∃ v, v = emitAction 3 x (originOf u h.sess).1 (originOf u h.sess).2 0 u := ⟨_, rfl⟩
  have hrec : Recorded u v := hv ▸ recorded_emitAction ..
  have hbody : bodyUnshelve h (some x) u = ok (commit [] ((targetConds v x).foldl unshelveOne (v, []))) := by
    have hvrun : v.engine.running = true := by rw [hrec.log.engine, hline.engine]; exact hrun
    refine (bodyUnshelve_runs (by rw [hline.ident]; exact hfit) hmay).trans ?_
    rw [← hv]
    exact congrArg ok (if_pos hvrun)
  have hstep := hrec.step.trans (engineStep_targetFold alarmMoved_unshelveOne (targetConds v x) v)
  have hbody' : bodyUnshelve h (some x) (lineStart h (txt "UNSHELVE") s) = (_, some {}) := hu ▸ hbody
  obtain ⟨t, hexec, hreply, honly⟩ := line_replies h (txt "UNSHELVE") (bodyUnshelve h (some x)) s _ {} hacc hbody' (hu ▸ hstep.keeps h.sess)
  refine ⟨t, hexec, hreply, _, honly, hstep, fun c k => ?_⟩
  have halarm : ∀ c k, v.alarm c k = s.alarm c k := fun c k => (hrec.log.alarmsStay.alarm c k).trans (hline.alarm c k)
  have hinhib : ∀ c k, inhibitedBy v c k = inhibitedBy s c k := fun c k => (hrec.log.lineTaken.inhibitedBy c k).trans (hline.inhibitedBy c k)
  rw [unshelve_unshelves, halarm, targetConds_congr hrec.log.ident hrec.log.live,
    unshelvedState_congr hinhib (fun c k => by rw [halarm]) fun c k => by rw [halarm]]

end

/-- Settles O21: each verb's body is its record and a fold over the target, in which every alarm comes up once. -/
theorem alarmVerbsMoveTheirTarget : Obligations.AlarmVerbsMoveTheirTarget := by
  unfold Obligations.AlarmVerbsMoveTheirTarget
  refine ⟨fun h s u x hu => ⟨fun hacc hmay => ⟨fun node hnode hfit => ack_acknowledges hu hacc hmay hnode hfit,
      fun n hn => ack_forwards hu hacc hmay hn⟩, fun node m => rfl⟩,
    fun h s x hfit hrun => ⟨fun minutes n hacc hmay hminutes hlow hhigh hshelvable => ?_,
      fun hacc hmay => unshelve_line hfit hrun hacc hmay⟩⟩
  refine shelve_line hfit hrun hacc hmay ?_ hlow hhigh hshelvable
  cases minutes with
  | none => exact congrArg _ hminutes.symm
  | some t => exact hminutes

end Sys2Proof.Machine

/-! LINES OF SEVERAL WRITES (04 R231; 11 R615–R617): what LOAD, DISABLE and ENABLE do write by write. -/

namespace Sys2Proof.Machine

/-! ## What such a line leaves -/

/-- What the writes of a line leave: the images, the keys, and where its reply will stand. -/
structure LineWrites (u t : State) : Prop where
  images : t.images = u.images
  keys : t.keys = u.keys
  keeps : ∀ who, KeepsLine who u t

theorem LineWrites.refl (u : State) : LineWrites u u := ⟨rfl, rfl, fun _ => .refl _ _⟩

theorem LineWrites.trans {u v t : State} (h : LineWrites u v) (h' : LineWrites v t) : LineWrites u t :=
  ⟨h'.images.trans h.images, h'.keys.trans h.keys, fun who => (h.keeps who).trans (h'.keeps who)⟩

theorem WriteStep.lineWrites {u t : State} (h : WriteStep u t) : LineWrites u t := ⟨h.images, h.keys, h.keeps⟩

theorem LogOnly.lineWrites {u t : State} (h : LogOnly u t) : LineWrites u t :=
  ⟨h.images, h.keys, fun _ => .of_eq h.port h.interp⟩

theorem lineWrites_writePart (w : Waiter) (b : Bool) (i : SettingId) (x : Text) (line : WriteLine) (s : State) :
    LineWrites s (writePart w b i x line s) := by
  have hserved := (served_step (sessSource s w.sess) (collides (sessSource s w.sess) b i s) i s).1.lineWrites
  unfold writePart
  dsimp only
  generalize served (sessSource s w.sess) (collides (sessSource s w.sess) b i s) i s = v at hserved ⊢
  exact hserved.trans ⟨rfl, rfl, fun _ => .of_eq rfl rfl⟩

theorem lineWrites_loadClock (w : Waiter) (i : SettingId) (v : Val) (s : State) : LineWrites s (loadClock w i v s).1 := by
  unfold loadClock
  dsimp only
  split
  · split
    · exact .refl _
    · split
      · exact .refl _
      · exact ⟨rfl, rfl, fun who => keepsLine_beginSwitch ..⟩
  · split
    · exact .refl _
    · split
      · exact .refl _
      · exact ⟨rfl, rfl, fun who => keepsLine_panelClock ..⟩

theorem lineWrites_lineWrite (w : Waiter) (b : Bool) (i : SettingId) (v : Val) (s : State) : LineWrites s (lineWrite w b i v s).1 := by
  unfold lineWrite
  split
  · exact lineWrites_loadClock ..
  · exact lineWrites_loadClock ..
  · exact (writeNow_step ..).1.lineWrites

theorem lineWrites_endWrites (w : Waiter) (load : Option Bool) (bad : List (SettingId × Err)) (s : State) :
    LineWrites s (endWrites w load bad s).1 := by
  unfold endWrites
  split
  · exact .refl _
  · exact (logOnly_emitSess ..).lineWrites

/-- A line of writes, whatever becomes of each. -/
theorem lineWrites_runWrites (w : Waiter) (b : Bool) (load : Option Bool) (xs : List (SettingId × Text)) (bad : List (SettingId × Err))
    (s : State) : LineWrites s (runWrites w b load xs bad s).1 := by
  induction xs generalizing bad s with
  | nil => exact lineWrites_endWrites ..
  | cons x xs ih =>
    obtain ⟨i, t⟩ := x
    unfold runWrites
    split
    · split
      · exact .refl _
      · exact ih ..
    next v _ =>
      split
      · exact lineWrites_writePart ..
      · have hone := lineWrites_lineWrite w b i v s
        split
        next u hwrite =>
          rw [hwrite] at hone
          exact hone.trans (ih ..)
        next u e hwrite =>
          rw [hwrite] at hone
          split
          · exact hone
          · exact hone.trans (ih ..)

/-! ## One write after the other -/

section
variable (w : Waiter) (b : Bool) (load : Option Bool) {i : SettingId} {x : Text} (rest : List (SettingId × Text)) (bad : List (SettingId × Err))
  {s : State}

theorem runWrites_refused {e : Err} (h : checkWrite w.sess i x s = .error e) : runWrites w b load ((i, x) :: rest) bad s =
    if load.isNone then refused e s else runWrites w b load rest (bad ++ [(i, e)]) s := by
  rw [runWrites, h]

theorem runWrites_taken {v : Val} (h : checkWrite w.sess i x s = .ok v) (hin : inPartition (pendingCfg s) i = false)
    (hsrc : i ≠ .clock .src) (hpanel : i ≠ .clock .panel) :
    runWrites w b load ((i, x) :: rest) bad s = runWrites w b load rest bad (writeNow w.sess b i v s) := by
  have hwrite : lineWrite w b i v s = (writeNow w.sess b i v s, none) := by
    unfold lineWrite
    split
    · exact absurd rfl hsrc
    · exact absurd rfl hpanel
    · rfl
  rw [runWrites, h]
  dsimp only
  rw [hin, if_neg Bool.false_ne_true, hwrite]

theorem runWrites_waits {v : Val} (h : checkWrite w.sess i x s = .ok v) (hin : inPartition (pendingCfg s) i = true) :
    runWrites w b load ((i, x) :: rest) bad s = (writePart w b i x { todo := rest, load := load, refusals := bad } s, none) := by
  rw [runWrites, h]
  dsimp only
  rw [hin, if_pos rfl]
  rfl

end

theorem lineGoesOn_load {d : Bool} {y : PartWrite} (h : y.line.load = some d) (failed : Bool) (s : State) : lineGoesOn y failed s =
    runWrites y.by_ false (some d) y.line.todo (y.line.refusals ++ if failed then [(y.id, .e17)] else []) s := by
  unfold lineGoesOn
  rw [h, show (failed && (some d).isNone) = false from Bool.and_false _, if_neg Bool.false_ne_true]

/-! ## A line made of its writes -/

/-- A line whose work is such a list of writes has its reply at once, or holds it back. -/
theorem writesLine_acts {h : LineHdr} {verb : Text} {body : State → State × Option Reply} {s v : State} (hacc : Accepted h verb s)
    (hkeeps : LineWrites (lineStart h verb s) v) :
    (∀ r, body (lineStart h verb s) = (v, some r) → ∃ t, finish (runLine h verb body s) = .next t ∧ Replied h verb r s t ∧
      ∃ w, ReplyOnly h.sess w t ∧ w = v) ∧
    (body (lineStart h verb s) = (v, none) → ∃ t, finish (runLine h verb body s) = .next t ∧ Held h verb s t ∧ Settled v t) := by
  refine ⟨fun r hbody => ?_, fun hbody => line_held h verb body s v hacc hbody (hkeeps.keeps _)⟩
  obtain ⟨t, hexec, hreply, honly⟩ := line_replies h verb body s v r hacc hbody (hkeeps.keeps _)
  exact ⟨t, hexec, hreply, v, honly, rfl⟩

/-- Settles O19: the lines by what their writes leave, and the writes one after the other. -/
theorem loadWritesEachSetting : Obligations.LoadWritesEachSetting := by
  unfold Obligations.LoadWritesEachSetting
  refine ⟨?lines, fun w b d i x rest bad s => ⟨fun e h => (runWrites_refused w b _ rest bad h).trans (if_neg Bool.false_ne_true),
    fun v h hin hsrc hpanel => runWrites_taken w b _ rest bad h hin hsrc hpanel, fun v h hin => runWrites_waits w b _ rest bad h hin, rfl,
    logOnly_emitSess .., fun y failed h => lineGoesOn_load h failed s⟩⟩
  intro h s u v xs cmd d hu hcmd hacc hmay
  have hline := lineTaken_lineStart h (txt "LOAD") s
  rw [← hu] at hline
  obtain ⟨body, hexec, hbody⟩ : ∃ body, exec cmd s = finish (runLine h (txt "LOAD") body s) ∧
      body u = runWrites (waiter h u) h.sameCycle (some d) xs [] u := by
    rcases hcmd with ⟨rfl, rfl, rfl⟩ | ⟨rfl, rfl, rfl⟩
    · exact ⟨bodyLoad h, rfl, if_neg (by rw [hmay]; exact Bool.noConfusion)⟩
    · exact ⟨bodyLoadDefaults h, rfl, if_neg (by rw [hmay]; exact Bool.noConfusion)⟩
  have hwrites := lineWrites_runWrites (waiter h u) h.sameCycle (some d) xs [] u
  refine ⟨fun r hrun => ?_, fun hrun => ?_⟩
  · rw [hrun] at hwrites hbody
    subst hu
    obtain ⟨t, hfin, hreply, hrest⟩ := (writesLine_acts (body := body) hacc hwrites).1 r hbody
    exact ⟨t, hexec.trans hfin, hreply, hrest⟩
  · rw [hrun] at hwrites hbody
    subst hu
    obtain ⟨t, hfin, hheld, hsettled⟩ := (writesLine_acts (body := body) hacc hwrites).2 hbody
    refine ⟨t, hexec.trans hfin, hheld, ?_⟩
    rw [hsettled]
    exact ⟨rfl, rfl, hwrites.images.trans hline.images, hwrites.keys.trans hline.keys⟩

end Sys2Proof.Machine

/-! DISABLE AND ENABLE (04 R215, R231, R232): what a write of EN does, and the lines that make it. -/

namespace Sys2Proof.Machine

/-! ## DISABLED stays through the judgement of inhibits (04 R241, R242) -/

theorem leave_not_disabled (b : Bool) (c : Ch) (k : Cond) (w : Moving) : ((leave b c k w).1.alarm c k).st ≠ .disabled := by
  unfold leave
  dsimp only
  split
  · rw [move_st]; exact AlarmState.noConfusion
  · split
    · split
      · rw [move_st]; exact AlarmState.noConfusion
      · rw [startDelay_st]; split <;> exact AlarmState.noConfusion
    · split <;> (rw [move_st]; exact AlarmState.noConfusion)

theorem evalInhibit1_disabled (c : Ch) (k : Cond) (w : Moving) :
    ((evalInhibit1 c k w).1.alarm c k).st = .disabled ↔ (w.1.alarm c k).st = .disabled := by
  unfold evalInhibit1
  dsimp only
  split
  · exact Iff.rfl
  · split
    · split
      next hplain =>
        rw [move_st]
        refine ⟨AlarmState.noConfusion, fun h => ?_⟩
        rw [h] at hplain
        exact absurd hplain (by decide)
      · exact Iff.rfl
    · split
      next hst => exact ⟨fun h => absurd h (leave_not_disabled false c k w), fun h => AlarmState.noConfusion (hst.symm.trans h)⟩
      · exact Iff.rfl

theorem evalInhibit_disabled (c : Ch) (k : Cond) (w : Moving) :
    ((evalInhibit w).1.alarm c k).st = .disabled ↔ (w.1.alarm c k).st = .disabled := by
  have hone : ∀ (x : Moving) (d : Ch) (j : Cond),
      ((evalInhibit1 d j x).1.alarm c k).st = .disabled ↔ (x.1.alarm c k).st = .disabled := fun x d j => by
    by_cases hkey : (c, k) = (d, j)
    · obtain ⟨rfl, rfl⟩ := Prod.mk.injEq .. ▸ hkey
      exact evalInhibit1_disabled c k x
    · rw [(alarmMoved_evalInhibit1 d j x).others c k hkey]
  unfold evalInhibit
  refine List.foldlRecOn (motive := fun x : Moving => (x.1.alarm c k).st = .disabled ↔ (w.1.alarm c k).st = .disabled) _ _ Iff.rfl
    fun x hx d _ => ?_
  exact List.foldlRecOn (motive := fun x : Moving => (x.1.alarm c k).st = .disabled ↔ (w.1.alarm c k).st = .disabled) _ _ hx
    fun x hx j _ => (hone x d j).trans hx

/-! ## A write of EN (04 R215) -/

/-- While the engine runs, an alarm is DISABLED exactly while its EN is OFF. -/
theorem applyEn_disabled {c : Ch} {k : Cond} {s : State} (hrun : s.engine.running = true) :
    ((applyEn c k s).alarm c k).st = .disabled ↔ (s.condCfg c k).en = false := by
  unfold applyEn
  rw [if_neg (by rw [hrun]; exact Bool.noConfusion)]
  dsimp only
  rw [(alarmsStay_commit ..).alarm, evalInhibit_disabled]
  split
  next hoff => rw [move_st]; exact ⟨fun _ => hoff, fun _ => rfl⟩
  next hon =>
    split
    · rw [move_st]; exact ⟨AlarmState.noConfusion, fun h => absurd h hon⟩
    next hst => exact ⟨fun h => absurd h hst, fun h => absurd h hon⟩

theorem applyEn_live (c : Ch) (k : Cond) (s : State) : (applyEn c k s).live = s.live := by
  unfold applyEn
  split
  · rfl
  · dsimp only
    refine ((engineStep_evalInhibit _).trans (engineStep_commit [] _)).live.trans ?_
    split
    · exact (engineStep_move ..).live
    · split
      · exact (engineStep_move ..).live
      · rfl

theorem condCfg_putEn (c : Ch) (k : Cond) (v : Val) (s : State) :
    (({ s with live := putCfg (.cond c k .en) v s.live } : State).condCfg c k).en = isOn v := by
  unfold State.condCfg State.chCfg putCfg
  dsimp only
  rw [upd_same]
  dsimp only
  rw [upd_same]
  rfl

/-- EN written at once: it stands in the settings, and while the engine runs the alarm follows it. -/
theorem writeNow_en (who : Sess) (b : Bool) (c : Ch) (k : Cond) (v : Val) (s : State) :
    ((writeNow who b (.cond c k .en) v s).condCfg c k).en = isOn v ∧
    (s.engine.running = true → (((writeNow who b (.cond c k .en) v s).alarm c k).st = .disabled ↔ isOn v = false)) := by
  obtain ⟨u, hnoted, hlog⟩ := writeNow_acts who b (.cond c k .en) v s
  have happly : applySetting who (.cond c k .en) v u = applyEn c k { u with live := putCfg (.cond c k .en) v u.live } := rfl
  rw [happly] at hlog
  have hput := condCfg_putEn c k v u
  have hrun : u.engine.running = s.engine.running := by rw [hnoted]
  have hrun' : ({ u with live := putCfg (.cond c k .en) v u.live } : State).engine.running = s.engine.running := hrun
  generalize ({ u with live := putCfg (.cond c k .en) v u.live } : State) = x at hlog hput hrun'
  generalize writeNow who b (.cond c k .en) v s = t at hlog ⊢
  refine ⟨?_, fun hs => ?_⟩
  · rw [← hput]
    unfold State.condCfg State.chCfg
    rw [hlog.live, applyEn_live]
  · rw [hlog.alarmsStay.alarm, applyEn_disabled (hrun'.trans hs), hput]

/-! ## The value written -/

/-- The words ON and OFF write EN ON and OFF. -/
theorem checkWrite_en {who : Sess} {c : Ch} {k : Cond} {on : Bool} {s : State} {v : Val}
    (h : checkWrite who (.cond c k .en) (if on then txt "ON" else txt "OFF") s = .ok v) : isOn v = on := by
  obtain ⟨hread, -⟩ := checkWrite_eq_ok h
  have hvalue : readSetting s (.cond c k .en) (if on then txt "ON" else txt "OFF") = .ok (.kw (if on then 0 else 1)) := by
    unfold readSetting kindOf condKind readVal
    cases on <;> rfl
  rw [hvalue] at hread
  cases Except.ok.inj hread
  cases on <;> rfl

/-- A record changes nothing of what a write is checked by. -/
theorem LogOnly.checkWrite {u t : State} (h : LogOnly u t) (who : Sess) (i : SettingId) (x : Text) :
    checkWrite who i x t = Machine.checkWrite who i x u := by
  rw [h]; rfl

theorem LogOnly.pendingCfg {u t : State} (h : LogOnly u t) : pendingCfg t = Machine.pendingCfg u := by
  rw [h]; rfl

/-! ## The lines -/

theorem bodyAble_runs {h : LineHdr} {on : Bool} {x : Target} {u : State} (hfit : targetFitted u.ident.part x = true)
    (hable : ableTarget x = true)
    (hfirst : ∀ c k l, targetConds u x = (c, k) :: l →
      ∃ y, checkWrite h.sess (.cond c k .en) (if on then txt "ON" else txt "OFF") u = .ok y) :
    bodyAble h on (some x) u = runWrites (waiter h u) h.sameCycle none
      ((targetConds u x).map fun p => (SettingId.cond p.1 p.2 .en, if on then txt "ON" else txt "OFF")) []
      (emitAction (if on then 5 else 4) x (originOf u h.sess).1 (originOf u h.sess).2 0 u) := by
  unfold bodyAble
  dsimp only
  rw [hfit, hable, if_neg Bool.noConfusion, if_neg Bool.noConfusion]
  split
  next e hcheck =>
    exfalso
    split at hcheck
    next c k l htarget =>
      obtain ⟨y, hy⟩ := hfirst c k l htarget
      cases hcheck.symm.trans hy
    · cases hcheck
  · rfl

/-- Settles O22: the lines by what their writes leave, and a single write of EN by what it does in the engine. -/
theorem disableAndEnable : Obligations.DisableAndEnable := by
  unfold Obligations.DisableAndEnable
  refine ⟨?lines, fun w b i x rest s => ⟨fun e h => (runWrites_refused w b none rest [] h).trans (if_pos rfl),
    fun v h hin hsrc hpanel => runWrites_taken w b none rest [] h hin hsrc hpanel, rfl⟩⟩
  intro h s u v x on cmd verb word ws hcmd hacc hu hfit hable hfirst hws hv
  have hline := lineTaken_lineStart h verb s
  rw [← hu] at hline
  obtain ⟨hexec, hword⟩ : exec cmd s = finish (runLine h verb (bodyAble h on (some x)) s) ∧ word = if on then txt "ON" else txt "OFF" := by
    rcases hcmd with ⟨rfl, rfl, rfl, rfl⟩ | ⟨rfl, rfl, rfl, rfl⟩ <;> exact ⟨rfl, rfl⟩
  rw [hword] at hfirst hws
  clear hword hcmd word
  have hbody := bodyAble_runs (h := h) (by rw [hline.ident]; exact hfit) hable hfirst
  rw [← hws, ← hv] at hbody
  have hlog : LogOnly u v := hv ▸ logOnly_emitAction ..
  have hwrites := hlog.lineWrites.trans (lineWrites_runWrites (waiter h u) h.sameCycle none ws [] v)
  have hdone : ∀ w r, runWrites (waiter h u) h.sameCycle none ws [] v = (w, some r) → LineLeaves cmd h verb r s fun t => t = w := by
    intro w r hrun
    rw [hrun] at hwrites hbody
    subst hu
    obtain ⟨t, hfin, hreply, hrest⟩ := (writesLine_acts hacc hwrites).1 r hbody
    exact ⟨t, hexec.trans hfin, hreply, hrest⟩
  refine ⟨hdone, fun w hrun => ?_, fun c k hx hin => ?_⟩
  · rw [hrun] at hwrites hbody
    subst hu
    obtain ⟨t, hfin, hheld, hsettled⟩ := (writesLine_acts hacc hwrites).2 hbody
    refine ⟨t, hexec.trans hfin, hheld, ?_⟩
    rw [hsettled]
    exact ⟨rfl, rfl, rfl⟩
  · obtain ⟨y, hy⟩ := hfirst c k [] (by rw [hx]; rfl)
    have hone : ws = [(SettingId.cond c k .en, if on then txt "ON" else txt "OFF")] := by rw [hws, hx]; rfl
    have hrun : runWrites (waiter h u) h.sameCycle none ws [] v = (writeNow h.sess h.sameCycle (.cond c k .en) y v, some {}) := by
      rw [hone, runWrites_taken (v := y) (waiter h u) h.sameCycle none [] [] ((hlog.checkWrite ..).trans hy)
        (by rw [hlog.pendingCfg]; exact hin) SettingId.noConfusion SettingId.noConfusion]
      rfl
    obtain ⟨t, hnext, hreply, w, honly, rfl⟩ := hdone _ _ hrun
    obtain ⟨hen, hst⟩ := writeNow_en h.sess h.sameCycle c k y v
    rw [checkWrite_en hy] at hen hst
    exact ⟨t, hnext, hreply, _, honly, hen, fun hs => hst (by rw [hlog.engine, hline.engine]; exact hs)⟩

end Sys2Proof.Machine

/-! SCRIPTS (11 R620–R627; 15 R792): RUN, the lines one by one, S00 and STOP. -/

namespace Sys2Proof.Machine

/-! ## What a reply leaves of scripts and of other sessions -/

/-- What a reply to one session leaves: the script, what scripts have ended with, the settings, the partition, and where the
replies of other sessions stand. -/
structure AnswerStep (who : Sess) (u t : State) : Prop where
  script : t.interp.script = u.interp.script
  ends : t.interp.ends = u.interp.ends
  live : t.live = u.live
  part : t.part = u.part
  others : ∀ x, x ≠ who → KeepsLine x u t

theorem AnswerStep.refl (who : Sess) (u : State) : AnswerStep who u u := ⟨rfl, rfl, rfl, rfl, fun _ _ => .refl _ _⟩

theorem AnswerStep.trans {who : Sess} {u v t : State} (h : AnswerStep who u v) (h' : AnswerStep who v t) : AnswerStep who u t :=
  ⟨h'.script.trans h.script, h'.ends.trans h.ends, h'.live.trans h.live, h'.part.trans h.part,
    fun x hx => (h.others x hx).trans (h'.others x hx)⟩

theorem answerStep_foldl {α : Type} {who : Sess} {f : State → α → State} (hf : ∀ s a, AnswerStep who s (f s a)) (l : List α) (s : State) :
    AnswerStep who s (l.foldl f s) := by
  induction l generalizing s with
  | nil => exact .refl who s
  | cons a l ih => exact (hf s a).trans (ih _)

/-- A change of the consoles alone that leaves every console but one. -/
theorem answerStep_consoles {k : Fin 16} {u t : State} (hport : t.port.answer = u.port.answer ∧ t.port.async = u.port.async)
    (hcount : t.interp.count = u.interp.count) (hscript : t.interp.script = u.interp.script ∧ t.interp.ends = u.interp.ends)
    (hlive : t.live = u.live ∧ t.part = u.part) (hothers : ∀ j, j ≠ k → consoleOf t j = consoleOf u j) : AnswerStep (.console k) u t := by
  refine ⟨hscript.1, hscript.2, hlive.1, hlive.2, fun x hx => ⟨?_, hcount, hport.2⟩⟩
  cases x with
  | host => exact congrArg some hport.1
  | console j =>
    show (consoleOf t j).map _ = (consoleOf u j).map _
    rw [hothers j fun e => hx (by rw [e])]
  | script n => rfl

theorem ConsoleSent.answerStep {k : Fin 16} {u t : State} (h : ConsoleSent k u t) : AnswerStep (.console k) u t :=
  answerStep_consoles (by rw [h.rest]; exact ⟨rfl, rfl⟩) (by rw [h.rest]) (by rw [h.rest]; exact ⟨rfl, rfl⟩) (by rw [h.rest]; exact ⟨rfl, rfl⟩)
    h.others

theorem answerStep_onConsole (k : Fin 16) (f : Console → Console) (s : State) (hf : ∀ c, (f c).k = c.k) :
    AnswerStep (.console k) s (onConsole k f s) :=
  answerStep_consoles ⟨rfl, rfl⟩ rfl ⟨rfl, rfl⟩ ⟨rfl, rfl⟩ fun j hj => by
    rw [consoleOf_onConsole k j f s hf]
    cases consoleOf s j with
    | none => rfl
    | some c => exact congrArg some (if_neg hj)

theorem answerStep_portTakes (who : Sess) (s : State) : AnswerStep who s (portTakes s) :=
  ⟨rfl, rfl, rfl, rfl, fun x _ => by cases x <;> exact ⟨rfl, rfl, rfl⟩⟩

theorem answerStep_onSess (who : Sess) (f : Session → Session) (s : State) : AnswerStep who s (onSess who f s) := by
  cases who with
  | host => exact ⟨rfl, rfl, rfl, rfl, fun x _ => by cases x <;> exact ⟨rfl, rfl, rfl⟩⟩
  | console k => exact answerStep_onConsole k _ s fun _ => rfl
  | script n => exact .refl ..

theorem answerStep_replyEnds (who : Sess) (s : State) : AnswerStep who s (replyEnds who s) :=
  (answerStep_onSess ..).trans (answerStep_portTakes ..)

/-- A reply is of its own session alone. -/
theorem answerStep_answer (w : Waiter) (r : Reply) (s : State) : AnswerStep w.sess s (answer w r s) := by
  unfold answer
  cases w.sess with
  | host =>
    dsimp only
    split
    · refine AnswerStep.trans ?_ (answerStep_replyEnds .host _)
      refine ⟨rfl, rfl, rfl, rfl, fun x hx => ?_⟩
      cases x with
      | host => exact absurd rfl hx
      | console j => exact ⟨rfl, rfl, rfl⟩
      | script n => exact ⟨rfl, rfl, rfl⟩
    · exact .refl ..
  | console k =>
    dsimp only
    split
    · split
      · refine AnswerStep.trans ?_ (answerStep_replyEnds (.console k) _)
        refine AnswerStep.trans ?_ (answerStep_foldl (fun s l => (sendConsoleLine_sent k l s).answerStep) _ _)
        exact answerStep_onConsole k _ s fun _ => rfl
      · exact .refl ..
    · exact .refl ..
  | script n => exact .refl ..

/-! ## The end of a script (11 R625, R626) -/

theorem scriptNoted_ends (run : Running) (err : Option Err) (cause : Nat) (s : State) :
    (scriptNoted run err cause s).interp.script = none ∧ (scriptNoted run err cause s).interp.ends[run.script.val] = some ⟨run.last, err⟩ ∧
    (scriptNoted run err cause s).live = s.live ∧ (scriptNoted run err cause s).part = s.part ∧
    ∀ who, KeepsLine who s (scriptNoted run err cause s) := by
  unfold scriptNoted
  have hlog := logOnly_emitSess (.script run.script) 0x0407 0 [run.script.val, run.last, errNo err, cause] s
  generalize emitSess (.script run.script) 0x0407 0 [run.script.val, run.last, errNo err, cause] s = u at hlog ⊢
  refine ⟨rfl, upd_same .., hlog.live, hlog.part, fun who => ?_⟩
  refine KeepsLine.trans (.of_eq hlog.port hlog.interp) ?_
  cases who <;> exact ⟨rfl, rfl, rfl⟩

/-- The end of a script: none runs, its end is kept, and the settings stay. -/
theorem endScript_ends (run : Running) (err : Option Err) (cause : Nat) (s : State) :
    (endScript run err cause s).interp.script = none ∧ (endScript run err cause s).interp.ends[run.script.val] = some ⟨run.last, err⟩ ∧
    (endScript run err cause s).live = s.live ∧ (endScript run err cause s).part = s.part ∧
    ∀ who, run.by_.sess ≠ who → KeepsLine who s (endScript run err cause s) := by
  obtain ⟨hscript, hends, hlive, hpart, hkeeps⟩ := scriptNoted_ends run err cause s
  rw [endScript_eq]
  split
  · exact ⟨hscript, hends, hlive, hpart, fun who _ => hkeeps who⟩
  · have hanswer := answerStep_answer run.by_ (scriptReply run err cause) (scriptNoted run err cause s)
    generalize answer run.by_ (scriptReply run err cause) (scriptNoted run err cause s) = t at hanswer ⊢
    exact ⟨hanswer.script.trans hscript, (congrArg (fun v => v[run.script.val]) hanswer.ends).trans hends, hanswer.live.trans hlive, hanswer.part.trans hpart,
      fun who hwho => (hkeeps who).trans (hanswer.others who hwho.symm)⟩

/-- The status of a script's line (11 R622, R626). -/
theorem scriptStatus_acts {s : State} {run : Running} (r : Reply) (hrun : s.interp.script = some run) :
    (∀ e, r.err = some e → (scriptStatus r s).interp.script = none ∧
      (scriptStatus r s).interp.ends[run.script.val] = some ⟨run.last, some e⟩) ∧
    (r.err = none → run.stop = false → run.todo ≠ [] → scriptStatus r s =
      { s with interp := { s.interp with script := some { run with waiting := none } } }) ∧
    (r.err = none → (run.stop = true ∨ run.todo = []) → (scriptStatus r s).interp.script = none ∧
      (scriptStatus r s).interp.ends[run.script.val] = some ⟨run.last, none⟩) := by
  have hstatus : scriptStatus r s = match r.err with
      | some e => endScript { run with waiting := none } (some e) 1 s
      | none =>
        if run.stop then endScript { run with waiting := none } none 2 s
        else if run.todo = [] then endScript { run with waiting := none } none 0 s
        else { s with interp := { s.interp with script := some { run with waiting := none } } } := by
    unfold scriptStatus
    rw [hrun] <;> rfl
  have hends : ∀ err cause, (endScript { run with waiting := none } err cause s).interp.script = none ∧
      (endScript { run with waiting := none } err cause s).interp.ends[run.script.val] = some ⟨run.last, err⟩ := fun err cause =>
    have ⟨hscript, hend, _⟩ := endScript_ends { run with waiting := none } err cause s
    ⟨hscript, hend⟩
  refine ⟨fun e he => ?_, fun he hstop htodo => ?_, fun he hover => ?_⟩
  · rw [hstatus, he]
    exact hends _ _
  · rw [hstatus, he]
    dsimp only
    rw [hstop, if_neg Bool.false_ne_true, if_neg htodo]
  · rw [hstatus, he]
    dsimp only
    split
    · exact hends _ _
    next hstop =>
      rw [if_pos (hover.resolve_left hstop)]
      exact hends _ _

/-- A line of a session that is no script's is answered at its session. -/
theorem deliver_eq_answer {w : Waiter} (h : ∀ n, w.sess ≠ .script n) (r : Reply) (s : State) : deliver w r s = answer w r s := by
  unfold deliver
  cases hs : w.sess with
  | script k => exact absurd hs (h k)
  | host => rfl
  | console k => rfl

theorem lineHeard_sess {s : State} {who : Sess} (h : lineHeard s who = true) (n : Script) : who ≠ .script n := by
  rintro rfl
  exact Bool.false_ne_true h

/-! ## RUN (11 R620, R621, R626) -/

theorem LineTaken.scriptLines {u t : State} (h : LineTaken u t) (n : Script) : scriptLines t n = Machine.scriptLines u n := by
  unfold Machine.scriptLines imageCfg imageInForce
  rw [h.images]

/-- A script set to run, with its record. -/
def scriptBegun (run : Running) (s : State) : State :=
  emitSess (.script run.script) 0x0406 0 [run.script.val] { s with interp := { s.interp with script := some run } }

theorem beginScript_eq (run : Running) (s : State) :
    beginScript run s = if run.todo = [] then endScript run none 0 (scriptBegun run s) else scriptBegun run s := rfl

theorem scriptBegun_runs (run : Running) (s : State) :
    LogOnly { s with interp := { s.interp with script := some run } } (scriptBegun run s) ∧
    (∀ who, KeepsLine who s (scriptBegun run s)) := by
  have hlog := logOnly_emitSess (.script run.script) 0x0406 0 [run.script.val] { s with interp := { s.interp with script := some run } }
  refine ⟨hlog, fun who => ?_⟩
  refine KeepsLine.trans (b := { s with interp := { s.interp with script := some run } }) ?_ (.of_eq hlog.port hlog.interp)
  cases who <;> exact ⟨rfl, rfl, rfl⟩

/-- The script that RUN begins. -/
def runOf (h : LineHdr) (n : Script) (s u : State) : Running :=
  { script := n, todo := scriptLines s n, role := roleOf u h.sess, by_ := waiter h u }

theorem bodyRun_free {h : LineHdr} {n : Script} {s u : State} (hline : LineTaken s u) (hmay : may u h .engineer = true)
    (hfree : s.interp.script = none) : bodyRun h (some n) u = held (beginScript (runOf h n s u) u) := by
  unfold bodyRun runOf
  dsimp only
  rw [hmay, hline.script, hfree, hline.scriptLines]
  rfl

theorem runScript_begins {h : LineHdr} {s : State} {n : Script} (hacc : Accepted h (txt "RUN") s)
    (hmay : may (lineStart h (txt "RUN") s) h .engineer = true) (hfree : s.interp.script = none) (hlines : scriptLines s n ≠ []) :
    Next (.run h (some n)) s fun t => Held h (txt "RUN") s t ∧ t.interp.script = some
        { script := n, todo := scriptLines s n, role := roleOf (lineStart h (txt "RUN") s) h.sess
          by_ := waiter h (lineStart h (txt "RUN") s) } ∧ t.live = s.live ∧ t.part = s.part ∧ t.slices = s.slices := by
  have hline := lineTaken_lineStart h (txt "RUN") s
  obtain ⟨hlog, hkeeps⟩ := scriptBegun_runs (runOf h n s (lineStart h (txt "RUN") s)) (lineStart h (txt "RUN") s)
  obtain ⟨t, hexec, hheld, hsettled⟩ := line_held h _ (bodyRun h (some n)) s _ hacc
    ((bodyRun_free hline hmay hfree).trans (congrArg held ((beginScript_eq ..).trans (if_neg hlines)))) (hkeeps _)
  refine ⟨t, hexec, hheld, ?_⟩
  rw [hsettled]
  generalize scriptBegun (runOf h n s (lineStart h (txt "RUN") s)) (lineStart h (txt "RUN") s) = v at hlog
  have hscript : v.interp.script = some (runOf h n s (lineStart h (txt "RUN") s)) := by rw [hlog.interp]
  exact ⟨hscript, hlog.live.trans hline.live, hlog.part.trans hline.part, hlog.slices.trans hline.slices⟩

theorem scriptReply_empty (h : LineHdr) (n : Script) (s u : State) :
    scriptReply (runOf h n s u) none 0 = { data := [txt "= " ++ scriptText n ++ txt " END L00"] } := by
  unfold scriptReply
  dsimp only
  rw [if_neg (by decide), List.nil_append, List.append_assoc]
  have hzero : txt " END L" ++ showPadded 2 0 = txt " END L00" := by decide
  exact congrArg (fun x => ({ data := [txt "= " ++ scriptText n ++ x] } : Reply)) hzero

/-- A script without lines ends at once, with its reply. -/
theorem runScript_empty {h : LineHdr} {s : State} {n : Script} (hacc : Accepted h (txt "RUN") s)
    (hmay : may (lineStart h (txt "RUN") s) h .engineer = true) (hfree : s.interp.script = none) (hlines : scriptLines s n = []) :
    Next (.run h (some n)) s fun t => Replied h (txt "RUN") { data := [txt "= " ++ scriptText n ++ txt " END L00"] } s t ∧
      t.interp.script = none ∧ t.interp.ends[n.val] = some ⟨0, none⟩ ∧ t.live = s.live := by
  have hline := lineTaken_lineStart h (txt "RUN") s
  obtain ⟨u, hu⟩ : ∃ u, u = lineStart h (txt "RUN") s := ⟨_, rfl⟩
  obtain ⟨hlog, hkeeps⟩ := scriptBegun_runs (runOf h n s u) u
  obtain ⟨hscript, hends, hlive, -, hkeeps'⟩ := scriptNoted_ends (runOf h n s u) none 0 (scriptBegun (runOf h n s u) u)
  obtain ⟨w, hw⟩ : ∃ w, w = scriptNoted (runOf h n s u) none 0 (scriptBegun (runOf h n s u) u) := ⟨_, rfl⟩
  have hbegin : beginScript (runOf h n s u) u = answer (waiter h u) { data := [txt "= " ++ scriptText n ++ txt " END L00"] } w := by
    rw [← scriptReply_empty h n s u, hw]
    refine (beginScript_eq ..).trans ((if_pos hlines).trans ((endScript_eq ..).trans ?_))
    exact if_neg (Bool.false_ne_true)
  rw [← hw] at hscript hends hlive hkeeps'
  have hrun : runLine h (txt "RUN") (bodyRun h (some n)) s = answer (waiter h u) { data := [txt "= " ++ scriptText n ++ txt " END L00"] } w := by
    refine runLine_held hacc ?_
    rw [← hu] at hmay hline ⊢
    exact (bodyRun_free hline hmay hfree).trans (congrArg held hbegin)
  obtain ⟨hreply, -⟩ := reply_stands h (txt "RUN") s w { data := [txt "= " ++ scriptText n ++ txt " END L00"] } hacc.1
    (hu ▸ (hkeeps _).trans (hkeeps' _))
  rw [← hu] at hreply hline
  have hanswer := answerStep_answer (waiter h u) { data := [txt "= " ++ scriptText n ++ txt " END L00"] } w
  rw [deliver_eq_answer (lineHeard_sess hacc.1)] at hreply
  clear hbegin
  generalize answer (waiter h u) { data := [txt "= " ++ scriptText n ++ txt " END L00"] } w = t at hrun hreply hanswer
  exact ⟨_, congrArg finish hrun, hreply, hanswer.script.trans hscript,
    (congrArg (fun v => v[n.val]) hanswer.ends).trans hends, hanswer.live.trans (hlive.trans (hlog.live.trans hline.live))⟩

/-! ## The lines of a script (11 R621, R622) -/

/-- What becomes of a script after its line's work. -/
def lineComes (n : Script) (no : Nat) : State × Option Reply → State
  | (s, some r) => scriptStatus r s
  | (s, none) => awaitLine n no s

theorem scriptLine_steps {s : State} {x : State × Option Reply} {run : Running} {l : Nat} {line : Text} {rest : List (Nat × Text)}
    (hrunning : s.interp.running = true) (hmode : s.power.mode ≠ .deep) (hscript : s.interp.script = some run)
    (hfree : run.waiting = none) (htodo : run.todo = (l, line) :: rest)
    (hwork : scriptWork { sess := .script run.script } line (thawView { s with interp := { s.interp with
      script := some { run with todo := rest, last := l }, count := s.interp.count + 1 } }) = x) :
    Does .scriptLine s (lineComes run.script (s.interp.count + 1) x) := by
  have hgo : ¬ (s.interp.running && decide (s.power.mode ≠ .deep) && run.waiting.isNone) = false := by
    rw [hrunning, hfree, decide_eq_true hmode]; decide
  refine does_of (congrArg finish ?_)
  show scriptLineStep s = _
  unfold scriptLineStep
  rw [hscript]
  dsimp only
  rw [if_neg hgo, htodo]
  dsimp only
  rw [hwork]
  obtain ⟨w, r⟩ := x
  cases r <;> rfl

/-! ## S00 (11 R627) -/

theorem s00Run_eq {s : State} (hphase : s.rst.phase = .booting) (hfree : s.interp.script = none) : s00Run s =
    if scriptLines s 0 = [] then { s with interp := { s.interp with running := true }, rst := { s.rst with phase := .opening } }
    else beginScript
      { script := 0, todo := scriptLines s 0, role := .engineer, by_ := { sess := .script 0, no := 0, host := false }, boot := true }
      { s with interp := { s.interp with running := true } } := if_pos ⟨hphase, hfree⟩

theorem s00_begins {s : State} (hphase : s.rst.phase = .booting) (hfree : s.interp.script = none) :
    (scriptLines s 0 = [] → Does .s00Run s { s with
      interp := { s.interp with running := true }, rst := { s.rst with phase := .opening } }) ∧
    (scriptLines s 0 ≠ [] → DoesLogged .s00Run s { s with interp := { s.interp with
      running := true
      script := some
        { script := 0, todo := scriptLines s 0, role := .engineer, by_ := { sess := .script 0, no := 0, host := false }
          boot := true } } }) := by
  refine ⟨fun hnone => does_of (congrArg finish ((s00Run_eq hphase hfree).trans (if_pos hnone))), fun hsome => ?_⟩
  refine doesLogged_of (congrArg finish ((s00Run_eq hphase hfree).trans (if_neg hsome))) ?_
  rw [beginScript_eq, if_neg hsome]
  exact (scriptBegun_runs _ _).1

/-! ## STOP (11 R626) -/

section
variable {h : LineHdr} {s : State} {n : Script}

theorem bodyStop_none {u : State} (hmay : may u h .engineer = true) (hnone : u.interp.script = none) : bodyStop h (some n) u = ok u := by
  unfold bodyStop
  dsimp only
  rw [hmay, if_neg Bool.noConfusion, hnone]

theorem bodyStop_some {u : State} {run : Running} (hmay : may u h .engineer = true) (hrun : u.interp.script = some run) :
    bodyStop h (some n) u =
      if run.script ≠ n then ok u
      else if isScript h.sess || run.waiting.isSome then
        ok { u with interp := { u.interp with script := some { run with stop := true } } }
      else ok (endScript run none 2 u) := by
  unfold bodyStop
  dsimp only
  rw [hmay, if_neg Bool.noConfusion, hrun]

/-- A script that does not run is not stopped. -/
theorem stop_other (hacc : Accepted h (txt "STOP") s) (hmay : may (lineStart h (txt "STOP") s) h .engineer = true)
    (hother : ∀ run, s.interp.script = some run → run.script ≠ n) :
    LineDone (.stop h (some n)) h (txt "STOP") {} s (lineStart h (txt "STOP") s) := by
  have hscript := (lineTaken_lineStart h (txt "STOP") s).script
  refine line_replies h (txt "STOP") (bodyStop h (some n)) s _ {} hacc ?_ (.refl ..)
  cases hrun : s.interp.script with
  | none => exact bodyStop_none hmay (hscript.trans hrun)
  | some run => exact (bodyStop_some hmay (hscript.trans hrun)).trans (if_pos (hother run hrun))

/-- A script whose line is awaited is stopped at the line's end. -/
theorem stop_waiting {run : Running} (hacc : Accepted h (txt "STOP") s) (hmay : may (lineStart h (txt "STOP") s) h .engineer = true)
    (hrun : s.interp.script = some run) (hn : run.script = n) (hwaits : run.waiting ≠ none) :
    LineDone (.stop h (some n)) h (txt "STOP") {} s
      { lineStart h (txt "STOP") s with interp := { (lineStart h (txt "STOP") s).interp with script := some { run with stop := true } } } := by
  have hscript := (lineTaken_lineStart h (txt "STOP") s).script.trans hrun
  refine line_replies h (txt "STOP") (bodyStop h (some n)) s _ {} hacc ((bodyStop_some hmay hscript).trans ?_) ?_
  · rw [if_neg (fun e => e hn), if_pos (by rw [Option.isSome_iff_ne_none.2 hwaits, Bool.or_true])]
    rfl
  · cases h.sess <;> exact ⟨rfl, rfl, rfl⟩

/-- Any other script that runs ends now. -/
theorem stop_ends {run : Running} (hacc : Accepted h (txt "STOP") s) (hmay : may (lineStart h (txt "STOP") s) h .engineer = true)
    (hrun : s.interp.script = some run) (hn : run.script = n) (hfree : run.waiting = none) :
    Next (.stop h (some n)) s fun t => t.interp.script = none ∧ t.interp.ends[n.val] = some ⟨run.last, none⟩ ∧ t.live = s.live ∧
      t.part = s.part ∧ (run.by_.sess ≠ h.sess → Replied h (txt "STOP") {} s t) := by
  subst hn
  have hline := lineTaken_lineStart h (txt "STOP") s
  have hscript := hline.script.trans hrun
  have hsess := lineHeard_sess hacc.1
  have hbody : bodyStop h (some run.script) (lineStart h (txt "STOP") s) = ok (endScript run none 2 (lineStart h (txt "STOP") s)) := by
    rw [bodyStop_some hmay hscript]
    have hnot : isScript h.sess = false := by
      cases hs : h.sess with
      | script k => exact absurd hs (hsess k)
      | host => rfl
      | console k => rfl
    rw [if_neg (fun e => e rfl), if_neg (by rw [hnot, hfree]; decide)]
  obtain ⟨hnone, hends, hlive, hpart, hkeeps⟩ := endScript_ends run none 2 (lineStart h (txt "STOP") s)
  have hreply := fun hby => (reply_stands h (txt "STOP") s (endScript run none 2 (lineStart h (txt "STOP") s)) {} hacc.1 (hkeeps h.sess hby)).1
  have hanswer := answerStep_answer (waiter h (lineStart h (txt "STOP") s)) {} (endScript run none 2 (lineStart h (txt "STOP") s))
  rw [← deliver_eq_answer hsess] at hanswer
  have hstop : runLine h (txt "STOP") (bodyStop h (some run.script)) s =
      deliver (waiter h (lineStart h (txt "STOP") s)) {} (endScript run none 2 (lineStart h (txt "STOP") s)) := by
    obtain ⟨hheard, hcheck⟩ := hacc
    have hcheck' : lineCheck h (txt "STOP") (thawView (timeoutFirst h.sess s)) = none := hcheck
    have hbody' : bodyStop h (some run.script) (takeLine h (txt "STOP") (thawView (timeoutFirst h.sess s))) = (_, some {}) := hbody
    unfold runLine
    simp only [hheard, if_true, hcheck', hbody']
    rfl
  generalize deliver (waiter h (lineStart h (txt "STOP") s)) {} (endScript run none 2 (lineStart h (txt "STOP") s)) = t at hreply hanswer hstop
  exact ⟨settle t, congrArg finish hstop, hanswer.script.trans hnone, (congrArg (fun v => v[run.script.val]) hanswer.ends).trans hends,
    hanswer.live.trans (hlive.trans hline.live), hanswer.part.trans (hpart.trans hline.part), hreply⟩

end

/-- Settles O20: RUN by whether the script has lines, a script's line by its status, and STOP by what the script waits for. -/
theorem scriptsRunLineByLine : Obligations.ScriptsRunLineByLine := by
  refine ⟨fun h s hacc => ⟨?_, fun hmay n => ⟨fun hbusy => ?_, runScript_begins hacc hmay, runScript_empty hacc hmay⟩⟩,
    ⟨fun s w run l line rest r hrunning hmode hscript hfree htodo hwork => by
        cases r <;> exact scriptLine_steps hrunning hmode hscript hfree htodo hwork,
      fun s run r hrun => scriptStatus_acts r hrun, fun s hphase hfree => s00_begins hphase hfree⟩,
    fun h s n hacc hmay => ⟨stop_other hacc hmay, fun run hrun hn => ⟨stop_waiting hacc hmay hrun hn, stop_ends hacc hmay hrun hn⟩⟩⟩
  · exact line_refused h (txt "RUN") (bodyRun h none) s .e03 hacc rfl
  · refine line_refused h (txt "RUN") (bodyRun h (some n)) s .e08 hacc ?_
    unfold bodyRun
    dsimp only
    rw [hmay, (lineTaken_lineStart h (txt "RUN") s).script, if_neg Bool.noConfusion, if_pos (Option.isSome_iff_ne_none.2 hbusy)]

end Sys2Proof.Machine

/-! FRAMES HEARD AND TAKEN (06 R329, R332, R337, R338, R349, R388): what hearing a frame leaves, how its number is judged, and
the statement about taking each frame once. -/

namespace Sys2Proof.Machine

/-! ## Hearing a frame -/

/-- An error counter moves a controller between ACTIVE and PASSIVE alone. -/
theorem Can.confine_mode (c : Can) : c.confine.mode = c.mode ∨
    (c.mode = .active ∨ c.mode = .passive) ∧ (c.confine.mode = .active ∨ c.confine.mode = .passive) := by
  have hmoved : ∀ p : Prop, [Decidable p] → (if p then BusMode.passive else .active) = .active ∨
      (if p then BusMode.passive else .active) = .passive := by
    intro p _; split <;> simp
  unfold Can.confine
  cases hm : c.mode with
  | active => exact .inr ⟨.inl rfl, hmoved _⟩
  | passive => exact .inr ⟨.inr rfl, hmoved _⟩
  | off | busOff | listen | listenXo => exact .inl hm

theorem Can.confine_receives (c : Can) : c.confine.receives = c.receives := by
  unfold Can.receives
  obtain hm | ⟨hm | hm, hm' | hm'⟩ := c.confine_mode
  · rw [hm]
  all_goals rw [hm, hm']

theorem Can.confine_listenXo (c : Can) : decide (c.confine.mode = .listenXo) = decide (c.mode = .listenXo) := by
  obtain hm | ⟨hm | hm, hm' | hm'⟩ := c.confine_mode
  · rw [hm]
  all_goals simp [hm, hm']

theorem Can.received_mode (pass : Bool) (f : RawFrame) (c : Can) :
    (Can.received pass f c).mode = (Can.countRx true c).mode := by
  rw [Can.received_eq]

theorem Can.received_receives (pass : Bool) (f : RawFrame) (c : Can) : (Can.received pass f c).receives = c.receives := by
  have hmode : (Can.received pass f c).receives = (Can.countRx true c).receives := by
    unfold Can.receives; rw [Can.received_mode]
  rw [hmode]
  exact Can.confine_receives _

theorem Can.received_listenXo (pass : Bool) (f : RawFrame) (c : Can) :
    decide ((Can.received pass f c).mode = .listenXo) = decide (c.mode = .listenXo) := by
  rw [Can.received_mode]
  exact Can.confine_listenXo _

/-- A property of some controller, said of the buses. -/
theorem any_can (s : State) (p : Can → Bool) : s.can.toList.any p = true ↔ ∃ b : Bus, p (s.canOf b) = true := by
  rw [List.any_eq_true]
  constructor
  · rintro ⟨c, hc, hp⟩
    obtain ⟨i, hi, rfl⟩ := Vector.mem_iff_getElem.1 (Vector.mem_toList_iff.1 hc)
    obtain rfl | rfl : i = 0 ∨ i = 1 := by omega
    · exact ⟨.canA, hp⟩
    · exact ⟨.canB, hp⟩
  · rintro ⟨b, hb⟩
    exact ⟨_, Vector.mem_toList_iff.2 (Vector.getElem_mem _), hb⟩

theorem linksListenXo_congr {s t : State}
    (h : ∀ b, decide ((t.canOf b).mode = .listenXo) = decide ((s.canOf b).mode = .listenXo)) :
    linksListenXo t = linksListenXo s := by
  unfold linksListenXo
  rw [Bool.eq_iff_iff, any_can, any_can]
  simp only [h]

theorem canOf_onCan_other {b d : Bus} (f : Can → Can) (s : State) (h : d ≠ b) : (onCan b f s).canOf d = s.canOf d := by
  refine upd_other _ _ _ _ fun e => h ?_
  revert e; cases b <;> cases d <;> decide

/-- What a frame heard leaves: of the controllers, who receives and whether the links only listen after XO failure. -/
structure FrameHeard (u t : State) : Prop where
  rest : t = { u with can := t.can }
  hears : ∀ b, busHears t b = busHears u b
  xo : linksListenXo t = linksListenXo u

theorem noteReceived_unheard {b : Bus} {f : RawFrame} {s : State} (hears : busHears s b = false) : noteReceived b f s = s :=
  if_neg (by simp [hears])

theorem frameHeard_noteReceived (b : Bus) (f : RawFrame) (s : State) : FrameHeard s (noteReceived b f s) := by
  cases hears : busHears s b with
  | false => rw [noteReceived_unheard hears]; exact ⟨rfl, fun _ => rfl, rfl⟩
  | true =>
    rw [noteReceived_heard hears]
    have hcan : ∀ (d : Bus), (onCan b (Can.received (filtersPass s b f) f) s).canOf d =
        if d = b then Can.received (filtersPass s b f) f (s.canOf d) else s.canOf d := by
      intro d
      split
      · next h => subst h; exact canOf_onCan_same ..
      · next h => exact canOf_onCan_other _ _ h
    have hmode : ∀ d, decide (((onCan b (Can.received (filtersPass s b f) f) s).canOf d).mode = .listenXo) =
        decide ((s.canOf d).mode = .listenXo) := by
      intro d; rw [hcan]; split
      · exact Can.received_listenXo ..
      · rfl
    refine ⟨rfl, fun d => ?_, ?_⟩
    · unfold busHears
      rw [hcan]
      split
      · rw [Can.received_receives]; rfl
      · rfl
    · exact linksListenXo_congr hmode

/-! ## Judging a number -/

theorem getLsbD_seenBit {i : Nat} (hi : i < 64) : (seenBit i).getLsbD i = true := by
  rw [seenBit, BitVec.getLsbD_ofNat, Nat.testBit_two_pow_self, decide_eq_true hi, Bool.and_self]

/-- A number judged as new is on the record after it (06 R337). -/
theorem judgeSeq_twice {p p' : Peer} {n : Nat} {d : Bool} (htaken : judgeSeq p n = (some p', d)) :
    judgeSeq p' n = (none, true) := by
  have hagain : ∀ q : Peer, q.highest = some n → judgeSeq q n = (none, true) := by
    intro q hq
    simp [judgeSeq, hq]
  unfold judgeSeq at htaken
  split at htaken
  · injection htaken with hp _; injection hp with hp; subst hp
    exact hagain _ rfl
  · next k hk =>
    dsimp only at htaken
    split at htaken
    · injection htaken with hp _; injection hp with hp; subst hp
      exact hagain _ rfl
    · next hold =>
      split at htaken
      · cases htaken
      · next hnew =>
        split at htaken
        · next hnear =>
          split at htaken
          · cases htaken
          · injection htaken with hp _; injection hp with hp; subst hp
            have hbit : ∀ v : BitVec 64, (v ||| seenBit ((k + 65536 - n) % 65536 - 1)).getLsbD ((k + 65536 - n) % 65536 - 1) = true := by
              intro v
              rw [BitVec.getLsbD_or, getLsbD_seenBit (by omega), Bool.or_true]
            unfold judgeSeq
            dsimp only
            rw [hk]
            dsimp only
            rw [if_neg hold, if_neg hnew, if_pos hnear, if_pos (hbit _)]
        · cases htaken

/-- The number that a restarted node begins with is on its record (06 R338). -/
theorem judgeSeq_highest {p : Peer} {n : Nat} (hp : p.highest = some n) : judgeSeq p n = (none, true) := by
  simp [judgeSeq, hp]

theorem judgeSeq_newer {p : Peer} {k n : Nat} (hp : p.highest = some k) (hlow : 1 ≤ (n + 65536 - k) % 65536)
    (hhigh : (n + 65536 - k) % 65536 ≤ 32768) :
    ∃ p', judgeSeq p n = (some p', false) ∧ p'.highest = some n := by
  simp [judgeSeq, hp, hlow, hhigh]

/-! ## Judging a frame -/

/-- What a frame that is taken changes of the watch: its node's record and the view. -/
def FrameShown (u t : State) : Prop :=
  t = { u with watch := { u.watch with
    peers := t.watch.peers, view := t.watch.view, shadow := t.watch.shadow, skip := t.watch.skip } }

theorem frameShown_showView (v : View) (n : NodeNo) (p : Peer → Peer) (s : State) : FrameShown s (showView v (onPeer n p s)) := by
  unfold showView; split <;> rfl

theorem showView_peers (v : View) (s : State) : (showView v s).watch.peers = s.watch.peers := by
  unfold showView; split <;> rfl

theorem showView_onPeer_same (v : View) (n : NodeNo) (f : Peer → Peer) (s : State) :
    (showView v (onPeer n f s)).watch.peers[n.val] = f (s.watch.peers[n.val]) :=
  (congrArg (fun p : Vector Peer 8 => p[n.val]) (showView_peers ..)).trans (upd_same ..)

section
variable {b : Bus} {src : NodeNo} {n : Nat} {f : RawFrame} {restart : Bool} {s : State}

theorem judgeFrame_own (hsrc : src = s.watch.node) : judgeFrame b src n f restart s = (idClash s, false) := if_pos hsrc

theorem judgeFrame_new {p' : Peer} {d : Bool} (hsrc : src ≠ s.watch.node)
    (hseq : judgeSeq (s.watch.peers[src.val]) n = (some p', d)) :
    judgeFrame b src n f restart s = (showView ⟨b, f⟩ (onPeer src (fun _ => p') s), true) := by
  unfold judgeFrame; rw [if_neg hsrc]; dsimp only; rw [hseq]

theorem judgeFrame_old {d : Bool} (hsrc : src ≠ s.watch.node) (hseq : judgeSeq (s.watch.peers[src.val]) n = (none, d)) :
    judgeFrame b src n f restart s = if restart = true ∧ d = false then
      (showView ⟨b, f⟩ (onPeer src (fun q => { q with highest := some n, seen := 0 }) s), true) else (s, false) := by
  unfold judgeFrame; rw [if_neg hsrc]; dsimp only; rw [hseq]

/-- A frame taken comes from another node, changes only its node's record and the view, and has its number on the record. -/
theorem judgeFrame_taken {t : State} (htaken : judgeFrame b src n f restart s = (t, true)) :
    src ≠ s.watch.node ∧ FrameShown s t ∧ judgeSeq (t.watch.peers[src.val]) n = (none, true) := by
  by_cases hsrc : src = s.watch.node
  · rw [judgeFrame_own hsrc] at htaken; cases htaken
  refine ⟨hsrc, ?_⟩
  rcases hseq : judgeSeq (s.watch.peers[src.val]) n with ⟨_ | p', d⟩
  · rw [judgeFrame_old hsrc hseq] at htaken
    split at htaken
    · injection htaken with ht _
      subst ht
      exact ⟨frameShown_showView .., by rw [showView_onPeer_same]; exact judgeSeq_highest rfl⟩
    · cases htaken
  · rw [judgeFrame_new hsrc hseq] at htaken
    injection htaken with ht _
    subst ht
    exact ⟨frameShown_showView .., by rw [showView_onPeer_same]; exact judgeSeq_twice hseq⟩

end

/-! ## Taking a frame -/

section
variable {r : RxHdr} {m : Msg} {restart : Bool} {s : State}

theorem takeFrame_unheard (hears : busHears s r.bus = false) : takeFrame r m restart s = (s, false) := if_pos hears

theorem takeFrame_unfit (hears : busHears s r.bus = true) (hform : r.cls ≠ msgClass m ∨ r.len < msgLen m) :
    takeFrame r m restart s = (noteReceived r.bus (rxFrame r m) s, false) := by
  unfold takeFrame
  rw [if_neg (by simp [hears])]
  exact if_pos hform

theorem takeFrame_fit (hears : busHears s r.bus = true) (hcls : r.cls = msgClass m) (hlen : msgLen m ≤ r.len) :
    takeFrame r m restart s =
      judgeFrame r.bus r.src r.seq.toNat (rxFrame r m) restart (noteReceived r.bus (rxFrame r m) s) := by
  unfold takeFrame
  rw [if_neg (by simp [hears])]
  exact if_neg (by omega)

/-- What a frame that is taken leaves: all but the controllers' receive side, its node's record and the view. -/
structure FrameTaken (u t : State) : Prop where
  rest : t = { u with
    can := t.can
    watch := { u.watch with
      peers := t.watch.peers, view := t.watch.view, shadow := t.watch.shadow, skip := t.watch.skip } }
  xo : linksListenXo t = linksListenXo u

/-- A frame taken has come with its message's class and length from another node over a controller that receives. -/
theorem takeFrame_taken {t : State} (htaken : takeFrame r m restart s = (t, true)) :
    (busHears s r.bus = true ∧ r.cls = msgClass m ∧ msgLen m ≤ r.len ∧ r.src ≠ s.watch.node) ∧ FrameTaken s t ∧
      judgeSeq (t.watch.peers[r.src.val]) r.seq.toNat = (none, true) := by
  cases hears : busHears s r.bus with
  | false => rw [takeFrame_unheard hears] at htaken; cases htaken
  | true =>
    by_cases hform : r.cls ≠ msgClass m ∨ r.len < msgLen m
    · rw [takeFrame_unfit hears hform] at htaken; cases htaken
    · obtain ⟨hcls, hlen⟩ : r.cls = msgClass m ∧ msgLen m ≤ r.len := by omega
      rw [takeFrame_fit hears hcls hlen] at htaken
      have hheard := frameHeard_noteReceived r.bus (rxFrame r m) s
      generalize noteReceived r.bus (rxFrame r m) s = v at htaken hheard
      obtain ⟨hsrc, hshown, hseq⟩ := judgeFrame_taken htaken
      have hnode : v.watch.node = s.watch.node := by rw [hheard.rest]
      refine ⟨⟨rfl, hcls, hlen, hnode ▸ hsrc⟩, ⟨?_, ?_⟩, hseq⟩
      · unfold FrameShown at hshown
        rw [hshown, hheard.rest]
      · have hcan : t.can = v.can := by rw [hshown]
        have hsame : linksListenXo t = linksListenXo v := by unfold linksListenXo; rw [hcan]
        exact hsame.trans hheard.xo

end

section
variable {u t : State} (h : FrameTaken u t)
include h

theorem FrameTaken.now : t.now = u.now := by rw [h.rest]
theorem FrameTaken.live : t.live = u.live := by rw [h.rest]
theorem FrameTaken.slices : t.slices = u.slices := by rw [h.rest]
theorem FrameTaken.engine : t.engine = u.engine := by rw [h.rest]
theorem FrameTaken.caller : t.caller = u.caller := by rw [h.rest]
theorem FrameTaken.ident : t.ident = u.ident := by rw [h.rest]
theorem FrameTaken.log : t.log = u.log := by rw [h.rest]
theorem FrameTaken.node : t.watch.node = u.watch.node := by rw [h.rest]
theorem FrameTaken.lead : t.watch.lead = u.watch.lead := by rw [h.rest]
theorem FrameTaken.remote : t.watch.remote = u.watch.remote := by rw [h.rest]
theorem FrameTaken.isLead : isLead t = isLead u := by unfold Machine.isLead; rw [h.node, h.lead]
theorem FrameTaken.call (n : NodeNo) (g : Grp) : t.call n g = u.call n g := by unfold State.call; rw [h.caller]
theorem FrameTaken.alarm (c : Ch) (k : Cond) : t.alarm c k = u.alarm c k := by unfold State.alarm; rw [h.engine]

end

/-- A number on its node's record is not taken again, whatever else the frame carries (06 R337, R338). -/
theorem takeFrame_known {q : RxHdr} {m : Msg} {again : Bool} {t : State}
    (hseq : judgeSeq (t.watch.peers[q.src.val]) q.seq.toNat = (none, true)) : (takeFrame q m again t).2 = false := by
  cases hears : busHears t q.bus with
  | false => rw [takeFrame_unheard hears]
  | true =>
    by_cases hform : q.cls ≠ msgClass m ∨ q.len < msgLen m
    · rw [takeFrame_unfit hears hform]
    · obtain ⟨hcls, hlen⟩ : q.cls = msgClass m ∧ msgLen m ≤ q.len := by omega
      rw [takeFrame_fit hears hcls hlen]
      have hheard := frameHeard_noteReceived q.bus (rxFrame q m) t
      generalize noteReceived q.bus (rxFrame q m) t = v at hheard ⊢
      have hpeers : v.watch.peers = t.watch.peers := by rw [hheard.rest]
      by_cases hsrc : q.src = v.watch.node
      · rw [judgeFrame_own hsrc]
      · rw [judgeFrame_old hsrc (d := true) (by rw [hpeers]; exact hseq)]
        simp

theorem Flag.latch_latched (f : Flag) : f.latch.latched = true := by
  unfold Flag.latch; split
  · assumption
  · rfl

theorem idClash_acts (s : State) : (idClash s).flags.idClash.latched = true ∧ (idClash s).watch.peers = s.watch.peers := by
  unfold idClash
  have hlog := logOnly_emitBlock 0 0x0225 0 []
    { s with watch := { s.watch with idclashAt := s.now }, flags := { s.flags with idClash := s.flags.idClash.latch } }
  refine ⟨?_, ?_⟩
  · rw [hlog.flags]; exact Flag.latch_latched _
  · rw [hlog.watch]

/-! ## The statement -/

/-- Settles O32: a frame taken leaves its number on its node's record, and each frame is judged by its form, its source and its
number in turn. -/
theorem watchFramesAreTakenOnce : Obligations.WatchFramesAreTakenOnce := by
  refine ⟨fun s t r q m m' restart again htaken => ?_, fun s r m restart => ⟨takeFrame_unheard, takeFrame_unfit, ?_⟩⟩
  · obtain ⟨⟨hears, hcls, hlen, hsrc⟩, -, hseq⟩ := takeFrame_taken htaken
    exact ⟨hears, hcls, hlen, hsrc, fun hs hq => takeFrame_known (by simpa only [hs, hq] using hseq)⟩
  · intro hears hcls hlen
    rw [takeFrame_fit hears hcls hlen]
    have hheard := frameHeard_noteReceived r.bus (rxFrame r m) s
    generalize noteReceived r.bus (rxFrame r m) s = v at hheard
    have hnode : v.watch.node = s.watch.node := by rw [hheard.rest]
    have hpeers : v.watch.peers = s.watch.peers := by rw [hheard.rest]
    rw [← hnode, ← hpeers]
    refine ⟨fun hsrc => ?_, fun n hsrc hhigh => ⟨fun hnew hold => ?_, fun hsame => ?_⟩⟩
    · rw [judgeFrame_own hsrc]
      exact ⟨rfl, idClash_acts v⟩
    · obtain ⟨p', hseq, hp'⟩ := judgeSeq_newer hhigh hnew hold
      rw [judgeFrame_new hsrc hseq]
      exact ⟨rfl, by rw [showView_onPeer_same]; exact hp'⟩
    · subst hsame
      rw [judgeFrame_old hsrc (judgeSeq_highest hhigh)]
      simp

end Sys2Proof.Machine

/-! NODE TIME (06 R341, R361): what a full queue makes of the lead's TIME frame, and the statement about node time. -/

namespace Sys2Proof.Machine

/-- A TIME frame that is due is pushed on every bus under the node's next number. -/
theorem timeFrameSend_canOf {s : State} (hlead : isLead s = true) (hrun : s.engine.running = true)
    (hsend : canSendMsg s = true) (hdue : s.watch.nextTime ≤ s.now) :
    (timeFrameSend s).canOf .canA = Can.push ⟨s.watch.node, s.watch.seq, timeMsg s .canA⟩ (s.canOf .canA) := by
  have hwhen : (isLead s && s.engine.running && canSendMsg s && decide (s.watch.nextTime ≤ s.now)) = true := by
    simp [hlead, hrun, hsend, hdue]
  unfold timeFrameSend
  rw [if_pos hwhen]
  exact (canOf_onCan_other _ _ (by decide)).trans (canOf_onCan_same ..)

/-- The lead of its watch with its TIME frame due, whose controllers send one of 64 ACK frames; the other 63 wait. -/
def leadQueuesFull : State := { queuesFull with watch := { joined := true, lead := some 0 } }

/-- Refutes O24: the frame being sent keeps its place in the queue of 64 (06 R341, R385), so on a bus that sends a watch frame and
has 63 more in its queue, all of a higher class, a TIME frame due is dropped, though 63 frames are fewer than 64. -/
theorem not_nodeTimeIsSetAndFollows : ¬ Obligations.NodeTimeIsSetAndFollows := by
  rintro ⟨-, hdue, -⟩
  have hsend : canSendMsg leadQueuesFull = true := by decide
  obtain ⟨t, ht, -, -, -, -, hqueue⟩ := hdue leadQueuesFull rfl rfl hsend (Nat.zero_le _)
  have hgrown := hqueue .canA rfl (by decide)
  have hkept : (t.canOf .canA).queue = (leadQueuesFull.canOf .canA).queue := by
    obtain rfl : settle (timeFrameSend leadQueuesFull) = t := Host.Outcome.next.inj ht
    calc ((timeFrameSend leadQueuesFull).canOf .canA).queue
      _ = _ := congrArg Can.queue (timeFrameSend_canOf rfl rfl hsend (Nat.zero_le _))
      _ = (leadQueuesFull.canOf .canA).queue :=
        push_queue_of_full (i := 62) (cls := 2) (by decide) (by decide) (by decide)
  rw [hkept] at hgrown
  simpa using congrArg List.length hgrown

end Sys2Proof.Machine

/-! FRAMES ON A BUS (06 R340, R385–R387): which frame starts, what its start and its end leave, and the statement about them. -/

namespace Sys2Proof.Machine

/-! ## The frame that starts -/

/-- A fold that keeps the better of what it holds and what comes ends with the best of all. -/
theorem foldl_best {α : Type} {f : Option α → α → Option α} {key : α → Nat}
    (hf : ∀ acc p, ∃ q, f acc p = some q ∧ (q = p ∨ acc = some q) ∧ key q ≤ key p ∧ ∀ a, acc = some a → key q ≤ key a)
    (l : List α) (acc : Option α) (q : α) (h : l.foldl f acc = some q) :
    (q ∈ l ∨ acc = some q) ∧ (∀ p ∈ l, key q ≤ key p) ∧ ∀ a, acc = some a → key q ≤ key a := by
  induction l generalizing acc with
  | nil => exact ⟨.inr h, by simp, fun a ha => by rw [List.foldl_nil, ha] at h; cases h; exact Nat.le_refl _⟩
  | cons p l ih =>
    obtain ⟨x, hx, hwhich, hp, hacc⟩ := hf acc p
    rw [List.foldl_cons, hx] at h
    obtain ⟨hmem, hall, hle⟩ := ih _ h
    have hxq := hle x rfl
    refine ⟨?_, fun y hy => ?_, fun a ha => hxq.trans (hacc a ha)⟩
    · rcases hmem with hmem | hmem
      · exact .inl (List.mem_cons_of_mem _ hmem)
      · cases hmem
        rcases hwhich with rfl | hheld
        · exact .inl List.mem_cons_self
        · exact .inr hheld
    · rcases List.mem_cons.1 hy with rfl | hy
      · exact hxq.trans hp
      · exact hall y hy

/-- The frame that competes best waits, and nothing that waits comes before it (06 R340). -/
theorem Can.best_first {c : Can} {x : Sending} (hbest : c.best = some x) :
    ∃ k, (k, x) ∈ c.waiting ∧ ∀ p ∈ c.waiting, k ≤ p.1 := by
  unfold Can.best at hbest
  obtain ⟨⟨k, y⟩, hfold, rfl⟩ := Option.map_eq_some_iff.1 hbest
  refine ⟨k, ?_⟩
  refine (foldl_best (key := fun p : Nat × Sending => p.1) (fun acc p => ?_) _ _ _ hfold).elim
    fun hmem h => ⟨hmem.resolve_right nofun, h.1⟩
  · cases acc with
    | none => exact ⟨p, rfl, .inl rfl, Nat.le_refl _, nofun⟩
    | some a =>
      dsimp only
      split
      · next hlt => exact ⟨p, rfl, .inl rfl, Nat.le_refl _, fun _ h => by cases h; exact Nat.le_of_lt hlt⟩
      · next hge => exact ⟨a, rfl, .inr rfl, Nat.not_lt.1 hge, fun _ h => by cases h; exact Nat.le_refl _⟩

/-- A frame's start moves its controller and, of a TIME frame, the capture. -/
theorem startOfFrame_starts {s : State} {b : Bus} {x : Sending} (hdrives : (s.canOf b).drives = true)
    (hfree : (s.canOf b).sending = none) (hbest : (s.canOf b).best = some x) :
    ∃ v : Vector TimeCaptures 2, startOfFrame b s =
      { onCan b (Can.start (s.live.can[(busIdx b).val]).brs x) s with watch := { s.watch with captures := v } } := by
  unfold startOfFrame
  dsimp only
  rw [if_pos (by simp [hdrives, hfree]), hbest]
  dsimp only
  split
  · exact ⟨_, rfl⟩
  · exact ⟨s.watch.captures, rfl⟩

/-! ## The frame that ends -/

/-- What waits for a frame's end changes of a controller (06 R328, R392). -/
def ModeOnly (c d : Can) : Prop := d = { c with mode := d.mode, listenDue := d.listenDue, rejoinDue := d.rejoinDue }

/-- A controller that waits for listen-only takes it up. -/
def listenNow (b : Bus) (s : State) : State :=
  if (s.canOf b).listenDue then onCan b (fun c => { c with mode := onBusMode s b, listenDue := false }) s else s

theorem frameEnd_eq (b : Bus) (s : State) :
    frameEnd b s = if (s.canOf b).rejoinDue then leaveBus b (listenNow b s) else listenNow b s := rfl

theorem listenNow_acts (b : Bus) (s : State) :
    listenNow b s = { s with can := (listenNow b s).can } ∧ ModeOnly (s.canOf b) ((listenNow b s).canOf b) := by
  unfold listenNow
  split
  · exact ⟨rfl, by rw [canOf_onCan_same]; rfl⟩
  · exact ⟨rfl, rfl⟩

theorem frameEnd_acts (b : Bus) (s : State) :
    frameEnd b s = { s with can := (frameEnd b s).can } ∧ ModeOnly (s.canOf b) ((frameEnd b s).canOf b) := by
  obtain ⟨hrest, hmode⟩ := listenNow_acts b s
  rw [frameEnd_eq]
  generalize listenNow b s = u at hrest hmode ⊢
  split
  · refine ⟨by rw [hrest]; rfl, ?_⟩
    unfold leaveBus
    rw [canOf_onCan_same]
    unfold ModeOnly at *
    rw [hmode]
  · exact ⟨hrest, hmode⟩

theorem feedOne_queues (x : RefreshItem) (r : List RefreshItem) (s : State) :
    (feedOne x r s).log = s.log ∧ ∀ b, QueueOnly (s.canOf b) ((feedOne x r s).canOf b) := by
  unfold feedOne
  split
  · exact ⟨send_log .., fun b => send_queueOnly _ { s with watch := { s.watch with backlog := r } } b⟩
  · exact ⟨rfl, fun b => QueueOnly.refl _⟩

/-- Refresh messages that follow move the queues of the controllers, and no record. -/
theorem feed_queues (k : Nat) (s : State) : (feed k s).log = s.log ∧ ∀ b, QueueOnly (s.canOf b) ((feed k s).canOf b) := by
  induction k generalizing s with
  | zero => exact ⟨rfl, fun b => QueueOnly.refl _⟩
  | succ k ih =>
    unfold feed
    split
    · exact ⟨rfl, fun b => QueueOnly.refl _⟩
    next x r _ =>
      split
      · obtain ⟨hlog, hone⟩ := feedOne_queues x r s
        obtain ⟨hlog', hrest⟩ := ih (feedOne x r s)
        exact ⟨hlog'.trans hlog, fun b => (hone b).trans (hrest b)⟩
      · exact ⟨rfl, fun b => QueueOnly.refl _⟩

theorem Can.confine_tx (c : Can) : c.confine.tx = c.tx := by rw [Can.confine_eq]
theorem Can.confine_queue (c : Can) : c.confine.queue = c.queue := by rw [Can.confine_eq]
theorem Can.confine_sending (c : Can) : c.confine.sending = c.sending := by rw [Can.confine_eq]

/-- What the end of a frame leaves of its controller: nothing is sent, its queue and its entries. -/
structure FrameEnded (b : Bus) (s t : State) (queue : List WatchFrame) (tx : Vector TxEntry 32) : Prop where
  sending : (t.canOf b).sending = none
  queue : (t.canOf b).queue = queue
  tx : (t.canOf b).tx = tx
  live : t.live = s.live
  log : t.log = s.log

theorem frameEnded_frameEnd (b : Bus) (c : Can) (s : State) (hc : c.sending = none) :
    FrameEnded b s (frameEnd b (onCan b (fun _ => c.confine) s)) c.queue c.tx := by
  obtain ⟨hrest, hmode⟩ := frameEnd_acts b (onCan b (fun _ => c.confine) s)
  generalize frameEnd b (onCan b (fun _ => c.confine) s) = t at hrest hmode
  rw [canOf_onCan_same] at hmode
  unfold ModeOnly at hmode
  refine ⟨?_, ?_, ?_, by rw [hrest]; rfl, by rw [hrest]; rfl⟩
  · rw [hmode]; exact (Can.confine_sending c).trans hc
  · rw [hmode]; exact Can.confine_queue c
  · rw [hmode]; exact Can.confine_tx c

/-- What an entry or a frame becomes at the end of its transmission. -/
def endsAs (x : Sending) (f : TxEntry → TxEntry) (c : Can) : Vector TxEntry 32 :=
  match x with
  | .raw n => upd c.tx n f
  | .watch _ => c.tx

/-- A watch frame whose attempt failed is back at the head of its queue. -/
def queueAfter (x : Sending) (c : Can) : List WatchFrame :=
  match x with
  | .watch f => f :: c.queue
  | .raw _ => c.queue

theorem frameTransmitted_ends {s : State} {b : Bus} {x : Sending} (hsending : (s.canOf b).sending = some x) :
    ∃ t, exec (.frameTransmitted b) s = .next t ∧ (s.watch.backlog = [] → (t.canOf b).queue = (s.canOf b).queue) ∧
      ∃ q, FrameEnded b s t q (endsAs x (fun e => { e with st := .sent, cancel := false }.rest) (s.canOf b)) := by
  obtain ⟨c, hc⟩ : ∃ c : Can, c = { s.canOf b with
    sending := none, onBus := none, tec := (s.canOf b).tec - 1
    tx := endsAs x (fun e => { e with st := .sent, cancel := false }.rest) (s.canOf b) } := ⟨_, rfl⟩
  have heq : frameTransmitted b s = feed s.watch.backlog.length (frameEnd b (onCan b (fun _ => c.confine) s)) := by
    unfold frameTransmitted
    rw [hsending]
    dsimp only
    refine congrArg (feed _) (congrArg (frameEnd b) (onCan_congr b s ?_))
    rw [hc]
    rfl
  have hended := frameEnded_frameEnd b c s (by rw [hc])
  have hexec : exec (.frameTransmitted b) s = finish (frameTransmitted b s) := rfl
  rw [heq] at hexec
  rw [hexec]
  generalize frameEnd b (onCan b (fun _ => c.confine) s) = e at hended
  have hnone : s.watch.backlog = [] → feed s.watch.backlog.length e = e := fun h => by rw [h]; rfl
  obtain ⟨hlog, hqueues⟩ := feed_queues s.watch.backlog.length e
  have hlive := (rebuildStays_feed s.watch.backlog.length e).1.live
  generalize feed s.watch.backlog.length e = d at hnone hlog hqueues hlive
  have hqueue := hqueues b
  unfold QueueOnly at hqueue
  refine ⟨_, rfl, fun hb => ?_, (d.canOf b).queue, ⟨?_, rfl, ?_, hlive.trans hended.live, hlog.trans hended.log⟩⟩
  · obtain rfl := hnone hb
    refine hended.queue.trans ?_
    rw [hc]
  · have hsending : (d.canOf b).sending = (e.canOf b).sending := by rw [hqueue]
    exact hsending.trans hended.sending
  · have htx : (d.canOf b).tx = (e.canOf b).tx := by rw [hqueue]
    refine htx.trans (hended.tx.trans ?_)
    rw [hc]

theorem transmitFailure_ends {s : State} {b : Bus} {x : Sending} (lost : Bool) (hsending : (s.canOf b).sending = some x) :
    ∃ t, exec (.transmitFailure b lost) s = .next t ∧
      FrameEnded b s t (queueAfter x (s.canOf b)) (endsAs x (failEntry lost) (s.canOf b)) := by
  obtain ⟨c, hc⟩ : ∃ c : Can, c = { s.canOf b with
    sending := none, onBus := none, tec := if lost then (s.canOf b).tec else min 255 ((s.canOf b).tec + 8)
    queue := queueAfter x (s.canOf b), tx := endsAs x (failEntry lost) (s.canOf b) } := ⟨_, rfl⟩
  have heq : transmitFailure b lost s = frameEnd b (onCan b (fun _ => c.confine) s) := by
    unfold transmitFailure
    rw [hsending]
    dsimp only
    refine congrArg (frameEnd b) (onCan_congr b s ?_)
    rw [hc]
    rfl
  have hended := frameEnded_frameEnd b c s (by rw [hc])
  refine ⟨_, congrArg finish heq, ?_⟩
  obtain ⟨h1, h2, h3, h4, h5⟩ := hended
  exact ⟨h1, h2.trans (by rw [hc]), h3.trans (by rw [hc]), h4, h5⟩

/-! ## The statement -/

/-- Settles O30: the first of what waits starts, and its entry or its queue shows how it ended. -/
theorem framesContendAndEnd : Obligations.FramesContendAndEnd := by
  refine ⟨fun s b x hdrives hfree hbest => ⟨Can.best_first hbest, ?_⟩, fun s b => ⟨fun n hsending => ⟨?_, fun hown lost => ?_⟩,
    fun f hsending => ⟨?_, fun lost => ?_⟩⟩⟩
  · obtain ⟨v, hv⟩ := startOfFrame_starts hdrives hfree hbest
    have hstart : ∀ d, ({ onCan b (Can.start (s.live.can[(busIdx b).val]).brs x) s with
        watch := { s.watch with captures := v } } : State).canOf d =
        (onCan b (Can.start (s.live.can[(busIdx b).val]).brs x) s).canOf d := fun _ => rfl
    refine ⟨_, congrArg finish hv, ?_⟩
    have hsame := (hstart b).trans (canOf_onCan_same ..)
    refine ⟨(congrArg Can.sending hsame).trans ?_, fun d hd => (hstart d).trans (canOf_onCan_other _ _ hd), ?_, ?_, rfl, rfl⟩
    · cases x <;> rfl
    · rintro n rfl
      exact ⟨(congrArg (fun c : Can => (c.tx[n.val]).st) hsame).trans
        (congrArg TxEntry.st (upd_same (s.canOf b).tx n fun e => { e with st := .sending })), (congrArg Can.queue hsame).trans rfl⟩
    · rintro f rfl
      exact ⟨(congrArg Can.queue hsame).trans rfl, (congrArg Can.tx hsame).trans rfl, (congrArg Can.onBus hsame).trans rfl⟩
  · obtain ⟨t, ht, -, q, hended⟩ := frameTransmitted_ends hsending
    have htx : ∀ j : Fin 32, (t.canOf b).tx[j.val] = _ := fun j => congrArg (fun v : Vector TxEntry 32 => v[j.val]) hended.tx
    refine ⟨t, ht, hended.sending, (htx n).trans ((upd_same ..).trans ?_), fun j hj => (htx j).trans (upd_other _ _ _ _ hj.symm),
      hended.live, hended.log⟩
    rfl
  · obtain ⟨t, ht, hended⟩ := transmitFailure_ends lost hsending
    have htx : ∀ j : Fin 32, (t.canOf b).tx[j.val] = _ := fun j => congrArg (fun v : Vector TxEntry 32 => v[j.val]) hended.tx
    refine ⟨t, ht, hended.sending, ?_, fun j hj => (htx j).trans (upd_other _ _ _ _ hj.symm), hended.live, hended.log⟩
    rw [htx n]
    refine (congrArg TxEntry.st (upd_same ..)).trans ?_
    unfold failEntry TxEntry.rest
    rw [if_pos hown]
  · obtain ⟨t, ht, hqueue, q, hended⟩ := frameTransmitted_ends hsending
    exact ⟨t, ht, hended.sending, hended.tx, hqueue⟩
  · obtain ⟨t, ht, hended⟩ := transmitFailure_ends lost hsending
    exact ⟨t, ht, hended.sending, hended.queue, hended.tx⟩

end Sys2Proof.Machine

/-! BUS-OFF AND BACK (06 R328, R393–R396; 04 R250). -/

namespace Sys2Proof.Machine

theorem Can.cut_sending (c : Can) : c.cut.sending = none := by
  unfold Can.cut
  split
  · rfl
  · rfl
  · assumption

/-- A controller whose going is logged and shown by its G31 member: but for copies that its queue takes it stays as it was made,
and no setting or slice moves. -/
theorem busMember_told (b : Bus) (code : BitVec 16) (v : Bool) (f : Can → Can) (s : State) :
    let t := setCause (busMember b) v (emitBlock (busSource b) code 0 [] (onCan b f s))
    QueueOnly (f (s.canOf b)) (t.canOf b) ∧ (t.member (busMember b)).cause = v ∧ t.live = s.live ∧ t.slices = s.slices := by
  dsimp only
  have hlog := logOnly_emitBlock (busSource b) code 0 [] (onCan b f s)
  generalize emitBlock (busSource b) code 0 [] (onCan b f s) = u at hlog
  have hcan : u.canOf b = f (s.canOf b) := by
    unfold State.canOf
    rw [hlog.can]
    exact canOf_onCan_same b f s
  have hstep := engineStep_setCause (busMember b) v u
  refine ⟨hcan ▸ hstep.queues b, by rw [setCause_cause, if_pos rfl], hstep.live.trans (hlog.live.trans rfl), ?_⟩
  rw [hstep.rest]
  exact hlog.slices

theorem busOff_acts {s : State} {b : Bus} (hdrives : (s.canOf b).drives = true) :
    busOff b s = setCause (busMember b) true (emitBlock (busSource b) 0x0220 0 [] (onCan b (fun c => { c.cut with
      mode := .busOff, recovering := decide ((s.live.can[(busIdx b).val]).busoff = .auto) }) s)) := if_pos hdrives

/-- A controller as it stands on its bus with the settings written (06 R328). -/
def onItsBus (s : State) (b : Bus) (c : Can) : Can :=
  { c with
    mode := onBusMode s b, timing := (s.live.can[(busIdx b).val]).timing, rejoinDue := false, recovering := false
    heldRecessive := false, heldStandby := false, tec := 0, recv := 0, listenDue := false }

theorem joinBus_eq (s : State) (b : Bus) : joinBus b s = onCan b (onItsBus s b) s := rfl

theorem busOffRecovery_acts {s : State} {b : Bus} (hoff : (s.canOf b).mode = .busOff) (hrec : (s.canOf b).recovering = true) :
    busOffRecovery b s =
      setCause (busMember b) false (emitBlock (busSource b) 0x0221 0 [] (onCan b (onItsBus s b) s)) := by
  unfold busOffRecovery
  dsimp only
  rw [if_pos (by simp [hoff, hrec]), joinBus_eq]

theorem rejoin_acts {s : State} {b : Bus} (hjoined : s.watch.joined = true) (hoff : (s.canOf b).mode = .off)
    (hdue : (s.canOf b).rejoinDue = true) : rejoin b s = joinBus b s := by
  unfold rejoin
  dsimp only
  rw [if_pos (by simp [hjoined, hoff, hdue])]

/-- Settles O31: a controller leaves its bus and stands on it anew, and its G31 member follows. -/
theorem busOffAndRejoin : Obligations.BusOffAndRejoin := by
  refine fun s b => ⟨fun hdrives => ?_, fun hoff hrec => ?_, fun hjoined hoff hdue => ?_⟩
  · refine ⟨_, congrArg finish (busOff_acts hdrives), ?_⟩
    obtain ⟨hqueue, hcause, hlive, hslices⟩ := busMember_told b 0x0220 true (fun c => { c.cut with
      mode := .busOff, recovering := decide ((s.live.can[(busIdx b).val]).busoff = .auto) }) s
    generalize setCause (busMember b) true _ = t at hqueue hcause hlive hslices ⊢
    unfold QueueOnly at hqueue
    have hsending : (t.canOf b).sending = none := by rw [hqueue]; exact Can.cut_sending _
    exact ⟨(congrArg Can.mode hqueue).trans rfl, hsending, (congrArg Can.recovering hqueue).trans rfl, hcause, hlive, hslices⟩
  · refine ⟨_, congrArg finish (busOffRecovery_acts hoff hrec), ?_⟩
    obtain ⟨hqueue, hcause, hlive, -⟩ := busMember_told b 0x0221 false (onItsBus s b) s
    generalize setCause (busMember b) false _ = t at hqueue hcause hlive ⊢
    unfold QueueOnly onItsBus at hqueue
    exact ⟨(congrArg Can.mode hqueue).trans rfl, (congrArg Can.tec hqueue).trans rfl, (congrArg Can.recv hqueue).trans rfl,
      (congrArg Can.timing hqueue).trans rfl, hcause, hlive⟩
  · exact does_of (congrArg finish (rejoin_acts hjoined hoff hdue))

end Sys2Proof.Machine

/-! THE LEAD (06 R346–R348, R354, R365, R395). -/

namespace Sys2Proof.Machine

theorem leadOf_xo {s : State} (hxo : linksListenXo s = true) : leadOf s = none := if_pos hxo

/-- The lead found stands up as lead, and no lower node does. -/
theorem leadOf_eq_some {s : State} {n : NodeNo} (hlead : leadOf s = some n) :
    ∃ stands : NodeNo → Bool, stands n = true ∧ (∀ m, m < n → stands m = false) ∧
      (∀ m, m ≠ s.watch.node → stands m = ((s.watch.peers[m.val]).heard && (s.watch.peers[m.val]).ready)) ∧
      (stands s.watch.node = true → linksListen s = false ∧ (s.watch.ready = true ∨ inWatch s = false)) ∧
      (stands s.watch.node = false → s.watch.ready = false ∨ linksListen s = true) := by
  cases hxo : linksListenXo s with
  | true => rw [leadOf_xo hxo] at hlead; cases hlead
  | false =>
    unfold leadOf at hlead
    rw [hxo] at hlead
    obtain ⟨hn, hlow⟩ := find?_finRange_eq_some.1 hlead
    refine ⟨_, hn, fun m hm => Bool.eq_false_iff.2 (hlow m hm), fun m hm => if_neg hm, fun h => ?_, fun h => ?_⟩
    · rw [if_pos rfl] at h
      simp only [Bool.and_eq_true, Bool.or_eq_true, Bool.not_eq_true', decide_eq_true_eq] at h
      exact ⟨h.1, h.2.imp id fun h => h.2⟩
    · rw [if_pos rfl] at h
      simp only [Bool.and_eq_false_iff, Bool.or_eq_false_iff, Bool.not_eq_false'] at h
      exact h.elim .inr fun h => .inl h.1

theorem evalLead_same {s : State} (hlead : leadOf s = s.watch.lead) : evalLead s = s := if_pos hlead

/-- What follows of a new lead: the calls, frames and records move, and the rest of the watch but its numbers stays. -/
theorem evalLead_moves {s : State} (hlead : leadOf s ≠ s.watch.lead) :
    ∃ u : State, CallStep u (evalLead s) ∧ (u = { s with watch := { s.watch with lead := leadOf s } } ∨
      u = { s with watch := { s.watch with lead := leadOf s, hostSet := false, nextTime := s.now } }) ∧
      (leadOf s = some s.watch.node → u.watch.hostSet = false ∧ u.watch.nextTime = s.now) := by
  unfold evalLead
  dsimp only
  rw [if_neg hlead]
  split
  · refine ⟨_, ?_, .inr rfl, fun _ => ⟨rfl, rfl⟩⟩
    exact (callMoved_send 0 0 _ _).toCallStep.trans (callStep_takeAllCalls _)
  · next hother => exact ⟨_, .refl _, .inl rfl, fun h => absurd h hother⟩

theorem leadEvaluation_running {s : State} (hrun : s.engine.running = true) : leadEvaluation s = evalLead s := if_pos hrun

/-- Settles O34: the lead is the first node that stands up as lead, and LEAD_EVALUATION makes it the lead. -/
theorem leadIsLowestReadyNode : Obligations.LeadIsLowestReadyNode := by
  refine ⟨fun s => leadOf_xo, fun s n hlead => ?_, fun s hrun => ⟨fun hsame => ?_, fun hnew => ?_⟩⟩
  · obtain ⟨stands, hn, hlow, hother, hown, hdown⟩ := leadOf_eq_some hlead
    refine ⟨fun hne => ?_, fun m hm hne hready => ?_, fun he => hown (he ▸ hn), fun hlt => hdown (hlow _ hlt)⟩
    · rw [hother n hne, Bool.and_eq_true] at hn
      exact hn
    · have hm' := hlow m hm
      rw [hother m hne, hready.1, hready.2] at hm'
      cases hm'
  · exact does_of (congrArg finish ((leadEvaluation_running hrun).trans (evalLead_same hsame)))
  · refine ⟨_, congrArg finish (leadEvaluation_running hrun), ?_⟩
    obtain ⟨u, hstep, hu, hown⟩ := evalLead_moves hnew
    generalize evalLead s = t at hstep ⊢
    have hrest := hstep.step.rest
    have hwatch : t.watch = { u.watch with seq := t.watch.seq } := by rw [hrest]
    have hu' : u.watch.lead = leadOf s ∧ u.watch.peers = s.watch.peers ∧ u.live = s.live ∧ u.slices = s.slices := by
      rcases hu with rfl | rfl <;> exact ⟨rfl, rfl, rfl, rfl⟩
    obtain ⟨hlead, hpeers, hlive, hslices⟩ := hu'
    have hlead' : t.watch.lead = leadOf s := by rw [hwatch]; exact hlead
    have hpeers' : t.watch.peers = s.watch.peers := by rw [hwatch]; exact hpeers
    have hown' : leadOf s = some s.watch.node → t.watch.hostSet = false ∧ t.watch.nextTime = s.now := by
      rw [hwatch]; exact hown
    have hslices' : t.slices = s.slices := by rw [hrest]; exact hslices
    exact ⟨hlead', hown', hpeers', hstep.step.live.trans hlive, hslices'⟩

end Sys2Proof.Machine

/-! FRAMES OF CALL UNITS (05 R271, R273; 06 R332, R366–R369): how a unit's frame is judged, what it leaves, and the statement. -/

namespace Sys2Proof.Machine

/-- What is known of a unit after a frame of it. -/
def unitHeard (f : UnitFrame) (now : Tick) : CallUnit := { present := true, lastHeard := now, counter := f.counter.toNat }

/-- The stored counters after a frame that is taken: a key frame stores its own (06 R369). -/
def countersStored (f : UnitFrame) (v : Vector Nat 64) : Vector Nat 64 :=
  if f.key = 0 then v else upd v f.unit fun _ => f.counter.toNat

/-- What a unit's frame that is taken has fulfilled (06 R366–R369). -/
structure UnitFrameGood (f : UnitFrame) (s : State) : Prop where
  hears : busHears s f.bus = true
  cls : f.cls = 2
  mac : leBytes 4 f.mac.toNat = unitMac s.keys.unit[f.unit.val] f
  fitted : s.live.cu[f.unit.val] ≠ .none
  newer : (s.caller.units[f.unit.val]).counter < f.counter.toNat

/-- What a unit's frame that is taken leaves: all but the controllers' receive side, the unit and its stored counter. -/
structure UnitFrameTaken (f : UnitFrame) (s w : State) : Prop where
  rest : w = { s with
    can := w.can
    caller := { s.caller with units := upd s.caller.units f.unit fun _ => unitHeard f s.now }
    images := { s.images with unitCounters := countersStored f s.images.unitCounters } }
  xo : linksListenXo w = linksListenXo s

theorem takeUnit_old {f : UnitFrame} {s : State} (hold : f.counter.toNat ≤ (s.caller.units[f.unit.val]).counter) :
    (takeUnit f s).2 = .ignored := by
  have hheard := frameHeard_noteReceived f.bus (unitRaw f) s
  unfold takeUnit
  generalize noteReceived f.bus (unitRaw f) s = v at hheard
  have hunits : v.caller.units = s.caller.units := by rw [hheard.rest]
  rw [← hunits] at hold
  dsimp only
  split
  · rfl
  split
  · rfl
  split
  · rfl
  · rfl

theorem takeUnit_taken {f : UnitFrame} {s w : State} (htaken : takeUnit f s = (w, .taken)) :
    UnitFrameGood f s ∧ UnitFrameTaken f s w := by
  have hheard := frameHeard_noteReceived f.bus (unitRaw f) s
  unfold takeUnit at htaken
  generalize noteReceived f.bus (unitRaw f) s = v at hheard htaken
  have hrest := hheard.rest
  have hkeys : v.keys = s.keys := by rw [hrest]
  have hlive : v.live = s.live := by rw [hrest]
  have hunits : v.caller.units = s.caller.units := by rw [hrest]
  dsimp only at htaken
  split at htaken
  · cases htaken
  next hform =>
  split at htaken
  · cases htaken
  next hmac =>
  split at htaken
  · cases htaken
  next hfit =>
  split at htaken
  · cases htaken
  next hnew =>
  rw [not_or, not_or] at hform
  obtain ⟨hears, hcls, -⟩ := hform
  rw [hheard.hears] at hears
  rw [hkeys] at hmac
  rw [hlive] at hfit
  rw [hunits] at hnew
  refine ⟨⟨by simpa using hears, by simpa using hcls, by simpa using hmac, hfit, Nat.not_le.1 hnew⟩, ?_⟩
  injection htaken with hw _
  subst hw
  have hxo := hheard.xo
  generalize v.can = c at hrest
  subst hrest
  by_cases hkey : f.key = 0
  · rw [if_pos hkey]
    exact ⟨by rw [countersStored, if_pos hkey]; rfl, hxo⟩
  · rw [if_neg hkey]
    exact ⟨by rw [countersStored, if_neg hkey]; rfl, hxo⟩

section
variable {f : UnitFrame} {s w : State} (h : UnitFrameTaken f s w)
include h

theorem UnitFrameTaken.now : w.now = s.now := by rw [h.rest]
theorem UnitFrameTaken.nodeTime : w.nodeTime = s.nodeTime := by rw [h.rest]
theorem UnitFrameTaken.cycle : w.cycle = s.cycle := by rw [h.rest]
theorem UnitFrameTaken.live : w.live = s.live := by rw [h.rest]
theorem UnitFrameTaken.keys : w.keys = s.keys := by rw [h.rest]
theorem UnitFrameTaken.engine : w.engine = s.engine := by rw [h.rest]
theorem UnitFrameTaken.watch : w.watch = s.watch := by rw [h.rest]
theorem UnitFrameTaken.ident : w.ident = s.ident := by rw [h.rest]
theorem UnitFrameTaken.calls : w.caller.calls = s.caller.calls := by rw [h.rest]
theorem UnitFrameTaken.dead : w.caller.dead = s.caller.dead := by rw [h.rest]
theorem UnitFrameTaken.unit : w.caller.units[f.unit.val] = unitHeard f s.now := by
  have hunits : w.caller.units = upd s.caller.units f.unit fun _ => unitHeard f s.now := by rw [h.rest]
  exact (congrArg (fun v : Vector CallUnit 64 => v[f.unit.val]) hunits).trans (upd_same ..)

end

/-- Settles O39: a frame is judged field by field, and once taken its counter is no longer above the last. -/
theorem unitFramesAreTakenOnce : Obligations.UnitFramesAreTakenOnce := by
  refine ⟨fun s t f htaken => ?_, fun s u => ⟨fun hpresent hdue => ?_, fun hsoon => ?_, does_of rfl⟩⟩
  · obtain ⟨hgood, hleft⟩ := takeUnit_taken htaken
    have hunit := hleft.unit
    refine ⟨hgood.hears, hgood.cls, hgood.fitted, hgood.mac, hgood.newer, (congrArg CallUnit.present hunit).trans rfl,
      (congrArg CallUnit.counter hunit).trans rfl, takeUnit_old (Nat.le_of_eq ?_), fun hkey => ?_, hleft.live, hleft.keys⟩
    · exact (congrArg CallUnit.counter hunit).symm
    · have hstored : t.images.unitCounters = upd s.images.unitCounters f.unit fun _ => f.counter.toNat := by
        rw [hleft.rest]; exact if_neg hkey
      exact (congrArg (fun v : Vector Nat 64 => v[f.unit.val]) hstored).trans (upd_same ..)
  · exact does_of (congrArg finish (if_pos (by simp [hpresent, hdue])))
  · exact does_of (congrArg finish (if_neg (by simp [Nat.not_le.2 hsoon])))

end Sys2Proof.Machine

/-! THE DEAD-MAN TIMER (05 R301–R304): what a period's start and stop leave, its warning and its miss, and the statement. -/

namespace Sys2Proof.Machine

/-- What ends with G31.DEADMAN's cause taken or lost: the dead-man timer as it was set, the cause, and settings and slices kept. -/
structure DeadTimed (d : Deadman) (v : Bool) (u t : State) : Prop where
  dead : t.caller.dead = d
  cause : (t.member 10).cause = v
  live : t.live = u.live
  slices : t.slices = u.slices
  watch : t.watch = { u.watch with seq := t.watch.seq }
  keeps : ∀ who, KeepsLine who u t

/-- The dead-man timer set. -/
def deadSet (d : Deadman) (u : State) : State := { u with caller := { u.caller with dead := d } }

/-- A dead-man event is recorded, the timer set and the member's cause with it. -/
theorem deadTimed_setCause {d : Deadman} {u x : State} (v : Bool) (hlog : LogOnly (deadSet d u) x) :
    DeadTimed d v u (setCause 10 v x) := by
  have hstep := engineStep_setCause 10 v x
  have hcause : ((setCause 10 v x).member 10).cause = v := by rw [setCause_cause, if_pos rfl]
  have hdead : x.caller.dead = d := by rw [hlog.caller]; rfl
  have hwatch : x.watch = u.watch := hlog.watch
  refine ⟨hstep.dead.trans hdead, hcause, hstep.live.trans hlog.live, ?_, ?_, fun who => ?_⟩
  · rw [hstep.rest]
    exact hlog.slices
  · have hseq : (setCause 10 v x).watch = { x.watch with seq := (setCause 10 v x).watch.seq } := by rw [hstep.rest]
    rw [hseq, hwatch]
  · have hkept : KeepsLine who u x := KeepsLine.of_eq hlog.port hlog.interp
    exact hkept.trans (hstep.keeps who)

/-- A period in full, with the lengths set. -/
def fullPeriod (s : State) : Deadman :=
  { periodEnd := some (s.now + s.live.dead.period * usMin), warnUs := s.live.dead.warn * usSec, warning := false }

theorem startPeriod_emitDead (code : BitVec 16) (unit : Nat) (u : State) :
    LogOnly (deadSet (fullPeriod u) u) (startPeriod (emitDead code unit u)) := by
  have hlog := logOnly_emitDead code unit u
  generalize emitDead code unit u = e at hlog ⊢
  have hperiod : fullPeriod e = fullPeriod u := by unfold fullPeriod; rw [hlog.now, hlog.live]
  have hset : startPeriod e = deadSet (fullPeriod u) e := by rw [← hperiod]; rfl
  rw [hset]
  unfold LogOnly at *
  rw [hlog]
  rfl

theorem deadConfirm_confirms {u : State} (unit : Nat) (hen : u.live.dead.en = true) (hrun : u.engine.running = true) :
    DeadTimed (fullPeriod u) false u (deadConfirm unit u) := by
  have heq : deadConfirm unit u = setCause 10 false (startPeriod (emitDead 0x0311 unit u)) := if_pos (by simp [hen, hrun])
  rw [heq]
  exact deadTimed_setCause false (startPeriod_emitDead ..)

theorem deadConfirm_off {u : State} (unit : Nat) (hen : u.live.dead.en = false) : deadConfirm unit u = u := by
  unfold deadConfirm; rw [hen]; rfl

theorem bodyAckDeadman_may {h : LineHdr} {u : State} (hmay : may u h .operator = true) :
    bodyAckDeadman h u = ok (deadConfirm 0 u) := by
  unfold bodyAckDeadman; rw [hmay]; rfl

/-- Settles O38: the line by what a confirmation does, the timer's ends by what is recorded and set. -/
theorem deadmanWarnsAndMisses : Obligations.DeadmanWarnsAndMisses := by
  refine ⟨fun h s hacc hmay => ?_, fun s e hend hrun => ⟨fun hdue hquiet => ?_, fun hdue => ?_, fun hsoon => ?_, fun hsoon => ?_⟩⟩
  · have hline := lineTaken_lineStart h (txt "ACK") s
    have hbody := bodyAckDeadman_may hmay
    refine ⟨fun hen hrun => ?_, fun hen => ?_⟩
    · have hdone := deadConfirm_confirms (u := lineStart h (txt "ACK") s) 0 (by rw [hline.live]; exact hen) (by rw [hline.engine]; exact hrun)
      obtain ⟨t, ht, hreply, honly⟩ := line_replies h _ (bodyAckDeadman h) s _ {} hacc hbody (hdone.keeps h.sess)
      refine ⟨t, ht, hreply, _, honly, ?_, hdone.cause, hdone.live.trans hline.live, hdone.slices.trans hline.slices⟩
      rw [hdone.dead]
      unfold fullPeriod
      rw [hline.now, hline.live]
    · rw [deadConfirm_off 0 (by rw [hline.live]; exact hen)] at hbody
      exact line_replies h _ (bodyAckDeadman h) s _ {} hacc hbody (KeepsLine.refl _ _)
  · have heq : deadManWarning s =
        emitDead 0x0312 0 { s with caller := { s.caller with dead := { s.caller.dead with warning := true } } } := by
      unfold deadManWarning
      rw [hend]
      exact if_pos (by simp [hrun, hdue, hquiet])
    exact doesLogged_of (congrArg finish heq) (logOnly_emitDead ..)
  · have heq : deadManMissed s =
        setCause 10 true (emitDead 0x0313 0 (deadSet { s.caller.dead with periodEnd := none } s)) := by
      unfold deadManMissed
      rw [hend]
      exact if_pos (by simp [hrun, hdue])
    have hdone := deadTimed_setCause true (logOnly_emitDead 0x0313 0 (deadSet { s.caller.dead with periodEnd := none } s))
    exact ⟨_, congrArg finish heq, hdone.cause, hdone.dead, hdone.live, hdone.slices⟩
  · refine does_of (congrArg finish ?_)
    unfold deadManWarning
    rw [hend]
    refine if_neg ?_
    simp [hsoon]
  · refine does_of (congrArg finish ?_)
    unfold deadManMissed
    rw [hend]
    refine if_neg ?_
    simp [hsoon]

end Sys2Proof.Machine

/-! THE KEYS OF A CALL UNIT (05 R291–R305; 06 R357, R358): what becomes of a key frame that is taken, and the statement. -/

namespace Sys2Proof.Machine

/-! ## A key frame that is taken -/

section
variable {f : UnitFrame} {s w : State} {key : Nat} {handles : State → Bool} {act : State → State × Bool}

/-- A key that the unit's kind may not send is recorded, and answered by the node that handles it. -/
theorem unitKey_refused (hkey : f.key.toNat = key) (htaken : takeUnit f s = (w, .taken))
    (hkind : keyAllowed w.live.cu[f.unit.val] key = false) :
    unitKey key handles act f s = if handles (emitUnit f.unit 0x0523 [key] w) then
      callAck f true (emitUnit f.unit 0x0523 [key] w) else emitUnit f.unit 0x0523 [key] w := by
  unfold unitKey
  rw [if_neg (fun h => h hkey), htaken]
  exact if_pos hkind

/-- A key that the unit's kind may send is taken and answered by the node that handles it. -/
theorem unitKey_handled (hkey : f.key.toNat = key) (htaken : takeUnit f s = (w, .taken))
    (hkind : keyAllowed w.live.cu[f.unit.val] key = true) (hhandles : handles w = true) :
    unitKey key handles act f s = callAck f (!(act w).2) (act w).1 := by
  unfold unitKey
  rw [if_neg (fun h => h hkey), htaken]
  dsimp only
  rw [if_neg (by simp [hkind]), if_pos hhandles]

end

/-- What the record and the answer of a key that is not allowed leave. -/
structure KeyRefused (w t : State) : Prop where
  caller : t.caller = w.caller
  engine : t.engine = w.engine
  live : t.live = w.live

theorem keyRefused_unitKey {f : UnitFrame} {s w : State} {key : Nat} (handles : State → Bool) (act : State → State × Bool)
    (hkey : f.key.toNat = key) (htaken : takeUnit f s = (w, .taken)) (hkind : keyAllowed w.live.cu[f.unit.val] key = false) :
    KeyRefused w (unitKey key handles act f s) := by
  have hlog := logOnly_emitUnit f.unit 0x0523 [key] w
  rw [unitKey_refused hkey htaken hkind]
  generalize emitUnit f.unit 0x0523 [key] w = e at hlog ⊢
  split
  · exact ⟨(send_caller ..).trans hlog.caller, (send_engine ..).trans hlog.engine, (send_live ..).trans hlog.live⟩
  · exact ⟨hlog.caller, hlog.engine, hlog.live⟩

theorem namesThis_taken {f : UnitFrame} {s w : State} (h : UnitFrameTaken f s w) : namesThis f w = namesThis f s := by
  unfold namesThis; rw [h.watch, h.engine]

/-! ## An accept -/

/-- A call that has been accepted, with its attend timer (05 R291, R293). -/
def acceptedCall (s : State) (c : Call) : Call :=
  { c with
    st := .accepted, ringing := 0, engs := 0
    timerEnd := if s.live.call.attend = 0 then none else some (s.nodeTime + s.live.call.attend * usMin) }

theorem acceptCall_taken {f : UnitFrame} {w : State} {n : NodeNo} {g : Grp} (hnamed : namedCall f = some (n, g))
    (hrings : (w.call n g).rings = true) (hcalled : (w.call n g).ringing.getLsbD f.unit.val = true) :
    acceptCall f w = (callChanged (emitCall g 0x0304 (acceptedCall w (w.call n g)) (f.unit.val + 1)
      (sendCall n g false false (onCall n g (fun _ => acceptedCall w (w.call n g)) w))), true) := by
  unfold acceptCall
  rw [hnamed]
  exact if_pos (by simp [hrings, hcalled])

theorem acceptCall_refused {f : UnitFrame} {w : State} {n : NodeNo} {g : Grp} (hnamed : namedCall f = some (n, g))
    (hnot : (w.call n g).rings = false ∨ (w.call n g).ringing.getLsbD f.unit.val = false) :
    acceptCall f w = (emitCall g 0x0308 (w.call n g) (f.unit.val + 1) w, false) := by
  unfold acceptCall
  rw [hnamed]
  refine if_neg ?_
  rw [Bool.and_eq_true]
  rintro ⟨hrings, hcalled⟩
  exact hnot.elim (fun h => Bool.noConfusion (h.symm.trans hrings)) fun h => Bool.noConfusion (h.symm.trans hcalled)

/-! ## The dead-man keys -/

/-- DEADMAN.EN set. -/
def deadEnSet (on : Bool) (u : State) : State := { u with live := { u.live with dead := { u.live.dead with en := on } } }

theorem stopPeriod_emitDead (code : BitVec 16) (unit : Nat) (u : State) : LogOnly (deadSet {} u) (stopPeriod (emitDead code unit u)) := by
  have hlog := logOnly_emitDead code unit u
  generalize emitDead code unit u = e at hlog ⊢
  unfold LogOnly at *
  rw [hlog]
  rfl

theorem setDeadEn_on {u : State} (unit : Nat) (hrun : u.engine.running = true) :
    DeadTimed (fullPeriod u) false (deadEnSet true u) (setDeadEn true unit u) := by
  have heq : setDeadEn true unit u = setCause 10 false (startPeriod (emitDead 0x0310 unit (deadEnSet true u))) := if_pos hrun
  rw [heq]
  exact deadTimed_setCause false (startPeriod_emitDead ..)

theorem setDeadEn_off {u : State} (unit : Nat) (hrun : u.engine.running = true) :
    DeadTimed {} false (deadEnSet false u) (setDeadEn false unit u) := by
  have heq : setDeadEn false unit u = setCause 10 false (stopPeriod (emitDead 0x0310 unit (deadEnSet false u))) := if_pos hrun
  rw [heq]
  exact deadTimed_setCause false (stopPeriod_emitDead ..)

/-! ## The acknowledge key -/

theorem ackKey_acks {f : UnitFrame} {g : Grp} {w : State} (hg : f.grp.toNat = g.val) (c : Ch) (k : Cond) :
    (((ackKey f w).1).alarm c k).st =
      if (c, k) ∈ targetConds w (.grp g) then ackedState w.cycle (w.alarm c k) else (w.alarm c k).st := by
  have hlt : f.grp.toNat < 32 := hg ▸ g.isLt
  obtain rfl : (⟨f.grp.toNat, hlt⟩ : Grp) = g := Fin.ext hg
  have hack : (ackKey f w).1 = ackTarget (beganBefore w.cycle) (memberBefore w.cycle) (.grp ⟨f.grp.toNat, hlt⟩)
      (emitAction 1 (.grp ⟨f.grp.toNat, hlt⟩) 2 (f.unit.val + 1) 0 w) := by
    unfold ackKey; rw [dif_pos hlt]; rfl
  have hlog := logOnly_emitAction 1 (.grp ⟨f.grp.toNat, hlt⟩) 2 (f.unit.val + 1) 0 w
  rw [hack]
  generalize emitAction 1 (.grp ⟨f.grp.toNat, hlt⟩) 2 (f.unit.val + 1) 0 w = v at hlog
  rw [(ackTarget_acks ..).1, targetConds_congr hlog.ident hlog.live, hlog.alarmsStay.alarm]

/-! ## The statement -/

theorem accept_alone (f : UnitFrame) (s : State) : accept f {} s = takeAccept f s := by
  unfold accept; rw [matesChange_none]

/-- An answer to a key moves no call, alarm, setting or dead-man timer. -/
theorem callAck_keeps (f : UnitFrame) (d : Bool) (s : State) :
    (callAck f d s).caller = s.caller ∧ (callAck f d s).engine = s.engine ∧ (callAck f d s).live = s.live :=
  ⟨send_caller .., send_engine .., send_live ..⟩

/-- What a dead-man key leaves stands after its answer. -/
theorem deadTimed_callAck {d : Deadman} {v : Bool} {u x : State} (f : UnitFrame) (b : Bool) (h : DeadTimed d v u x) :
    (callAck f b x).caller.dead = d ∧ ((callAck f b x).member 10).cause = v ∧ (callAck f b x).live = u.live := by
  obtain ⟨hcaller, hengine, hlive⟩ := callAck_keeps f b x
  refine ⟨(congrArg Caller.dead hcaller).trans h.dead, ?_, hlive.trans h.live⟩
  rw [← h.cause]
  unfold State.member
  rw [hengine]

/-- Settles O40: a key that is taken by what its work makes of the state, one that is not allowed by its record alone. -/
theorem unitKeysAct : Obligations.UnitKeysAct := by
  refine ⟨fun f m s => rfl, fun s w f htaken => ?_⟩
  obtain ⟨-, hleft⟩ := takeUnit_taken htaken
  have hcu : w.live.cu[f.unit.val] = s.live.cu[f.unit.val] := by rw [hleft.live]
  have hcall : ∀ n g, w.call n g = s.call n g := fun n g => by unfold State.call; rw [hleft.calls]
  have hnames := namesThis_taken hleft
  have hrunning : namesThis f s = true → w.engine.running = true := fun h => by
    unfold namesThis at h
    rw [hleft.engine]
    exact (Bool.and_eq_true .. ▸ h).2
  have hserved : ∀ (key : Nat) (act : State → State × Bool), f.key.toNat = key →
      keyAllowed s.live.cu[f.unit.val] key = true → namesThis f s = true →
      finish (unitKey key (namesThis f) act f s) = .next (settle (callAck f (!(act w).2) (act w).1)) :=
    fun key act hkey hkind hthis =>
      congrArg finish (unitKey_handled hkey htaken (hcu ▸ hkind) (hnames.trans hthis))
  have hperiod : fullPeriod w = fullPeriod s := by unfold fullPeriod; rw [hleft.now, hleft.live]
  refine ⟨fun hkey => ?status, fun hkey => ?unknown, ?refused, fun n g hkey hkind hlead hrun hnamed => ?accept,
    fun g hkey hkind hthis hg => ?ack, fun hkey hkind hthis hen => ?confirm, fun hkey hkind hthis hen => ?confirmOff,
    fun hkey hkind hthis => ?start, fun hkey hkind hthis => ?stop⟩
  case status =>
    refine does_of (congrArg finish ?_)
    unfold unitStatus
    rw [if_pos hkey, htaken]
  case unknown =>
    refine doesLogged_of (congrArg finish ?_) (logOnly_emitUnit f.unit 0x0523 [f.key.toNat] w)
    unfold unitStatus
    rw [if_neg (fun h => by rw [h] at hkey; exact absurd hkey (by decide)), if_neg (Nat.not_le.2 hkey), htaken]
  case refused =>
    intro i hi hkey hkind
    have hall : ∀ (handles : State → Bool) (act : State → State × Bool) (cmd : Instr),
        exec cmd s = finish (unitKey i.1 handles act f s) →
        Next cmd s fun t => t.caller = w.caller ∧ t.engine = s.engine ∧ t.live = s.live := by
      intro handles act cmd hexec
      obtain ⟨hcaller, hengine, hlive⟩ := keyRefused_unitKey handles act hkey htaken (hcu ▸ hkind)
      exact ⟨_, hexec, hcaller, hengine.trans hleft.engine, hlive.trans hleft.live⟩
    simp only [List.mem_cons, List.not_mem_nil, or_false] at hi
    rcases hi with rfl | rfl | rfl | rfl | rfl
    · exact hall _ (acceptCall f) _ (congrArg finish (accept_alone f s))
    · exact hall _ (ackKey f) _ rfl
    · exact hall _ _ _ rfl
    · exact hall _ _ _ rfl
    · exact hall _ _ _ rfl
  case accept =>
    have hhandles : (isLead w && w.engine.running) = true := by
      have hlead' : isLead w = isLead s := by unfold isLead; rw [hleft.watch]
      rw [hlead', hleft.engine, hlead, hrun]; rfl
    have heq : accept f {} s = callAck f (!(acceptCall f w).2) (acceptCall f w).1 :=
      (accept_alone f s).trans (unitKey_handled (by rw [hkey]; rfl) htaken (hcu ▸ hkind) hhandles)
    have haccepted : acceptedCall w (w.call n g) = acceptedCall s (s.call n g) := by
      unfold acceptedCall; rw [hcall, hleft.live, hleft.nodeTime]
    refine ⟨fun hrings hcalled => ?_, fun hnot => ?_⟩
    · rw [acceptCall_taken hnamed (hcall n g ▸ hrings) (hcall n g ▸ hcalled), haccepted] at heq
      have hmoved := (callMoved_onCall n g (fun _ => acceptedCall s (s.call n g)) w).trans
        (callMoved_told n g false false 0x0304 (acceptedCall s (s.call n g)) (f.unit.val + 1) _)
      have hown := (call_told n n g g false false 0x0304 (acceptedCall s (s.call n g)) (f.unit.val + 1) _).trans
        (call_onCall_same n g (fun _ => acceptedCall s (s.call n g)) w)
      generalize callChanged _ = x at heq hmoved hown
      obtain ⟨hcaller, hengine, hlive⟩ := callAck_keeps f (!true) x
      have hcalls : ∀ m k, (callAck f (!true) x).call m k = x.call m k := fun m k => by unfold State.call; rw [hcaller]
      exact ⟨_, congrArg finish heq, (hcalls n g).trans hown, fun m k hne => (hcalls m k).trans ((hmoved.others m k hne).trans (hcall m k)),
        hengine.trans (hmoved.engine.trans hleft.engine), hlive.trans (hmoved.step.live.trans hleft.live)⟩
    · rw [acceptCall_refused hnamed (hcall n g ▸ hnot)] at heq
      have hlog := logOnly_emitCall g 0x0308 (w.call n g) (f.unit.val + 1) w
      generalize emitCall g 0x0308 (w.call n g) (f.unit.val + 1) w = x at heq hlog
      obtain ⟨hcaller, hengine, hlive⟩ := callAck_keeps f (!false) x
      refine ⟨_, congrArg finish heq, ?_, hengine.trans (hlog.engine.trans hleft.engine), hlive.trans (hlog.live.trans hleft.live)⟩
      exact (congrArg Caller.calls (hcaller.trans hlog.caller)).trans hleft.calls
  case ack =>
    refine ⟨_, hserved 2 (ackKey f) (by rw [hkey]; rfl) hkind hthis, fun c k => ?_⟩
    have halarm : ∀ x : State, (callAck f (!(ackKey f w).2) x).alarm c k = x.alarm c k := fun x => by
      unfold State.alarm; rw [(callAck_keeps ..).2.1]
    have hstate : w.alarm c k = s.alarm c k := by unfold State.alarm; rw [hleft.engine]
    refine (congrArg Alarm.st (halarm _)).trans ((ackKey_acks hg c k).trans ?_)
    rw [targetConds_congr hleft.ident hleft.live, hleft.cycle, hstate]
  case confirm =>
    have hdone := deadConfirm_confirms (u := w) (f.unit.val + 1) (by rw [hleft.live]; exact hen) (hrunning hthis)
    obtain ⟨hdead, hcause, -⟩ := deadTimed_callAck f (!w.live.dead.en) hdone
    exact ⟨_, hserved 3 _ (by rw [hkey]; rfl) hkind hthis, hdead.trans hperiod, hcause⟩
  case confirmOff =>
    have hoff := deadConfirm_off (u := w) (f.unit.val + 1) (by rw [hleft.live]; exact hen)
    obtain ⟨hcaller, hengine, -⟩ := callAck_keeps f (!w.live.dead.en) (deadConfirm (f.unit.val + 1) w)
    rw [hoff] at hcaller hengine
    refine ⟨_, hserved 3 _ (by rw [hkey]; rfl) hkind hthis, ?_⟩
    dsimp only
    rw [hoff]
    exact ⟨(congrArg Caller.dead hcaller).trans hleft.dead, hengine.trans hleft.engine⟩
  case start =>
    obtain ⟨hdead, hcause, hlive⟩ := deadTimed_callAck f (!true) (setDeadEn_on (u := w) (f.unit.val + 1) (hrunning hthis))
    exact ⟨_, hserved 4 _ (by rw [hkey]; rfl) hkind hthis, by rw [settle_live, hlive]; rfl, hdead.trans hperiod, hcause⟩
  case stop =>
    obtain ⟨hdead, hcause, hlive⟩ := deadTimed_callAck f (!true) (setDeadEn_off (u := w) (f.unit.val + 1) (hrunning hthis))
    exact ⟨_, hserved 5 _ (by rw [hkey]; rfl) hkind hthis, by rw [settle_live, hlive]; rfl, hdead, hcause⟩

end Sys2Proof.Machine

/-! THE TIMERS OF A CALL (05 R282–R288, R293, R308, R310): what each timer's end makes of its call, whom a stage rings, and the
statement. -/

namespace Sys2Proof.Machine

/-! ## The timers -/

section
variable {n : NodeNo} {g : Grp} {e : Tick} {s : State} (hruns : callerRuns s n = true)
  (hend : (s.call n g).timerEnd = some e) (hdue : e ≤ s.nodeTime)
include hruns hend hdue

theorem endStage_rings (hrings : (s.call n g).rings = true) (hrep : (s.call n g).repeats = false) :
    endStage n g s = beginStage n g (stageNo (s.call n g) + 1) 0x0302 s := by
  unfold endStage
  dsimp only
  rw [hend]
  exact if_pos (by simp [hruns, hdue, hrings, hrep])

theorem endRepeat_repeats (hrep : (s.call n g).repeats = true) {c : Call}
    (hc : c = Call.ring s (stageMask s (s.call n g).duty (s.call n g).next (stageNo (s.call n g)))
      { s.call n g with timerEnd := some (e + (s.call n g).repeatUs) }) :
    endRepeat n g s = emitCall g 0x0303 c 0 (sendCall n g true false (onCall n g (fun _ => c) s)) := by
  subst hc
  unfold endRepeat
  dsimp only
  rw [hend]
  exact if_pos (by simp [hruns, hdue, hrep])

theorem endAttend_accepted (hst : (s.call n g).st = .accepted) :
    endAttend n g s = callChanged (emitCall g 0x0305 (resumedCall s (s.call n g)) 0
      (sendCall n g false false (onCall n g (fun _ => resumedCall s (s.call n g)) s))) := by
  unfold endAttend
  dsimp only
  rw [hst, hend]
  exact if_pos (by simp [hruns, hdue])

end

/-- What goes out and is recorded of one call, and one call alone. -/
structure OneCall (n : NodeNo) (g : Grp) (c : Call) (s t : State) : Prop where
  call : t.call n g = c
  others : ∀ m k, (m, k) ≠ (n, g) → t.call m k = s.call m k
  engine : t.engine = s.engine
  live : t.live = s.live

theorem CallMoved.oneCall {n : NodeNo} {g : Grp} {s t : State} (h : CallMoved n g s t) : OneCall n g (t.call n g) s t :=
  ⟨rfl, h.others, h.engine, h.step.live⟩

/-! ## Whom a stage rings -/

theorem unitMask_getLsbD {us : List Unit64} {u : Unit64} (hu : u ∈ us) : (unitMask us).getLsbD u.val = true := by
  have hfold : ∀ (l : List Unit64) (m : BitVec 64), m.getLsbD u.val = true ∨ u ∈ l →
      (l.foldl (fun m u => m ||| BitVec.ofNat 64 (2 ^ u.val)) m).getLsbD u.val = true := by
    intro l
    induction l with
    | nil => exact fun m h => h.resolve_right List.not_mem_nil
    | cons x l ih =>
      intro m h
      refine ih _ ?_
      rw [BitVec.getLsbD_or]
      rcases h with h | h
      · exact .inl (by rw [h]; rfl)
      · rcases List.mem_cons.1 h with rfl | h
        · refine .inl (Bool.or_eq_true .. ▸ .inr ?_)
          rw [BitVec.getLsbD_ofNat, Nat.testBit_two_pow_self, decide_eq_true u.isLt, Bool.and_self]
        · exact .inr h
  exact hfold us 0 (.inr hu)

/-- A call comes to rest at stage 1 where its duty engineer is reachable, at stage 2 where that one or the next is. -/
theorem restStage_reachable (s : State) (cls : Nat) (duty next : Option Eng) (target : Nat) :
    ((restStage s cls duty next target).1 = 1 ∧ duty.any (reachable s) = true) ∨
    ((restStage s cls duty next target).1 = 2 ∧ (duty.any (reachable s) = true ∨ (nextEngineer s duty).any (reachable s) = true)) ∨
    (restStage s cls duty next target).1 = 3 := by
  have htwo : ∀ p : Nat × Option Eng, p = (if (duty.any (reachable s)) || ((nextEngineer s duty).any (reachable s)) then
      (2, nextEngineer s duty) else (3, nextEngineer s duty)) →
      (p.1 = 2 ∧ (duty.any (reachable s) = true ∨ (nextEngineer s duty).any (reachable s) = true)) ∨ p.1 = 3 := by
    rintro p rfl
    split
    · next h => exact .inl ⟨rfl, by simpa using h⟩
    · exact .inr rfl
  unfold restStage
  dsimp only
  split
  · split
    · next h => exact .inl ⟨rfl, h⟩
    · split
      · exact .inr (.inr rfl)
      · exact .inr (htwo _ rfl)
  · split
    · exact .inr (htwo _ rfl)
    · exact .inr (.inr rfl)

theorem stageCall_st (s : State) (c : Call) (k : Nat) :
    (stageCall s c k).st = stageState (restStage s c.cls.val c.duty c.next k).1 := rfl

theorem stageCall_ringing (s : State) (c : Call) (k : Nat) : (stageCall s c k).ringing =
    stageMask s c.duty (restStage s c.cls.val c.duty c.next k).2 (restStage s c.cls.val c.duty c.next k).1 := rfl

theorem stageMask_third {s : State} (duty next : Option Eng) {u : Unit64}
    (hu : (∃ e : Eng, u ∈ (s.live.eng[e.val]).units) ∨ s.live.cu[u.val] = .mess ∨ s.live.cu[u.val] = .engrm) :
    (stageMask s duty next 3).getLsbD u.val = true := by
  refine unitMask_getLsbD (List.mem_append.2 (hu.imp ?_ ?_))
  · rintro ⟨e, he⟩
    exact List.mem_flatMap.2 ⟨e, List.mem_finRange e, he⟩
  · intro h
    exact List.mem_filter.2 ⟨List.mem_finRange u, by simpa using h⟩

/-! ## The statement -/

/-- Settles O37: each timer by the branch of its end, and a stage by where it comes to rest. -/
theorem callTimersRun : Obligations.CallTimersRun := by
  refine ⟨fun s n g e hruns hend hdue => ⟨fun hrings hrep => ?_, fun hrep => ?_, fun hst => ?_, fun m => ⟨rfl, rfl, rfl⟩⟩,
    fun s c k => ?_⟩
  · have heq := endStage_rings hruns hend hdue hrings hrep
    have hone := (callMoved_beginStage n g (stageNo (s.call n g) + 1) 0x0302 s).oneCall
    have hcall := call_beginStage n g (stageNo (s.call n g) + 1) 0x0302 s
    generalize beginStage n g (stageNo (s.call n g) + 1) 0x0302 s = t at heq hone hcall
    exact ⟨_, congrArg finish heq, hcall, hone.others, hone.engine, hone.live⟩
  · obtain ⟨c, hc⟩ : ∃ c : Call, c = Call.ring s (stageMask s (s.call n g).duty (s.call n g).next (stageNo (s.call n g)))
      { s.call n g with timerEnd := some (e + (s.call n g).repeatUs) } := ⟨_, rfl⟩
    have heq := endRepeat_repeats hruns hend hdue hrep hc
    have hone : OneCall n g _ s (emitCall g 0x0303 c 0 (sendCall n g true false (onCall n g (fun _ => c) s))) :=
      ((callMoved_onCall n g (fun _ => c) s).trans ((callMoved_send ..).trans (callMoved_emit ..))).oneCall
    have hcall : (emitCall g 0x0303 c 0 (sendCall n g true false (onCall n g (fun _ => c) s))).call n g = c :=
      (call_told n n g g true false 0x0303 c 0 _).trans (call_onCall_same n g (fun _ => c) s)
    generalize emitCall g 0x0303 c 0 (sendCall n g true false (onCall n g (fun _ => c) s)) = t at heq hone hcall
    exact ⟨_, congrArg finish heq, hcall.trans hc, hone.others, hone.engine, hone.live⟩
  · have heq := endAttend_accepted hruns hend hdue hst
    have hone := ((callMoved_onCall n g (fun _ => resumedCall s (s.call n g)) s).trans
      (callMoved_told n g false false 0x0305 (resumedCall s (s.call n g)) 0 _)).oneCall
    have hcall := (call_told n n g g false false 0x0305 (resumedCall s (s.call n g)) 0 _).trans
      (call_onCall_same n g (fun _ => resumedCall s (s.call n g)) s)
    generalize callChanged _ = t at heq hone hcall
    exact ⟨_, congrArg finish heq, hcall, hone.others, hone.engine, hone.live⟩
  · rw [stageCall_st, stageCall_ringing]
    have hany : ∀ d : Option Eng, d.any (reachable s) = true → ∃ x, d = some x ∧ reachable s x = true := fun d h => by
      cases d with
      | none => cases h
      | some x => exact ⟨x, rfl, h⟩
    generalize (restStage s c.cls.val c.duty c.next k).2 = nx
    rcases restStage_reachable s c.cls.val c.duty c.next k with ⟨hk, hduty⟩ | ⟨hk, hduty⟩ | hk
    · rw [hk]
      exact ⟨fun _ => hany _ hduty, nofun, nofun⟩
    · rw [hk]
      refine ⟨nofun, fun _ => ?_, nofun⟩
      rcases hduty with h | h
      · obtain ⟨x, hx, hr⟩ := hany _ h
        exact ⟨x, .inl hx, hr⟩
      · obtain ⟨x, hx, hr⟩ := hany _ h
        exact ⟨x, .inr hx, hr⟩
    · rw [hk]
      exact ⟨nofun, nofun, fun _ => ⟨fun e u hu => stageMask_third _ _ (.inl ⟨e, hu⟩), fun u hu => stageMask_third _ _ (.inr hu)⟩⟩

end Sys2Proof.Machine

/-! REMOTE ALARMS AND ACKNOWLEDGEMENTS (06 R332, R333, R360; 04 R224, R225, R243). -/

namespace Sys2Proof.Machine

/-! ## A node's latest word of an alarm -/

theorem remoteState_keepRemote (n : NodeNo) (b : AlarmBody) (s : State) :
    remoteState (keepRemote n b s) n b.key = some b ∧
    ∀ m x, (m, x) ≠ (n, b.key) → remoteState (keepRemote n b s) m x = remoteState s m x := by
  unfold remoteState keepRemote
  refine ⟨by simp, fun m x hne => ?_⟩
  dsimp only
  rw [List.find?_cons_of_neg (by simpa using hne.symm), List.find?_filter]
  refine congrArg (Option.map _) (List.find?_congr fun p _ => ?_)
  by_cases hp : p.1 = (m, x)
  · simp [hp, hne]
  · simp [hp]

/-- What keeps the other nodes' words, the settings and the slices. -/
structure RemoteKept (u t : State) : Prop where
  remote : t.watch.remote = u.watch.remote
  live : t.live = u.live
  slices : t.slices = u.slices

theorem RemoteKept.trans {u v t : State} (h : RemoteKept u v) (h' : RemoteKept v t) : RemoteKept u t :=
  ⟨h'.remote.trans h.remote, h'.live.trans h.live, h'.slices.trans h.slices⟩

theorem EngineStep.remoteKept {u t : State} (h : EngineStep u t) : RemoteKept u t := by
  constructor <;> rw [h.rest]

theorem remoteKept_inhibitStep (s : State) : RemoteKept s (inhibitStep s) := by
  unfold inhibitStep
  split
  · exact ((engineStep_evalInhibit (s, [])).trans (engineStep_commit ..)).remoteKept
  · exact ⟨rfl, rfl, rfl⟩

theorem remoteKept_remoteCall (n : NodeNo) (b : AlarmBody) (old : Nat) (s : State) : RemoteKept s (remoteCall n b old s) := by
  unfold remoteCall
  split
  · dsimp only
    split
    · exact (callMoved_groupCall ..).step.remoteKept
    · exact (callMoved_groupCall ..).step.remoteKept
    · exact ⟨rfl, rfl, rfl⟩
  · exact ⟨rfl, rfl, rfl⟩

theorem remoteKept_noteRefresh (n : NodeNo) (b : AlarmBody) (s : State) : RemoteKept s (noteRefresh n b s) := by
  unfold noteRefresh
  split
  · dsimp only
    split
    · exact ⟨rfl, rfl, rfl⟩
    · exact ⟨rfl, rfl, rfl⟩
  · exact ⟨rfl, rfl, rfl⟩

/-- An ALARM_STATE frame that is taken is kept, and what follows of it keeps it. -/
theorem alarmState_taken {s w : State} {r : RxHdr} {b : AlarmBody} (htaken : takeFrame r (.alarm b) false s = (w, true))
    (hkey : b.key ≠ .reserved) : RemoteKept (keepRemote r.src b w) (alarmState r b s) := by
  unfold alarmState
  rw [if_neg hkey, htaken]
  exact ((remoteKept_inhibitStep _).trans (remoteKept_remoteCall ..)).trans (remoteKept_noteRefresh ..)

/-! ## Acknowledgements of other nodes -/

/-- The judgement of an alarm's occurrence against the time that an ACK frame carries. -/
def enteredBefore (t : Tick) (a : Alarm) : Bool := decide (a.enteredTime < t)

/-- The same of a member of G31. -/
def memberEnteredBefore (t : Tick) (a : G31Alarm) : Bool := decide (a.enteredTime < t)

section
variable {s w : State} {r : RxHdr} {b : AckBody} {x : Target} (htaken : takeFrame r (.ack b) false s = (w, true))
  (htarget : b.target = some x)
include htaken htarget

theorem ackFrame_here (hrun : w.engine.running = true) (hnode : b.node = w.watch.node) (hfit : targetFitted w.ident.part x = true) :
    ackFrame r b s =
      ackTarget (enteredBefore b.latch) (memberEnteredBefore b.latch) x (emitAction 1 x b.origin b.originNo 0 w) := by
  unfold ackFrame
  rw [htaken, htarget]
  exact if_pos (by simp [hrun, hnode, hfit])

theorem ackFrame_elsewhere (hnode : b.node ≠ w.watch.node) : ackFrame r b s = w := by
  unfold ackFrame
  rw [htaken, htarget]
  exact if_neg (by simp [hnode])

end

/-- Settles O36: a word is the first of its alarm in what is kept, and an ACK frame acknowledges as its target's alarms began. -/
theorem remoteAlarmsAndAcks : Obligations.RemoteAlarmsAndAcks := by
  refine ⟨fun s w r b htaken hkey => ?_, fun s r b hkey => does_of (congrArg finish (if_pos hkey)),
    fun s w r b x htaken htarget => ⟨fun hnode hrun hfit => ?_, fun hnode => ?_⟩⟩
  · obtain ⟨-, hleft, -⟩ := takeFrame_taken htaken
    have hkept := alarmState_taken htaken hkey
    obtain ⟨hown, hothers⟩ := remoteState_keepRemote r.src b w
    obtain ⟨t, ht⟩ : ∃ t, t = alarmState r b s := ⟨_, rfl⟩
    rw [← ht] at hkept
    have hstate : ∀ n x, remoteState t n x = remoteState (keepRemote r.src b w) n x := fun n x => by
      unfold remoteState; rw [hkept.remote]
    have hbefore : ∀ n x, remoteState w n x = remoteState s n x := fun n x => by unfold remoteState; rw [hleft.remote]
    exact ⟨_, congrArg finish ht.symm, (hstate _ _).trans hown, fun n x hne => ((hstate n x).trans (hothers n x hne)).trans (hbefore n x),
      hkept.live.trans hleft.live, hkept.slices.trans hleft.slices⟩
  · obtain ⟨-, hleft, -⟩ := takeFrame_taken htaken
    have heq := ackFrame_here htaken htarget (by rw [hleft.engine]; exact hrun) (by rw [hleft.node]; exact hnode)
      (by rw [hleft.ident]; exact hfit)
    have hrec := recorded_emitAction 1 x b.origin b.originNo 0 w
    generalize emitAction 1 x b.origin b.originNo 0 w = v at heq hrec
    have hstep := hrec.step.trans (engineStep_ackTarget (enteredBefore b.latch) (memberEnteredBefore b.latch) x v)
    have hacks := ackTarget_conds (enteredBefore b.latch) (memberEnteredBefore b.latch) x v
    generalize ackTarget (enteredBefore b.latch) (memberEnteredBefore b.latch) x v = t at heq hstep hacks
    refine ⟨_, congrArg finish heq, fun c k => ?_, hstep.live.trans hleft.live, hstep.remoteKept.slices.trans hleft.slices⟩
    have halarm : v.alarm c k = s.alarm c k := (hrec.log.alarmsStay.alarm c k).trans (hleft.alarm c k)
    have hthis := hacks c k
    rw [halarm, targetConds_congr hrec.log.ident hrec.log.live, targetConds_congr hleft.ident hleft.live] at hthis
    refine Eq.trans hthis ?_
    unfold ackedBy enteredBefore
    cases (s.alarm c k).st with
    | activeUnack | returnUnack => simp only [decide_eq_true_eq]
    | normal | steeping | activeAck | shelved | inhibited | disabled => rfl
  · obtain ⟨-, hleft, -⟩ := takeFrame_taken htaken
    exact does_of (congrArg finish (ackFrame_elsewhere htaken htarget (by rw [hleft.node]; exact hnode)))

end Sys2Proof.Machine

/-! CALLS AND RECORDS OF THE WATCH (06 R334, R348, R352, R353; 09 R524). -/

namespace Sys2Proof.Machine

/-! ## A CALL frame -/

section
variable {s w : State} {r : RxHdr} {b : CallBody} {st : CallState} (htaken : takeFrame r (.call b) false s = (w, true))
  (hst : callStateOf b.state = some st)
include htaken hst

theorem callFrame_passed (hxo : linksListenXo w = true) (hown : b.node = w.watch.node) : callFrame r b s = w := by
  unfold callFrame
  rw [htaken, hst]
  exact if_pos (by simp [hxo, hown])

/-- A CALL frame that is not passed over is this node's copy of its call, and no other call moves. -/
theorem callFrame_copied (hnot : (linksListenXo w && decide (b.node = w.watch.node)) = false) :
    (callFrame r b s).call b.node b.grp = copiedCall w st b ∧ CallMoved b.node b.grp w (callFrame r b s) := by
  have hcopy := callMoved_onCall b.node b.grp (fun _ => copiedCall w st b) w
  have hcall := call_onCall_same b.node b.grp (fun _ => copiedCall w st b) w
  have hchanged : ∀ u : State, CallMoved b.node b.grp u (callChanged u) :=
    fun u => ⟨⟨engineStep_onHpEvent .., rfl, rfl⟩, fun _ _ _ => rfl⟩
  unfold callFrame
  rw [htaken, hst]
  dsimp only
  rw [hnot, if_neg (by decide)]
  generalize onCall b.node b.grp (fun _ => copiedCall w st b) w = u at hcopy hcall ⊢
  split
  · exact ⟨hcall, hcopy⟩
  · exact ⟨hcall, hcopy.trans (hchanged u)⟩

end

theorem copiedCall_taken {s w : State} (h : FrameTaken s w) (st : CallState) (b : CallBody) :
    copiedCall w st b = copiedCall s st b := by
  unfold copiedCall Call.ring engsRung
  rw [h.live, h.now]

/-! ## The lead's refresh -/

theorem nodup_callKeys : callKeys.Nodup := (List.nodup_finRange 8).product (List.nodup_finRange 32)

theorem mem_callKeys (p : NodeNo × Grp) : p ∈ callKeys := List.mem_product.2 ⟨List.mem_finRange _, List.mem_finRange _⟩

/-- A call goes out again, and its next 10 s begin. -/
def refreshOne (s : State) (p : NodeNo × Grp) : State :=
  onCall p.1 p.2 (fun c => { c with refreshAt := s.now + 10 * usSec }) (sendCall p.1 p.2 false true s)

theorem callMoved_refreshOne (s : State) (p : NodeNo × Grp) : CallMoved p.1 p.2 s (refreshOne s p) :=
  (callMoved_send ..).trans (callMoved_onCall ..)

theorem refreshOne_call (s : State) (p : NodeNo × Grp) :
    (refreshOne s p).call p.1 p.2 = { s.call p.1 p.2 with refreshAt := s.now + 10 * usSec } := by
  have hsent : (sendCall p.1 p.2 false true s).call p.1 p.2 = s.call p.1 p.2 := by
    unfold State.call sendCall; rw [send_caller]
  unfold refreshOne
  rw [call_onCall_same, hsent]

/-- Whether a call is due to go out again. -/
def refreshDue (s : State) (p : NodeNo × Grp) : Bool :=
  decide ((s.call p.1 p.2).st ≠ .idle) && decide ((s.call p.1 p.2).refreshAt ≤ s.now)

theorem callRefresh_lead {s : State} (hlead : isLead s = true) (hrun : s.engine.running = true) :
    callRefresh s = (callKeys.filter (refreshDue s)).foldl refreshOne s := if_pos (by simp [hlead, hrun])

theorem refreshed_call (s : State) (n : NodeNo) (g : Grp) :
    ((callKeys.filter (refreshDue s)).foldl refreshOne s).call n g = if refreshDue s (n, g) = true then
      { s.call n g with refreshAt := s.now + 10 * usSec } else s.call n g := by
  have hothers : ∀ (u : State) (q p : NodeNo × Grp), p ≠ q → (refreshOne u q).call p.1 p.2 = u.call p.1 p.2 :=
    fun u q p hne => (callMoved_refreshOne u q).others p.1 p.2 hne
  split
  · next hdue =>
    obtain ⟨before, hsame, hlast⟩ := foldl_once (get := fun (u : State) (p : NodeNo × Grp) => u.call p.1 p.2) hothers
      (nodup_callKeys.filter _) (List.mem_filter.2 ⟨mem_callKeys (n, g), hdue⟩) s
    have hnow : (before.foldl refreshOne s).now = s.now :=
      (callStep_foldl (fun u p => (callMoved_refreshOne u p).toCallStep) before s).step.now
    refine hlast.trans ((refreshOne_call _ (n, g)).trans ?_)
    dsimp only at hsame ⊢
    rw [hsame, hnow]
  · next hnot =>
    exact foldl_out (get := fun (u : State) (p : NodeNo × Grp) => u.call p.1 p.2) hothers
      (fun h => hnot (List.mem_filter.1 h).2) s

/-! ## Copied records -/

theorem logcopy_taken {s w : State} {r : RxHdr} {b : Record} (htaken : takeFrame r (.logcopy b) false s = (w, true)) :
    logcopy r b s = if isLead w then { w with log := { w.log with incoming := w.log.incoming ++ [.copied b] } } else w := by
  unfold logcopy
  rw [htaken]

/-- Settles O35: a frame taken by what it makes of its call, the refresh call by call, a record by the lead's logbook. -/
theorem callsAreCopied : Obligations.CallsAreCopied := by
  refine ⟨⟨fun s w r b st htaken hst => ⟨fun hfrom => ?_, fun hxo hown => ?_⟩, fun s hlead hrun => ?_⟩,
    fun s w r b htaken => ⟨fun hlead => ?_, fun hlead => ?_⟩⟩
  · obtain ⟨-, hleft, -⟩ := takeFrame_taken htaken
    have hnot : (linksListenXo w && decide (b.node = w.watch.node)) = false := by
      rw [hleft.xo, hleft.node]
      rcases hfrom with h | h <;> simp [h]
    obtain ⟨hcall, hmoved⟩ := callFrame_copied htaken hst hnot
    obtain ⟨t, ht⟩ : ∃ t, t = callFrame r b s := ⟨_, rfl⟩
    rw [← ht] at hcall hmoved
    exact ⟨_, congrArg finish ht.symm, hcall.trans (copiedCall_taken hleft st b),
      fun n g hne => (hmoved.others n g hne).trans (hleft.call n g), hmoved.engine.trans hleft.engine,
      hmoved.step.live.trans hleft.live⟩
  · obtain ⟨-, hleft, -⟩ := takeFrame_taken htaken
    exact does_of (congrArg finish (callFrame_passed htaken hst (hleft.xo.trans hxo) (hown.trans hleft.node.symm)))
  · have hcalls := refreshed_call s
    have hstep := callStep_foldl (fun u p => (callMoved_refreshOne u p).toCallStep) (callKeys.filter (refreshDue s)) s
    have heq := callRefresh_lead hlead hrun
    generalize (callKeys.filter (refreshDue s)).foldl refreshOne s = t at hcalls hstep heq
    refine ⟨_, congrArg finish heq, fun n g => (hcalls n g).trans ?_, hstep.engine, hstep.step.live⟩
    simp only [refreshDue, Bool.and_eq_true, decide_eq_true_eq]
  · obtain ⟨-, hleft, -⟩ := takeFrame_taken htaken
    refine does_of (congrArg finish ((logcopy_taken htaken).trans ((if_pos (hleft.isLead.trans hlead)).trans ?_)))
    rw [hleft.log]
  · obtain ⟨-, hleft, -⟩ := takeFrame_taken htaken
    have hnot : isLead w = false := hleft.isLead.trans hlead
    exact does_of (congrArg finish ((logcopy_taken htaken).trans (if_neg (by simp [hnot]))))

end Sys2Proof.Machine

/-! RECORDS PROGRAMMED (09 R480–R501, R524; 04 R250): what the writer's operations leave of the log, a record in a sector with room, the
last slot of the log, and the statement about them. -/

namespace Sys2Proof.Machine

/-! ## What stays of the log -/

/-- But for events handed over and entries in the directory the log stays. -/
def LogKept (u t : State) : Prop :=
  t.log = { u.log with
    incoming := t.log.incoming, dirEntries := t.log.dirEntries, dirSector := t.log.dirSector
    savedRefused := t.log.savedRefused, savedAt := t.log.savedAt }

theorem LogKept.trans {u v t : State} (h : LogKept u v) (h' : LogKept v t) : LogKept u t := by
  unfold LogKept at *
  rw [h', h]

theorem logKept_of_eq {u t : State} (h : t.log = u.log) : LogKept u t := by unfold LogKept; rw [h]

theorem EngineStep.logKept {u t : State} (h : EngineStep u t) : LogKept u t := by unfold LogKept; rw [h.rest]

theorem LogOnly.logKept {u t : State} (h : LogOnly u t) : LogKept u t := by unfold LogKept; rw [h]

theorem DirectoryOnly.logKept {u t : State} (h : DirectoryOnly u t) : LogKept u t := by unfold LogKept; rw [h]

section
variable {u t : State} (h : LogKept u t)
include h

theorem LogKept.stage : t.log.stage = u.log.stage := by rw [h]
theorem LogKept.refused : t.log.refused = u.log.refused := by rw [h]
theorem LogKept.dropped : t.log.dropped = u.log.dropped := by rw [h]
theorem LogKept.seq : t.log.seq = u.log.seq := by rw [h]
theorem LogKept.sectors : t.log.sectors = u.log.sectors := by rw [h]
theorem LogKept.filling : t.log.filling = u.log.filling := by rw [h]
theorem LogKept.erase : t.log.erase = u.log.erase := by rw [h]
theorem LogKept.toErase : t.log.toErase = u.log.toErase := by rw [h]
theorem LogKept.clearing : t.log.clearing = u.log.clearing := by rw [h]
theorem LogKept.full : t.log.full = u.log.full := by rw [h]
theorem LogKept.clearOn : t.log.clearOn = u.log.clearOn := by rw [h]
theorem LogKept.sectorOf (k : Fin 8) : sectorOf t k = Machine.sectorOf u k := by unfold Machine.sectorOf; rw [h.sectors]

end

/-- A sector's change and its entry in the directory. -/
theorem logKept_setSector (k : Fin 8) (f : Sector → Sector) (s : State) : LogKept (onSector k f s) (setSector k f s) :=
  (directoryOnly_dirAppend _).logKept

theorem sectorOf_onSector_same (k : Fin 8) (f : Sector → Sector) (s : State) : sectorOf (onSector k f s) k = f (sectorOf s k) :=
  upd_same ..

/-! ## A copy for the lead (09 R523, R525) -/

/-- What goes out to the lead moves the queues and the sequence number of the watch. -/
structure CopySent (u t : State) : Prop where
  step : EngineStep u t
  log : t.log = u.log
  engine : t.engine = u.engine
  flags : t.flags = u.flags
  port : t.port = u.port

theorem CopySent.refl (u : State) : CopySent u u := ⟨.refl u, rfl, rfl, rfl, rfl⟩

theorem CopySent.trans {u v t : State} (h : CopySent u v) (h' : CopySent v t) : CopySent u t :=
  ⟨h.step.trans h'.step, h'.log.trans h.log, h'.engine.trans h.engine, h'.flags.trans h.flags, h'.port.trans h.port⟩

theorem copySent_copyToLead (r : Record) (s : State) : CopySent s (copyToLead r s) := by
  unfold copyToLead
  split
  · exact ⟨engineStep_send .., send_log .., send_engine .., send_flags .., send_port ..⟩
  · exact .refl s

/-! ## A record in a sector with room -/

/-- A suspended erase notes that a record has been programmed. -/
def wroteNoted (s : State) : State := onLog (fun l => { l with erase := l.erase.map fun e => { e with wrote := true } }) s

theorem programSlot_room {k : Fin 8} {s : State} (x : Slot) (hroom : (sectorOf s k).slots.length + 1 < sectorSlots) :
    programSlot k x s = onSector k (fun y => { y with slots := y.slots ++ [x] }) s := by
  refine if_neg ?_
  rw [sectorOf_onSector_same, List.length_append]
  exact Nat.not_le.2 hroom

section
variable {s : State} {k : Fin 8} {x : Staged} {rest : List Staged} (hfill : s.log.filling = some k)
  (hmay : mayProgram s = true)
include hfill hmay

theorem recordProgrammed_own {e : Event} (hlast : lastSlotNext s = false) (hstage : s.log.stage = .own e :: rest) :
    recordProgrammed true s = copyToLead (recordOf s.watch.node (nextSeq s) e) (makeReady (stageDrops (programSlot k
      (.record (recordOf s.watch.node (nextSeq s) e)) (onLog (fun l => { l with stage := rest, seq := nextSeq s }) (wroteNoted s))))) := by
  have hlast' : lastSlotNext (wroteNoted s) = false := hlast
  have hstage' : (wroteNoted s).log.stage = .own e :: rest := hstage
  unfold recordProgrammed
  rw [hfill]
  dsimp only
  rw [if_neg (by simp [hmay])]
  refine (if_neg (by rw [← wroteNoted, hlast']; decide)).trans ?_
  rw [← wroteNoted, hstage']
  rfl

theorem recordProgrammed_copied {c : Record} (hlast : lastSlotNext s = false) (hstage : s.log.stage = .copied c :: rest) :
    recordProgrammed true s = copyToLead c (makeReady (stageDrops (programSlot k (.record c)
      (onLog (fun l => { l with stage := rest, seq := s.log.seq }) (wroteNoted s))))) := by
  have hlast' : lastSlotNext (wroteNoted s) = false := hlast
  have hstage' : (wroteNoted s).log.stage = .copied c :: rest := hstage
  unfold recordProgrammed
  rw [hfill]
  dsimp only
  rw [if_neg (by simp [hmay])]
  refine (if_neg (by rw [← wroteNoted, hlast']; decide)).trans ?_
  rw [← wroteNoted, hstage']
  rfl

theorem recordProgrammed_fails (hlast : lastSlotNext s = false) (hstage : s.log.stage = x :: rest) :
    recordProgrammed false s = programFails k (wroteNoted s) := by
  have hlast' : lastSlotNext (wroteNoted s) = false := hlast
  have hstage' : (wroteNoted s).log.stage = x :: rest := hstage
  unfold recordProgrammed
  rw [hfill]
  dsimp only
  rw [if_neg (by simp [hmay])]
  refine (if_neg (by rw [← wroteNoted, hlast']; decide)).trans ?_
  rw [← wroteNoted, hstage']
  rfl

end

/-- A record in the next slot, and the rest of the log beside it. -/
def recordPut (k : Fin 8) (rest : List Staged) (seq : Nat) (r : Record) (s : State) : State :=
  { s with log := { s.log with
    stage := rest ++ dropsDue s, burst := 0, seq := seq, erase := s.log.erase.map fun y => { y with wrote := true }
    sectors := upd s.log.sectors k fun y => { y with slots := y.slots ++ [.record r] } } }

theorem makeReady_recordPut {s : State} {k : Fin 8} {rest : List Staged} {seq : Nat} (r : Record)
    (hfill : s.log.filling = some k) (hroom : (sectorOf s k).slots.length + 1 < sectorSlots) :
    makeReady (stageDrops (programSlot k (.record r) (onLog (fun l => { l with stage := rest, seq := seq }) (wroteNoted s)))) =
      recordPut k rest seq r s := by
  obtain ⟨u, hu⟩ : ∃ u, u = onLog (fun l => { l with stage := rest, seq := seq }) (wroteNoted s) := ⟨_, rfl⟩
  have hroom' : (sectorOf u k).slots.length + 1 < sectorSlots := by rw [hu]; exact hroom
  have hfill' : (stageDrops (onSector k (fun y => { y with slots := y.slots ++ [.record r] }) u)).log.filling = some k := by
    rw [hu]; exact hfill
  rw [← hu, programSlot_room _ hroom', makeReady_of_filling hfill', hu]
  rfl

theorem upd_upd {α : Type} {n : Nat} (v : Vector α n) (i : Fin n) (f g : α → α) : upd (upd v i f) i g = upd v i fun x => g (f x) := by
  unfold upd
  rw [Vector.getElem_set_self, Vector.set_set]

theorem programFails_first {s : State} {k : Fin 8} (hfill : s.log.filling = some k)
    (hroom : (sectorOf s k).slots.length + 1 < sectorSlots) (hfirst : (sectorOf s k).failures = 0) :
    programFails k (wroteNoted s) = { s with log := { s.log with
      erase := s.log.erase.map fun y => { y with wrote := true }
      sectors := upd s.log.sectors k fun y => { y with failures := 1, slots := y.slots ++ [.torn] } } } := by
  obtain ⟨u, hu⟩ : ∃ u, u = onSector k (fun x => { x with failures := x.failures + 1 }) (wroteNoted s) := ⟨_, rfl⟩
  have hsector : sectorOf u k = { sectorOf s k with failures := (sectorOf s k).failures + 1 } := by
    rw [hu]; exact sectorOf_onSector_same ..
  have hslots : (sectorOf u k).slots.length + 1 < sectorSlots := by rw [hsector]; exact hroom
  have hafter : (sectorOf (onSector k (fun y => { y with slots := y.slots ++ [.torn] }) u) k).failures = 1 := by
    rw [sectorOf_onSector_same, hsector]
    exact congrArg (· + 1) hfirst
  have hready : makeReady (onSector k (fun y => { y with slots := y.slots ++ [.torn] }) u) =
      onSector k (fun y => { y with slots := y.slots ++ [.torn] }) u := makeReady_of_filling (by rw [hu]; exact hfill)
  unfold programFails
  dsimp only
  rw [← hu, programSlot_room _ hslots, hafter, if_neg (by decide), hready, hu]
  have hsectors : upd (upd s.log.sectors k fun x => { x with failures := x.failures + 1 }) k
      (fun y => { y with slots := y.slots ++ [Slot.torn] }) =
      upd s.log.sectors k fun y => { y with failures := 1, slots := y.slots ++ [.torn] } := by
    rw [upd_upd]
    refine upd_congr _ _ ?_
    dsimp only
    rw [show (s.log.sectors[k.val]).failures = 0 from hfirst]
  rw [← hsectors]
  rfl

/-! ## The last slot (09 R495, R496, R498) -/

theorem programSlot_last {k : Fin 8} {s : State} (x : Slot) (hlast : (sectorOf s k).slots.length + 1 = sectorSlots) :
    programSlot k x s = setSector k (fun y => { y with st := .full }) (onLog (fun l => { l with filling := none })
      (onSector k (fun y => { y with slots := y.slots ++ [x] }) s)) := by
  refine if_pos ?_
  rw [sectorOf_onSector_same, List.length_append]
  exact Nat.le_of_eq hlast.symm

/-- What a log that has become full shows. -/
structure LogClosed (u t : State) : Prop where
  full : t.log.full = true
  stage : t.log.stage = []
  filling : t.log.filling = u.log.filling
  sectors : t.log.sectors = u.log.sectors
  flag : t.flags.logFull = u.flags.logFull.drive true
  cause : (t.member 0).cause = true

theorem refuseEvents_log (l : List Staged) (s : State) :
    (l.foldl (fun s x => refuseEvent x s) s).log = { s.log with refused := (l.foldl (fun s x => refuseEvent x s) s).log.refused } ∧
    (l.foldl (fun s x => refuseEvent x s) s).flags = s.flags := by
  have hone : ∀ (x : Staged) (u : State), (refuseEvent x u).log = { u.log with refused := (refuseEvent x u).log.refused } ∧
      (refuseEvent x u).flags = u.flags := by
    intro x u
    unfold refuseEvent
    dsimp only
    split
    · exact ⟨rfl, rfl⟩
    · exact ⟨rfl, rfl⟩
  induction l generalizing s with
  | nil => exact ⟨rfl, rfl⟩
  | cons x l ih =>
    obtain ⟨hlog, hflags⟩ := hone x s
    obtain ⟨hlog', hflags'⟩ := ih (refuseEvent x s)
    refine ⟨?_, hflags'.trans hflags⟩
    rw [List.foldl_cons, hlog', hlog]

theorem logClosed_becomeFull (s : State) : LogClosed s (becomeFull s) := by
  obtain ⟨hlog, hflags⟩ := refuseEvents_log (s.log.stage ++ dropsDue s) (onLog (fun l => { l with full := true, stage := [], burst := 0 }) s)
  unfold becomeFull
  dsimp only
  generalize (s.log.stage ++ dropsDue s).foldl (fun s x => refuseEvent x s) _ = x at hlog hflags ⊢
  have hstep := engineStep_logFullCause true x
  have hcause : ((logFullCause true x).member 0).cause = true := (setCause_cause 0 0 true _).trans (if_pos rfl)
  have hflag : (logFullCause true x).flags.logFull = x.flags.logFull.drive true := by rw [hstep.flags]
  have hkept : LogKept x (logFullCause true x) := (logKept_of_eq rfl).trans hstep.logKept
  refine ⟨hkept.full.trans ?_, hkept.stage.trans ?_, hkept.filling.trans ?_, hkept.sectors.trans ?_, hflag.trans ?_, hcause⟩
  · rw [hlog]; rfl
  · rw [hlog]; rfl
  · rw [hlog]; rfl
  · rw [hlog]; rfl
  · rw [hflags]; rfl

theorem CopySent.logClosed {u v t : State} (h : LogClosed u v) (h' : CopySent v t) : LogClosed u t where
  full := (congrArg Log.full h'.log).trans h.full
  stage := (congrArg Log.stage h'.log).trans h.stage
  filling := (congrArg Log.filling h'.log).trans h.filling
  sectors := (congrArg Log.sectors h'.log).trans h.sectors
  flag := (congrArg (fun f => f.logFull) h'.flags).trans h.flag
  cause := by unfold State.member; rw [h'.engine]; exact h.cause

theorem recordProgrammed_last {s : State} {k : Fin 8} (hfill : s.log.filling = some k) (hmay : mayProgram s = true)
    (hlast : lastSlotNext s = true) (v : Bool) : ∃ (x : Slot) (u : State), (∀ j, sectorOf u j = sectorOf s j) ∧
      u.flags = s.flags ∧ LogClosed (programSlot k x u) (recordProgrammed v s) ∧
      (v = true → ∃ e, e.code = 0x0705 ∧ x = .record (recordOf s.watch.node ((s.log.seq + 1) % 65536) e)) := by
  have hlast' : lastSlotNext (wroteNoted s) = true := hlast
  have hrun : recordProgrammed v s = if v then
      copyToLead (recordOf s.watch.node (nextSeq s) (ownEvent 0x0705 (BitVec.ofNat 32 (logCount s + 1)) s))
        (becomeFull (programSlot k (.record (recordOf s.watch.node (nextSeq s) (ownEvent 0x0705 (BitVec.ofNat 32 (logCount s + 1)) s)))
          (onLog (fun l => { l with seq := nextSeq s }) (wroteNoted s))))
      else becomeFull (programSlot k .torn (wroteNoted s)) := by
    unfold recordProgrammed
    rw [hfill]
    dsimp only
    rw [if_neg (by simp [hmay])]
    refine (if_pos (by rw [← wroteNoted, hlast'])).trans ?_
    rfl
  cases v with
  | true =>
    rw [if_pos rfl] at hrun
    refine ⟨_, onLog (fun l => { l with seq := nextSeq s }) (wroteNoted s), fun j => rfl, rfl, ?_,
      fun _ => ⟨ownEvent 0x0705 (BitVec.ofNat 32 (logCount s + 1)) s, rfl, rfl⟩⟩
    rw [hrun]
    exact CopySent.logClosed (logClosed_becomeFull _) (copySent_copyToLead ..)
  | false =>
    rw [if_neg (by decide)] at hrun
    refine ⟨.torn, wroteNoted s, fun j => rfl, rfl, ?_, nofun⟩
    rw [hrun]
    exact logClosed_becomeFull _

/-! ## The statement -/

/-- Settles O26: a record by the branch that its sector's room takes, the last slot by what a full log shows. -/
theorem recordsAreProgrammed : Obligations.RecordsAreProgrammed := by
  refine ⟨fun s k x rest hfill hmay hlast hstage hroom => ⟨fun e hx => ?_, fun c hx => ?_, fun hfirst => ?_⟩,
    fun s k v hfill hmay hlast => ?_⟩
  · subst hx
    have heq := recordProgrammed_own hfill hmay hlast hstage
    rw [makeReady_recordPut _ hfill hroom] at heq
    have hsent := copySent_copyToLead (recordOf s.watch.node (nextSeq s) e) (recordPut k rest (nextSeq s) (recordOf s.watch.node (nextSeq s) e) s)
    generalize copyToLead _ _ = t at heq hsent
    exact ⟨_, congrArg finish heq, hsent.log, hsent.step.live, hsent.engine, hsent.step.remoteKept.slices,
      (congrArg Port.answer hsent.port :)⟩
  · subst hx
    have heq := recordProgrammed_copied hfill hmay hlast hstage
    have hputs := makeReady_recordPut (rest := rest) (seq := s.log.seq) c hfill hroom
    have hsent := copySent_copyToLead c (recordPut k rest s.log.seq c s)
    rw [hputs] at heq
    generalize copyToLead _ _ = t at heq hsent
    exact ⟨_, congrArg finish heq, hsent.log⟩
  · exact does_of (congrArg finish ((recordProgrammed_fails hfill hmay hlast hstage).trans (programFails_first hfill hroom hfirst)))
  · obtain ⟨y, u, hsectors, hflags, hclosed, hrec⟩ := recordProgrammed_last hfill hmay hlast v
    have hlength : (sectorOf u k).slots.length + 1 = sectorSlots := by
      rw [hsectors]
      unfold lastSlotNext at hlast
      rw [hfill] at hlast
      exact of_decide_eq_true (Bool.and_eq_true .. ▸ hlast).2
    obtain ⟨d, hd⟩ : ∃ d, d = onLog (fun l => { l with filling := none })
      (onSector k (fun z => { z with slots := z.slots ++ [y] }) u) := ⟨_, rfl⟩
    rw [programSlot_last y hlength, ← hd] at hclosed
    have hdir := directoryOnly_dirAppend (onSector k (fun y => { y with st := .full }) d)
    have hkept : LogKept (onSector k (fun y => { y with st := .full }) d) (setSector k (fun y => { y with st := .full }) d) := hdir.logKept
    have hflags' : (setSector k (fun y => { y with st := .full }) d).flags = s.flags := by
      have hsame : d.flags = s.flags := by rw [hd]; exact hflags
      unfold setSector
      rw [hdir]
      exact hsame
    have hsector : sectorOf (recordProgrammed v s) k = { sectorOf s k with slots := (sectorOf s k).slots ++ [y], st := .full } := by
      have hput : sectorOf d k = { sectorOf s k with slots := (sectorOf s k).slots ++ [y] } := by
        rw [hd, ← hsectors]; exact sectorOf_onSector_same ..
      have hclose : sectorOf (recordProgrammed v s) k = sectorOf (setSector k (fun y => { y with st := .full }) d) k :=
        congrArg (fun x : Vector Sector 8 => x[k.val]) hclosed.sectors
      rw [hclose, sectorOf_setSector_same, hput]
    have hfilling : (recordProgrammed v s).log.filling = none := by
      rw [hclosed.filling, hkept.filling, hd]; rfl
    obtain ⟨hfull, hstage, -, -, hflag, hcause⟩ := hclosed
    rw [hflags'] at hflag
    have hexec : exec (.recordProgrammed v) s = finish (recordProgrammed v s) := rfl
    generalize recordProgrammed v s = t at hsector hfilling hfull hstage hflag hcause hexec
    rw [hsectors] at hlength
    refine ⟨_, hexec, hfull, hstage, hfilling, (congrArg Sector.st hsector).trans rfl, ?_,
      (congrArg Flag.live hflag).trans (Flag.drive_live ..), fun hquiet => ?_, hcause, fun hv => ?_⟩
    · refine (congrArg (fun x : Sector => x.slots.length) hsector).trans ?_
      dsimp only
      rw [List.length_append]
      exact hlength
    · refine (congrArg Flag.latched hflag).trans ?_
      unfold Flag.drive
      rw [hquiet]
      exact Flag.latch_latched _
    · obtain ⟨e, hcode, hy⟩ := hrec hv
      refine ⟨e, hcode, (congrArg (fun x : Sector => x.slots.getLast?) hsector).trans ?_⟩
      dsimp only
      rw [List.getLast?_concat, hy]

end Sys2Proof.Machine

/-! ERASES (09 R503, R508–R512, R515, R516): how an erase ends, is suspended and resumed, and the statement. -/

namespace Sys2Proof.Machine

theorem nextErase_idle {s : State} (herase : s.log.erase = none) (htodo : s.log.toErase = []) (hclear : s.log.clearing = none) :
    nextErase s = onLog (fun l => { l with clearOn := false }) s := by
  unfold nextErase
  rw [herase]
  dsimp only
  rw [htodo]
  exact if_neg (by simp [hclear])

theorem makeReady_idle {s : State} (hstage : s.log.stage = []) : makeReady s = s := by
  simp [makeReady, hstage]

theorem logKept_storCauses (f : StorCauses → StorCauses) (s : State) : LogKept s (storCauses f s) :=
  (logKept_of_eq rfl : LogKept s (storNoted f s)).trans (engineStep_storCauses f s).logKept

/-! ## The end of an erase -/

/-- The sector of an erase that has verified. -/
def sectorErased (e : Erase) (s : State) : State :=
  setSector e.sector (fun x => { x with st := .erased, slots := [], failures := 0, out := false }) (onLog (fun l => { l with erase := none }) s)

/-- The sector of an erase that is given up. -/
def sectorGivenUp (e : Erase) (s : State) : State :=
  emitLog 0x0707 0 [e.sector.val] (onSector e.sector (fun x => { x with out := true }) (onLog (fun l => { l with erase := none }) s))

/-- With no LOG CLEAR under way, no other erase due and STAGE empty, the writer rests. -/
structure WriterIdle (s : State) : Prop where
  clearing : s.log.clearing = none
  toErase : s.log.toErase = []
  stage : s.log.stage = []

theorem writerIdle_rests {s u v : State} (hidle : WriterIdle s) {k : Fin 8} {f : Sector → Sector}
    (hu : LogKept (onSector k f (onLog (fun l => { l with erase := none }) s)) u) (hv : LogKept u v) :
    makeReady (nextErase v) = onLog (fun l => { l with clearOn := false }) v := by
  have hkept := hu.trans hv
  rw [nextErase_idle (hkept.erase.trans rfl) (hkept.toErase.trans hidle.toErase) (hkept.clearing.trans hidle.clearing)]
  exact makeReady_idle (hkept.stage.trans hidle.stage)

theorem erased_idle {e : Erase} {s : State} (hidle : WriterIdle s) : erased e s =
    onLog (fun l => { l with clearOn := false }) (storCauses (fun c => { c with
      sectorOut := (List.finRange 8).any fun k => (sectorOf (sectorErased e s) k).out }) (sectorErased e s)) := by
  have hu := logKept_setSector e.sector (fun x => { x with st := .erased, slots := [], failures := 0, out := false })
    (onLog (fun l => { l with erase := none }) s)
  unfold erased
  dsimp only
  rw [← sectorErased] at hu ⊢
  have hv := logKept_storCauses (fun c => { c with sectorOut := (List.finRange 8).any fun k => (sectorOf (sectorErased e s) k).out })
    (sectorErased e s)
  generalize storCauses _ (sectorErased e s) = v at hv ⊢
  rw [show v.log.clearing = none from (hv.clearing.trans hu.clearing).trans hidle.clearing]
  exact writerIdle_rests hidle hu hv

theorem eraseGivenUp_idle {e : Erase} {s : State} (hidle : WriterIdle s) : eraseGivenUp e s =
    onLog (fun l => { l with clearOn := false }) (storCauses (fun c => { c with sectorOut := true }) (sectorGivenUp e s)) := by
  have hu : LogKept _ (sectorGivenUp e s) :=
    (logOnly_emit _ (onSector e.sector (fun x => { x with out := true }) (onLog (fun l => { l with erase := none }) s))).logKept
  unfold eraseGivenUp
  dsimp only
  rw [← sectorGivenUp]
  have hv := logKept_storCauses (fun c => { c with sectorOut := true }) (sectorGivenUp e s)
  generalize storCauses _ (sectorGivenUp e s) = v at hv ⊢
  rw [show v.log.clearing = none from (hv.clearing.trans hu.clearing).trans hidle.clearing]
  exact writerIdle_rests hidle hu hv

section
variable {s : State} {e : Erase} (herase : s.log.erase = some e)
include herase

theorem eraseComplete_verified (hruns : writerRuns s = true) (hon : e.suspended = false) : eraseComplete true s = erased e s := by
  unfold eraseComplete
  rw [herase]
  exact if_neg (by simp [hruns, hon])

theorem eraseComplete_again (hruns : writerRuns s = true) (hon : e.suspended = false) (hfew : e.attempts + 1 < 3) :
    eraseComplete false s =
      onLog (fun l => { l with erase := some { e with attempts := e.attempts + 1, since := s.now, resumed := false } }) s := by
  unfold eraseComplete
  rw [herase]
  dsimp only
  rw [if_neg (by simp [hruns, hon]), if_neg (by decide), if_pos hfew]

theorem eraseComplete_third (hruns : writerRuns s = true) (hon : e.suspended = false) (hmany : 3 ≤ e.attempts + 1) :
    eraseComplete false s = eraseGivenUp e s := by
  unfold eraseComplete
  rw [herase]
  dsimp only
  rw [if_neg (by simp [hruns, hon]), if_neg (by decide), if_neg (Nat.not_lt.2 hmany)]

theorem eraseSuspend_due (hruns : writerRuns s = true) (hon : e.suspended = false) (hback : e.foreground = false)
    (hwaits : s.log.stage ≠ [] ∨ lastSlotNext s = true) (hlate : e.resumed = false ∨ e.since + 200 ≤ s.now) :
    eraseSuspend s = onLog (fun l => { l with erase := some { e with suspended := true, wrote := false, since := s.now } }) s := by
  unfold eraseSuspend
  rw [herase]
  refine if_pos ?_
  have hwaits' : (!s.log.stage.isEmpty || lastSlotNext s) = true := by simpa using hwaits
  have hlate' : (!e.resumed || decide (e.since + 200 ≤ s.now)) = true := by simpa using hlate
  simp only [hruns, hon, hback, hwaits', hlate', Bool.not_false, Bool.and_self]

theorem eraseSuspend_early (hresumed : e.resumed = true) (hearly : s.now < e.since + 200) : eraseSuspend s = s := by
  unfold eraseSuspend
  rw [herase]
  refine if_neg ?_
  simp [hresumed, hearly]

theorem eraseResume_due (hruns : writerRuns s = true) (hoff : e.suspended = true)
    (hdone : e.wrote = true ∨ (s.log.stage = [] ∧ lastSlotNext s = false)) :
    eraseResume s = onLog (fun l => { l with erase := some { e with suspended := false, since := s.now, resumed := true } }) s := by
  unfold eraseResume
  rw [herase]
  refine if_pos ?_
  have hdone' : (e.wrote || (s.log.stage.isEmpty && !lastSlotNext s)) = true := by simpa using hdone
  simp only [hruns, hoff, hdone', Bool.and_self]

theorem eraseResume_waits (hwrote : e.wrote = false) (hwaits : s.log.stage ≠ []) : eraseResume s = s := by
  unfold eraseResume
  rw [herase]
  refine if_neg ?_
  simp [hwrote, hwaits]

end

/-- Settles O27: an erase by the branch that its end, its attempts and the writer's rest take. -/
theorem erasesRunAndYield : Obligations.ErasesRunAndYield := by
  refine fun s e herase hruns => ⟨fun hon hclear htodo hstage => ?_,
    fun hon hfew => does_of (congrArg finish (eraseComplete_again herase hruns hon hfew)), fun hon hmany hclear htodo hstage => ?_,
    fun hon hback hwaits hlate => does_of (congrArg finish (eraseSuspend_due herase hruns hon hback hwaits hlate)),
    fun _ hresumed hearly => does_of (congrArg finish (eraseSuspend_early herase hresumed hearly)),
    fun hoff hdone => does_of (congrArg finish (eraseResume_due herase hruns hoff hdone)),
    fun _ hwrote hwaits => does_of (congrArg finish (eraseResume_waits herase hwrote hwaits))⟩
  · have heq := (eraseComplete_verified herase hruns hon).trans (erased_idle (e := e) ⟨hclear, htodo, hstage⟩)
    have hu := logKept_setSector e.sector (fun x => { x with st := .erased, slots := [], failures := 0, out := false })
      (onLog (fun l => { l with erase := none }) s)
    have hown := sectorOf_setSector_same e.sector (fun x => { x with st := .erased, slots := [], failures := 0, out := false })
      (onLog (fun l => { l with erase := none }) s)
    have hothers : ∀ j, j ≠ e.sector → sectorOf (sectorErased e s) j = sectorOf s j := fun j hj => sectorOf_setSector_other _ _ hj
    rw [← sectorErased] at hu hown
    have hv := logKept_storCauses (fun c => { c with sectorOut := (List.finRange 8).any fun k => (sectorOf (sectorErased e s) k).out })
      (sectorErased e s)
    generalize storCauses _ (sectorErased e s) = v at hv heq
    have hsector : sectorOf v e.sector = _ := (hv.sectorOf e.sector).trans hown
    refine ⟨_, congrArg finish heq, (hv.erase.trans hu.erase).trans rfl, (congrArg Sector.st hsector).trans rfl,
      (congrArg Sector.slots hsector).trans rfl, (congrArg Sector.out hsector).trans rfl, (hv.seq.trans hu.seq).trans rfl,
      fun j hj => ?_⟩
    exact (hv.sectorOf j).trans (hothers j hj)
  · have heq := (eraseComplete_third herase hruns hon hmany).trans (eraseGivenUp_idle (e := e) ⟨hclear, htodo, hstage⟩)
    have hu : LogKept _ (sectorGivenUp e s) :=
      (logOnly_emit _ (onSector e.sector (fun x => { x with out := true }) (onLog (fun l => { l with erase := none }) s))).logKept
    have hstep := engineStep_storCauses (fun c => { c with sectorOut := true }) (sectorGivenUp e s)
    have hv := logKept_storCauses (fun c => { c with sectorOut := true }) (sectorGivenUp e s)
    generalize storCauses _ (sectorGivenUp e s) = v at hv hstep heq
    have hstor : v.stor = { (sectorGivenUp e s).stor with sectorOut := true } := hstep.stor
    have hfault : v.flags.storFault.live = true := by
      have hdriven : v.flags.storFault = (sectorGivenUp e s).flags.storFault.drive
          ({ (sectorGivenUp e s).stor with sectorOut := true } : StorCauses).stands := congrArg (fun f => f.storFault) hstep.flags
      rw [hdriven, Flag.drive_live]
      simp [StorCauses.stands]
    have hout : (sectorOf v e.sector).out = true := by
      rw [hv.sectorOf, hu.sectorOf]
      exact congrArg Sector.out (sectorOf_onSector_same ..)
    exact ⟨_, congrArg finish heq, hout, (congrArg StorCauses.sectorOut hstor).trans rfl, hfault, (hv.erase.trans hu.erase).trans rfl⟩

end Sys2Proof.Machine

/-! LOG CLEAR (09 R505–R507, R510, R516): the line, the end of the first sector's erase, and the statement. -/

namespace Sys2Proof.Machine

/-! ## The line -/

/-- Every record given up, and the clearing noted. -/
def recordsGivenUp (c : Clearing) (s : State) : State :=
  onLog (fun l => { l with
    sectors := l.sectors.map fun x => { x with st := .free, slots := [], failures := 0 }
    filling := none, erase := none, clearing := some c, clearOn := true, full := false, toErase := [] }) s

/-- The clearing that a line of its session begins. -/
def clearingOf (h : LineHdr) (s : State) : Clearing :=
  { by_ := waiter h s, src := sessSource s h.sess, time := s.nodeTime, tunset := !s.watch.timeSet, oldCount := logCount s }

theorem bodyLogClear_clearing {h : LineHdr} {u : State} (hmay : may u h .custodian = true) (hon : u.log.clearOn = true) :
    bodyLogClear h u = refused .e16 u := by
  unfold bodyLogClear
  rw [if_neg (by simp [hmay]), if_pos hon]

theorem bodyLogClear_free {h : LineHdr} {u : State} (hmay : may u h .custodian = true) (hoff : u.log.clearOn = false)
    (hfree : flashBusy u = false) (hruns : writerRuns u = true) (hopened : u.log.opened = true) :
    bodyLogClear h u = held (beginErase 0 true (recordsGivenUp (clearingOf h u) u)) := by
  unfold bodyLogClear
  rw [if_neg (by simp [hmay]), if_neg (by simp [hoff]), if_neg (by simp [hfree]), if_neg (by simp [hruns, hopened])]
  rfl

/-- What the begin of an erase changes: the erase, what is still to be erased, and the sector. -/
def EraseOnly (u t : State) : Prop :=
  t = { u with log := { u.log with
    incoming := t.log.incoming, dirEntries := t.log.dirEntries, dirSector := t.log.dirSector
    savedRefused := t.log.savedRefused, savedAt := t.log.savedAt, erase := t.log.erase, toErase := t.log.toErase
    sectors := t.log.sectors, clearOn := t.log.clearOn } }

theorem eraseOnly_beginErase (k : Fin 8) (foreground : Bool) (s : State) : EraseOnly s (beginErase k foreground s) := by
  have hdir : DirectoryOnly _ (beginErase k foreground s) := directoryOnly_dirAppend _
  unfold EraseOnly
  rw [hdir]
  rfl

theorem eraseOnly_nextErase (s : State) : EraseOnly s (nextErase s) := by
  unfold nextErase
  split
  · rfl
  · split
    · exact eraseOnly_beginErase ..
    · split
      · rfl
      · rfl

section
variable {u t : State} (h : EraseOnly u t)
include h

theorem EraseOnly.filling : t.log.filling = u.log.filling := by rw [h]
theorem EraseOnly.seq : t.log.seq = u.log.seq := by rw [h]
theorem EraseOnly.refused : t.log.refused = u.log.refused := by rw [h]
theorem EraseOnly.dropped : t.log.dropped = u.log.dropped := by rw [h]
theorem EraseOnly.full : t.log.full = u.log.full := by rw [h]
theorem EraseOnly.clearing : t.log.clearing = u.log.clearing := by rw [h]
theorem EraseOnly.live : t.live = u.live := by rw [h]
theorem EraseOnly.keys : t.keys = u.keys := by rw [h]
theorem EraseOnly.images : t.images = u.images := by rw [h]
theorem EraseOnly.port : t.port = u.port := by rw [h]
theorem EraseOnly.interp : t.interp = u.interp := by rw [h]

end

theorem beginErase_log (k : Fin 8) (foreground : Bool) (s : State) :
    (beginErase k foreground s).log.erase = some { sector := k, foreground := foreground, since := s.now } ∧
    (beginErase k foreground s).log.clearOn = s.log.clearOn ∧
    (sectorOf (beginErase k foreground s) k).st = .erasing ∧
    ∀ j, j ≠ k → sectorOf (beginErase k foreground s) j = sectorOf s j := by
  have hkept := logKept_setSector k (fun x => { x with st := .erasing, slots := [], failures := 0 })
    (onLog (fun l => { l with
      toErase := l.toErase.filter (· ≠ k), erase := some { sector := k, foreground := foreground, since := s.now } }) s)
  exact ⟨hkept.erase.trans rfl, hkept.clearOn.trans rfl, congrArg Sector.st (sectorOf_setSector_same ..),
    fun j hj => sectorOf_setSector_other _ _ hj⟩

/-- A log none of whose sectors holds records has none. -/
theorem logCount_zero {s : State} (h : ∀ k, (sectorOf s k).st ≠ .filling ∧ (sectorOf s k).st ≠ .full) : logCount s = 0 := by
  have hnone : logSectors s = [] := by
    refine List.filter_eq_nil_iff.2 fun k _ => ?_
    simp [h k]
  unfold logCount
  rw [hnone]
  rfl

theorem sectorOf_recordsGivenUp (c : Clearing) (s : State) (k : Fin 8) : (sectorOf (recordsGivenUp c s) k).st = .free :=
  congrArg Sector.st (Vector.getElem_map ..)

theorem logCount_congr {s t : State} (h : t.log.sectors = s.log.sectors) : logCount t = logCount s := by
  unfold logCount logSectors sectorOf; rw [h]

/-! ## The first sector's erase has verified -/

theorem nextErase_others {s : State} {j : Fin 8} (hj : j ∉ s.log.toErase) : sectorOf (nextErase s) j = sectorOf s j := by
  unfold nextErase
  split
  · rfl
  · split
    · next k l hk => exact (beginErase_log k false s).2.2.2 j fun e => hj (by rw [hk, e]; exact List.mem_cons_self)
    · split
      · rfl
      · rfl

/-- The three records of a cleared log (09 R507). -/
def clearedRecords (c : Clearing) (s : State) : List Record :=
  let l := s.log
  let rec0 : Event := { time := c.time, tunset := c.tunset, kind := 3, index := 4, code := 0 }
  let e1 : Event := { rec0 with kind := c.src.1, index := c.src.2, code := 0x0701, value := BitVec.ofNat 32 c.oldCount }
  let e2 : Event := { rec0 with code := 0x0702, detail := detail (two16 l.refused[0] ++ two16 l.refused[1] ++
    two16 l.refused[2] ++ two16 l.refused[3]) }
  let e3 : Event := { rec0 with code := 0x0703, detail := detail (two16 l.refused[4] ++ two16 l.refused[5] ++
    two16 l.refused[6] ++ two16 l.dropped) }
  [recordOf s.watch.node 1 e1, recordOf s.watch.node 2 e2, recordOf s.watch.node 3 e3]

/-- The log begun anew in a sector, before its faults are judged. -/
def logAnew (k : Fin 8) (c : Clearing) (s : State) : State :=
  onLog (fun l => { l with
    filling := some k, seq := 3, refused := .replicate 7 0, dropped := 0, clearing := none, full := false })
    (setSector k (fun x => { x with st := .filling, slots := (clearedRecords c s).map Slot.record, failures := 0 }) s)

/-- The log begun anew, its faults judged and its records sent to the lead. -/
def logCleared (k : Fin 8) (c : Clearing) (s : State) : State :=
  (clearedRecords c s).foldl (fun s r => copyToLead r s)
    (logFullCause false (storCauses (fun x => { x with program := false }) (logAnew k c s)))

theorem clearRecords_eq (k : Fin 8) (c : Clearing) (s : State) :
    clearRecords k c s = deliver c.by_ (plainReply none) (storeDone c.by_ (logCleared k c s)) := rfl

theorem copySent_foldl (l : List Record) (s : State) : CopySent s (l.foldl (fun s r => copyToLead r s) s) := by
  induction l generalizing s with
  | nil => exact .refl s
  | cons r l ih => exact (copySent_copyToLead r s).trans (ih _)

/-- What a log begun anew shows, with the lines that wait kept. -/
structure LogBegun (k : Fin 8) (s t : State) : Prop where
  filling : t.log.filling = some k
  seq : t.log.seq = 3
  refused : t.log.refused = .replicate 7 0
  dropped : t.log.dropped = 0
  full : t.log.full = false
  clearing : t.log.clearing = none
  erase : t.log.erase = s.log.erase
  toErase : t.log.toErase = s.log.toErase
  st : (sectorOf t k).st = .filling
  slots : (sectorOf t k).slots.length = 3
  keeps : ∀ who, KeepsLine who s t

theorem logBegun_logAnew (k : Fin 8) (c : Clearing) (s : State) : LogBegun k s (logAnew k c s) := by
  have hkept := logKept_setSector k (fun x => { x with st := .filling, slots := (clearedRecords c s).map Slot.record, failures := 0 }) s
  have hdir : DirectoryOnly _ (setSector k (fun x => { x with st := .filling, slots := (clearedRecords c s).map Slot.record, failures := 0 }) s) :=
    directoryOnly_dirAppend _
  have hown := sectorOf_setSector_same k (fun x => { x with st := .filling, slots := (clearedRecords c s).map Slot.record, failures := 0 }) s
  have hport : (setSector k (fun x => { x with st := .filling, slots := (clearedRecords c s).map Slot.record, failures := 0 }) s).port = s.port := by
    rw [hdir]; rfl
  have hinterp : (setSector k (fun x => { x with st := .filling, slots := (clearedRecords c s).map Slot.record, failures := 0 }) s).interp = s.interp := by
    rw [hdir]; rfl
  unfold logAnew
  generalize setSector k _ s = x at hkept hown hport hinterp ⊢
  exact ⟨rfl, rfl, rfl, rfl, rfl, rfl, hkept.erase.trans rfl, hkept.toErase.trans rfl, (congrArg Sector.st hown).trans rfl,
    (congrArg (fun y : Sector => y.slots.length) hown).trans rfl, fun who => .of_eq hport hinterp⟩

theorem LogBegun.trans_kept {k : Fin 8} {s t u : State} (h : LogBegun k s t) (hkept : LogKept t u) (hkeeps : ∀ who, KeepsLine who t u) :
    LogBegun k s u where
  filling := hkept.filling.trans h.filling
  seq := hkept.seq.trans h.seq
  refused := hkept.refused.trans h.refused
  dropped := hkept.dropped.trans h.dropped
  full := hkept.full.trans h.full
  clearing := hkept.clearing.trans h.clearing
  erase := hkept.erase.trans h.erase
  toErase := hkept.toErase.trans h.toErase
  st := (congrArg Sector.st (hkept.sectorOf k)).trans h.st
  slots := (congrArg (fun y : Sector => y.slots.length) (hkept.sectorOf k)).trans h.slots
  keeps := fun who => (h.keeps who).trans (hkeeps who)

theorem keepsLine_storCauses (who : Sess) (f : StorCauses → StorCauses) (s : State) : KeepsLine who s (storCauses f s) :=
  (KeepsLine.of_eq rfl rfl : KeepsLine who s (storNoted f s)).trans ((engineStep_storCauses f s).keeps who)

theorem logBegun_logCleared (k : Fin 8) (c : Clearing) (s : State) : LogBegun k s (logCleared k c s) := by
  have hanew := logBegun_logAnew k c s
  unfold logCleared
  generalize logAnew k c s = u at hanew ⊢
  have hstor := hanew.trans_kept (logKept_storCauses (fun x => { x with program := false }) u) fun who => keepsLine_storCauses who ..
  generalize storCauses (fun x => { x with program := false }) u = v at hstor ⊢
  have hfull := engineStep_logFullCause false v
  have hnoted : ∀ who, KeepsLine who v { v with flags := { v.flags with logFull := v.flags.logFull.drive false } } :=
    fun _ => .of_eq rfl rfl
  have hflagged := hstor.trans_kept ((logKept_of_eq rfl).trans hfull.logKept) fun who => (hnoted who).trans (hfull.keeps who)
  generalize logFullCause false v = w at hflagged ⊢
  have hsent := copySent_foldl (clearedRecords c s) w
  exact hflagged.trans_kept (logKept_of_eq hsent.log) fun who => hsent.step.keeps who

/-- The erase of the first sector of a LOG CLEAR has verified: the others are due, and the log begins anew. -/
theorem erased_clearing {e : Erase} {c : Clearing} {s : State} (hclear : s.log.clearing = some c) :
    ∃ v : State, (∀ who, KeepsLine who s v) ∧ v.log.erase = none ∧ v.log.toErase = (List.finRange 8).filter (· ≠ e.sector) ∧
      erased e s = nextErase (clearRecords e.sector c v) := by
  have hu := logKept_setSector e.sector (fun x => { x with st := .erased, slots := [], failures := 0, out := false })
    (onLog (fun l => { l with erase := none }) s)
  have hdir : DirectoryOnly _ (sectorErased e s) := directoryOnly_dirAppend _
  have hport : (sectorErased e s).port = s.port := by rw [hdir]; rfl
  have hinterp : (sectorErased e s).interp = s.interp := by rw [hdir]; rfl
  unfold erased
  dsimp only
  rw [← sectorErased] at hu ⊢
  have hv := logKept_storCauses (fun c => { c with sectorOut := (List.finRange 8).any fun k => (sectorOf (sectorErased e s) k).out })
    (sectorErased e s)
  have hline : ∀ who, KeepsLine who s (storCauses (fun c => { c with
      sectorOut := (List.finRange 8).any fun k => (sectorOf (sectorErased e s) k).out }) (sectorErased e s)) :=
    fun who => (KeepsLine.of_eq hport hinterp).trans (keepsLine_storCauses who ..)
  generalize storCauses _ (sectorErased e s) = v at hv hline ⊢
  rw [show v.log.clearing = some c from (hv.clearing.trans hu.clearing).trans hclear]
  have herase : v.log.erase = none := (hv.erase.trans hu.erase).trans rfl
  refine ⟨onLog (fun l => { l with toErase := (List.finRange 8).filter (· ≠ e.sector) }) v, fun who => ?_, herase, rfl, rfl⟩
  exact (hline who).trans (.of_eq rfl rfl)

/-! ## The statement -/

/-- Settles O28: the line by what it gives up and begins, the erase's end by what the log begins with. -/
theorem logClearEmptiesLog : Obligations.LogClearEmptiesLog := by
  refine ⟨fun h s hacc hmay => ⟨fun hon => ?_, fun hoff hfree hruns hopened => ?_⟩, fun s e c herase hruns hactive hclear => ?_⟩
  · have hline := lineTaken_lineStart h (txt "LOG") s
    refine line_refused _ _ _ s .e16 hacc (bodyLogClear_clearing hmay ?_)
    rw [hline]; exact hon
  · have hline := lineTaken_lineStart h (txt "LOG") s
    have hbody := bodyLogClear_free hmay (by rw [hline]; exact hoff) hfree hruns (by rw [hline]; exact hopened)
    have hcount : logCount (lineStart h (txt "LOG") s) = logCount s := logCount_congr hline.sectors
    obtain ⟨u, hu⟩ : ∃ u, u = lineStart h (txt "LOG") s := ⟨_, rfl⟩
    obtain ⟨g, hg⟩ : ∃ g, g = recordsGivenUp (clearingOf h u) u := ⟨_, rfl⟩
    rw [← hu] at hline hbody hcount ⊢
    rw [← hg] at hbody
    have honly := eraseOnly_beginErase 0 true g
    obtain ⟨herase, hclearOn, hfirst, hothers⟩ := beginErase_log 0 true g
    generalize beginErase 0 true g = d at hbody honly herase hclearOn hfirst hothers
    have hkeeps : KeepsLine h.sess u d := .of_eq (honly.port.trans (by rw [hg]; rfl)) (honly.interp.trans (by rw [hg]; rfl))
    obtain ⟨t, ht, hheld, rfl⟩ := line_held h (txt "LOG") (bodyLogClear h) s d hacc (hu ▸ hbody) (hu ▸ hkeeps)
    have hzero : logCount d = 0 := by
      refine logCount_zero fun k => ?_
      by_cases hk : k = 0
      · rw [hk, hfirst]; decide
      · rw [hothers k hk, hg, sectorOf_recordsGivenUp]; decide
    refine ⟨_, ht, hheld, hzero, hclearOn.trans (by rw [hg]; rfl), honly.filling.trans (by rw [hg]; rfl),
      honly.full.trans (by rw [hg]; rfl), ⟨_, herase, rfl, rfl⟩, ⟨clearingOf h u, honly.clearing.trans (by rw [hg]; rfl), rfl, hcount⟩,
      (honly.live.trans (by rw [hg]; rfl)).trans hline.live, (honly.keys.trans (by rw [hg]; rfl)).trans hline.keys,
      (honly.images.trans (by rw [hg]; rfl)).trans hline.images⟩
  · obtain ⟨v, hline, hnone, htodo, heq⟩ := erased_clearing (e := e) hclear
    have hrun := (eraseComplete_verified herase hruns hactive).trans heq
    have hbegun := logBegun_logCleared e.sector c v
    rw [clearRecords_eq] at hrun
    generalize logCleared e.sector c v = x at hbegun hrun
    have hdone := engineStep_storeDone c.by_ x
    have hafter := hbegun.trans_kept hdone.logKept fun who => hdone.keeps who
    generalize storeDone c.by_ x = y at hafter hrun
    have hdeliver := deliverStep_deliver c.by_ (plainReply none) y
    have hcame : Awaits s c.by_ → AnswerCame c.by_ (plainReply none) s (settle (deliver c.by_ (plainReply none) y)) :=
      answerCame_of_keepsLine ((hline c.by_.sess).trans (hafter.keeps c.by_.sess))
    generalize deliver c.by_ (plainReply none) y = d at hdeliver hcame hrun
    have hdkept : LogKept y d := by unfold LogKept; rw [hdeliver.rest]
    have hnext := eraseOnly_nextErase d
    have hsector : sectorOf (nextErase d) e.sector = sectorOf y e.sector := by
      refine (nextErase_others ?_).trans (hdkept.sectorOf e.sector)
      rw [hdkept.toErase, hafter.toErase, htodo]
      simp
    generalize nextErase d = t at hnext hsector hrun
    refine ⟨_, congrArg finish hrun, hnext.clearing.trans (hdkept.clearing.trans hafter.clearing),
      hnext.filling.trans (hdkept.filling.trans hafter.filling), hnext.seq.trans (hdkept.seq.trans hafter.seq),
      (congrArg (fun z : Sector => z.slots.length) hsector).trans hafter.slots, (congrArg Sector.st hsector).trans hafter.st,
      hnext.refused.trans (hdkept.refused.trans hafter.refused), hnext.dropped.trans (hdkept.dropped.trans hafter.dropped),
      hnext.full.trans (hdkept.full.trans hafter.full), fun hwaits => ?_⟩
    have hanswer : ∀ who, answerAt (settle t) who = answerAt (settle d) who := by
      have hkept : ∀ who, answerAt t who = answerAt d who := fun who => (KeepsLine.of_eq (who := who) hnext.port hnext.interp).answer
      intro who
      cases who with
      | host => exact hkept .host
      | console k => exact hkept (.console k)
      | script n => rfl
    exact (hanswer _).trans (hcame hwaits)

end Sys2Proof.Machine

/-! THE HOST PORT (10 R534–R563, R569; 11 R578, R588, R628). -/

namespace Sys2Proof.Machine

/-! ## Transactions -/

theorem transactionStart_opens {s : State} (hopen : s.port.opened = true) (hclocked : s.port.async = false) :
    transactionStart s = onPort (fun p => { p with transaction := true, line := [], out := 0 }) s :=
  if_pos (by simp [hopen, hclocked])

theorem transactionStart_closed {s : State} (h : s.port.opened = false ∨ s.port.async = true) : transactionStart s = s := by
  refine if_neg ?_
  rcases h with h | h <;> simp [h]

/-- A port whose line in progress, or partial line, is given up. -/
def portLeft (p : Port) : Port :=
  { p with
    transaction := false, line := [], inLine := false, tooLong := false, corrupt := false, badChar := false
    lastCr := false, latched := none, out := 0 }

/-- The same port where a reply was awaited: it is abandoned (10 R563). -/
def portAbandoned (now : Tick) (p : Port) : Port :=
  { portLeft p with
    sess := { p.sess with idleSince := now }, answer := { p.answer with abandoned := true, no := 0 } }

theorem transactionEnd_idle {s : State} (h : s.port.transaction = false) : transactionEnd s = s := if_neg (by simp [h])

theorem transactionEnd_line {s : State} (htrans : s.port.transaction = true) (hidle : awaits s .host = false) :
    transactionEnd s = onPort portLeft s := by
  have hopen : (decide (s.port.answer.no ≠ 0) && s.port.answer.reply.isNone) = false := hidle
  unfold transactionEnd
  rw [if_pos htrans, hidle]
  unfold abandonHost
  dsimp only
  rw [hopen]
  rfl

theorem abandonHost_awaits {s : State} (hwaits : awaits s .host = true) :
    abandonHost s = { s with port := { portAbandoned s.now s.port with transaction := s.port.transaction } } := by
  have hopen : (decide (s.port.answer.no ≠ 0) && s.port.answer.reply.isNone) = true := hwaits
  unfold abandonHost
  dsimp only
  rw [hopen]
  rfl

/-- What the stop of the RUN line's script leaves: the port, the settings, and all but the script and its end. -/
structure RunStopped (s t : State) : Prop where
  port : t.port = s.port
  live : t.live = s.live
  part : t.part = s.part
  flash : t.interp.flash = s.interp.flash

theorem RunStopped.refl (s : State) : RunStopped s s := ⟨rfl, rfl, rfl, rfl⟩

theorem answer_unheard {w : Waiter} (r : Reply) {s : State} (hsess : w.sess = .host) (hno : s.port.answer.no = 0) : answer w r s = s := by
  unfold answer
  rw [hsess]
  exact if_neg fun ⟨hw, hsame, _⟩ => hw (hsame.symm.trans hno)

theorem scriptNoted_stops (run : Running) (s : State) : RunStopped s (scriptNoted run none 2 s) := by
  unfold scriptNoted
  have hlog := logOnly_emitSess (.script run.script) 0x0407 0 [run.script.val, run.last, errNo none, 2] s
  generalize emitSess (.script run.script) 0x0407 0 [run.script.val, run.last, errNo none, 2] s = u at hlog ⊢
  exact ⟨hlog.port, hlog.live, hlog.part, (congrArg Interp.flash hlog.interp :)⟩

/-- The RUN line whose reply is no longer awaited: its script ends now, or at the end of its line in progress (11 R628). -/
theorem stopRunOf_stops {no : Nat} {s : State} (hno : s.port.answer.no = 0) :
    RunStopped s (stopRunOf no s) ∧
    (∀ run : Running, s.interp.script = some run → run.boot = false → run.by_.sess = .host → run.by_.no = no →
      (run.waiting ≠ none → (stopRunOf no s).interp.script = some { run with stop := true }) ∧
      (run.waiting = none → (stopRunOf no s).interp.script = none)) ∧
    (s.interp.script = none → stopRunOf no s = s) := by
  cases hscript : s.interp.script with
  | none =>
    have hsame : stopRunOf no s = s := by unfold stopRunOf; rw [hscript]
    exact ⟨by rw [hsame]; exact .refl s, nofun, fun _ => hsame⟩
  | some run =>
    refine ⟨?_, ?_, nofun⟩
    · unfold stopRunOf
      rw [hscript]
      dsimp only
      split
      · next hrun =>
        split
        · exact ⟨rfl, rfl, rfl, rfl⟩
        · have hstop := scriptNoted_stops run s
          rw [endScript_eq, if_neg (by simp [hrun.1]), answer_unheard _ hrun.2.1 (by rw [hstop.port]; exact hno)]
          exact hstop
      · exact .refl s
    · intro r hr hboot hsess hby
      cases hr
      have hrun : stopRunOf no s = if run.waiting.isSome then
          { s with interp := { s.interp with script := some { run with stop := true } } } else endScript run none 2 s := by
        unfold stopRunOf
        rw [hscript]
        exact if_pos ⟨hboot, hsess, hby⟩
      rw [hrun]
      refine ⟨fun hwaiting => ?_, fun hwaiting => ?_⟩
      · rw [if_pos (Option.isSome_iff_ne_none.2 hwaiting)]
      · rw [hwaiting, if_neg (by decide)]
        exact (endScript_ends run none 2 s).1

theorem transactionEnd_awaits {s : State} (htrans : s.port.transaction = true) (hwaits : awaits s .host = true) :
    transactionEnd s = onPort (fun p => { p with transaction := false }) (stopRunOf s.port.answer.no (abandonHost s)) := by
  unfold transactionEnd
  rw [if_pos htrans, hwaits]
  rfl

/-! ## Characters -/

theorem printable_byte (b : Byte) : printable (Char.ofNat b.toNat) = decide (0x20 ≤ b.toNat ∧ b.toNat ≤ 0x7E) := by
  have hlt : b.toNat < 256 := b.isLt
  have hvalid : b.toNat.isValidChar := .inl (by omega)
  unfold printable
  rw [Char.toNat_ofNat, if_pos hvalid]

/-- Whether the port takes a character now (10 R545, R569). -/
def portTaking (p : Port) : Bool := p.opened && (if p.async then p.baud.isSome else p.transaction)

theorem characterReceived_deaf {b : Byte} {fe : Bool} {s : State} (h : portTaking s.port = false ∨ awaits s .host = true) :
    characterReceived b fe s = s := if_pos h

theorem characterReceived_clocked {b : Byte} {fe : Bool} {s : State} (htaking : portTaking s.port = true)
    (hidle : awaits s .host = false) (hclocked : s.port.async = false) : characterReceived b fe s = onPort (Port.clock b) s := by
  have htaking' : ¬ (portTaking s.port = false ∨ awaits s .host = true) := by simp [htaking, hidle]
  exact (if_neg htaking').trans (if_pos hclocked)

/-- An asynchronous port after a character of a line (10 R549, R550). -/
def Port.typed (b : Byte) (fe : Bool) (now : Tick) (p : Port) : Port :=
  let p := { p with corrupt := p.corrupt || fe, lastCharAt := now }
  if b = 0x0D ∨ b = 0x0A then p.terminate b else { p with inLine := true, lastCr := false }.edit b

section
variable {b : Byte} {fe : Bool} {s : State} (htaking : portTaking s.port = true) (hidle : awaits s .host = false)
  (hasync : s.port.async = true)
include htaking hidle hasync

theorem characterReceived_afterCr (hb : b = 0x0A) (hcr : s.port.lastCr = true) :
    characterReceived b fe s = onPort (fun p => { p with lastCr := false, echo := [] }) s := by
  have htaking' : ¬ (portTaking s.port = false ∨ awaits s .host = true) := by simp [htaking, hidle]
  refine (if_neg htaking').trans ?_
  dsimp only
  rw [if_neg (by simp [hasync]), if_pos (by simp [hb, hcr])]

theorem characterReceived_typed (hfirst : ¬ (b = 0x0A ∧ s.port.lastCr = true)) :
    characterReceived b fe s = { s with port := s.port.typed b fe s.now } := by
  have htaking' : ¬ (portTaking s.port = false ∨ awaits s .host = true) := by simp [htaking, hidle]
  refine (if_neg htaking').trans ?_
  dsimp only
  rw [if_neg (by simp [hasync])]
  exact if_neg hfirst

end

/-- A character of the line itself (10 R550). -/
def Port.begun (fe : Bool) (now : Tick) (p : Port) : Port :=
  { p with corrupt := p.corrupt || fe, lastCharAt := now, inLine := true, lastCr := false }

theorem Port.typed_end {b : Byte} (fe : Bool) (now : Tick) (p : Port) (hb : b = 0x0D ∨ b = 0x0A) :
    p.typed b fe now = Port.terminate b { p with corrupt := p.corrupt || fe, lastCharAt := now } := if_pos hb

theorem Port.typed_inside {b : Byte} (fe : Bool) (now : Tick) (p : Port) (hb : ¬ (b = 0x0D ∨ b = 0x0A)) :
    p.typed b fe now = (p.begun fe now).edit b := if_neg hb

theorem Port.edit_printable {b : Byte} (p : Port) (hb : printable (Char.ofNat b.toNat) = true) : p.edit b =
    if p.line.length < 255 then { p with line := p.line ++ [Char.ofNat b.toNat] }.echoes [b]
    else { p with tooLong := true }.echoes [0x07] := if_pos hb

theorem Port.edit_erase {b : Byte} (p : Port) (hb : b = 0x08 ∨ b = 0x7F) : p.edit b =
    if p.line = [] then p.echoes [] else { p with line := p.line.dropLast }.echoes [0x08, 0x20, 0x08] := by
  have hprint : printable (Char.ofNat b.toNat) = false := by
    rw [printable_byte]
    rcases hb with rfl | rfl <;> decide
  exact (if_neg (by simp [hprint])).trans (if_pos hb)

theorem Port.edit_clear {b : Byte} (p : Port) (hb : b = 0x15) : p.edit b =
    { p with line := [], tooLong := false, corrupt := false }.echoes [0x5E, 0x55, 0x0D, 0x0A] := by
  subst hb
  have hprint : printable (Char.ofNat (0x15 : Byte).toNat) = false := by rw [printable_byte]; decide
  unfold Port.edit
  dsimp only
  rw [hprint, if_neg (by decide), if_neg (by decide), if_pos rfl]

/-- What the typing of a character keeps of the port. -/
structure TypedKeeps (p q : Port) : Prop where
  sess : q.sess = p.sess
  answer : q.answer = p.answer
  baud : q.baud = p.baud

theorem typedKeeps_edit (b : Byte) (p : Port) : TypedKeeps p (p.edit b) := by
  unfold Port.edit
  dsimp only
  split
  · split
    · exact ⟨rfl, rfl, rfl⟩
    · exact ⟨rfl, rfl, rfl⟩
  · split
    · split
      · exact ⟨rfl, rfl, rfl⟩
      · exact ⟨rfl, rfl, rfl⟩
    · split
      · exact ⟨rfl, rfl, rfl⟩
      · exact ⟨rfl, rfl, rfl⟩

theorem typedKeeps_typed (b : Byte) (fe : Bool) (now : Tick) (p : Port) : TypedKeeps p (p.typed b fe now) := by
  by_cases hb : b = 0x0D ∨ b = 0x0A
  · rw [Port.typed_end fe now p hb]
    exact ⟨rfl, rfl, rfl⟩
  · rw [Port.typed_inside fe now p hb]
    obtain ⟨hsess, hanswer, hbaud⟩ := typedKeeps_edit b (p.begun fe now)
    exact ⟨hsess, hanswer, hbaud⟩

/-! ## The rate, breaks and silence -/

theorem baudMeasurement_measures {span : Nat} {s : State} (hopen : s.port.opened = true) (hasync : s.port.async = true)
    (hnone : s.port.baud = none) (hlow : 1200 * span ≤ 5000000000) (hhigh : 5000000000 ≤ 460800 * span) :
    baudMeasurement span s = onPort (fun p => { p with
      baud := some (roundAway (5000000000 / (span : Rat))).natAbs, line := [], inLine := false, lastCr := true }) s :=
  if_pos (by simp [hopen, hasync, hnone, hlow, hhigh])

theorem baudMeasurement_none {span : Nat} {s : State} (h : s.port.opened = false ∨ s.port.async = false ∨ s.port.baud ≠ none ∨
    5000000000 < 1200 * span ∨ 460800 * span < 5000000000) : baudMeasurement span s = s := by
  refine if_neg ?_
  simp only [Bool.and_eq_true, decide_eq_true_eq, Option.isNone_iff_eq_none]
  rintro ⟨⟨⟨⟨hopen, hasync⟩, hnone⟩, hlow⟩, hhigh⟩
  rcases h with h | h | h | h | h
  · exact Bool.noConfusion (h.symm.trans hopen)
  · exact Bool.noConfusion (h.symm.trans hasync)
  · exact h hnone
  · omega
  · omega

/-! ## The statement -/

section
variable {s : State} {b : Byte} {fe : Bool}

/-- A byte of a transaction: ignored, a character of a line, or the line's end (10 R540, 11 R578, R588). -/
theorem clockedByte_acts (hopen : s.port.opened = true) (hclocked : s.port.async = false) (htrans : s.port.transaction = true)
    (hidle : awaits s .host = false) :
    (b = 0 → s.port.inLine = false → Does (.characterReceived b fe) s { s with port := { s.port with
      out := if s.port.out = 0x04 then 0x04 else 0 } }) ∧
    (b ≠ 0x0A → b ≠ 0 ∨ s.port.inLine = true → Does (.characterReceived b fe) s { s with port := { s.port with
      inLine := true, out := if s.port.echoOn then b else 0
      badChar := s.port.badChar || !decide (0x20 ≤ b.toNat ∧ b.toNat ≤ 0x7E)
      line := if s.port.line.length < 255 then s.port.line ++ [Char.ofNat b.toNat] else s.port.line
      tooLong := s.port.tooLong || decide (255 ≤ s.port.line.length) } }) ∧
    (b = 0x0A → Does (.characterReceived b fe) s { s with port := { s.port with
      line := [], inLine := false, tooLong := false, badChar := false
      latched := if noLine s.port.line then none else some s.port.line
      out := if noLine s.port.line then 0x04 else 0x16 } }) := by
  have htaking : portTaking s.port = true := by simp [portTaking, hopen, hclocked, htrans]
  have heq := characterReceived_clocked (b := b) (fe := fe) htaking hidle hclocked
  refine ⟨fun hb hin => does_of (congrArg finish (heq.trans ?_)), fun hb hin => does_of (congrArg finish (heq.trans ?_)),
    fun hb => does_of (congrArg finish (heq.trans ?_))⟩
  · unfold onPort Port.clock
    rw [if_pos ⟨hb, hin⟩]
  · have hnot : ¬ (b = 0 ∧ s.port.inLine = false) := fun ⟨h, h'⟩ =>
      hin.elim (fun h'' => h'' h) fun h'' => Bool.noConfusion (h'.symm.trans h'')
    unfold onPort Port.clock
    rw [if_neg hnot, if_neg hb]
    dsimp only
    rw [printable_byte]
  · have hnot : ¬ (b = 0 ∧ s.port.inLine = false) := fun h => absurd (hb.symm.trans h.1) (by decide)
    unfold onPort Port.clock
    rw [if_neg hnot, if_pos hb]

/-- The rise of the select while a reply is awaited abandons the line, and stops a script that it began (10 R563, 11 R628). -/
theorem transactionEnd_abandons (htrans : s.port.transaction = true) (hwaits : awaits s .host = true) :
    DoesSo .transactionEnd s fun w =>
      w.port = { s.port with
        transaction := false, line := [], inLine := false, tooLong := false, corrupt := false, badChar := false
        lastCr := false, latched := none, out := 0, sess := { s.port.sess with idleSince := s.now }
        answer := { s.port.answer with abandoned := true, no := 0 } } ∧
      w.live = s.live ∧ w.part = s.part ∧ w.interp.flash = s.interp.flash ∧
      (∀ run : Running, s.interp.script = some run → run.boot = false → run.by_.sess = .host → run.by_.no = s.port.answer.no →
        (run.waiting ≠ none → w.interp.script = some { run with stop := true }) ∧
        (run.waiting = none → w.interp.script = none)) ∧
      (s.interp.script = none → w.interp = s.interp ∧ w.log = s.log) := by
  have heq := transactionEnd_awaits htrans hwaits
  have habandon := abandonHost_awaits hwaits
  obtain ⟨hstop, hrun, hnone⟩ := stopRunOf_stops (no := s.port.answer.no) (s := abandonHost s) (by rw [habandon]; rfl)
  have hinterp : (abandonHost s).interp = s.interp := by rw [habandon]
  have hport : (abandonHost s).port = { portAbandoned s.now s.port with transaction := s.port.transaction } := by rw [habandon]
  have hlive : (abandonHost s).live = s.live := by rw [habandon]
  have hpart : (abandonHost s).part = s.part := by rw [habandon]
  have hlog : (abandonHost s).log = s.log := by rw [habandon]
  generalize abandonHost s = u at heq hstop hrun hnone hinterp hport hlive hpart hlog
  rw [hinterp] at hrun hnone
  refine doesSo_of (congrArg finish heq) ⟨?_, hstop.live.trans hlive, hstop.part.trans hpart,
    hstop.flash.trans (congrArg Interp.flash hinterp), hrun, fun hscript => ?_⟩
  · refine (congrArg (fun p : Port => { p with transaction := false }) (hstop.port.trans hport)).trans ?_
    rfl
  · have hsame := hnone hscript
    exact ⟨(congrArg State.interp hsame).trans hinterp, (congrArg State.log hsame).trans hlog⟩

/-- A character of an asynchronous port joins the line, edits it or ends it (10 R549, R550, R552). -/
theorem typedCharacter_acts (hopen : s.port.opened = true) (hasync : s.port.async = true) (hbaud : s.port.baud ≠ none)
    (hidle : awaits s .host = false) : DoesSo (.characterReceived b fe) s fun w => w = { s with port := w.port } ∧
      (0x20 ≤ b.toNat → b.toNat ≤ 0x7E → w.port.inLine = true ∧ w.port.lastCharAt = s.now ∧
        w.port.echo = (if s.port.echoOn then [if s.port.line.length < 255 then b else 7] else []) ∧
        w.port.corrupt = (s.port.corrupt || fe) ∧ w.port.line =
          (if s.port.line.length < 255 then s.port.line ++ [Char.ofNat b.toNat] else s.port.line) ∧
        w.port.tooLong = (s.port.tooLong || decide (255 ≤ s.port.line.length))) ∧
      (b = 0x08 ∨ b = 0x7F → w.port.line = s.port.line.dropLast ∧ w.port.corrupt = (s.port.corrupt || fe) ∧
        w.port.echo = if s.port.echoOn && decide (s.port.line ≠ []) then [0x08, 0x20, 0x08] else []) ∧
      (b = 0x15 → w.port.line = [] ∧ w.port.tooLong = false ∧
        w.port.echo = if s.port.echoOn then [0x5E, 0x55, 0x0D, 0x0A] else []) ∧
      (b = 0x0D ∨ (b = 0x0A ∧ s.port.lastCr = false) → w.port.line = [] ∧ w.port.inLine = false ∧
        w.port.latched = if noLine s.port.line then none else some s.port.line) ∧
      (b = 0x0A → s.port.lastCr = true → w.port = { s.port with lastCr := false, echo := [] }) ∧
      w.port.sess = s.port.sess ∧ w.port.answer = s.port.answer ∧ w.port.baud = s.port.baud := by
  have htaking : portTaking s.port = true := by
    simp [portTaking, hopen, hasync, Option.isSome_iff_ne_none, hbaud]
  by_cases hfirst : b = 0x0A ∧ s.port.lastCr = true
  · obtain ⟨hb, hcr⟩ := hfirst
    refine doesSo_of (congrArg finish (characterReceived_afterCr htaking hidle hasync hb hcr)) ?_
    subst hb
    refine ⟨rfl, fun hlow => absurd hlow (by decide), fun h => absurd h (by decide), fun h => absurd h (by decide), fun h => ?_,
      fun _ _ => rfl, rfl, rfl, rfl⟩
    exact absurd h (by rw [hcr]; decide)
  · refine doesSo_of (congrArg finish (characterReceived_typed htaking hidle hasync hfirst)) ?_
    obtain ⟨hsess, hanswer, hrate⟩ := typedKeeps_typed b fe s.now s.port
    refine ⟨rfl, fun hlow hhigh => ?_, fun hb => ?_, fun hb => ?_, fun hb => ?_, fun hb hcr => absurd ⟨hb, hcr⟩ hfirst,
      hsess, hanswer, hrate⟩
    · have hinside : ¬ (b = 0x0D ∨ b = 0x0A) := by rintro (rfl | rfl) <;> exact absurd hlow (by decide)
      rw [Port.typed_inside fe s.now s.port hinside, Port.edit_printable _ (by rw [printable_byte]; exact decide_eq_true ⟨hlow, hhigh⟩)]
      by_cases hroom : s.port.line.length < 255
      · have hroom' : (s.port.begun fe s.now).line.length < 255 := hroom
        rw [if_pos hroom', if_pos hroom, if_pos hroom, decide_eq_false (Nat.not_le.2 hroom), Bool.or_false]
        exact ⟨rfl, rfl, rfl, rfl, rfl, rfl⟩
      · have hroom' : ¬ (s.port.begun fe s.now).line.length < 255 := hroom
        rw [if_neg hroom', if_neg hroom, if_neg hroom, decide_eq_true (Nat.not_lt.1 hroom), Bool.or_true]
        exact ⟨rfl, rfl, rfl, rfl, rfl, rfl⟩
    · have hinside : ¬ (b = 0x0D ∨ b = 0x0A) := by rcases hb with rfl | rfl <;> decide
      rw [Port.typed_inside fe s.now s.port hinside, Port.edit_erase _ hb]
      by_cases hempty : s.port.line = []
      · have hempty' : (s.port.begun fe s.now).line = [] := hempty
        rw [if_pos hempty']
        refine ⟨by rw [hempty]; exact hempty, rfl, ?_⟩
        simp [Port.echoes, hempty]
      · have hempty' : ¬ (s.port.begun fe s.now).line = [] := hempty
        rw [if_neg hempty']
        refine ⟨rfl, rfl, ?_⟩
        rw [decide_eq_true hempty, Bool.and_true]
        rfl
    · have hinside : ¬ (b = 0x0D ∨ b = 0x0A) := by rw [hb]; decide
      rw [Port.typed_inside fe s.now s.port hinside, Port.edit_clear _ hb]
      exact ⟨rfl, rfl, rfl⟩
    · have hend : b = 0x0D ∨ b = 0x0A := hb.imp id And.left
      rw [Port.typed_end fe s.now s.port hend]
      exact ⟨rfl, rfl, rfl⟩

end

/-- Settles O59: transactions by what begins, carries and leaves a line, characters by the editing of each, the rest by its time. -/
theorem hostPortCarriesLines : Obligations.HostPortCarriesLines := by
  refine ⟨fun s b fe p hp => ?clocked, fun s b fe p hp => ?async⟩
  case clocked =>
    subst hp
    refine ⟨fun hopen hclocked => does_of (congrArg finish (transactionStart_opens hopen hclocked)),
      fun h => does_of (congrArg finish (transactionStart_closed h)), fun hopen hclocked htrans hidle => ?_,
      fun htrans hidle => does_of (congrArg finish (transactionEnd_line htrans hidle)), fun htrans hwaits => ?_,
      fun h => does_of (congrArg finish (transactionEnd_idle h))⟩
    · exact clockedByte_acts hopen hclocked htrans hidle
    · exact transactionEnd_abandons htrans hwaits
  case async =>
    subst hp
    refine ⟨fun hopen hasync hbaud hidle => ?_, fun h => ?_, fun span => ⟨fun hopen hasync hnone hlow hhigh =>
      does_of (congrArg finish (baudMeasurement_measures hopen hasync hnone hlow hhigh)),
      fun h => does_of (congrArg finish (baudMeasurement_none h))⟩, fun us => ⟨fun hasync hlong => ?_, fun h => ?_⟩,
      fun hasync hin hlate => does_of (congrArg finish (if_pos ⟨hasync, hin, hlate⟩)), fun h => ?_⟩
    · exact typedCharacter_acts hopen hasync hbaud hidle
    · refine does_of (congrArg finish (characterReceived_deaf ?_))
      unfold portTaking
      rcases h with h | ⟨h, h'⟩ | ⟨h, h'⟩ | h
      · simp [h]
      · simp [h, h']
      · simp [h, h']
      · exact .inr h
    · exact does_of (congrArg finish (if_pos ⟨hasync, hlong⟩))
    · refine does_of (congrArg finish (if_neg fun ⟨h', h''⟩ => ?_))
      exact h.elim (fun h => Bool.noConfusion (h.symm.trans h')) fun h => Nat.not_le.2 h h''
    · refine does_of (congrArg finish (if_neg fun ⟨h', h'', hlate⟩ => ?_))
      rcases h with h | h | h
      · exact Bool.noConfusion (h.symm.trans h')
      · exact Bool.noConfusion (h.symm.trans h'')
      · exact Nat.not_le.2 h hlate

end Sys2Proof.Machine

/-! CONSOLES (06 R370–R378, R388; 12 R651–R653): what each operation leaves of the consoles, the frames of a session, the events, and
the statement. -/

namespace Sys2Proof.Machine

/-! ## The consoles -/

/-- What concerns one console: the others, the settings, the port and the mode stay, and no record is taken back. -/
structure ConsoleStep (k : Fin 16) (u t : State) : Prop where
  live : t.live = u.live
  port : t.port = u.port
  power : t.power = u.power
  others : ∀ j, j ≠ k → consoleOf t j = consoleOf u j
  grows : u.log.incoming.length ≤ t.log.incoming.length

theorem ConsoleStep.refl (k : Fin 16) (u : State) : ConsoleStep k u u := ⟨rfl, rfl, rfl, fun _ _ => rfl, Nat.le_refl _⟩

theorem ConsoleStep.trans {k : Fin 16} {u v t : State} (h : ConsoleStep k u v) (h' : ConsoleStep k v t) : ConsoleStep k u t :=
  ⟨h'.live.trans h.live, h'.port.trans h.port, h'.power.trans h.power, fun j hj => (h'.others j hj).trans (h.others j hj),
    h.grows.trans h'.grows⟩

theorem ConsoleSent.consoleStep {k : Fin 16} {u t : State} (h : ConsoleSent k u t) : ConsoleStep k u t := by
  have hothers := h.others
  refine ⟨?_, ?_, ?_, hothers, ?_⟩ <;> rw [h.rest]

theorem consoleStep_onConsole (k : Fin 16) (f : Console → Console) (s : State) (hf : ∀ c, (f c).k = c.k) :
    ConsoleStep k s (onConsole k f s) := by
  refine ⟨rfl, rfl, rfl, fun j hj => ?_, Nat.le_refl _⟩
  rw [consoleOf_onConsole k j f s hf]
  simp [hj]

theorem emit_grows (e : Event) (s : State) : s.power.mode = .deep ∨ (emit e s).log.incoming.length = s.log.incoming.length + 1 := by
  by_cases hdeep : s.power.mode = .deep
  · exact .inl hdeep
  · refine .inr ?_
    unfold emit
    rw [if_neg hdeep]
    exact List.length_append

theorem consoleStep_emit (k : Fin 16) (e : Event) (s : State) : ConsoleStep k s (emit e s) := by
  refine ⟨emit_live .., emit_port .., emit_power .., fun j _ => consoleOf_congr (congrArg Interp.consoles (emit_interp ..)) j, ?_⟩
  by_cases hdeep : s.power.mode = .deep
  · have hsame : emit e s = s := if_pos hdeep
    rw [hsame]
  · rw [(emit_grows e s).resolve_left hdeep]
    exact Nat.le_succ _

/-- A session of a console that ends is gone; the others stay. -/
theorem endSession_console (k : Fin 16) (cause : Nat) (s : State) :
    ConsoleStep k s (endSession (.console k) cause s) ∧ consoleOf (endSession (.console k) cause s) k = none := by
  unfold endSession
  split
  · have hemit : ConsoleStep k s (emitSess (.console k) 0x0503 0 [cause] s) := consoleStep_emit ..
    generalize emitSess (.console k) 0x0503 0 [cause] s = v at hemit ⊢
    refine ⟨hemit.trans ⟨rfl, rfl, rfl, fun j hj => ?_, Nat.le_refl _⟩, ?_⟩
    · unfold consoleOf
      dsimp only
      rw [List.find?_filter]
      refine List.find?_congr fun c _ => ?_
      by_cases hc : c.k = j
      · simp [hc, hj]
      · simp [hc]
    · refine List.find?_eq_none.2 fun c hc => ?_
      simpa using (List.mem_filter.1 hc).2
  · next hout => exact ⟨.refl k s, by simpa [inProgress] using hout⟩

theorem onConsole_absent {k : Fin 16} {s : State} (f : Console → Console) (h : consoleOf s k = none) : onConsole k f s = s := by
  have hall : ∀ c ∈ s.interp.consoles, ¬ c.k = k := fun c hc => by simpa using List.find?_eq_none.1 h c hc
  have hmap : (s.interp.consoles.map fun c => if c.k = k then f c else c) = s.interp.consoles := by
    refine (List.map_congr_left fun c hc => if_neg (hall c hc)).trans (List.map_id' _)
  unfold onConsole
  rw [hmap]

theorem sendConsole_absent {k : Fin 16} {s : State} (kind segment : Nat) (last : Bool) (data : List Byte) (h : consoleOf s k = none) :
    (sendConsole k kind segment last data s).interp = s.interp := by
  unfold sendConsole
  dsimp only
  rw [onConsole_absent _ (by rw [send_consoleOf]; exact h), send_interp]

theorem consoleOf_onConsole_same {k : Fin 16} {s : State} {c : Console} (f : Console → Console) (hf : ∀ c, (f c).k = c.k)
    (hc : consoleOf s k = some c) : consoleOf (onConsole k f s) k = some (f c) := by
  rw [consoleOf_onConsole k k f s hf, hc]
  simp

/-! ## The frames of a session -/

theorem consoleTimeout_step (k : Fin 16) (s : State) : ConsoleStep k s (consoleTimeout k s) ∧
    (consoleTimeout k s).now = s.now := by
  unfold consoleTimeout
  split
  · split
    · exact ⟨(endSession_console ..).1, by rw [endSession_frame]⟩
    · exact ⟨.refl k s, rfl⟩
  · exact ⟨.refl k s, rfl⟩

theorem frameHeard_consoleHeard {f : ConsoleFrame} {s t : State} (h : FrameHeard s t) : consoleHeard f t = consoleHeard f s := by
  have hnode : t.watch.node = s.watch.node := by rw [h.rest]
  have hrun : t.interp.running = s.interp.running := by rw [h.rest]
  unfold consoleHeard
  rw [h.hears, hnode, hrun]

/-- A wrong MAC is counted and recorded, and the fifth ends the session (06 R377). -/
theorem wrongMac_acts {f : ConsoleFrame} {c : Console} {s : State} (hc : consoleOf s f.console = some c) :
    ConsoleStep f.console s (wrongMac f c s) ∧
    ((wrongMac f c s).log.incoming = s.log.incoming → s.power.mode = .deep) ∧
    (c.wrongMacs < 4 → consoleOf (wrongMac f c s) f.console = some { c with wrongMacs := c.wrongMacs + 1 }) ∧
    (4 ≤ c.wrongMacs → consoleOf (wrongMac f c s) f.console = none) := by
  obtain ⟨v, hv⟩ : ∃ v, v = onConsole f.console (fun c => { c with wrongMacs := c.wrongMacs + 1 })
      (emitSess (.console f.console) 0x0521 0 [] s) := ⟨_, rfl⟩
  have hemit : ConsoleStep f.console s (emitSess (.console f.console) 0x0521 0 [] s) := consoleStep_emit ..
  have hgrown : s.power.mode = .deep ∨ v.log.incoming.length = s.log.incoming.length + 1 := by rw [hv]; exact emit_grows ..
  have hown : consoleOf v f.console = some { c with wrongMacs := c.wrongMacs + 1 } := by
    rw [hv]
    refine consoleOf_onConsole_same _ (fun _ => rfl) ?_
    rw [← hc]
    exact consoleOf_congr (congrArg Interp.consoles (emit_interp ..)) _
  have hstep : ConsoleStep f.console s v := by
    rw [hv]; exact hemit.trans (consoleStep_onConsole _ _ _ fun _ => rfl)
  have hdeep : ∀ t, ConsoleStep f.console v t → t.log.incoming = s.log.incoming → s.power.mode = .deep := by
    intro t ht hsame
    refine hgrown.resolve_right fun hlonger => ?_
    have hlength := ht.grows
    rw [hsame, hlonger] at hlength
    omega
  have hrun : wrongMac f c s = if c.wrongMacs + 1 < 5 then v
      else endSession (.console f.console) 4 (sendConsole f.console 3 0 true [] v) := by rw [hv]; rfl
  rw [hrun]
  by_cases hfew : c.wrongMacs < 4
  · rw [if_pos (by omega)]
    exact ⟨hstep, hdeep v (.refl _ _), fun _ => hown, fun h => absurd hfew (Nat.not_lt.2 h)⟩
  · rw [if_neg (by omega)]
    have hsent := (sendConsole_sent f.console 3 0 true [] v).consoleStep
    obtain ⟨hends, hnone⟩ := endSession_console f.console 4 (sendConsole f.console 3 0 true [] v)
    exact ⟨(hstep.trans hsent).trans hends, hdeep _ (hsent.trans hends), fun h => absurd h hfew, fun _ => hnone⟩

section
variable {f : ConsoleFrame} {kind : Nat} {act : State → State} {s : State}

theorem takeConsole_absent (h : consoleOf s f.console = none) : takeConsole f kind act s = s := by
  unfold takeConsole; rw [h]

variable {c : Console} (hc : consoleOf s f.console = some c)
include hc

theorem takeConsole_wrong (hkey : c.key ≠ none) (hmac : frameMac f kind c ≠ f.mac) : takeConsole f kind act s = wrongMac f c s := by
  unfold takeConsole
  rw [hc]
  exact if_pos (by simp [Option.isSome_iff_ne_none, hkey, hmac])

theorem takeConsole_right (hmac : c.key = none ∨ frameMac f kind c = f.mac) : takeConsole f kind act s =
    if f.counter.toNat ≤ c.rxCounter then s else act (onConsole f.console (fun c => { c with rxCounter := f.counter.toNat }) s) := by
  unfold takeConsole
  rw [hc]
  refine if_neg ?_
  rcases hmac with h | h <;> simp [h]

end

/-! ## The events -/

/-- What the node is before the session is looked at: the frame is kept where a filter passes it, and no more. -/
structure FrameKept (u t : State) : Prop where
  live : t.live = u.live
  power : t.power = u.power
  now : t.now = u.now
  consoles : ∀ k, consoleOf t k = consoleOf u k
  heard : ∀ f, consoleHeard f t = consoleHeard f u

theorem frameKept_noteReceived (b : Bus) (f : RawFrame) (s : State) : FrameKept s (noteReceived b f s) := by
  have h := frameHeard_noteReceived b f s
  have hinterp : (noteReceived b f s).interp = s.interp := by rw [h.rest]
  refine ⟨?_, ?_, ?_, fun k => consoleOf_congr (congrArg Interp.consoles hinterp) k, fun f => frameHeard_consoleHeard h⟩ <;>
    rw [h.rest]

section
variable {f : ConsoleFrame} {s : State}

theorem consoleOpen_unheard (h : consoleHeard f s = false) : consoleOpen f s = noteReceived f.bus (consoleRaw f 1) s :=
  if_pos (((frameKept_noteReceived ..).heard f).trans h)

theorem consoleData_unheard (h : consoleHeard f s = false) : consoleData f s = noteReceived f.bus (consoleRaw f 0) s :=
  if_pos (((frameKept_noteReceived ..).heard f).trans h)

theorem consoleEnds_unheard {kind cause : Nat} (h : consoleHeard f s = false) :
    consoleEnds f kind cause s = noteReceived f.bus (consoleRaw f kind) s :=
  if_pos (((frameKept_noteReceived ..).heard f).trans h)

theorem consoleEnds_heard {kind cause : Nat} (h : consoleHeard f s = true) : consoleEnds f kind cause s =
    takeConsole f kind (endSession (.console f.console) cause) (noteReceived f.bus (consoleRaw f kind) s) :=
  if_neg (by rw [(frameKept_noteReceived ..).heard f, h]; exact Bool.noConfusion)

/-- The session that OPEN begins (06 R375, 12 R651). -/
def newConsole (k : Fin 16) (s : State) : Console := { k := k, sess := { idleSince := s.now, timeout := s.live.secTimeout } }

/-- OPEN in the state in which a session whose time was over has ended. -/
theorem consoleOpen_heard {u : State} (h : consoleHeard f s = true)
    (hu : u = consoleTimeout f.console (noteReceived f.bus (consoleRaw f 1) s)) : consoleOpen f s =
    if (consoleOf u f.console).isSome then takeConsole f 1 (fun s => s) u
    else if f.counter ≠ 1 then u
    else if 2 ≤ u.interp.consoles.length then sendConsole f.console 1 0 true (textBytes (errText .e08)) u
    else sendConsole f.console 1 0 true (textBytes (txt "OK"))
      { u with interp := { u.interp with consoles := u.interp.consoles ++ [newConsole f.console u] } } := by
  rw [hu]
  exact if_neg (by rw [(frameKept_noteReceived ..).heard f, h]; exact Bool.noConfusion)

/-- DATA in the state in which a session whose time was over has ended. -/
theorem consoleData_heard {u : State} (h : consoleHeard f s = true)
    (hu : u = consoleTimeout f.console (noteReceived f.bus (consoleRaw f 0) s)) : consoleData f s =
    if (consoleOf u f.console).isNone then sendConsole f.console 3 0 true [] u else takeConsole f 0 (takeSegment f) u := by
  rw [hu]
  exact if_neg (by rw [(frameKept_noteReceived ..).heard f, h]; exact Bool.noConfusion)

end

/-- A session that OPEN adds is its console's; the other consoles keep theirs. -/
theorem newConsole_added {k : Fin 16} {u w : State} (habsent : consoleOf u k = none)
    (hw : w = { u with interp := { u.interp with consoles := u.interp.consoles ++ [newConsole k u] } }) :
    ConsoleStep k u w ∧ consoleOf w k = some (newConsole k u) := by
  rw [hw]
  refine ⟨⟨rfl, rfl, rfl, fun j hj => ?_, Nat.le_refl _⟩, ?_⟩
  · unfold consoleOf
    dsimp only
    rw [List.find?_append]
    cases u.interp.consoles.find? (fun c => decide (c.k = j)) with
    | some c => rfl
    | none => simp [newConsole, Ne.symm hj]
  · unfold consoleOf at habsent ⊢
    dsimp only
    rw [List.find?_append, habsent]
    simp [newConsole]

/-- A session whose line a segment has joined. -/
def segmentTaken (f : ConsoleFrame) (c : Console) : Console :=
  { c with buf := if f.segment = 0 then f.data else c.buf ++ f.data, complete := f.last }

section
variable {f : ConsoleFrame} {u t : State} {c : Console}

/-- A segment of a new counter joins the line of its session (06 R372, R373). -/
theorem takeSegment_joins (hc : consoleOf u f.console = some c)
    (ht : t = takeSegment f (onConsole f.console (fun c => { c with rxCounter := f.counter.toNat }) u)) :
    t = { u with interp := t.interp } ∧
    consoleOf t f.console = some { c with
      rxCounter := f.counter.toNat, buf := if f.segment = 0 then f.data else c.buf ++ f.data, complete := f.last } ∧
    ∀ k : Fin 16, k ≠ f.console → consoleOf t k = consoleOf u k := by
  have hcount := consoleStep_onConsole f.console (fun c => { c with rxCounter := f.counter.toNat }) u fun _ => rfl
  have hown := consoleOf_onConsole_same (fun c : Console => { c with rxCounter := f.counter.toNat }) (fun _ => rfl) hc
  subst ht
  refine ⟨rfl, ?_, fun k hk => ?_⟩
  · exact consoleOf_onConsole_same (segmentTaken f) (fun _ => rfl) hown
  · exact ((consoleStep_onConsole f.console (segmentTaken f) _ fun _ => rfl).others k hk).trans (hcount.others k hk)

/-- CLOSE or ABORT of a new counter ends its session (06 R378). -/
theorem endSession_counted (cause : Nat) (u : State) :
    ConsoleStep f.console u (endSession (.console f.console) cause
      (onConsole f.console (fun c => { c with rxCounter := f.counter.toNat }) u)) ∧
    consoleOf (endSession (.console f.console) cause
      (onConsole f.console (fun c => { c with rxCounter := f.counter.toNat }) u)) f.console = none := by
  have hcount := consoleStep_onConsole f.console (fun c => { c with rxCounter := f.counter.toNat }) u fun _ => rfl
  obtain ⟨hends, hnone⟩ := endSession_console f.console cause
    (onConsole f.console (fun c => { c with rxCounter := f.counter.toNat }) u)
  exact ⟨hcount.trans hends, hnone⟩

end

/-! ## The statement -/

section
variable {f : ConsoleFrame} {s : State} (heard : consoleHeard f s = true)
include heard

/-- What OPEN does where the node hears it (06 R374, R375, R377). -/
theorem consoleOpen_acts {u : State} (hu : u = consoleTimeout f.console (noteReceived f.bus (consoleRaw f 1) s)) :
    (consoleOf u f.console = none → f.counter = 1 → u.interp.consoles.length < 2 → DoesSo (.consoleOpen f) s fun w =>
      w.live = s.live ∧ w.port = u.port ∧ (∃ c, consoleOf w f.console = some c ∧ c.sess.role = .observer ∧ c.key = none ∧
        c.rxCounter = 1 ∧ c.sess.idleSince = s.now ∧ c.sess.timeout = s.live.secTimeout) ∧
      (∀ k : Fin 16, k ≠ f.console → consoleOf w k = consoleOf u k)) ∧
    (consoleOf u f.console = none → f.counter = 1 → 2 ≤ u.interp.consoles.length → DoesSo (.consoleOpen f) s fun w =>
      w.live = s.live ∧ w.interp = u.interp ∧ w.port = u.port) ∧
    (consoleOf u f.console = none → f.counter ≠ 1 → Does (.consoleOpen f) s u) ∧
    (∀ c : Console, consoleOf u f.console = some c → c.key = none ∨ frameMac f 1 c = f.mac →
      Does (.consoleOpen f) s (if f.counter.toNat ≤ c.rxCounter then u
        else onConsole f.console (fun c => { c with rxCounter := f.counter.toNat }) u)) := by
  have hkept := frameKept_noteReceived f.bus (consoleRaw f 1) s
  obtain ⟨htime, hnow⟩ := consoleTimeout_step f.console (noteReceived f.bus (consoleRaw f 1) s)
  have hrun := consoleOpen_heard heard hu
  rw [← hu] at htime hnow
  have hlive : u.live = s.live := htime.live.trans hkept.live
  refine ⟨fun hout hone hroom => ?_, fun hout hone hfull => ?_, fun hout hone => ?_, fun c hc hmac => ?_⟩
  · obtain ⟨w, hw⟩ : ∃ w, w = { u with interp := { u.interp with consoles := u.interp.consoles ++ [newConsole f.console u] } } :=
      ⟨_, rfl⟩
    rw [hout, if_neg (by simp), if_neg (by simp [hone]), if_neg (Nat.not_le.2 hroom), ← hw] at hrun
    refine doesSo_of (congrArg finish hrun) ?_
    obtain ⟨hadded, hnew⟩ := newConsole_added hout hw
    have hsent := sendConsole_sent f.console 1 0 true (textBytes (txt "OK")) w
    generalize sendConsole f.console 1 0 true (textBytes (txt "OK")) w = v at hsent
    have hstep := hadded.trans hsent.consoleStep
    have hown := hsent.own
    rw [hnew, Option.map_some] at hown
    refine ⟨hstep.live.trans hlive, hstep.port, ⟨_, hown, rfl, rfl, rfl, ?_, ?_⟩, hstep.others⟩
    · exact hnow.trans hkept.now
    · exact congrArg Settings.secTimeout hlive
  · rw [hout, if_neg (by simp), if_neg (by simp [hone]), if_pos hfull] at hrun
    refine doesSo_of (congrArg finish hrun) ?_
    have hsent := (sendConsole_sent f.console 1 0 true (textBytes (errText .e08)) u).consoleStep
    exact ⟨hsent.live.trans hlive, sendConsole_absent _ _ _ _ hout, hsent.port⟩
  · rw [hout, if_neg (by simp), if_pos hone] at hrun
    exact does_of (congrArg finish hrun)
  · rw [hc, Option.isSome_some, if_pos rfl, takeConsole_right hc hmac] at hrun
    exact does_of (congrArg finish hrun)

/-- What DATA does where the node hears it (06 R373, R377, R378). -/
theorem consoleData_acts {u : State} (hu : u = consoleTimeout f.console (noteReceived f.bus (consoleRaw f 0) s)) :
    (consoleOf u f.console = none → DoesSo (.consoleData f) s fun w => w.interp = u.interp ∧ w.live = s.live ∧
      w.port = u.port) ∧
    (∀ c : Console, consoleOf u f.console = some c →
      (c.key = none ∨ frameMac f 0 c = f.mac →
        (f.counter.toNat ≤ c.rxCounter → Does (.consoleData f) s u) ∧
        (c.rxCounter < f.counter.toNat → DoesSo (.consoleData f) s fun w => w = { u with interp := w.interp } ∧
          consoleOf w f.console = some { c with
            rxCounter := f.counter.toNat, buf := if f.segment = 0 then f.data else c.buf ++ f.data
            complete := f.last } ∧
          (∀ k : Fin 16, k ≠ f.console → consoleOf w k = consoleOf u k))) ∧
      (c.key ≠ none → frameMac f 0 c ≠ f.mac → DoesSo (.consoleData f) s fun w => w.live = s.live ∧
        (w.log.incoming = u.log.incoming → s.power.mode = .deep) ∧
        (c.wrongMacs < 4 → consoleOf w f.console = some { c with wrongMacs := c.wrongMacs + 1 }) ∧
        (4 ≤ c.wrongMacs → consoleOf w f.console = none) ∧
        (∀ k : Fin 16, k ≠ f.console → consoleOf w k = consoleOf u k))) := by
  have hkept := frameKept_noteReceived f.bus (consoleRaw f 0) s
  obtain ⟨htime, -⟩ := consoleTimeout_step f.console (noteReceived f.bus (consoleRaw f 0) s)
  have hrun := consoleData_heard heard hu
  rw [← hu] at htime
  have hlive : u.live = s.live := htime.live.trans hkept.live
  refine ⟨fun hout => ?_, fun c hc => ?_⟩
  · rw [hout, Option.isNone_none, if_pos rfl] at hrun
    refine doesSo_of (congrArg finish hrun) ?_
    have hsent := (sendConsole_sent f.console 3 0 true [] u).consoleStep
    exact ⟨sendConsole_absent _ _ _ _ hout, hsent.live.trans hlive, hsent.port⟩
  rw [hc, if_neg (by simp)] at hrun
  refine ⟨fun hmac => ⟨fun hold => ?_, fun hnew => ?_⟩, fun hkey hmac => ?_⟩
  · rw [takeConsole_right hc hmac, if_pos hold] at hrun
    exact does_of (congrArg finish hrun)
  · rw [takeConsole_right hc hmac, if_neg (Nat.not_le.2 hnew)] at hrun
    exact doesSo_of (congrArg finish hrun) (takeSegment_joins hc rfl)
  · rw [takeConsole_wrong hc hkey hmac] at hrun
    refine doesSo_of (congrArg finish hrun) ?_
    obtain ⟨hstep, hdeep, hfew, hfifth⟩ := wrongMac_acts hc
    refine ⟨hstep.live.trans hlive, fun hsame => ?_, hfew, hfifth, hstep.others⟩
    rw [← hkept.power, ← htime.power]
    exact hdeep hsame

variable {i : Instr} {kind cause : Nat} (hexec : exec i s = finish (consoleEnds f kind cause s))
include hexec

/-- What a frame that ends a session does where the node hears it (06 R377, R378, 12 R652). -/
theorem consoleEnds_acts : (consoleOf s f.console = none → Does i s (noteReceived f.bus (consoleRaw f kind) s)) ∧
    ∀ c : Console, consoleOf s f.console = some c →
      (c.key = none ∨ frameMac f kind c = f.mac →
        (f.counter.toNat ≤ c.rxCounter → Does i s (noteReceived f.bus (consoleRaw f kind) s)) ∧
        (c.rxCounter < f.counter.toNat → DoesSo i s fun w => w.live = s.live ∧
          consoleOf w f.console = none ∧ (∀ k : Fin 16, k ≠ f.console → consoleOf w k = consoleOf s k))) ∧
      (c.key ≠ none → frameMac f kind c ≠ f.mac → DoesSo i s fun w => w.live = s.live ∧
        (4 ≤ c.wrongMacs ↔ consoleOf w f.console = none)) := by
  have hkept := frameKept_noteReceived f.bus (consoleRaw f kind) s
  have hrun := consoleEnds_heard (kind := kind) (cause := cause) heard
  generalize noteReceived f.bus (consoleRaw f kind) s = u at hkept hrun ⊢
  rw [hrun] at hexec
  refine ⟨fun hout => ?_, fun c hown => ?_⟩
  · rw [takeConsole_absent ((hkept.consoles _).trans hout)] at hexec
    exact does_of hexec
  have hc : consoleOf u f.console = some c := (hkept.consoles _).trans hown
  refine ⟨fun hmac => ⟨fun hold => ?_, fun hnew => ?_⟩, fun hkey hmac => ?_⟩
  · rw [takeConsole_right hc hmac, if_pos hold] at hexec
    exact does_of hexec
  · rw [takeConsole_right hc hmac, if_neg (Nat.not_le.2 hnew)] at hexec
    refine doesSo_of hexec ?_
    obtain ⟨hends, hnone⟩ := endSession_counted (f := f) cause u
    exact ⟨hends.live.trans hkept.live, hnone, fun k hk => (hends.others k hk).trans (hkept.consoles k)⟩
  · rw [takeConsole_wrong hc hkey hmac] at hexec
    refine doesSo_of hexec ?_
    obtain ⟨hstep, -, hfew, hfifth⟩ := wrongMac_acts hc
    refine ⟨hstep.live.trans hkept.live, hfifth, fun hnone => Nat.not_lt.1 fun hlt => ?_⟩
    exact Option.some_ne_none _ ((hfew hlt).symm.trans hnone)

end

/-- Settles O60: by the frame's kind, and in each by what its session holds once an idle one has ended. -/
theorem consoleSessionsRun : Obligations.ConsoleSessionsRun := by
  unfold Obligations.ConsoleSessionsRun
  intro s f kept hkept
  subst hkept
  refine ⟨fun unheard => ⟨?_, ?_, ?_, ?_⟩, fun heard => ?_⟩
  · exact does_of (congrArg finish (consoleOpen_unheard unheard))
  · exact does_of (congrArg finish (consoleData_unheard unheard))
  · exact does_of (congrArg finish (consoleEnds_unheard unheard))
  · exact does_of (congrArg finish (consoleEnds_unheard unheard))
  · obtain ⟨hcloseOut, hclose⟩ := consoleEnds_acts (i := .consoleClose f) (kind := 2) (cause := 3) heard rfl
    obtain ⟨habortOut, habort⟩ := consoleEnds_acts (i := .consoleAbort f) (kind := 3) (cause := 4) heard rfl
    refine ⟨fun u hu => consoleOpen_acts heard hu, fun u hu => consoleData_acts heard hu,
      fun hout => ⟨hcloseOut hout, habortOut hout⟩, fun c hc => ?_⟩
    obtain ⟨hcloseRight, hcloseWrong⟩ := hclose c hc
    obtain ⟨habortRight, habortWrong⟩ := habort c hc
    exact ⟨hcloseRight, habortRight, fun hkey => ⟨hcloseWrong hkey, habortWrong hkey⟩⟩

end Sys2Proof.Machine

/-! A SLICE'S TIMERS (02 R75, R82, R85; 04 R207, R208, R262): when a delay is complete, what each timer's event does once it
has come, and the statement. -/

namespace Sys2Proof.Machine

/-! ## Delays -/

/-- A delay is marked as complete only where it has run for its time (04 R207, R208, R262). -/
theorem judge_due {cfg : CondCfg} {raw : Bool} {dt now cycle : Nat} {y : CondState}
    (h : (CondState.judge cfg raw dt now cycle y).due = true) :
    cfg.delayUs raw ≤ (CondState.judge cfg raw dt now cycle y).timer := by
  by_cases hnone : cfg.delayUs raw = 0
  · rw [hnone]
    exact Nat.zero_le _
  unfold CondState.judge at h ⊢
  by_cases hen : cfg.en = false
  · rw [if_pos hen] at h
    exact Bool.noConfusion h
  · rw [if_neg hen] at h ⊢
    dsimp only at h ⊢
    rw [decide_eq_false hnone, Bool.and_false, if_neg Bool.false_ne_true] at h ⊢
    exact of_decide_eq_true (Bool.and_eq_true_iff.1 h).2

section
variable {s : State} {c : Ch} {k : Cond}

theorem steepDelayExpiry_due (hdue : (s.cond c k).due = true) (hjudges : (s.slice c).judges k = true)
    (hraw : (s.cond c k).raw = true) (hon : (s.cond c k).on = false) :
    steepDelayExpiry c k s = onCond c k (CondState.rise s.now s.cycle) s :=
  if_pos (by simp [hdue, hjudges, hraw, hon])

theorem unsteepDelayExpiry_due (hdue : (s.cond c k).due = true) (hjudges : (s.slice c).judges k = true)
    (hraw : (s.cond c k).raw = false) (hon : (s.cond c k).on = true) :
    unsteepDelayExpiry c k s = onCond c k CondState.fall s :=
  if_pos (by simp [hdue, hjudges, hraw, hon])

variable (h : (s.cond c k).due = false ∨ (s.slice c).judges k = false)
include h

theorem steepDelayExpiry_early : steepDelayExpiry c k s = s := by
  refine if_neg ?_
  rcases h with h | h <;> simp [h]

theorem unsteepDelayExpiry_early : unsteepDelayExpiry c k s = s := by
  refine if_neg ?_
  rcases h with h | h <;> simp [h]

end

/-! ## The open test -/

theorem openTestRepeat_early {s : State} {c : Ch} (h : s.now < (s.slice c).openTestAt + 10 * usSec) :
    openTestRepeat c s = s :=
  if_neg (by simp [Nat.not_le.2 h])

theorem openTestRepeat_due {s : State} {c : Ch} (hruns : sliceRuns s c = true) (hopen : (s.slice c).openCause = true)
    (hmode : (s.slice c).act.mode ∈ [Mode.pasv, .loop, .volt, .lamp])
    (hdue : (s.slice c).openTestAt + 10 * usSec ≤ s.now) :
    openTestRepeat c s = onSlice c (fun y => { y with openTest := true }) s := by
  refine if_pos ?_
  simp only [List.mem_cons, List.not_mem_nil, or_false] at hmode
  rcases hmode with hm | hm | hm | hm <;> simp [hruns, hopen, hm, hdue]

/-! ## The limiter -/

section
variable {s : State} {c : Ch} {t : Tick} (hruns : pasvRuns s c = true)
include hruns

theorem limiterClamp_rise {mA : Rat} (hrise : 30 < ratAbs mA) (hopen : (s.slice c).limiter.open_ = true) :
    limiterClamp c mA s = onSlice c (fun x => { x with limiter := .clamped s.now }) s :=
  if_pos (by simp [hruns, hrise, hopen])

theorem foldBack_due (hlim : (s.slice c).limiter = .clamped t) (hdue : t + 2000 ≤ s.now) (still : Bool) :
    foldBack c still s = if still then setMisw c true (.folded s.now) s
      else onSlice c (fun x => { x with limiter := .idle }) s := by
  unfold foldBack
  rw [hlim]
  exact if_pos (by simp [hruns, hdue])

theorem miswRetry_due (hlim : (s.slice c).limiter = .folded t) (hdue : t + 250000 ≤ s.now) :
    miswRetry c s = onSlice c (fun x => { x with limiter := .retrying s.now }) s := by
  unfold miswRetry
  rw [hlim]
  exact if_pos (by simp [hruns, hdue])

theorem miswRetryCheck_due (hlim : (s.slice c).limiter = .retrying t) (hdue : t + 2000 ≤ s.now) (mA : Rat) :
    miswRetryCheck c mA s = if 256 / 10 < ratAbs mA then setMisw c true (.folded s.now) s else setMisw c false .idle s := by
  unfold miswRetryCheck
  rw [hlim]
  exact if_pos (by simp [hruns, hdue])

end

/-! ## The statement -/

/-- Settles O42: each timer's event once it has come, and before. -/
theorem sliceTimersAct : Obligations.SliceTimersAct := by
  unfold Obligations.SliceTimersAct
  refine ⟨fun cfg raw dt now cycle y => judge_due, ?_⟩
  intro s c x hx
  subst hx
  refine ⟨fun k => ⟨fun hdue hjudges => ⟨fun hraw hon => ?_, fun hraw hon => ?_⟩, fun hearly => ⟨?_, ?_⟩⟩,
    fun hruns hopen hmode hdue => ?_, fun hearly => ?_, fun hsense hmode mA t => ?_⟩
  · exact does_of (congrArg finish (steepDelayExpiry_due hdue hjudges hraw hon))
  · exact does_of (congrArg finish (unsteepDelayExpiry_due hdue hjudges hraw hon))
  · exact does_of (congrArg finish (steepDelayExpiry_early hearly))
  · exact does_of (congrArg finish (unsteepDelayExpiry_early hearly))
  · exact does_of (congrArg finish (openTestRepeat_due hruns hopen hmode hdue))
  · exact does_of (congrArg finish (openTestRepeat_early hearly))
  have hruns : pasvRuns s c = true := by simp [pasvRuns, hsense, hmode]
  refine ⟨fun hrise hlim => ?_, fun hlim hdue => ⟨?_, ?_⟩, fun hlim hdue => ?_, fun hlim hdue => ⟨fun hhigh => ?_, fun hlow => ?_⟩⟩
  · refine does_of (congrArg finish (limiterClamp_rise hruns hrise ?_))
    rcases hlim with hlim | hlim <;> rw [hlim] <;> rfl
  · exact does_of (congrArg finish (foldBack_due hruns hlim hdue true))
  · exact does_of (congrArg finish (foldBack_due hruns hlim hdue false))
  · exact does_of (congrArg finish (miswRetry_due hruns hlim hdue))
  · exact does_of (congrArg finish ((miswRetryCheck_due hruns hlim hdue mA).trans (if_pos hhigh)))
  · exact does_of (congrArg finish ((miswRetryCheck_due hruns hlim hdue mA).trans (if_neg (not_lt.2 hlow))))

end Sys2Proof.Machine

/-! THE ESPRESSO COMPARATORS (02 R106, R110–R113, R115; 03 R164–R168): what a comparator's contribution and the trip wire make
of it, what the comparators find, each event, and the statement. -/

namespace Sys2Proof.Machine

/-! ## The trip wire -/

/-- A slice whose TRIP flag shows its trip wire. -/
def wired (x : Slice) : Slice := { x with flags := upd x.flags 10 (Flag.drive x.wire) }

theorem wired_wire (x : Slice) : (wired x).wire = x.wire := rfl

theorem wired_flag (x : Slice) : ((wired x).flags[10]).live = x.wire := by
  have h := upd_same x.flags (10 : Fin 12) (Flag.drive x.wire)
  exact (congrArg Flag.live h).trans (Flag.drive_live ..)

theorem wireStep_wired (c : Ch) (f : Slice → Slice) (s : State) : (wireStep c f s).slice c = wired (f (s.slice c)) :=
  slice_wireStep ..

/-! ## A comparator's contribution -/

section
variable (x : Slice)

theorem contribute_eq : contribute x = { x with trip := { x.trip with latched := (contribute x).trip.latched } } := by
  unfold contribute; split <;> rfl

theorem contribute_hiQ : (contribute x).trip.hiQ = x.trip.hiQ := by rw [contribute_eq]
theorem contribute_loQ : (contribute x).trip.loQ = x.trip.loQ := by rw [contribute_eq]
theorem contribute_hiHold : (contribute x).trip.hiHold = x.trip.hiHold := by rw [contribute_eq]
theorem contribute_loHold : (contribute x).trip.loHold = x.trip.loHold := by rw [contribute_eq]
theorem contribute_act : (contribute x).act = x.act := by rw [contribute_eq]

variable {x : Slice} (hhas : hasComparators x.act.mode = true)
include hhas

theorem contribute_wire_of_hi (hhi : x.trip.hiQ = true) : (contribute x).wire = true := by
  unfold Slice.wire
  rw [contribute_act, contribute_hiQ, hhas, hhi]
  rfl

/-- TRIPLO activates the trip wire outside LAMP mode, and of a DC lamp inside an open gate (03 R164). -/
theorem contribute_wire_of_lo (hdc : x.ac = false) (hlo : x.trip.loQ = true) (hopen : x.act.mode ≠ .lamp ∨ x.gateOpen = true) :
    (contribute x).wire = true := by
  unfold Slice.wire
  rw [contribute_act, contribute_hiQ, hhas, Bool.true_and]
  by_cases hlamp : x.act.mode = .lamp
  · have hgate : x.gateOpen = true := hopen.resolve_left (not_not.2 hlamp)
    have hlatched : (contribute x).trip.latched = true := by
      unfold contribute
      rw [if_pos hlamp]
      simp [hdc, hlo, hgate]
    simp [hlamp, hlatched]
  · simp [hlamp, contribute_loQ, hlo]

end

/-- A dip ends the record that an open window had none, and no more (03 R167). -/
theorem noteDip_eq (q : Rat) (x : Slice) : noteDip q x = { x with trip := { x.trip with clear := (noteDip q x).trip.clear } } := by
  unfold noteDip
  split
  · split <;> rfl
  · rfl

theorem noteDip_wire (q : Rat) (x : Slice) : (noteDip q x).wire = x.wire := by rw [noteDip_eq]; rfl

theorem noteDip_loQ (q : Rat) (x : Slice) : (noteDip q x).trip.loQ = x.trip.loQ := by rw [noteDip_eq]

/-- What a comparator that takes `v` makes of a slice. -/
def compared (side : Side) (v : Bool) (x : Slice) : Slice :=
  contribute { x with trip := match side with
    | .hi => { x.trip with hiQ := v }
    | .lo => { x.trip with loQ := v, clear := x.trip.clear && !v } }

theorem setComparator_slice (c : Ch) (side : Side) (v : Bool) (s : State) :
    (setComparator c side v s).slice c = wired (compared side v (s.slice c)) := by
  cases side <;> exact wireStep_wired ..

theorem sliceStep_setComparator (c : Ch) (side : Side) (v : Bool) (s : State) : SliceStep c s (setComparator c side v s) := by
  cases side <;> exact sliceStep_onTrip ..

/-! ## The events -/

theorem crossingTaken_short {ns : Nat} (h : ns < 200) : crossingTaken ns = false := if_pos h

theorem crossingTaken_long {ns : Nat} (h : 800 ≤ ns) : crossingTaken ns = true := by
  unfold crossingTaken
  rw [if_neg (by omega), if_pos h]

section
variable {s : State} {c : Ch} {side : Side}

theorem comparatorRuns_has (h : comparatorRuns s c side = true) : hasComparators (s.slice c).act.mode = true := by
  unfold comparatorRuns at h
  simp only [Bool.and_eq_true] at h
  exact h.1.2

theorem comparatorActivation_off {q : Rat} {ns : Nat} (h : ns < 200 ∨ comparatorRuns s c side = false) :
    comparatorActivation c side q ns s = s := by
  refine if_neg ?_
  rcases h with h | h
  · simp [crossingTaken_short h]
  · simp [h]

theorem comparatorRelease_off {q : Rat} (h : comparatorRuns s c side = false) : comparatorRelease c side q s = s :=
  if_neg (by simp [h])

end

section
variable {s : State} {c : Ch} {q q' t : Rat} (hq : q' = limited (s.slice c).limiter q)
include hq

section
variable (hruns : comparatorRuns s c .hi = true) (hdac : (s.slice c).trip.dacHi = some t)
include hruns hdac

theorem comparatorActivation_hi {ns : Nat} (htaken : crossingTaken ns = true) (hpast : t < q') :
    comparatorActivation c .hi q ns s = setComparator c .hi true s := by
  unfold comparatorActivation
  dsimp only
  rw [← hq, hruns, htaken, hdac]
  exact if_pos (decide_eq_true hpast)

theorem comparatorActivation_hi_inside {ns : Nat} (hinside : q' ≤ t) : comparatorActivation c .hi q ns s = s := by
  unfold comparatorActivation
  dsimp only
  rw [← hq, hruns, hdac]
  cases crossingTaken ns with
  | false => rfl
  | true => exact (if_pos rfl).trans (if_neg (by simpa using hinside))

theorem comparatorRelease_hi : comparatorRelease c .hi q s =
    if q' ≤ t - twoSteps (s.slice c) then setComparator c .hi false s else s := by
  unfold comparatorRelease
  dsimp only
  rw [← hq, hruns, hdac]
  rfl

end

section
variable (hruns : comparatorRuns s c .lo = true) (hdac : (s.slice c).trip.dacLo = some t)
include hruns hdac

omit hq hdac in
theorem comparatorActivation_ac {ns : Nat} (hac : (s.slice c).ac = true) : comparatorActivation c .lo q ns s = s := by
  unfold comparatorActivation
  dsimp only
  rw [hruns, hac]
  cases crossingTaken ns <;> rfl

theorem comparatorActivation_lo {ns : Nat} (hdc : (s.slice c).ac = false) (htaken : crossingTaken ns = true) :
    comparatorActivation c .lo q ns s = if q' < t then setComparator c .lo true s else onSlice c (noteDip q') s := by
  unfold comparatorActivation
  dsimp only
  rw [← hq, hruns, htaken, hdac, hdc]
  rfl

theorem comparatorRelease_lo : comparatorRelease c .lo q s =
    if t + twoSteps (s.slice c) ≤ q' then setComparator c .lo false s else onSlice c (noteDip q') s := by
  unfold comparatorRelease
  dsimp only
  rw [← hq, hruns, hdac]
  rfl

end

end

/-! ## The end of a settling -/

/-- What TRIPHI finds at its threshold, for a comparator whose DAC has settled (02 R115). -/
def settledHi (p : Trip) (back q : Rat) : Bool :=
  match p.dacHi with
  | some t => hiFinds t back q p.hiQ
  | none => false

/-- What TRIPLO finds at its threshold, for a comparator whose DAC has settled (02 R115); an AC lamp's stays. -/
def settledLo (p : Trip) (ac : Bool) (back q : Rat) : Bool :=
  match p.dacLo with
  | some t => if ac then p.loQ else loFinds t back q p.loQ
  | none => false

/-- A slice whose held comparators show what they find at the new threshold (02 R115). -/
def dacSettled (q : Rat) (x : Slice) : Slice :=
  contribute (noteDip q { x with trip := { x.trip with
    hiQ := if x.trip.hiHold then settledHi x.trip (twoSteps x) q else x.trip.hiQ
    loQ := if x.trip.loHold then settledLo x.trip x.ac (twoSteps x) q else x.trip.loQ
    hiHold := false
    loHold := false
    latched := x.trip.latched && !(x.trip.loHold && x.trip.dacLo.isNone) } })

theorem dacSettleEnd_held {s : State} {c : Ch} {q q' : Rat} (hq : q' = limited (s.slice c).limiter q)
    (hruns : sliceRuns s c = true) (hheld : (s.slice c).trip.hiHold = true ∨ (s.slice c).trip.loHold = true) :
    SliceStep c s (dacSettleEnd c q s) ∧ (dacSettleEnd c q s).slice c = wired (dacSettled q' (s.slice c)) := by
  unfold dacSettleEnd
  dsimp only
  rw [if_pos (by simpa [hruns] using hheld), ← hq]
  refine ⟨sliceStep_wireStep .., (wireStep_wired ..).trans (congrArg wired ?_)⟩
  unfold dacSettled settledHi settledLo
  rfl

theorem dacSettleEnd_free {s : State} {c : Ch} {q : Rat} (hhi : (s.slice c).trip.hiHold = false)
    (hlo : (s.slice c).trip.loHold = false) : dacSettleEnd c q s = s :=
  if_neg (by simp [hhi, hlo])

section
variable (q : Rat) (x : Slice)

theorem dacSettled_hiQ : (dacSettled q x).trip.hiQ = if x.trip.hiHold then settledHi x.trip (twoSteps x) q else x.trip.hiQ := by
  unfold dacSettled; rw [contribute_hiQ, noteDip_eq]

theorem dacSettled_loQ : (dacSettled q x).trip.loQ =
    if x.trip.loHold then settledLo x.trip x.ac (twoSteps x) q else x.trip.loQ := by
  unfold dacSettled; rw [contribute_loQ, noteDip_eq]

theorem dacSettled_hiHold : (dacSettled q x).trip.hiHold = false := by
  unfold dacSettled; rw [contribute_hiHold, noteDip_eq]

theorem dacSettled_loHold : (dacSettled q x).trip.loHold = false := by
  unfold dacSettled; rw [contribute_loHold, noteDip_eq]

end

/-! ## The statement -/

section
variable {s : State} {c : Ch} {side : Side} {v : Bool} {w : State} (hw : w = setComparator c side v s)
include hw

/-- What a comparator that takes a value leaves. -/
theorem setComparator_acts : SliceStep c s w ∧ w.slice c = wired (compared side v (s.slice c)) := by
  rw [hw]; exact ⟨sliceStep_setComparator .., setComparator_slice ..⟩

end

/-- A note of a dip leaves the trip wire and the comparators. -/
theorem dip_acts (c : Ch) (q : Rat) (s : State) : SliceStep c s (onSlice c (noteDip q) s) ∧
    ((onSlice c (noteDip q) s).slice c).wire = (s.slice c).wire ∧
    ((onSlice c (noteDip q) s).slice c).trip.loQ = (s.slice c).trip.loQ := by
  rw [slice_onSlice_same]
  exact ⟨sliceStep_onSlice .., noteDip_wire .., noteDip_loQ ..⟩

/-- Settles O44: by the side of the comparator and where its quantity lies. -/
theorem comparatorsTrip : Obligations.ComparatorsTrip := by
  unfold Obligations.ComparatorsTrip
  intro s c q q' p x hx hp hq
  subst hx hp
  refine ⟨fun side ns hoff => does_of (congrArg finish (comparatorActivation_off hoff)),
    fun side hoff => does_of (congrArg finish (comparatorRelease_off hoff)),
    fun ns t hruns hdac => ⟨fun hlong hpast => ?_, fun hinside => ?_, fun hback => ?_, fun hpast => ?_⟩,
    fun ns t hruns hdac => ⟨fun hac => ?_, fun hdc hlong hpast => ?_, fun hdc hinside => ?_, fun hback => ?_, fun hpast => ?_⟩,
    fun hruns hheld => ?_, fun hhi hlo => does_of (congrArg finish (dacSettleEnd_free hhi hlo))⟩
  · refine doesSo_of (congrArg finish (comparatorActivation_hi hq hruns hdac (crossingTaken_long hlong) hpast)) ?_
    obtain ⟨hstep, hslice⟩ := setComparator_acts (c := c) (side := .hi) (v := true) (s := s) rfl
    rw [hslice, wired_wire, wired_flag]
    have hwire : (compared .hi true (s.slice c)).wire = true :=
      contribute_wire_of_hi (x := { s.slice c with trip := { (s.slice c).trip with hiQ := true } }) (comparatorRuns_has hruns) rfl
    exact ⟨hstep, contribute_hiQ _, hwire, hwire⟩
  · exact does_of (congrArg finish (comparatorActivation_hi_inside hq hruns hdac hinside))
  · refine doesSo_of (congrArg finish ((comparatorRelease_hi hq hruns hdac).trans (if_pos hback))) ?_
    obtain ⟨hstep, hslice⟩ := setComparator_acts (c := c) (side := .hi) (v := false) (s := s) rfl
    rw [hslice]
    exact ⟨hstep, contribute_hiQ _, contribute_loQ _⟩
  · exact does_of (congrArg finish ((comparatorRelease_hi hq hruns hdac).trans (if_neg (not_le.2 hpast))))
  · exact does_of (congrArg finish (comparatorActivation_ac hruns hac))
  · have htaken := comparatorActivation_lo hq hruns hdac hdc (crossingTaken_long hlong)
    refine doesSo_of (congrArg finish (htaken.trans (if_pos hpast))) ?_
    obtain ⟨hstep, hslice⟩ := setComparator_acts (c := c) (side := .lo) (v := true) (s := s) rfl
    rw [hslice, wired_wire, wired_flag]
    refine ⟨hstep, contribute_loQ _, fun hopen => ?_⟩
    have hwire : (compared .lo true (s.slice c)).wire = true :=
      contribute_wire_of_lo (x := { s.slice c with trip := { (s.slice c).trip with
        loQ := true, clear := (s.slice c).trip.clear && !true } }) (comparatorRuns_has hruns) hdc rfl hopen
    exact ⟨hwire, hwire⟩
  · cases htaken : crossingTaken ns with
    | false =>
      refine doesSo_of (congrArg finish (if_neg ?_)) ⟨.refl c s, rfl, rfl⟩
      rw [htaken, Bool.and_false]
      exact Bool.false_ne_true
    | true =>
      have hdip := (comparatorActivation_lo hq hruns hdac hdc htaken).trans (if_neg (not_lt.2 hinside))
      exact doesSo_of (congrArg finish hdip) (dip_acts ..)
  · refine doesSo_of (congrArg finish ((comparatorRelease_lo hq hruns hdac).trans (if_pos hback))) ?_
    obtain ⟨hstep, hslice⟩ := setComparator_acts (c := c) (side := .lo) (v := false) (s := s) rfl
    rw [hslice]
    exact ⟨hstep, contribute_loQ _, contribute_hiQ _⟩
  · have hdip := (comparatorRelease_lo hq hruns hdac).trans (if_neg (not_le.2 hpast))
    exact doesSo_of (congrArg finish hdip) (dip_acts ..)
  · obtain ⟨hstep, hslice⟩ := dacSettleEnd_held hq hruns hheld
    refine doesSo_of rfl ?_
    rw [hslice]
    refine ⟨hstep, dacSettled_hiHold .., dacSettled_loHold .., fun hfree => ?_, fun hfree => ?_,
      fun hhi => ⟨fun hdac => ?_, fun t hdac => ?_⟩, fun hlo => ⟨fun hdac => ?_, fun t hdac => ?_⟩⟩
    · exact (dacSettled_hiQ ..).trans (if_neg (by simp [hfree]))
    · exact (dacSettled_loQ ..).trans (if_neg (by simp [hfree]))
    · refine (dacSettled_hiQ ..).trans ((if_pos hhi).trans ?_)
      unfold settledHi; rw [hdac]
    · refine (dacSettled_hiQ ..).trans ((if_pos hhi).trans ?_)
      unfold settledHi; rw [hdac]
    · refine (dacSettled_loQ ..).trans ((if_pos hlo).trans ?_)
      unfold settledLo; rw [hdac]
    · refine (dacSettled_loQ ..).trans ((if_pos hlo).trans ?_)
      unfold settledLo; rw [hdac]

end Sys2Proof.Machine

/-! THE LOOP SUPPLY (02 R89–R101, R130, R133): the smallest ratio that leaves the headroom, what COMP and PIN show, each event,
and the statement. -/

namespace Sys2Proof.Machine

/-! ## The ratios -/

theorem mem_ratioList (r : Ratio) : r ∈ ratioList := by cases r <;> decide

theorem ratioIdx_le_one (r : Ratio) : ratioIdx r ≤ ratioIdx .one := by cases r <;> decide

theorem ratioList_sorted : ratioList.Pairwise fun a b => ratioIdx a < ratioIdx b := by decide

section
variable {l : LoopLoad} {n : Nat} {r : Ratio}

theorem pickRatio_none (h : pickRatio l n = none) (hn : n ≤ ratioIdx r) : headroom l r < 1000 := by
  have hnot := List.find?_eq_none.1 h r (mem_ratioList r)
  simpa [hn] using hnot

theorem pickRatio_some (h : pickRatio l n = some r) : n ≤ ratioIdx r ∧ 1000 ≤ headroom l r := by
  simpa using List.find?_some h

/-- No smaller ratio leaves 1.0 V (02 R90). -/
theorem pickRatio_least {a : Ratio} (h : pickRatio l n = some r) (hn : n ≤ ratioIdx a) (hroom : 1000 ≤ headroom l a) :
    ratioIdx r ≤ ratioIdx a := by
  obtain ⟨-, before, after, hlist, hbefore⟩ := List.find?_eq_some_iff_append.1 h
  have hsorted := hlist ▸ ratioList_sorted
  have hmem : a ∈ before ++ r :: after := hlist ▸ mem_ratioList a
  rcases List.mem_append.1 hmem with hin | hin
  · have hnot := hbefore a hin
    simp [hn, hroom] at hnot
  · rcases List.mem_cons.1 hin with rfl | hin
    · exact Nat.le_refl _
    · exact Nat.le_of_lt ((List.pairwise_cons.1 (List.pairwise_append.1 hsorted).2.1).1 a hin)

end

/-- The ratio selected: at or above the floor, with 1.0 V or the supply itself, and the smallest such (02 R90). -/
theorem selected_acts {l : LoopLoad} {floor p : Ratio} (hp : p = (pickRatio l (ratioIdx floor)).getD .one) :
    ratioIdx floor ≤ ratioIdx p ∧ (1000 ≤ headroom l p ∨ p = .one) ∧
    ∀ a : Ratio, ratioIdx floor ≤ ratioIdx a → ratioIdx a < ratioIdx p → headroom l a < 1000 := by
  cases hpick : pickRatio l (ratioIdx floor) with
  | some r =>
    rw [hpick, Option.getD_some] at hp
    subst hp
    obtain ⟨hfloor, hroom⟩ := pickRatio_some hpick
    exact ⟨hfloor, .inl hroom, fun a ha hless => not_le.1 fun h => absurd (pickRatio_least hpick ha h) (Nat.not_le.2 hless)⟩
  | none =>
    rw [hpick, Option.getD_none] at hp
    subst hp
    exact ⟨ratioIdx_le_one _, .inr rfl, fun a ha _ => pickRatio_none hpick ha⟩

/-- PIN stands where a ratio below the floor would do (02 R96). -/
theorem pinned_iff {l : LoopLoad} {floor : Ratio} :
    pinned l floor = true ↔ ∃ a : Ratio, ratioIdx a < ratioIdx floor ∧ 1000 ≤ headroom l a := by
  unfold pinned
  cases hpick : pickRatio l 0 with
  | some r =>
    refine ⟨fun h => ⟨r, of_decide_eq_true h, (pickRatio_some hpick).2⟩, fun ⟨a, hless, hroom⟩ => decide_eq_true ?_⟩
    exact Nat.lt_of_le_of_lt (pickRatio_least hpick (Nat.zero_le _) hroom) hless
  | none =>
    refine ⟨fun h => Bool.noConfusion h, fun ⟨a, _, hroom⟩ => ?_⟩
    exact absurd hroom (not_le.2 (pickRatio_none hpick (Nat.zero_le _)))

/-! ## What the flags show -/

/-- A slice with a COMP cause. -/
def compShown (v : Bool) (x : Slice) : Slice := { x with compCause := v, flags := upd x.flags 6 (Flag.drive v) }

/-- A slice with a PIN cause. -/
def pinShown (v : Bool) (x : Slice) : Slice := { x with pinCause := v, flags := upd x.flags 5 (Flag.drive v) }

/-- A slice with a THERM cause, at a temperature. -/
def thermShown (v : Bool) (tj : Int) (x : Slice) : Slice :=
  { x with tj := tj, thermCause := v, flags := upd x.flags 4 (Flag.drive v) }

theorem upd_flag_same (fs : Vector Flag 12) (b : Fin 12) (v : Bool) : ((upd fs b (Flag.drive v))[b.val]).live = v := by
  rw [upd_same]; exact Flag.drive_live ..

section
variable (v : Bool) (x : Slice)

theorem compShown_flag : ((compShown v x).flags[6]).live = v := upd_flag_same x.flags 6 v
theorem compShown_pin : (compShown v x).flags[5] = x.flags[5] := upd_other x.flags 6 5 _ (by decide)
theorem compShown_therm : (compShown v x).flags[4] = x.flags[4] := upd_other x.flags 6 4 _ (by decide)
theorem pinShown_flag : ((pinShown v x).flags[5]).live = v := upd_flag_same x.flags 5 v
theorem pinShown_comp : (pinShown v x).flags[6] = x.flags[6] := upd_other x.flags 5 6 _ (by decide)
theorem pinShown_therm : (pinShown v x).flags[4] = x.flags[4] := upd_other x.flags 5 4 _ (by decide)
theorem thermShown_flag (tj : Int) : ((thermShown v tj x).flags[4]).live = v := upd_flag_same x.flags 4 v

variable (c : Ch) (s : State)

theorem slice_setComp : (setComp c v s).slice c = compShown v (s.slice c) := by
  unfold setComp; rw [slice_onChFlag_same, slice_onSlice_same]; rfl

theorem slice_setPin : (setPin c v s).slice c = pinShown v (s.slice c) := by
  unfold setPin; rw [slice_onChFlag_same, slice_onSlice_same]; rfl

theorem slice_therm (tj : Int) : (onChFlag c 4 (Flag.drive v) (onSlice c (fun x => { x with tj := tj, thermCause := v }) s)).slice c =
    thermShown v tj (s.slice c) := by
  rw [slice_onChFlag_same, slice_onSlice_same]; rfl

end

/-! ## The supply's events -/

section
variable {s : State} {c : Ch} {l : LoopLoad} {q : Ratio} {t : Tick}

theorem rssSelection_early (hrss : (s.slice c).rss = .running q t) (hsoon : s.now < t + 1000) : rssSelection c l s = s := by
  unfold rssSelection
  rw [hrss]
  exact if_neg (by simp [Nat.not_le.2 hsoon])

theorem rssStartStep_early (hrss : (s.slice c).rss = .starting q t) (hsoon : s.now < t + 1000) : rssStartStep c l s = s := by
  unfold rssStartStep
  rw [hrss]
  exact if_neg (by simp [Nat.not_le.2 hsoon])

variable (hruns : loopRuns s c = true)
include hruns

/-- What the selection makes of a running supply (02 R89, R90, R96–R98). -/
theorem rssSelection_due {p : Ratio} (hp : p = (pickRatio l (ratioIdx (s.sliceCfg c).floor)).getD .one)
    (hrss : (s.slice c).rss = .running q t) (hdue : t + 1000 ≤ s.now) :
    SliceStep c (setVsup l.vsupMv s) (rssSelection c l s) ∧
    (rssSelection c l s).slice c = compShown (decide (headroom l .one < 1000)) (pinShown (pinned l (s.sliceCfg c).floor)
      { s.slice c with floorUsed := (s.sliceCfg c).floor, rss := .running p s.now }) := by
  unfold rssSelection
  rw [hrss]
  dsimp only
  rw [if_pos (by simp [hruns, hdue]), ← hp]
  refine ⟨((sliceStep_onSlice ..).trans (sliceStep_setPin ..)).trans (sliceStep_judgeComp ..), ?_⟩
  exact (slice_setComp ..).trans (congrArg _ ((slice_setPin ..).trans (congrArg _ (slice_onSlice_same ..))))

/-- What a low headroom makes of a running supply (02 R91). -/
theorem headroomLow_running (hrss : (s.slice c).rss = .running q t) :
    SliceStep c (setVsup l.vsupMv s) (headroomLow c l s) ∧
    (headroomLow c l s).slice c = compShown (decide (headroom l .one < 1000)) { s.slice c with rss := .running (stepUp l q) t } := by
  unfold headroomLow
  rw [if_neg (by simp [hruns]), hrss]
  refine ⟨(sliceStep_onSlice ..).trans (sliceStep_judgeComp ..), ?_⟩
  exact (slice_setComp ..).trans (congrArg _ (slice_onSlice_same ..))

/-- What a low headroom makes of a starting supply (02 R91). -/
theorem headroomLow_starting (hrss : (s.slice c).rss = .starting q t) :
    SliceStep c (setVsup l.vsupMv s) (headroomLow c l s) ∧
    ∃ u, (headroomLow c l s).slice c =
      compShown (decide (headroom l .one < 1000)) { s.slice c with rss := .starting (stepUp l q) u } := by
  unfold headroomLow
  rw [if_neg (by simp [hruns]), hrss]
  refine ⟨(sliceStep_onSlice ..).trans (sliceStep_judgeComp ..), if stepUp l q = q then t else max t s.now, ?_⟩
  exact (slice_setComp ..).trans (congrArg _ (slice_onSlice_same ..))

/-- What a step of the start makes of the supply (02 R93). -/
theorem rssStartStep_due {p : Ratio} (hp : p = if 1000 ≤ headroom l q then q else (ratioUp q).getD q)
    (hrss : (s.slice c).rss = .starting q t) (hdue : t + 1000 ≤ s.now) :
    SliceStep c (setVsup l.vsupMv s) (rssStartStep c l s) ∧
    ((rssStartStep c l s).slice c).rss = (if 1000 ≤ headroom l p ∨ p = .one then .running p s.now else .starting p s.now) ∧
    (((rssStartStep c l s).slice c).flags[6]).live = decide (headroom l .one < 1000) := by
  have hrun : rssStartStep c l s = if 1000 ≤ headroom l p ∨ p = .one then
      setPin c (pinned l ((judgeComp c l (takeVsup l s)).slice c).floorUsed)
        (onSlice c (fun x => { x with rss := .running p s.now }) (judgeComp c l (takeVsup l s)))
      else onSlice c (fun x => { x with rss := .starting p s.now }) (judgeComp c l (takeVsup l s)) := by
    unfold rssStartStep
    rw [hrss]
    dsimp only
    rw [if_pos (by simp [hruns, hdue]), ← hp]
    rfl
  have hcomp : (judgeComp c l (takeVsup l s)).slice c = compShown (decide (headroom l .one < 1000)) (s.slice c) :=
    slice_setComp ..
  have hstep : SliceStep c (setVsup l.vsupMv s) (judgeComp c l (takeVsup l s)) := sliceStep_judgeComp ..
  rw [hrun]
  generalize judgeComp c l (takeVsup l s) = v at hcomp hstep
  by_cases hthere : 1000 ≤ headroom l p ∨ p = .one
  · rw [if_pos hthere, if_pos hthere, slice_setPin, slice_onSlice_same]
    refine ⟨(hstep.trans (sliceStep_onSlice ..)).trans (sliceStep_setPin ..), rfl, ?_⟩
    rw [pinShown_comp, hcomp]
    exact compShown_flag ..
  · rw [if_neg hthere, if_neg hthere, slice_onSlice_same]
    refine ⟨hstep.trans (sliceStep_onSlice ..), rfl, ?_⟩
    rw [hcomp]
    exact compShown_flag ..

end

/-! ## Heat -/

section
variable {s : State} {c : Ch} {tj : Int}

theorem thermalFoldBack_cool (h : tj < 150) : thermalFoldBack c tj s = s := if_neg (by simp [h])

theorem thermalRecovery_warm (h : 140 < tj) : thermalRecovery c tj s = s := if_neg (by simp [h])

variable (hfit : chFitted s.ident.part c = true)
include hfit

/-- What heat makes of a channel (02 R99, R101). -/
theorem thermalFoldBack_hot (hhot : 150 ≤ tj) : SliceStep c s (thermalFoldBack c tj s) ∧
    (thermalFoldBack c tj s).slice c = if (s.slice c).act.mode = .loop then
        compShown false (pinShown false { thermShown true tj (s.slice c) with rss := .off })
      else thermShown true tj (s.slice c) := by
  obtain ⟨v, hv⟩ : ∃ v, v = onChFlag c 4 (Flag.drive true) (onSlice c (fun x => { x with tj := tj, thermCause := true }) s) :=
    ⟨_, rfl⟩
  have hslice : v.slice c = thermShown true tj (s.slice c) := by rw [hv]; exact slice_therm ..
  have hstep : SliceStep c s v := by rw [hv]; exact (sliceStep_onSlice ..).trans (sliceStep_onChFlag ..)
  have hmode : (v.slice c).act.mode = (s.slice c).act.mode := by rw [hslice]; rfl
  have hrun : thermalFoldBack c tj s = if (v.slice c).act.mode = .loop then
      setComp c false (setPin c false (onSlice c (fun x => { x with rss := .off }) v)) else v := by
    rw [hv]
    exact if_pos (by simp [hfit, hhot])
  rw [hrun, hmode]
  by_cases hloop : (s.slice c).act.mode = .loop
  · rw [if_pos hloop, if_pos hloop, slice_setComp, slice_setPin, slice_onSlice_same, hslice]
    exact ⟨((hstep.trans (sliceStep_onSlice ..)).trans (sliceStep_setPin ..)).trans (sliceStep_setComp ..), rfl⟩
  · rw [if_neg hloop, if_neg hloop]
    exact ⟨hstep, hslice⟩

/-- What the recovery makes of a channel that was folded back (02 R100, R101). -/
theorem thermalRecovery_cool (htherm : (s.slice c).thermCause = true) (hcool : tj ≤ 140) :
    SliceStep c s (thermalRecovery c tj s) ∧ ((thermalRecovery c tj s).slice c).thermCause = false ∧
    (((thermalRecovery c tj s).slice c).flags[4]).live = false ∧ ((thermalRecovery c tj s).slice c).rss =
      if (s.slice c).act.mode = .loop ∧ (s.slice c).rss = .off ∧ (s.slice c).openTest = false then
        .starting (s.sliceCfg c).floor s.now else (s.slice c).rss := by
  obtain ⟨v, hv⟩ : ∃ v, v = onChFlag c 4 (Flag.drive false) (onSlice c (fun x => { x with tj := tj, thermCause := false }) s) :=
    ⟨_, rfl⟩
  have hslice : v.slice c = thermShown false tj (s.slice c) := by rw [hv]; exact slice_therm ..
  have hstep : SliceStep c s v := by rw [hv]; exact (sliceStep_onSlice ..).trans (sliceStep_onChFlag ..)
  have hcfg : v.sliceCfg c = s.sliceCfg c := by rw [hv]; rfl
  have hnow : v.now = s.now := by rw [hv]; rfl
  have hrun : thermalRecovery c tj s = startRss c v := by
    rw [hv]
    exact if_pos (by simp [hfit, htherm, hcool])
  rw [hrun]
  have hflag : ((thermShown false tj (s.slice c)).flags[4]).live = false := thermShown_flag ..
  have hstart : startRss c v = if (s.slice c).act.mode = .loop ∧ (s.slice c).rss = .off ∧ (s.slice c).openTest = false then
      onSlice c (fun x => { x with floorUsed := (s.sliceCfg c).floor, rss := .starting (s.sliceCfg c).floor s.now }) v
      else v := by
    unfold startRss
    dsimp only
    rw [hcfg, hnow, hslice]
    exact if_congr ⟨fun ⟨hloop, hoff, _, htested⟩ => ⟨hloop, hoff, htested⟩,
      fun ⟨hloop, hoff, htested⟩ => ⟨hloop, hoff, rfl, htested⟩⟩ rfl rfl
  rw [hstart]
  by_cases hagain : (s.slice c).act.mode = .loop ∧ (s.slice c).rss = .off ∧ (s.slice c).openTest = false
  · rw [if_pos hagain, if_pos hagain, slice_onSlice_same, hslice]
    exact ⟨hstep.trans (sliceStep_onSlice ..), rfl, hflag, rfl⟩
  · rw [if_neg hagain, if_neg hagain, hslice]
    exact ⟨hstep, rfl, hflag, rfl⟩

end

/-! ## The statement -/

/-- Settles O43: by the state of the supply and by the temperature. -/
theorem loopSupplyKeepsHeadroom : Obligations.LoopSupplyKeepsHeadroom := by
  unfold Obligations.LoopSupplyKeepsHeadroom
  intro s c
  refine ⟨fun l q t hruns => ⟨fun hrss hdue => ?_, fun hrss hsoon => does_of (congrArg finish (rssSelection_early hrss hsoon)),
    fun hrss => ?_, fun hrss => ?_, fun hrss hdue => ?_,
    fun hrss hsoon => does_of (congrArg finish (rssStartStep_early hrss hsoon))⟩,
    fun tj => ⟨fun hfit hhot => ?_, fun hcool => does_of (congrArg finish (thermalFoldBack_cool hcool)),
      fun hfit htherm hcool => ?_, fun hwarm => does_of (congrArg finish (thermalRecovery_warm hwarm))⟩⟩
  · obtain ⟨hstep, hslice⟩ := rssSelection_due hruns rfl hrss hdue
    obtain ⟨hfloor, hroom, hleast⟩ := selected_acts (l := l) (floor := (s.sliceCfg c).floor) rfl
    refine doesSo_of rfl ⟨hstep, _, by rw [hslice]; rfl, hfloor, hroom, hleast, ?_, ?_, ?_⟩
    · rw [hslice]; exact compShown_flag ..
    · rw [hslice, compShown_pin]; exact pinShown_flag ..
    · rw [hslice]; exact pinned_iff
  · obtain ⟨hstep, hslice⟩ := headroomLow_running (l := l) hruns hrss
    refine doesSo_of rfl ⟨hstep, by rw [hslice]; rfl, ?_⟩
    rw [hslice]; exact compShown_flag ..
  · obtain ⟨hstep, u, hslice⟩ := headroomLow_starting (l := l) hruns hrss
    refine doesSo_of rfl ⟨hstep, ⟨u, by rw [hslice]; rfl⟩, ?_⟩
    rw [hslice]; exact compShown_flag ..
  · obtain ⟨hstep, hrssAfter, hcomp⟩ := rssStartStep_due (l := l) hruns rfl hrss hdue
    exact doesSo_of rfl ⟨hstep, _, rfl, hrssAfter, hcomp⟩
  · obtain ⟨hstep, hslice⟩ := thermalFoldBack_hot hfit hhot
    refine doesSo_of rfl ⟨hstep, ?_⟩
    rw [hslice]
    by_cases hloop : (s.slice c).act.mode = .loop
    · rw [if_pos hloop]
      refine ⟨rfl, rfl, ?_, fun _ => ⟨rfl, ?_, compShown_flag ..⟩⟩
      · rw [compShown_therm, pinShown_therm]; exact thermShown_flag _ _ tj
      · rw [compShown_pin]; exact pinShown_flag ..
    · rw [if_neg hloop]
      exact ⟨rfl, rfl, thermShown_flag .., fun h => absurd h hloop⟩
  · exact doesSo_of rfl (thermalRecovery_cool hfit htherm hcool)

end Sys2Proof.Machine

/-! A CONVERSION'S PARTS (02, 04): flags that take their causes, what the steps between a code and the boundary leave of the
slice, and what they make of its conditions. -/

namespace Sys2Proof.Machine

/-! ## Flags that take their causes -/

/-- Flags that take their causes one after the other. -/
def driveAll (l : List (Fin 12 × Bool)) (fs : Vector Flag 12) : Vector Flag 12 :=
  l.foldl (fun fs p => upd fs p.1 (Flag.drive p.2)) fs

theorem slice_driveAll (c : Ch) (l : List (Fin 12 × Bool)) (s : State) :
    (l.foldl (fun s p => onChFlag c p.1 (Flag.drive p.2) s) s).slice c =
      { s.slice c with flags := driveAll l (s.slice c).flags } := by
  induction l generalizing s with
  | nil => rfl
  | cons p l ih => exact (ih _).trans (by rw [slice_onChFlag_same]; rfl)

theorem driveAll_other {l : List (Fin 12 × Bool)} {b : Fin 12} (h : b ∉ l.map Prod.fst) (fs : Vector Flag 12) :
    (driveAll l fs)[b.val] = fs[b.val] := by
  induction l generalizing fs with
  | nil => rfl
  | cons p l ih =>
    obtain ⟨hp, hl⟩ := not_or.1 (fun e => h (List.mem_cons.2 e))
    exact (ih hl _).trans (upd_other _ _ _ _ fun e => hp e.symm)

theorem driveAll_live {l : List (Fin 12 × Bool)} (hnodup : (l.map Prod.fst).Nodup) {b : Fin 12} {v : Bool} (h : (b, v) ∈ l)
    (fs : Vector Flag 12) : ((driveAll l fs)[b.val]).live = v := by
  induction l generalizing fs with
  | nil => exact absurd h List.not_mem_nil
  | cons p l ih =>
    obtain ⟨hnot, hl⟩ := List.nodup_cons.1 hnodup
    rcases List.mem_cons.1 h with rfl | hin
    · exact (congrArg Flag.live (driveAll_other hnot _)).trans (upd_flag_same ..)
    · exact ih hl hin _

theorem Flag.drive_latched {v : Bool} {f : Flag} (h : f.latched = true) : (Flag.drive v f).latched = true := by
  unfold Flag.drive
  split
  · exact Flag.latch_latched f
  · exact h

theorem latched_drive {fs : Vector Flag 12} {b : Fin 12} (h : (fs[b.val]).latched = true) (a : Fin 12) (v : Bool) :
    ((upd fs a (Flag.drive v))[b.val]).latched = true := by
  rw [upd_get]
  split
  · exact Flag.drive_latched h
  · exact h

theorem latched_driveAll {fs : Vector Flag 12} {b : Fin 12} (h : (fs[b.val]).latched = true) (l : List (Fin 12 × Bool)) :
    ((driveAll l fs)[b.val]).latched = true := by
  induction l generalizing fs with
  | nil => exact h
  | cons p l ih => exact ih (latched_drive h p.1 p.2)

/-- The causes that a conversion's end shows (02 R124). -/
def shownCauses (x : Slice) : List (Fin 12 × Bool) :=
  [(0, x.marks.ovr), (1, x.marks.unr), (2, x.openCause), (8, x.marks.setl), (9, x.marks.dist)]

theorem slice_convFlags (c : Ch) (s : State) : (convFlags c s).slice c =
    { s.slice c with flags := driveAll (shownCauses (s.slice c)) (s.slice c).flags } := slice_driveAll ..

/-- The causes that end with the old mode (02 R124). -/
def endedCauses : List (Fin 12 × Bool) := ([0, 1, 2, 3, 5, 6, 7, 8, 9, 11] : List (Fin 12)).map fun b => (b, false)

theorem slice_clearCauses (c : Ch) (s : State) : (clearCauses c s).slice c =
    { s.slice c with flags := driveAll endedCauses (s.slice c).flags } := by
  refine Eq.trans ?_ (slice_driveAll c endedCauses s)
  unfold endedCauses clearCauses
  rw [List.foldl_map]

theorem sliceStep_clearCauses (c : Ch) (s : State) : SliceStep c s (clearCauses c s) := by
  unfold clearCauses
  exact sliceStep_foldl c _ (fun _ _ => sliceStep_onChFlag ..) _ _

/-! ## What stays of a slice -/

/-- The code and what came with it stay; of the flags, BPIN and ACRANGE alone may change, and no latched bit is lost. -/
structure CodeKept (x y : Slice) : Prop where
  code : y.code = x.code
  codeRange : y.codeRange = x.codeRange
  prev : y.prev = x.prev
  marks : y.marks = x.marks
  tj : y.tj = x.tj
  shown : ∀ b : Fin 12, b ≠ 7 → b ≠ 11 → y.flags[b.val] = x.flags[b.val]
  latched : ∀ b : Fin 12, (x.flags[b.val]).latched = true → (y.flags[b.val]).latched = true

theorem CodeKept.trans {x y z : Slice} (h : CodeKept x y) (h' : CodeKept y z) : CodeKept x z :=
  ⟨h'.code.trans h.code, h'.codeRange.trans h.codeRange, h'.prev.trans h.prev, h'.marks.trans h.marks, h'.tj.trans h.tj,
    fun b h7 h11 => (h'.shown b h7 h11).trans (h.shown b h7 h11), fun b hb => h'.latched b (h.latched b hb)⟩

/-- The settings in force and the range stay as well. -/
structure Unmoved (x y : Slice) : Prop extends CodeKept x y where
  act : y.act = x.act
  range : y.range = x.range
  rangeDue : y.rangeDue = x.rangeDue

theorem Unmoved.refl (x : Slice) : Unmoved x x := ⟨⟨rfl, rfl, rfl, rfl, rfl, fun _ _ _ => rfl, fun _ h => h⟩, rfl, rfl, rfl⟩

theorem Unmoved.trans {x y z : Slice} (h : Unmoved x y) (h' : Unmoved y z) : Unmoved x z :=
  ⟨h.toCodeKept.trans h'.toCodeKept, h'.act.trans h.act, h'.range.trans h.range, h'.rangeDue.trans h.rangeDue⟩

section
variable (c : Ch) (s : State)

theorem unmoved_onSlice {f : Slice → Slice} (hf : ∀ x, Unmoved x (f x)) : Unmoved (s.slice c) ((onSlice c f s).slice c) := by
  rw [slice_onSlice_same]; exact hf _

theorem unmoved_onLamp (f : Lamp → Lamp) : Unmoved (s.slice c) ((onLamp c f s).slice c) :=
  unmoved_onSlice c s fun _ => ⟨⟨rfl, rfl, rfl, rfl, rfl, fun _ _ _ => rfl, fun _ h => h⟩, rfl, rfl, rfl⟩

theorem unmoved_onCond (k : Cond) (f : CondState → CondState) : Unmoved (s.slice c) ((onCond c k f s).slice c) :=
  unmoved_onSlice c s fun _ => ⟨⟨rfl, rfl, rfl, rfl, rfl, fun _ _ _ => rfl, fun _ h => h⟩, rfl, rfl, rfl⟩

theorem unmoved_foldl {α : Type} {f : State → α → State} (hf : ∀ s a, Unmoved (s.slice c) ((f s a).slice c)) (l : List α) :
    Unmoved (s.slice c) ((l.foldl f s).slice c) := by
  induction l generalizing s with
  | nil => exact .refl _
  | cons a l ih => exact (hf s a).trans (ih _)

theorem unmoved_takeLimits : Unmoved (s.slice c) ((takeLimits c s).slice c) := by
  refine (unmoved_onLamp c s _).trans (unmoved_onSlice c _ fun x => ⟨⟨rfl, rfl, rfl, rfl, rfl, fun b h7 _ => ?_, fun b h => ?_⟩,
    rfl, rfl, rfl⟩)
  · exact upd_other x.flags 7 b _ fun e => h7 e.symm
  · exact latched_drive h ..

theorem unmoved_judgeLamp (dt at_ : Nat) : Unmoved (s.slice c) ((judgeLamp c dt at_ s).slice c) := by
  unfold judgeLamp
  split
  · exact .refl _
  · have hhold : Unmoved (s.slice c) ((holdOff c s).slice c) :=
      unmoved_onSlice c s fun _ => ⟨⟨rfl, rfl, rfl, rfl, rfl, fun _ _ _ => rfl, fun _ h => h⟩, rfl, rfl, rfl⟩
    exact (hhold.trans (unmoved_foldl c _ (fun _ _ => unmoved_onCond ..) _)).trans (unmoved_onLamp ..)

theorem unmoved_lampUpdate (b : Bool) (dt at_ : Nat) : Unmoved (s.slice c) ((lampUpdate c b dt at_ s).slice c) := by
  unfold lampUpdate
  dsimp only
  split
  · exact ((unmoved_onLamp c s _).trans (unmoved_takeLimits ..)).trans (unmoved_judgeLamp ..)
  · exact (unmoved_onLamp c s _).trans (unmoved_takeLimits ..)

theorem unmoved_noteDip (q : Rat) (x : Slice) : Unmoved x (noteDip q x) := by
  rw [noteDip_eq]
  exact ⟨⟨rfl, rfl, rfl, rfl, rfl, fun _ _ _ => rfl, fun _ h => h⟩, rfl, rfl, rfl⟩

theorem unmoved_reportLamp (x : Slice) : Unmoved x (reportLamp x) := by
  unfold reportLamp
  split <;> exact ⟨⟨rfl, rfl, rfl, rfl, rfl, fun _ _ _ => rfl, fun _ h => h⟩, rfl, rfl, rfl⟩

theorem unmoved_lampCode (r : Reading) : Unmoved (s.slice c) ((lampCode c r s).slice c) := by
  unfold lampCode
  dsimp only
  split
  · refine Unmoved.trans ?_ (unmoved_onSlice c _ unmoved_reportLamp)
    split
    · exact (unmoved_onLamp ..).trans (unmoved_onLamp ..)
    · refine Unmoved.trans (Unmoved.trans ((unmoved_onLamp c s (countCode (s.slice c).marks.usable)).trans ?_) (unmoved_onLamp c _ _))
        (unmoved_lampUpdate ..)
      exact unmoved_onSlice c _ fun x => (unmoved_noteDip ..).trans (unmoved_noteDip ..)
  · exact .refl _

theorem lampCode_apart (r : Reading) (h : (s.slice c).act.mode ≠ .lamp) : lampCode c r s = s := by
  unfold lampCode
  dsimp only
  split
  · next hmode _ => exact absurd hmode h
  · rfl

theorem startRss_kept : Unmoved (s.slice c) ((startRss c s).slice c) ∧
    ((startRss c s).slice c).cond = (s.slice c).cond := by
  unfold startRss
  dsimp only
  split
  · rw [slice_onSlice_same]
    exact ⟨⟨⟨rfl, rfl, rfl, rfl, rfl, fun _ _ _ => rfl, fun _ h => h⟩, rfl, rfl, rfl⟩, rfl⟩
  · exact ⟨.refl _, rfl⟩

end

/-! ## Conditions -/

theorem cond_of_slice {u t : State} {c : Ch} (h : (t.slice c).cond = (u.slice c).cond) (k : Cond) : t.cond c k = u.cond c k := by
  unfold State.cond; rw [h]

theorem cond_judgeCond (c : Ch) (k j : Cond) (raw : Bool) (dt : Nat) (s : State) : (judgeCond c k raw dt s).cond c j =
    if k = j then CondState.judge (s.sliceCondCfg c j) raw dt s.now s.cycle (s.cond c j) else s.cond c j := by
  unfold judgeCond
  rw [cond_onCond]
  by_cases hk : k = j
  · subst hk
    simp
  · rw [if_neg fun h => hk h.2, if_neg hk]

/-- A raw state on a code hangs on the settings in force, the range of the code and the condition. -/
theorem rawOnCode_congr {u t : State} {c : Ch} {k : Cond} (hstep : SliceStep c u t) (hact : (t.slice c).act = (u.slice c).act)
    (hrange : (t.slice c).codeRange = (u.slice c).codeRange) (hcond : t.cond c k = u.cond c k) (z : Int) : rawOnCode t c k z = rawOnCode u c k z := by
  have hcfg : t.sliceCondCfg c k = u.sliceCondCfg c k := by
    unfold State.sliceCondCfg; rw [sliceCfg_congr hstep.live hstep.dies]
  unfold rawOnCode hystOf
  dsimp only
  rw [hcfg, hcond, hact, hrange]

theorem unmoved_judgeCond (c : Ch) (k : Cond) (raw : Bool) (dt : Nat) (s : State) :
    Unmoved (s.slice c) ((judgeCond c k raw dt s).slice c) := unmoved_onCond ..

/-- The judging of a threshold condition on a code. -/
def judgeThreshold (c : Ch) (z : Int) (dt : Nat) (s : State) (k : Cond) : State := judgeCond c k (rawOnCode s c k z) dt s

theorem judgeThreshold_others (c : Ch) (z : Int) (dt : Nat) (s : State) (k j : Cond) (h : j ≠ k) :
    (judgeThreshold c z dt s k).cond c j = s.cond c j := by
  unfold judgeThreshold
  rw [cond_judgeCond, if_neg fun e => h e.symm]

theorem nodup_thresholdConds : thresholdConds.Nodup := by decide

theorem sliceCondCfg_step {c : Ch} {u t : State} (h : SliceStep c u t) (k : Cond) : t.sliceCondCfg c k = u.sliceCondCfg c k := by
  unfold State.sliceCondCfg; rw [sliceCfg_congr h.live h.dies]

theorem SliceStep.cycle {c : Ch} {u t : State} (h : SliceStep c u t) : t.cycle = u.cycle := by rw [h.rest]

section
variable (c : Ch) (z : Int) (dt : Nat) (s : State)

theorem judgeThresholds_out {k : Cond} (h : k ∉ thresholdConds) :
    (thresholdConds.foldl (judgeThreshold c z dt) s).cond c k = s.cond c k :=
  foldl_out (get := fun (w : State) (j : Cond) => w.cond c j) (fun w q p hne => judgeThreshold_others c z dt w q p hne) h s

/-- Each threshold condition is judged once, on what it was before. -/
theorem judgeThresholds_in {k : Cond} (h : k ∈ thresholdConds) :
    (thresholdConds.foldl (judgeThreshold c z dt) s).cond c k =
      CondState.judge (s.sliceCondCfg c k) (rawOnCode s c k z) dt s.now s.cycle (s.cond c k) := by
  obtain ⟨before, hsame, hlast⟩ := foldl_once (get := fun (w : State) (j : Cond) => w.cond c j)
    (fun w q p hne => judgeThreshold_others c z dt w q p hne) nodup_thresholdConds h s
  have hstep : SliceStep c s (before.foldl (judgeThreshold c z dt) s) :=
    sliceStep_foldl c _ (fun _ _ => sliceStep_judgeCond ..) _ _
  have hkept : Unmoved (s.slice c) ((before.foldl (judgeThreshold c z dt) s).slice c) :=
    unmoved_foldl c s (fun _ _ => unmoved_judgeCond ..) _
  generalize before.foldl (judgeThreshold c z dt) s = v at hsame hlast hstep hkept
  refine hlast.trans ?_
  unfold judgeThreshold
  rw [cond_judgeCond, if_pos rfl, rawOnCode_congr hstep hkept.act hkept.codeRange hsame, sliceCondCfg_step hstep, hstep.now, hstep.cycle, hsame]

end

/-! ## The judging of a code -/

section
variable {c : Ch} {s : State}

theorem judgeCode_unusable (h : (s.slice c).marks.usable = false) : judgeCode c s = s := if_pos (.inl h)

variable (husable : (s.slice c).marks.usable = true) (hon : (s.slice c).act.mode ≠ .off)
include husable hon

/-- A usable code in a state in which FAULT has been judged. -/
theorem judgeCode_usable {u : State} (hu : u = judgeCond c .fault (s.slice c).faultRaw (s.slice c).period s) (z : Int)
    (hcode : (s.slice c).code = some z) (hlamp : (s.slice c).act.mode ≠ .lamp) : judgeCode c s =
    onSlice c (fun y => { y with value := some (engOf (s.slice c).act (s.slice c).codeRange (z : Rat)) })
      (thresholdConds.foldl (judgeThreshold c z (s.slice c).period) u) := by
  unfold judgeCode
  dsimp only
  rw [if_neg (by simp [husable, hon]), ← hu, hcode]
  exact if_neg hlamp

theorem judgeCode_codeless {u : State} (hu : u = judgeCond c .fault (s.slice c).faultRaw (s.slice c).period s)
    (hcode : (s.slice c).code = none) : judgeCode c s = u := by
  unfold judgeCode
  dsimp only
  rw [if_neg (by simp [husable, hon]), ← hu, hcode]

/-- What a usable code outside LAMP mode makes of the conditions (04 R206). -/
theorem judgeCode_conds (hlamp : (s.slice c).act.mode ≠ .lamp) :
    (judgeCode c s).cond c .fault = CondState.judge (s.sliceCondCfg c .fault) (s.slice c).faultRaw (s.slice c).period
      s.now s.cycle (s.cond c .fault) ∧
    (∀ z : Int, (s.slice c).code = some z → ∀ k ∈ thresholdConds, (judgeCode c s).cond c k =
      CondState.judge (s.sliceCondCfg c k) (rawOnCode s c k z) (s.slice c).period s.now s.cycle (s.cond c k)) ∧
    ∀ k : Cond, k ∉ thresholdConds → k ≠ .fault → (judgeCode c s).cond c k = s.cond c k := by
  obtain ⟨u, hu⟩ : ∃ u, u = judgeCond c .fault (s.slice c).faultRaw (s.slice c).period s := ⟨_, rfl⟩
  have hfault : u.cond c .fault = CondState.judge (s.sliceCondCfg c .fault) (s.slice c).faultRaw (s.slice c).period
      s.now s.cycle (s.cond c .fault) := by rw [hu, cond_judgeCond, if_pos rfl]
  have hother : ∀ k, k ≠ .fault → u.cond c k = s.cond c k := fun k hk => by
    rw [hu, cond_judgeCond, if_neg fun e => hk e.symm]
  have hstep : SliceStep c s u := by rw [hu]; exact sliceStep_judgeCond ..
  have hkept : Unmoved (s.slice c) (u.slice c) := by rw [hu]; exact unmoved_judgeCond ..
  cases hcode : (s.slice c).code with
  | none =>
    rw [judgeCode_codeless husable hon hu hcode]
    exact ⟨hfault, fun z hz => by simp at hz, fun k _ hk => hother k hk⟩
  | some z =>
    rw [judgeCode_usable husable hon hu z hcode hlamp]
    have hvalue : ∀ (v : State) (q : Option Rat) (k : Cond), (onSlice c (fun y => { y with value := q }) v).cond c k = v.cond c k :=
      fun v q k => cond_of_slice (by rw [slice_onSlice_same]) k
    refine ⟨?_, fun y hy k hk => ?_, fun k hk hne => ?_⟩
    · rw [hvalue, judgeThresholds_out _ _ _ _ (by decide)]
      exact hfault
    · obtain rfl := Option.some.inj hy
      have hne : k ≠ .fault := fun e => absurd (e ▸ hk) (by decide)
      rw [hvalue, judgeThresholds_in _ _ _ _ hk, rawOnCode_congr hstep hkept.act hkept.codeRange (hother k hne), sliceCondCfg_step hstep,
        hstep.now, hstep.cycle, hother k hne]
    · rw [hvalue, judgeThresholds_out _ _ _ _ hk]
      exact hother k hne

end

theorem unmoved_judgeCode (c : Ch) (s : State) : Unmoved (s.slice c) ((judgeCode c s).slice c) := by
  unfold judgeCode
  dsimp only
  split
  · exact .refl _
  · have hfault := unmoved_judgeCond c .fault (s.slice c).faultRaw (s.slice c).period s
    split
    · exact hfault
    · split
      · exact hfault
      · exact (hfault.trans (unmoved_foldl c _ (fun _ _ => unmoved_judgeCond ..) _)).trans
          (unmoved_onSlice c _ fun _ => ⟨⟨rfl, rfl, rfl, rfl, rfl, fun _ _ _ => rfl, fun _ h => h⟩, rfl, rfl, rfl⟩)

end Sys2Proof.Machine

/-! CONVERSIONS AND MODE CHANGES (02 R42, R49–R73, R78, R901, R902; 04 R200, R206): the boundary with and without a mode change,
the conversion, and the statement. -/

namespace Sys2Proof.Machine

/-! ## The boundary without a mode change -/

theorem takeRange_code (new : Range) (x : Slice) : takeRange new x =
    { x with
      rangeDue := false, rangeLocked := false, act := { x.act with range := new }
      lockout := (takeRange new x).lockout, range := (takeRange new x).range, grounds := (takeRange new x).grounds } := by
  unfold takeRange
  dsimp only
  split <;> split <;> rfl

section
variable (c : Ch) (s : State)

theorem codeKept_of_onSlice {f : Slice → Slice} (hf : ∀ x, CodeKept x (f x)) : CodeKept (s.slice c) ((onSlice c f s).slice c) := by
  rw [slice_onSlice_same]; exact hf _

/-- The end of an ACRANGE cause leaves the code, the range and the conditions. -/
theorem endAcrange_kept : SliceStep c s (endAcrange c s) ∧ CodeKept (s.slice c) ((endAcrange c s).slice c) ∧
    ((endAcrange c s).slice c).range = (s.slice c).range ∧ ((endAcrange c s).slice c).cond = (s.slice c).cond := by
  unfold endAcrange
  split
  · exact ⟨.refl c s, (Unmoved.refl _).toCodeKept, rfl, rfl⟩
  · rw [slice_onChFlag_same, slice_onSlice_same]
    refine ⟨(sliceStep_onSlice ..).trans (sliceStep_onChFlag ..), ⟨rfl, rfl, rfl, rfl, rfl, fun b _ h11 => ?_, fun b h => ?_⟩,
      rfl, rfl⟩
    · exact upd_other (s.slice c).flags 11 b _ fun e => h11 e.symm
    · exact latched_drive h ..

end

/-- The boundary of a slice that no mode change waits for: a RANGE write or an automatic switch, then the rest (02 R55, R67,
R70). -/
theorem boundary_kept {c : Ch} {s : State} (auto : Option Range) (hstaged : (s.sliceCfg c).staged = none)
    (hmode : (s.sliceCfg c).mode = (s.slice c).act.mode) :
    SliceStep c s (boundary c auto s) ∧ CodeKept (s.slice c) ((boundary c auto s).slice c) ∧
    ((boundary c auto s).slice c).cond = (s.slice c).cond ∧
    ((s.slice c).rangeDue = false → ((boundary c auto s).slice c).range = auto.getD (s.slice c).range) := by
  obtain ⟨v, hv⟩ : ∃ v, v = if (s.slice c).rangeDue then onSlice c (takeRange (s.sliceCfg c).set.range) s
      else auto.elim s fun r => onSlice c (switchTo r) s := ⟨_, rfl⟩
  have hrun : boundary c auto s = endAcrange c (onSlice c (takeRest (s.sliceCfg c) (rateInForce v c) v.now) v) := by
    unfold boundary
    dsimp only
    rw [hv, if_neg (by simp [hstaged, hmode])]
    cases auto <;> rfl
  have hranged : SliceStep c s v ∧ CodeKept (s.slice c) (v.slice c) ∧ (v.slice c).cond = (s.slice c).cond ∧
      ((s.slice c).rangeDue = false → (v.slice c).range = auto.getD (s.slice c).range) := by
    rw [hv]
    cases hdue : (s.slice c).rangeDue with
    | true =>
      rw [if_pos rfl, slice_onSlice_same, takeRange_code]
      exact ⟨sliceStep_onSlice .., ⟨rfl, rfl, rfl, rfl, rfl, fun _ _ _ => rfl, fun _ h => h⟩, rfl, fun h => Bool.noConfusion h⟩
    | false =>
      rw [if_neg Bool.false_ne_true]
      cases auto with
      | none => exact ⟨.refl c s, (Unmoved.refl _).toCodeKept, rfl, fun _ => rfl⟩
      | some r =>
        rw [Option.elim_some, slice_onSlice_same]
        exact ⟨sliceStep_onSlice .., ⟨rfl, rfl, rfl, rfl, rfl, fun _ _ _ => rfl, fun _ h => h⟩, rfl, fun _ => rfl⟩
  rw [hrun]
  clear hrun hv
  obtain ⟨hstep, hcode, hcond, hrange⟩ := hranged
  generalize rateInForce v c = rate
  have hrest : CodeKept (v.slice c) ((onSlice c (takeRest (s.sliceCfg c) rate v.now) v).slice c) :=
    codeKept_of_onSlice c v fun _ => ⟨rfl, rfl, rfl, rfl, rfl, fun _ _ _ => rfl, fun _ h => h⟩
  have hrestStep := sliceStep_onSlice c (takeRest (s.sliceCfg c) rate v.now) v
  have hrestRange : ((onSlice c (takeRest (s.sliceCfg c) rate v.now) v).slice c).range = (v.slice c).range := by
    rw [slice_onSlice_same]; rfl
  have hrestCond : ((onSlice c (takeRest (s.sliceCfg c) rate v.now) v).slice c).cond = (v.slice c).cond := by
    rw [slice_onSlice_same]; rfl
  generalize onSlice c (takeRest (s.sliceCfg c) rate v.now) v = t at hrest hrestStep hrestRange hrestCond ⊢
  obtain ⟨hendStep, hendCode, hendRange, hendCond⟩ := endAcrange_kept c t
  exact ⟨(hstep.trans hrestStep).trans hendStep, (hcode.trans hrest).trans hendCode, hendCond.trans (hrestCond.trans hcond),
    fun hdue => hendRange.trans (hrestRange.trans (hrange hdue))⟩

/-! ## The boundary of a mode change -/

theorem linkOf_of_die {s : State} {c d : Ch} (h : dieOf c = dieOf d) : s.linkOf c = s.linkOf d := by
  unfold State.linkOf; simp only [h]

/-- The settings that another channel's slice works from stay. -/
theorem sliceCfg_onSliceCfg_other {c d : Ch} (hne : d ≠ c) (f : ChCfg → ChCfg) (s : State) :
    (onSliceCfg c f s).sliceCfg d = s.sliceCfg d := by
  unfold onSliceCfg
  cases hheld : (s.linkOf c).held with
  | none =>
    have hlink : ({ s with live := { s.live with ch := upd s.live.ch c f } } : State).linkOf d = s.linkOf d := rfl
    have hcfg : ({ s with live := { s.live with ch := upd s.live.ch c f } } : State).chCfg d = s.chCfg d :=
      upd_other s.live.ch c d f fun e => hne e.symm
    simp only [State.sliceCfg, hlink, hcfg]
  | some hd =>
    have hlive : (onHold (dieOf c) (fun h => { h with cfgs := upd h.cfgs (slotOf c) f }) s).chCfg d = s.chCfg d := rfl
    by_cases hdie : dieOf c = dieOf d
    · have hslot : slotOf c ≠ slotOf d := by
        simp only [dieOf, slotOf, ne_eq, Fin.ext_iff] at hdie hne ⊢
        omega
      have hlink : (onHold (dieOf c) (fun h => { h with cfgs := upd h.cfgs (slotOf c) f }) s).linkOf d =
          { s.linkOf d with held := (s.linkOf d).held.map fun h => { h with cfgs := upd h.cfgs (slotOf c) f } } := by
        rw [← linkOf_of_die hdie, ← linkOf_of_die hdie]; exact upd_same ..
      have hown : (s.linkOf d).held = some hd := by rw [← linkOf_of_die hdie]; exact hheld
      simp only [State.sliceCfg, hlink, hown, Option.map_some]
      exact upd_other _ _ _ _ hslot
    · have hlink : (onHold (dieOf c) (fun h => { h with cfgs := upd h.cfgs (slotOf c) f }) s).linkOf d = s.linkOf d :=
        upd_other _ _ _ _ hdie
      simp only [State.sliceCfg, hlink, hlive]

/-- The slice of a channel that has entered a mode, with its trip wire and without the causes of the old mode. -/
def entered (cfg : ChCfg) (rate : Fin 11) (now : Tick) (x : Slice) : Slice :=
  { wired (enterMode cfg rate now x) with flags := driveAll endedCauses (wired (enterMode cfg rate now x)).flags }

theorem latched_entered {cfg : ChCfg} {rate : Fin 11} {now : Tick} {x : Slice} {b : Fin 12} (h : (x.flags[b.val]).latched = true) :
    ((entered cfg rate now x).flags[b.val]).latched = true :=
  latched_driveAll (latched_drive h 10 (enterMode cfg rate now x).wire) endedCauses

/-- A condition that the new mode lacks is false, with its timer at zero (02 R902). -/
theorem holdMissing_cond {m : Mode} {k : Cond} (h : condExists k m = false) (x : Slice) :
    (holdMissing m x).cond[(condIdx k).val] = (x.cond[(condIdx k).val]).hold := by
  unfold holdMissing
  have hk : condAt (condIdx k) = k := by cases k <;> rfl
  simp only [Vector.getElem_ofFn, Fin.eta, hk, h, Bool.false_eq_true, if_false]

/-- What a boundary with a mode change leaves (02 R49, R902). -/
theorem boundaryMode_entered {c : Ch} {s : State} {auto : Option Range}
    (h : (s.sliceCfg c).staged ≠ none ∨ (s.sliceCfg c).mode ≠ (s.slice c).act.mode) {w : State} (hw : w = boundary c auto s) :
    SliceStep c { s with live := w.live, dies := w.dies } w ∧ w.sliceCfg c = (s.sliceCfg c).settled ∧
    (∀ d : Ch, d ≠ c → w.sliceCfg d = s.sliceCfg d) ∧
    w.slice c = entered (s.sliceCfg c).settled (rateInForce s c) s.now (s.slice c) := by
  obtain ⟨u, hu⟩ : ∃ u, u = onSliceCfg c (fun _ => (s.sliceCfg c).settled) s := ⟨_, rfl⟩
  have hmoves : ((s.sliceCfg c).staged.isSome || decide ((s.sliceCfg c).mode ≠ (s.slice c).act.mode)) = true := by
    rcases h with h | h
    · simp [Option.isSome_iff_ne_none.2 h]
    · simp [h]
  have hrun : w = clearCauses c (wireStep c (enterMode (s.sliceCfg c).settled (rateInForce u c) u.now) u) := by
    rw [hw, hu]; exact if_pos hmoves
  have hframe : u = { s with live := u.live, dies := u.dies } := by rw [hu]; exact onSliceCfg_frame ..
  have hown : u.sliceCfg c = (s.sliceCfg c).settled := by rw [hu]; exact sliceCfg_onSliceCfg ..
  have hothers : ∀ d : Ch, d ≠ c → u.sliceCfg d = s.sliceCfg d := fun d hd => by rw [hu]; exact sliceCfg_onSliceCfg_other hd ..
  have hslice : u.slice c = s.slice c := by rw [hframe]; rfl
  have hrate : rateInForce u c = rateInForce s c := by
    have hpower : u.power = s.power := by rw [hframe]
    unfold rateInForce
    rw [hown, hpower]
    rfl
  have hstep : SliceStep c u w := by rw [hrun]; exact (sliceStep_wireStep ..).trans (sliceStep_clearCauses ..)
  have hlive : w.live = u.live := hstep.live
  have hdies : w.dies = u.dies := hstep.dies
  refine ⟨?_, (sliceCfg_congr hlive hdies c).trans hown, fun d hd => (sliceCfg_congr hlive hdies d).trans (hothers d hd), ?_⟩
  · rw [hlive, hdies, ← hframe]; exact hstep
  · have hnow : u.now = s.now := by rw [hframe]
    rw [hrun, slice_clearCauses, wireStep_wired, hslice, hrate, hnow]
    rfl

/-! ## The conversion -/

/-- A code formed and shown, before it is judged. -/
def converted (c : Ch) (y : Slice) (s : State) : State := convFlags c (onSlice c (fun _ => y) s)

section
variable {c : Ch} {s : State} {y : Slice}

theorem converted_slice : (converted c y s).slice c = { y with flags := driveAll (shownCauses y) y.flags } := by
  unfold converted; rw [slice_convFlags, slice_onSlice_same]

theorem sliceStep_converted : SliceStep c s (converted c y s) := (sliceStep_onSlice ..).trans (sliceStep_convFlags ..)

theorem converted_eq (r : Reading) (hy : y = convert r s.now (s.slice c)) :
    convFlags c (onSlice c (convert r s.now) s) = converted c y s :=
  congrArg (convFlags c) (onSlice_congr hy.symm)

theorem nodup_shownCauses (y : Slice) : ((shownCauses y).map Prod.fst).Nodup := by
  have hkeys : (shownCauses y).map Prod.fst = [0, 1, 2, 8, 9] := rfl
  rw [hkeys]
  decide

/-- A flag that a conversion's end drives shows its cause. -/
theorem shown_of {z : Slice} (hz : CodeKept ((converted c y s).slice c) z) {b : Fin 12} {v : Bool} (hin : (b, v) ∈ shownCauses y)
    (h7 : b ≠ 7) (h11 : b ≠ 11) : (z.flags[b.val]).live = v := by
  rw [hz.shown b h7 h11, converted_slice]
  exact driveAll_live (nodup_shownCauses y) hin _

end

/-- The state that a conversion leaves for its boundary, where the mode is not OFF. -/
def judged (c : Ch) (r : Reading) (u : State) : State := startRss c (lampCode c r (judgeCode c u))

theorem judged_kept (c : Ch) (r : Reading) (u : State) : SliceStep c u (judged c r u) ∧
    Unmoved (u.slice c) ((judged c r u).slice c) :=
  ⟨((sliceStep_judgeCode ..).trans (sliceStep_lampCode ..)).trans (sliceStep_startRss ..),
    ((unmoved_judgeCode ..).trans (unmoved_lampCode ..)).trans (startRss_kept ..).1⟩

/-- Outside LAMP mode the conditions are the ones judged on the code. -/
theorem judged_conds {c : Ch} {r : Reading} {u : State} (hlamp : (u.slice c).act.mode ≠ .lamp) :
    ((judged c r u).slice c).cond = ((judgeCode c u).slice c).cond := by
  have hmode : ((judgeCode c u).slice c).act.mode ≠ .lamp := by rw [(unmoved_judgeCode c u).act]; exact hlamp
  unfold judged
  rw [(startRss_kept ..).2, lampCode_apart _ _ _ hmode]

theorem conversionEnd_off {c : Ch} {r : Reading} {s : State} (hruns : sliceRuns s c = true) (hoff : (s.slice c).act.mode = .off) :
    conversionEnd c r s = boundary c none (onSlice c (fun x => { x with tj := r.tj }) s) := by
  unfold conversionEnd
  rw [if_neg (by simp [hruns]), if_pos hoff]

theorem conversionEnd_on {c : Ch} {r : Reading} {s : State} {y : Slice} (hruns : sliceRuns s c = true)
    (hon : (s.slice c).act.mode ≠ .off) (hy : y = convert r s.now (s.slice c)) :
    conversionEnd c r s = boundary c (rangeTest ((converted c y s).slice c)) (judged c r (converted c y s)) := by
  rw [← converted_eq r hy]
  unfold conversionEnd
  rw [if_neg (by simp [hruns]), if_neg hon]
  rfl

/-- The range test of AUTO outside LAMP mode (02 R66, R68). -/
theorem rangeTest_auto {x : Slice} {z : Int} (hlamp : x.act.mode ≠ .lamp) (hauto : x.act.range = .auto) (hcode : x.code = some z)
    (hsetl : x.marks.setl = false) (hfree : x.lockout = 0) : rangeTest x =
    if 116736 ≤ z.natAbs then rangeUp x.act.mode x.range
    else if z.natAbs ≤ 9830 then rangeDown x.act.mode x.range else none := by
  unfold rangeTest
  rw [hcode]
  dsimp only
  rw [if_neg (by simp [hauto, hsetl, hfree]), if_neg (c := x.act.mode = .lamp ∧ _) fun h => hlamp h.1]

section
variable {s : State} {c : Ch} {r : Reading} {y : Slice} (hruns : sliceRuns s c = true)
  (hstaged : (s.sliceCfg c).staged = none) (hmode : (s.sliceCfg c).mode = (s.slice c).act.mode)
include hruns hstaged hmode

/-- A conversion in OFF mode leaves the code, its markers and the conditions (02 R51). -/
theorem conversionEnd_off_acts (hoff : (s.slice c).act.mode = .off) : SliceStep c s (conversionEnd c r s) ∧
    ((conversionEnd c r s).slice c).code = (s.slice c).code ∧ ((conversionEnd c r s).slice c).marks = (s.slice c).marks ∧
    ((conversionEnd c r s).slice c).cond = (s.slice c).cond := by
  rw [conversionEnd_off hruns hoff]
  have hheat := sliceStep_onSlice c (fun x => { x with tj := r.tj }) s
  have hslice := slice_onSlice_same c (fun x => { x with tj := r.tj }) s
  generalize onSlice c (fun x => { x with tj := r.tj }) s = u at hheat hslice
  have hcfg : u.sliceCfg c = s.sliceCfg c := sliceCfg_congr hheat.live hheat.dies c
  obtain ⟨hstep, hkept, hcond, -⟩ := boundary_kept (s := u) (c := c) none (by rw [hcfg]; exact hstaged)
    (by rw [hcfg, hslice]; exact hmode)
  refine ⟨hheat.trans hstep, hkept.code.trans ?_, hkept.marks.trans ?_, hcond.trans ?_⟩ <;> rw [hslice]

variable (hon : (s.slice c).act.mode ≠ .off) (hy : y = convert r s.now (s.slice c))
include hon hy

/-- What a conversion makes of its slice where no mode change waits: the code and its range stand as they were formed, the
flags show it, and outside LAMP mode the conditions are the ones judged on it. -/
theorem conversionEnd_on_acts : SliceStep c s (conversionEnd c r s) ∧
    CodeKept ((converted c y s).slice c) ((conversionEnd c r s).slice c) ∧
    ((s.slice c).act.mode ≠ .lamp →
      ((conversionEnd c r s).slice c).cond = ((judgeCode c (converted c y s)).slice c).cond) ∧
    ((s.slice c).rangeDue = false →
      ((conversionEnd c r s).slice c).range = (rangeTest ((converted c y s).slice c)).getD (s.slice c).range) := by
  rw [conversionEnd_on hruns hon hy]
  have hslice : (converted c y s).slice c = _ := converted_slice
  have hconv : SliceStep c s (converted c y s) := sliceStep_converted
  generalize converted c y s = u at hslice hconv ⊢
  obtain ⟨hjudged, hunmoved⟩ := judged_kept c r u
  have hconds := judged_conds (c := c) (r := r) (u := u)
  generalize judged c r u = v at hjudged hunmoved hconds ⊢
  have hall := hconv.trans hjudged
  have hcfg : v.sliceCfg c = s.sliceCfg c := sliceCfg_congr hall.live hall.dies c
  have hact : (v.slice c).act = (s.slice c).act := by rw [hunmoved.act, hslice, hy]; rfl
  have hdue : (v.slice c).rangeDue = (s.slice c).rangeDue := by rw [hunmoved.rangeDue, hslice, hy]; rfl
  have hrange : (v.slice c).range = (s.slice c).range := by rw [hunmoved.range, hslice, hy]; rfl
  obtain ⟨hstep, hkept, hcond, hto⟩ := boundary_kept (s := v) (c := c) (rangeTest (u.slice c)) (by rw [hcfg]; exact hstaged)
    (by rw [hcfg, hact]; exact hmode)
  refine ⟨hall.trans hstep, hunmoved.toCodeKept.trans hkept, fun hlamp => hcond.trans (hconds ?_), fun hnot => ?_⟩
  · rw [hslice, hy]; exact hlamp
  · rw [hto (hdue.trans hnot), hrange]

end

/-! ## The statement -/

/-- A code formed where no mode change waits: what the conversion's end shows of it. -/
theorem conversion_forms {s : State} {c : Ch} {r : Reading} {x y z : Slice} (hy : y = convert r s.now x)
    (hz : CodeKept ((converted c y s).slice c) z) : z.code = (formCode x r).1 ∧ z.codeRange = x.range ∧
    z.prev = some (codedMeans x.range r.next) ∧
    z.marks = Marks.mk (formCode x r).2.1 (formCode x r).2.2 (x.grounds || x.openTest || x.newRate)
      ((r.saturated || x.prevSat) && !(formCode x r).2.1 && !(formCode x r).2.2) ∧
    (z.flags[0]).live = y.marks.ovr ∧ (z.flags[1]).live = y.marks.unr ∧ (z.flags[2]).live = y.openCause ∧
    (z.flags[8]).live = y.marks.setl ∧ (z.flags[9]).live = y.marks.dist := by
  have hslice : (converted c y s).slice c = _ := converted_slice
  refine ⟨hz.code.trans ?_, hz.codeRange.trans ?_, hz.prev.trans ?_, hz.marks.trans ?_, ?_, ?_, ?_, ?_, ?_⟩
  · rw [hslice, hy]; rfl
  · rw [hslice, hy]; rfl
  · rw [hslice, hy]; rfl
  · rw [hslice, hy]; rfl
  · exact shown_of (b := 0) hz (by simp [shownCauses]) (by decide) (by decide)
  · exact shown_of (b := 1) hz (by simp [shownCauses]) (by decide) (by decide)
  · exact shown_of (b := 2) hz (by simp [shownCauses]) (by decide) (by decide)
  · exact shown_of (b := 8) hz (by simp [shownCauses]) (by decide) (by decide)
  · exact shown_of (b := 9) hz (by simp [shownCauses]) (by decide) (by decide)

/-- What the judging of a code in a converted slice makes of its conditions. -/
theorem converted_judged {s : State} {c : Ch} {r : Reading} {x y : Slice} (hx : x = s.slice c) (hy : y = convert r s.now x)
    (hon : x.act.mode ≠ .off) (hlamp : x.act.mode ≠ .lamp) {w : State}
    (hw : (w.slice c).cond = ((judgeCode c (converted c y s)).slice c).cond) :
    (y.marks.usable = false → (w.slice c).cond = x.cond) ∧
    (y.marks.usable = true →
      w.cond c .fault = CondState.judge (s.sliceCondCfg c .fault)
        ((convFlags c (onSlice c (fun _ => y) s)).slice c).faultRaw x.period s.now s.cycle (s.cond c .fault) ∧
      (∀ z : Int, y.code = some z → ∀ k ∈ thresholdConds,
        w.cond c k = CondState.judge (s.sliceCondCfg c k) (rawOnCode (onSlice c (fun _ => y) s) c k z)
          x.period s.now s.cycle (s.cond c k)) ∧
      (∀ k : Cond, k ∉ thresholdConds → k ≠ .fault → w.cond c k = s.cond c k)) := by
  have hslice : (converted c y s).slice c = _ := converted_slice
  have hstep : SliceStep c s (converted c y s) := sliceStep_converted
  have hcond : ∀ k, (converted c y s).cond c k = s.cond c k := cond_of_slice (by rw [hslice, hy, ← hx]; rfl)
  have hact : ((converted c y s).slice c).act = x.act := by rw [hslice, hy]; rfl
  have hperiod : ((converted c y s).slice c).period = x.period := by unfold Slice.period; rw [hact]
  refine ⟨fun hnot => ?_, fun husable => ?_⟩
  · rw [hw, judgeCode_unusable (by rw [hslice]; exact hnot), hslice, hy]; rfl
  · have hwCond := cond_of_slice hw
    obtain ⟨hfault, hthr, hothers⟩ := judgeCode_conds (c := c) (s := converted c y s) (by rw [hslice]; exact husable)
      (by rw [hact]; exact hon) (by rw [hact]; exact hlamp)
    have hraw : ∀ (k : Cond) (z : Int), rawOnCode (converted c y s) c k z = rawOnCode (onSlice c (fun _ => y) s) c k z := by
      intro k z
      have hflags := slice_convFlags c (onSlice c (fun _ => y) s)
      exact rawOnCode_congr (sliceStep_convFlags ..) (by rw [hflags]) (by rw [hflags]) (cond_of_slice (by rw [hflags]) k) z
    refine ⟨?_, fun z hcode k hk => ?_, fun k hk hne => ?_⟩
    · rw [hwCond, hfault, hperiod, sliceCondCfg_step hstep, hstep.now, hstep.cycle, hcond]
      rfl
    · rw [hwCond, hthr z (by rw [hslice]; exact hcode) k hk, hperiod, sliceCondCfg_step hstep, hstep.now, hstep.cycle, hcond, hraw]
    · rw [hwCond, hothers k hk hne, hcond]

/-- An automatic step of the range outside LAMP mode (02 R66–R68). -/
theorem converted_ranged {s : State} {c : Ch} {r : Reading} {x y : Slice} (hy : y = convert r s.now x)
    (hlamp : x.act.mode ≠ .lamp) {z : Int} (hauto : x.act.range = .auto) (hcode : y.code = some z) (hsetl : y.marks.setl = false)
    (hfree : x.lockout ≤ 1) : (rangeTest ((converted c y s).slice c)).getD x.range =
    if 116736 ≤ z.natAbs then (rangeUp x.act.mode x.range).getD x.range
    else if z.natAbs ≤ 9830 then (rangeDown x.act.mode x.range).getD x.range else x.range := by
  have hslice : (converted c y s).slice c = _ := converted_slice
  have hact : ((converted c y s).slice c).act = x.act := by rw [hslice, hy]; rfl
  have hrange : ((converted c y s).slice c).range = x.range := by rw [hslice, hy]; rfl
  have hlock : ((converted c y s).slice c).lockout = x.lockout - 1 := by rw [hslice, hy]; rfl
  rw [rangeTest_auto (z := z) (by rw [hact]; exact hlamp) (by rw [hact]; exact hauto) (by rw [hslice]; exact hcode)
    (by rw [hslice]; exact hsetl) (by rw [hlock]; omega), hact, hrange]
  split
  · rfl
  · split <;> rfl

/-- A mode change at the end of the conversion in hand: the slice as it stood before the boundary enters its new mode. -/
theorem conversionEnd_moves {s : State} {c : Ch} {r : Reading} (hruns : sliceRuns s c = true) :
    ∃ (v : State) (auto : Option Range), conversionEnd c r s = boundary c auto v ∧ SliceStep c s v ∧
      (v.slice c).act = (s.slice c).act ∧ (v.slice c).tj = r.tj ∧
      ∀ b : Fin 12, (((s.slice c).flags[b.val]).latched = true) → (((v.slice c).flags[b.val]).latched = true) := by
  by_cases hoff : (s.slice c).act.mode = .off
  · refine ⟨_, _, conversionEnd_off hruns hoff, sliceStep_onSlice .., ?_⟩
    rw [slice_onSlice_same]
    exact ⟨rfl, rfl, fun _ h => h⟩
  · obtain ⟨y, hy⟩ : ∃ y, y = convert r s.now (s.slice c) := ⟨_, rfl⟩
    have hslice : (converted c y s).slice c = _ := converted_slice
    obtain ⟨hjudged, hunmoved⟩ := judged_kept c r (converted c y s)
    refine ⟨_, _, conversionEnd_on hruns hoff hy, sliceStep_converted.trans hjudged, hunmoved.act.trans ?_,
      hunmoved.tj.trans ?_, fun b h => hunmoved.latched b ?_⟩
    · rw [hslice, hy]; rfl
    · rw [hslice, hy]; rfl
    · rw [hslice]
      refine latched_driveAll ?_ _
      rw [hy]
      exact h

/-- What a mode change makes of its slice (02 R42, R49, R78, R902). -/
theorem conversionEnd_enters {s : State} {c : Ch} {r : Reading} {cfg : ChCfg} (hruns : sliceRuns s c = true)
    (hcfg : cfg = s.sliceCfg c) (hmoves : cfg.staged ≠ none ∨ cfg.mode ≠ (s.slice c).act.mode) {w : State}
    (hw : w = conversionEnd c r s) : SliceStep c { s with live := w.live, dies := w.dies } w ∧
    w.sliceCfg c = cfg.settled ∧ (∀ d : Ch, d ≠ c → w.sliceCfg d = s.sliceCfg d) ∧
    ∃ x : Slice, w.slice c = entered cfg.settled (rateInForce s c) s.now x ∧ x.tj = r.tj ∧
      ∀ b : Fin 12, ((s.slice c).flags[b.val]).latched = true → (x.flags[b.val]).latched = true := by
  obtain ⟨v, auto, hrun, hstep, hact, htj, hlatched⟩ := conversionEnd_moves (r := r) hruns
  have hsame : ∀ d, v.sliceCfg d = s.sliceCfg d := sliceCfg_congr hstep.live hstep.dies
  have hrate : rateInForce v c = rateInForce s c := by unfold rateInForce; rw [hsame, hstep.power]
  obtain ⟨hmoved, hown, hothers, hslice⟩ := boundaryMode_entered (s := v) (c := c) (by rw [hsame, hact, ← hcfg]; exact hmoves)
    (hw.trans hrun)
  rw [hsame, ← hcfg, hrate, hstep.now] at hslice
  rw [hsame, ← hcfg] at hown
  refine ⟨?_, hown, fun d hd => (hothers d hd).trans (hsame d), v.slice c, hslice, htj, hlatched⟩
  refine SliceStep.trans (v := { v with live := w.live, dies := w.dies }) ⟨?_, hstep.others, hstep.queues⟩ hmoved
  exact congrArg (fun u : State => { u with live := w.live, dies := w.dies }) hstep.rest

/-- Settles O41: a conversion without and with a mode change that waits for its end. -/
theorem conversionsMakeCodes : Obligations.ConversionsMakeCodes := by
  unfold Obligations.ConversionsMakeCodes
  refine ⟨fun s c r x y hruns hx hy hstaged hmode => ⟨fun hon => ?_, fun hoff => ?_⟩, fun s c r cfg hruns hcfg hmoves => ?_⟩
  · have hyOwn : y = convert r s.now (s.slice c) := hx ▸ hy
    obtain ⟨hstep, hkept, hconds, hrange⟩ := conversionEnd_on_acts hruns hstaged (hx ▸ hmode) (hx ▸ hon) hyOwn
    refine doesSo_of rfl ⟨hstep, ?_⟩
    obtain ⟨hcode, hin, hprev, hmarks, hovr, hunr, hopen, hsetl, hdist⟩ := conversion_forms hy hkept
    refine ⟨hcode, hin, hprev, hmarks, hovr, hunr, hopen, hsetl, hdist, fun hlamp => ?_⟩
    obtain ⟨hnot, husable⟩ := converted_judged hx hy hon hlamp (hconds (hx ▸ hlamp))
    refine ⟨hnot, husable, fun z hdue hauto hz hfree hlock => ?_⟩
    rw [hrange (hx ▸ hdue), ← hx]
    exact converted_ranged hy hlamp hauto hz hfree hlock
  · subst hx
    exact doesSo_of rfl (conversionEnd_off_acts hruns hstaged hmode hoff)
  · refine doesSo_of rfl ?_
    obtain ⟨hstep, hown, hothers, x, hslice, htj, hlatched⟩ := conversionEnd_enters (r := r) hruns hcfg hmoves rfl
    refine ⟨hstep, hown, hothers, ?_⟩
    have hcond : ∀ k, (conversionEnd c r s).cond c k = (entered cfg.settled (rateInForce s c) s.now x).cond[(condIdx k).val] :=
      fun k => by rw [← hslice]; rfl
    rw [hslice, hown]
    refine ⟨rfl, rfl, rfl, rfl, rfl, htj, fun k hk => ?_, fun b h => latched_entered (hlatched b h)⟩
    have hheld : (conversionEnd c r s).cond c k = (x.cond[(condIdx k).val]).hold := (hcond k).trans (holdMissing_cond hk _)
    rw [hheld]
    exact ⟨rfl, rfl, rfl⟩

end Sys2Proof.Machine

/-! EDGES (03 R151–R158, R904): what an edge and the end of an on-band make of the lamp proving, and the statement. -/

namespace Sys2Proof.Machine

/-! ## What a change of the lock leaves -/

theorem lamp_setRaw (c : Ch) (k : Cond) (raw : Bool) (s : State) : ((setRaw c k raw s).slice c).lamp = (s.slice c).lamp := by
  unfold setRaw
  split
  · exact slice_onCond_lamp ..
  · split
    · exact slice_onCond_lamp ..
    · rfl

theorem contribute_lamp (x : Slice) : (contribute x).lamp = x.lamp := by rw [contribute_eq]

theorem lamp_relock (c : Ch) (f : Lamp → Lamp) (s : State) : ((relock c f s).slice c).lamp = f (s.slice c).lamp := by
  have hwire : ((wireStep c (fun x => contribute { x with lamp := f x.lamp }) s).slice c).lamp = f (s.slice c).lamp := by
    rw [wireStep_wired]; exact contribute_lamp _
  unfold relock
  dsimp only
  split
  · exact (lamp_setRaw ..).trans hwire
  · exact hwire

/-! ## Candidates -/

/-- The dark time before an edge reaches what a candidate needs (03 R154). -/
abbrev darkEnough (cfg : ChCfg) (at_ : Tick) (l : Lamp) : Prop :=
  ∃ t, l.darkSince = some t ∧ t + candidateDark cfg.char cfg.edgetol ≤ at_

theorem tryCandidate_lock (cfg : ChCfg) (at_ : Tick) (l : Lamp) :
    (tryCandidate cfg at_ l).lock = if darkEnough cfg at_ l then .confirm else .seek := by
  unfold tryCandidate darkEnough
  dsimp only
  cases hdark : l.darkSince with
  | none => rw [if_neg (by simp)]
  | some t =>
    by_cases hlong : t + candidateDark cfg.char cfg.edgetol ≤ at_
    · exact (congrArg Lamp.lock (if_pos hlong)).trans (if_pos ⟨t, rfl, hlong⟩).symm
    · exact (congrArg Lamp.lock (if_neg hlong)).trans (if_neg fun ⟨u, hu, hle⟩ => hlong (Option.some.inj hu ▸ hle)).symm

theorem tryCandidate_base (cfg : ChCfg) (at_ : Tick) (l : Lamp) : (tryCandidate cfg at_ l).base = l.base := by
  unfold tryCandidate
  dsimp only
  split
  · split <;> rfl
  · rfl

/-! ## The on-edge -/

/-- The lamp proving once an on-edge has been judged: the dark time is over and the edge noted (03 R151, R154, R183). -/
def edgeDone (l : Lamp) (at_ : Tick) (x : Lamp) : Lamp :=
  { x with darkSince := none, edgeSince := l.clockAt at_, side := { x.side with judged := true } }

section
variable {cfg : ChCfg} {at_ now : Tick} {l : Lamp}

theorem lampOnEdge_steady (hlock : l.lock = .steady) : lampOnEdge cfg at_ now l = edgeDone l at_ l := by
  unfold lampOnEdge; rw [hlock]; rfl

theorem lampOnEdge_seek (hlock : l.lock = .seek) : lampOnEdge cfg at_ now l = edgeDone l at_ (tryCandidate cfg at_ l) := by
  unfold lampOnEdge; rw [hlock]; rfl

theorem lampOnEdge_confirm (hlock : l.lock = .confirm) : lampOnEdge cfg at_ now l =
    if inBand cfg.char l.timing.edgetol l.flash at_ then
      if l.flash.toConfirm ≤ 1 then edgeDone l at_ { meet cfg at_ l with lock := .locked, unlockedSince := none }
      else edgeDone l at_ { l with flash := { l.flash with edge := some at_ } }
    else edgeDone l at_ (tryCandidate cfg at_ l) := by
  unfold lampOnEdge; rw [hlock]; rfl

theorem lampOnEdge_locked (hlock : l.lock = .locked) : lampOnEdge cfg at_ now l =
    if inBand cfg.char l.timing.edgetol l.flash at_ then edgeDone l at_ (meet cfg at_ l)
    else if inBand cfg.char cfg.edgetol (l.flash.after cfg.char) at_ then edgeDone l at_ (meet cfg at_ (advance cfg l))
    else edgeDone l at_ (tryCandidate cfg at_ (unlock now l)) := by
  unfold lampOnEdge; rw [hlock]; rfl

/-- However an on-edge is judged, it ends the dark time, is noted, and leaves the baseline. -/
theorem lampOnEdge_done : ∃ x : Lamp, lampOnEdge cfg at_ now l = edgeDone l at_ x ∧ x.base = l.base := by
  cases hlock : l.lock with
  | steady => exact ⟨_, lampOnEdge_steady hlock, rfl⟩
  | seek => exact ⟨_, lampOnEdge_seek hlock, tryCandidate_base ..⟩
  | confirm =>
    rw [lampOnEdge_confirm hlock]
    split
    · split
      · exact ⟨_, rfl, rfl⟩
      · exact ⟨_, rfl, rfl⟩
    · exact ⟨_, rfl, tryCandidate_base ..⟩
  | locked =>
    rw [lampOnEdge_locked hlock]
    split
    · exact ⟨_, rfl, rfl⟩
    · split
      · exact ⟨_, rfl, rfl⟩
      · exact ⟨_, rfl, tryCandidate_base ..⟩

theorem lampOnEdge_confirm_lock (hlock : l.lock = .confirm) : (lampOnEdge cfg at_ now l).lock =
    if inBand cfg.char l.timing.edgetol l.flash at_ = true then (if l.flash.toConfirm ≤ 1 then .locked else .confirm)
    else if darkEnough cfg at_ l then .confirm else .seek := by
  rw [lampOnEdge_confirm hlock]
  split
  · split
    · rfl
    · exact hlock
  · exact tryCandidate_lock ..

theorem lampOnEdge_lost (hlock : l.lock = .locked) (hthis : inBand cfg.char l.timing.edgetol l.flash at_ = false)
    (hnext : inBand cfg.char cfg.edgetol (l.flash.after cfg.char) at_ = false) :
    (lampOnEdge cfg at_ now l).lock = if darkEnough cfg at_ l then .confirm else .seek := by
  rw [lampOnEdge_locked hlock, if_neg (by simp [hthis]), if_neg (by simp [hnext])]
  exact tryCandidate_lock cfg at_ (unlock now l)

end

/-! ## The end of an on-band -/

theorem lampBandEnd_confirm {cfg : ChCfg} {l : Lamp} (hlock : l.lock = .confirm) :
    (lampBandEnd cfg l).lock = if l.flash.edge = none then .seek else .confirm := by
  unfold lampBandEnd
  rw [hlock]
  cases hedge : l.flash.edge with
  | some t => rfl
  | none => rfl

theorem lampBandEnd_other {cfg : ChCfg} {l : Lamp} (hlock : l.lock ≠ .confirm) : (lampBandEnd cfg l).lock = l.lock := by
  unfold lampBandEnd
  split
  · exact absurd ‹_› hlock
  · split <;> rfl
  · rfl

theorem lampBandEnd_lock (cfg : ChCfg) (l : Lamp) :
    (lampBandEnd cfg l).lock = if l.lock = .confirm ∧ l.flash.edge = none then .seek else l.lock := by
  by_cases hlock : l.lock = .confirm
  · rw [lampBandEnd_confirm hlock]
    simp [hlock]
  · rw [lampBandEnd_other hlock, if_neg fun h => hlock h.1]

/-! ## The events -/

section
variable {s : State} {c : Ch} {at_ : Tick}

theorem onEdge_taken (hruns : lampRuns s c = true) (hfresh : (s.slice c).lamp.fresh = true)
    (hcross : (s.slice c).lamp.crossed (s.slice c).ac true at_ = true) :
    onEdge c at_ s = relock c (lampOnEdge (s.sliceCfg c) at_ s.now) s := if_pos (by simp [hruns, hfresh, hcross])

theorem offEdge_taken (hruns : lampRuns s c = true) (hfresh : (s.slice c).lamp.fresh = true)
    (hcross : (s.slice c).lamp.crossed (s.slice c).ac false at_ = true) :
    offEdge c at_ s = onLamp c (fun l => { l with darkSince := some at_, side := { l.side with judged := true } }) s :=
  if_pos (by simp [hruns, hfresh, hcross])

theorem onEdge_passed
    (h : (s.slice c).lamp.fresh = false ∨ (s.slice c).lamp.crossed (s.slice c).ac true at_ = false) : onEdge c at_ s = s := by
  refine if_neg ?_
  rcases h with h | h <;> simp [h]

theorem offEdge_passed
    (h : (s.slice c).lamp.fresh = false ∨ (s.slice c).lamp.crossed (s.slice c).ac false at_ = false) : offEdge c at_ s = s := by
  refine if_neg ?_
  rcases h with h | h <;> simp [h]

variable {e : Tick} (he : e = (s.slice c).lamp.flash.due +
  onBand (s.sliceCfg c).char (s.slice c).lamp.timing.edgetol (s.slice c).lamp.flash.idx)
include he

theorem onBandEnd_due (hruns : flashRuns s c = true) (hdue : e ≤ s.now) (hrise : (s.slice c).lamp.risePending e = false) :
    onBandEnd c s = relock c (lampBandEnd (s.sliceCfg c)) s := by
  unfold onBandEnd
  dsimp only
  rw [← he]
  exact if_pos (by simp [hruns, hdue, hrise])

theorem onBandEnd_early (h : s.now < e ∨ (s.slice c).lamp.risePending e = true) : onBandEnd c s = s := by
  unfold onBandEnd
  dsimp only
  rw [← he]
  refine if_neg ?_
  rcases h with h | h
  · simp [Nat.not_le.2 h]
  · simp [h]

end

/-! ## The statement -/

/-- Settles O45: an edge by the state of the lock, and the end of an on-band. -/
theorem edgesLockCharacters : Obligations.EdgesLockCharacters := by
  unfold Obligations.EdgesLockCharacters
  intro s c at_ l cfg hruns hl hcfg
  subst hl hcfg
  refine ⟨fun hfresh hcross => ?_, fun hfresh hcross => does_of (congrArg finish (offEdge_taken hruns hfresh hcross)),
    fun hpassed => does_of (congrArg finish (onEdge_passed hpassed)),
    fun hpassed => does_of (congrArg finish (offEdge_passed hpassed)),
    fun e hchar he => ⟨fun hdue hrise => ?_, fun hearly => does_of (congrArg finish (onBandEnd_early he hearly))⟩⟩
  · refine doesSo_of (congrArg finish (onEdge_taken hruns hfresh hcross)) ?_
    obtain ⟨x, hdone, hbase⟩ := lampOnEdge_done (cfg := s.sliceCfg c) (at_ := at_) (now := s.now) (l := (s.slice c).lamp)
    rw [lamp_relock]
    refine ⟨sliceStep_relock .., by rw [hdone]; rfl, by rw [hdone]; rfl, by rw [hdone]; exact hbase, fun hlock => ?_,
      fun hlock => ?_, fun hlock => ?_, fun hlock hin => ?_, fun hlock hthis hnext => ?_⟩
    · rw [lampOnEdge_steady hlock]; exact hlock
    · rw [lampOnEdge_seek hlock]; exact tryCandidate_lock (s.sliceCfg c) at_ (s.slice c).lamp
    · exact lampOnEdge_confirm_lock hlock
    · rw [lampOnEdge_locked hlock, if_pos hin]; exact ⟨hlock, rfl⟩
    · exact lampOnEdge_lost hlock hthis hnext
  · have hflash : flashRuns s c = true := by simp [flashRuns, hruns, hchar]
    refine doesSo_of (congrArg finish (onBandEnd_due he hflash hdue hrise)) ⟨sliceStep_relock .., ?_⟩
    rw [lamp_relock]
    exact lampBandEnd_lock ..

end Sys2Proof.Machine

/-! THE WINDOWS OF A LOCKED LAMP (03 R145, R159, R160, R172, R180, R183, R184): raw states set apart from an update, and what
each window and clock does. -/

namespace Sys2Proof.Machine

/-! ## Raw states set apart from an update -/

theorem judge_raw {cfg : CondCfg} (hen : cfg.en = true) (raw : Bool) (dt now cycle : Nat) (y : CondState) :
    (CondState.judge cfg raw dt now cycle y).raw = raw := by
  unfold CondState.judge
  rw [if_neg (by simp [hen])]
  dsimp only
  generalize (if raw ≠ y.raw ∨ raw = y.on then 0 else y.timer + dt) = timer
  split
  · cases raw <;> rfl
  · rfl

/-- One condition of a channel may have its raw state set. -/
structure RawSet (c : Ch) (k : Cond) (u t : State) : Prop where
  step : SliceStep c u t
  lamp : (t.slice c).lamp = (u.slice c).lamp
  others : ∀ j, j ≠ k → t.cond c j = u.cond c j

theorem RawSet.refl (c : Ch) (k : Cond) (u : State) : RawSet c k u u := ⟨.refl c u, rfl, fun _ _ => rfl⟩

section
variable (c : Ch) (k : Cond) (raw : Bool) (s : State)

theorem rawSet_setRaw : RawSet c k s (setRaw c k raw s) where
  step := sliceStep_setRaw ..
  lamp := lamp_setRaw ..
  others j hj := by
    unfold setRaw
    split
    · rw [cond_judgeCond, if_neg fun e => hj e.symm]
    · split
      · rw [cond_onCond, if_neg fun e => hj e.2.symm]
      · rfl

theorem rawSet_ite (p : Prop) [Decidable p] : RawSet c k s (if p then setRaw c k raw s else s) := by
  split
  · exact rawSet_setRaw ..
  · exact .refl ..

variable {c k raw s} (hen : (s.sliceCondCfg c k).en = true)
include hen

theorem setRaw_raw : ((setRaw c k raw s).cond c k).raw = raw := by
  unfold setRaw
  rw [if_pos hen]
  split
  · rw [cond_judgeCond, if_pos rfl]
    exact judge_raw hen ..
  · rw [cond_onCond, if_pos ⟨rfl, rfl⟩]
    split
    · exact Eq.symm ‹_›
    · rfl

theorem rawSet_ite_raw {p : Prop} [Decidable p] (hp : p) : ((if p then setRaw c k raw s else s).cond c k).raw = raw := by
  rw [if_pos hp]; exact setRaw_raw hen

end

/-! ## The expected-on window -/

theorem cond_wireStep {c : Ch} {f : Slice → Slice} {s : State} (hf : (f (s.slice c)).cond = (s.slice c).cond) (k : Cond) :
    (wireStep c f s).cond c k = s.cond c k :=
  cond_of_slice (by rw [wireStep_wired]; exact hf) k

/-- The window that opens (03 R159, R172). -/
def openedWindow (cfg : ChCfg) (x : Slice) (dod : Bool) : OnWindow :=
  { opens := openTime cfg x
    closes := x.lamp.flash.anchor + onLen cfg.char x.lamp.flash.idx - offBand cfg.char x.lamp.timing.edgetol x.lamp.flash.idx
    darkOrDim := dod }

/-- A flash of which the on-band is over gives way to the next one; the lock and the window stay (03 R158; log 166). -/
theorem advanced_kept (cfg : ChCfg) (x : Slice) :
    (if x.lamp.flash.bandOver then { x with lamp := advance cfg x.lamp } else x).lamp.lock = x.lamp.lock ∧
    (if x.lamp.flash.bandOver then { x with lamp := advance cfg x.lamp } else x).lamp.onWin = x.lamp.onWin := by
  split <;> exact ⟨rfl, rfl⟩

section
variable {s : State} {c : Ch} {q : Rat}

theorem expectedOnWindowOpen_early (h : s.now < openTime (s.sliceCfg c) (s.slice c)) : expectedOnWindowOpen c q s = s :=
  if_neg (by simp [Nat.not_le.2 h])

/-- The window opens, and the lock stays (03 R159). -/
theorem expectedOnWindowOpen_due (hruns : flashRuns s c = true) (hlock : (s.slice c).lamp.lock = .locked)
    (hopen : (s.slice c).lamp.flash.opened = false) (hdue : openTime (s.sliceCfg c) (s.slice c) ≤ s.now) :
    SliceStep c s (expectedOnWindowOpen c q s) ∧ ((expectedOnWindowOpen c q s).slice c).lamp.lock = .locked ∧
    ((expectedOnWindowOpen c q s).slice c).lamp.onWin = some (openedWindow (s.sliceCfg c) (s.slice c) (darkOrDim s c)) := by
  unfold expectedOnWindowOpen
  dsimp only
  rw [if_pos (by simp [hruns, hlock, hopen, hdue])]
  refine ⟨sliceStep_wireStep .., ?_⟩
  rw [wireStep_wired]
  refine ⟨(advanced_kept ..).1.trans ?_, (advanced_kept ..).2.trans ?_⟩
  · rw [contribute_lamp]; exact hlock
  · rw [contribute_lamp]; rfl

variable {o : OnWindow} (ho : (s.slice c).lamp.onWin = some o)
include ho

theorem expectedOnWindowClose_early (h : s.now < o.closes) : expectedOnWindowClose c s = s := by
  unfold expectedOnWindowClose
  rw [ho]
  exact if_neg (by simp [Nat.not_le.2 h])

/-- The window closes: DARK and DIM end raw where it held clear of them, and the baseline learns from it (03 R172, R180). -/
theorem expectedOnWindowClose_due (hruns : flashRuns s c = true) (hdue : o.closes ≤ s.now) :
    SliceStep c s (expectedOnWindowClose c s) ∧ ((expectedOnWindowClose c s).slice c).lamp.onWin = none ∧
    (0 < o.usable → o.darkHeld = true → (s.sliceCondCfg c .dark).en = true →
      ((expectedOnWindowClose c s).cond c .dark).raw = false) ∧
    (0 < o.usable → o.dimHeld = true → (s.sliceCondCfg c .dim).en = true →
      ((expectedOnWindowClose c s).cond c .dim).raw = false) ∧
    ((expectedOnWindowClose c s).slice c).lamp.base = learnFrom (s.sliceCfg c)
      { o with darkOrDim := o.darkOrDim || darkOrDim s c } (o.closes - o.opens) (s.slice c).lamp.base := by
  obtain ⟨u, hu⟩ : ∃ u, u = if 0 < o.usable ∧ o.darkHeld = true then setRaw c .dark false s else s := ⟨_, rfl⟩
  obtain ⟨v, hv⟩ : ∃ v, v = if 0 < o.usable ∧ o.dimHeld = true then setRaw c .dim false u else u := ⟨_, rfl⟩
  have hdark : RawSet c .dark s u := by rw [hu]; exact rawSet_ite ..
  have hdim : RawSet c .dim u v := by rw [hv]; exact rawSet_ite ..
  have hdarkRaw : 0 < o.usable → o.darkHeld = true → (s.sliceCondCfg c .dark).en = true → (v.cond c .dark).raw = false := by
    intro husable hheld hen
    rw [hdim.others .dark (by decide), hu]
    exact rawSet_ite_raw hen ⟨husable, hheld⟩
  have hdimRaw : 0 < o.usable → o.dimHeld = true → (s.sliceCondCfg c .dim).en = true → (v.cond c .dim).raw = false := by
    intro husable hheld hen
    rw [hv]
    exact rawSet_ite_raw (by rw [sliceCondCfg_step hdark.step]; exact hen) ⟨husable, hheld⟩
  have hlamp : (v.slice c).lamp = (s.slice c).lamp := hdim.lamp.trans hdark.lamp
  unfold expectedOnWindowClose
  rw [ho]
  dsimp only
  rw [if_pos (by simp [hruns, hdue]), ← hu, ← hv, cond_wireStep rfl, cond_wireStep rfl, wireStep_wired]
  refine ⟨(hdark.step.trans hdim.step).trans (sliceStep_wireStep ..), rfl, hdarkRaw, hdimRaw, ?_⟩
  rw [← hlamp]
  rfl

end

/-! ## What the baseline learns -/

section
variable {cfg : ChCfg} {o : OnWindow} {dod : Bool} {len : Nat} {base : Rat}

theorem learnFrom_unlearnt (h : cfg.learn ≠ .on ∨ o.usable = 0 ∨ o.darkOrDim = true ∨ dod = true ∨ o.codes < 2 * o.badCodes) :
    learnFrom cfg { o with darkOrDim := o.darkOrDim || dod } len base = base := by
  refine if_pos ?_
  rcases h with h | h | h | h | h
  · exact .inl h
  · exact .inr (.inl h)
  · exact .inr (.inr (.inl (by simp [h])))
  · exact .inr (.inr (.inl (by simp [h])))
  · exact .inr (.inr (.inr h))

theorem learnFrom_learnt (hon : cfg.learn = .on) (husable : 0 < o.usable) (hclear : o.darkOrDim = false) (hnow : dod = false)
    (hgood : 2 * o.badCodes ≤ o.codes) : learnFrom cfg { o with darkOrDim := o.darkOrDim || dod } len base =
    if base = 0 then o.sum / (o.usable : Rat)
    else base + (o.sum / (o.usable : Rat) - base) * ((len : Rat) / 1000000) / 3600 := by
  refine if_neg ?_
  rintro (h | h | h | h)
  · exact h hon
  · exact absurd h (Nat.pos_iff_ne_zero.1 husable)
  · simp [hclear, hnow] at h
  · exact absurd hgood (Nat.not_le.2 h)

end

/-! ## The expected-off window -/

section
variable {s : State} {c : Ch}

theorem expectedOffWindowOpen_due (hruns : flashRuns s c = true) {a b : Tick} (hspan : (s.slice c).lamp.offDue = some (a, b))
    (hlock : (s.slice c).lamp.lock = .locked) (hdue : a ≤ s.now) : expectedOffWindowOpen c s =
    onLamp c (fun l => { l with offDue := none, offWin := some { opens := a, closes := b } }) s := by
  unfold expectedOffWindowOpen
  dsimp only
  rw [hspan]
  exact if_pos (by simp [hruns, hlock, hdue])

variable {o : OffWindow} (ho : (s.slice c).lamp.offWin = some o)
include ho

theorem expectedOffWindowClose_early (h : s.now < o.closes) : expectedOffWindowClose c s = s := by
  unfold expectedOffWindowClose
  rw [ho]
  exact if_neg (by simp [Nat.not_le.2 h])

/-- The window closes: STUCK ends raw where it stayed low (03 R180). -/
theorem expectedOffWindowClose_due (hruns : flashRuns s c = true) (hdue : o.closes ≤ s.now) :
    SliceStep c s (expectedOffWindowClose c s) ∧ ((expectedOffWindowClose c s).slice c).lamp.offWin = none ∧
    (0 < o.usable → o.low = true → (s.sliceCondCfg c .stuck).en = true →
      ((expectedOffWindowClose c s).cond c .stuck).raw = false) := by
  obtain ⟨u, hu⟩ : ∃ u, u = if 0 < o.usable ∧ o.low = true then setRaw c .stuck false s else s := ⟨_, rfl⟩
  have hstuck : RawSet c .stuck s u := by rw [hu]; exact rawSet_ite ..
  unfold expectedOffWindowClose
  rw [ho]
  dsimp only
  rw [if_pos (by simp [hruns, hdue]), ← hu]
  refine ⟨hstuck.step.trans (sliceStep_onLamp ..), by rw [slice_onLamp_same], fun husable hlow hen => ?_⟩
  have hcond : (onLamp c (fun l => { l with offWin := none }) u).cond c .stuck = u.cond c .stuck :=
    cond_of_slice (by rw [slice_onLamp_same]) _
  rw [hcond, hu]
  exact rawSet_ite_raw hen ⟨husable, hlow⟩

variable {t : Tick} (hlit : o.litSince = some t)
include hlit

theorem stuckOnlateExpiry_due (hruns : flashRuns s c = true) (hfresh : (s.slice c).lamp.fresh = true)
    (hdue : t + stuckOnlate (s.slice c) < (s.slice c).lamp.clock) : stuckOnlateExpiry c s = setRaw c .stuck true s := by
  unfold stuckOnlateExpiry
  rw [ho]
  dsimp only
  rw [hlit]
  exact if_pos (by simp [hruns, hfresh, hdue])

theorem stuckOnlateExpiry_early
    (h : (s.slice c).lamp.fresh = false ∨ (s.slice c).lamp.clock ≤ t + stuckOnlate (s.slice c)) : stuckOnlateExpiry c s = s := by
  unfold stuckOnlateExpiry
  rw [ho]
  dsimp only
  rw [hlit]
  refine if_neg ?_
  rcases h with h | h
  · simp [h]
  · simp [Nat.not_lt.2 h]

end

/-! ## The clocks of two periods -/

section
variable {s : State} {c : Ch}

theorem twoPeriodExpiry_passed
    (h : (s.slice c).lamp.fresh = false ∨ (s.slice c).lamp.lock = .locked ∨ (s.slice c).lamp.lock = .steady) :
    twoPeriodExpiry c s = s := by
  refine if_neg ?_
  rcases h with h | h | h <;> simp [h]

/-- The clocks judge CHAR, DARK and STUCK, each where it has run out (03 R180, R183, R184). -/
theorem twoPeriodExpiry_due (hruns : flashRuns s c = true) (hfresh : (s.slice c).lamp.fresh = true)
    (hlock : (s.slice c).lamp.lock = .seek ∨ (s.slice c).lamp.lock = .confirm) {l : Lamp} (hl : l = (s.slice c).lamp)
    {p : Nat} (hp : p = 2 * periodLen (s.sliceCfg c).char) : SliceStep c s (twoPeriodExpiry c s) ∧
    ((twoPeriodExpiry c s).slice c).lamp = l ∧
    (∀ t : Tick, l.unlockedSince = some t → t + p < l.clock → (s.sliceCondCfg c .char).en = true →
      ((twoPeriodExpiry c s).cond c .char).raw = true) ∧
    (l.edgeSince + p ≤ l.clock → (s.sliceCondCfg c .dark).en = true → ((twoPeriodExpiry c s).cond c .dark).raw = true) ∧
    (l.clock < l.edgeSince + p → (twoPeriodExpiry c s).cond c .dark = s.cond c .dark) ∧
    (∀ t : Tick, l.litSince = some t → t + p ≤ l.clock → (s.sliceCondCfg c .stuck).en = true →
      ((twoPeriodExpiry c s).cond c .stuck).raw = true) := by
  obtain ⟨u, hu⟩ : ∃ u, u = if l.unlockedSince.any (fun t => decide (t + p < l.clock)) = true then setRaw c .char true s else s :=
    ⟨_, rfl⟩
  obtain ⟨v, hv⟩ : ∃ v, v = if decide (l.edgeSince + p ≤ l.clock) = true then setRaw c .dark true u else u := ⟨_, rfl⟩
  obtain ⟨w, hw⟩ : ∃ w, w = if l.litSince.any (fun t => decide (t + p ≤ l.clock)) = true then setRaw c .stuck true v else v :=
    ⟨_, rfl⟩
  have hrun : twoPeriodExpiry c s = w := by
    rw [hw, hv, hu, hl, hp]
    exact if_pos (by simpa [hruns, hfresh] using hlock)
  have hchar : RawSet c .char s u := by rw [hu]; exact rawSet_ite ..
  have hdark : RawSet c .dark u v := by rw [hv]; exact rawSet_ite ..
  have hstuck : RawSet c .stuck v w := by rw [hw]; exact rawSet_ite ..
  rw [hrun]
  refine ⟨(hchar.step.trans hdark.step).trans hstuck.step, (hstuck.lamp.trans (hdark.lamp.trans hchar.lamp)).trans hl.symm,
    fun t ht hlong hen => ?_, fun hlong hen => ?_, fun hshort => ?_, fun t ht hlong hen => ?_⟩
  · rw [hstuck.others .char (by decide), hdark.others .char (by decide), hu]
    exact rawSet_ite_raw hen (by simp [ht, hlong])
  · rw [hstuck.others .dark (by decide), hv]
    exact rawSet_ite_raw (by rw [sliceCondCfg_step hchar.step]; exact hen) (decide_eq_true hlong)
  · rw [hstuck.others .dark (by decide), hv, if_neg (by simp [Nat.not_le.2 hshort])]
    exact hchar.others .dark (by decide)
  · rw [hw]
    exact rawSet_ite_raw (by rw [sliceCondCfg_step hdark.step, sliceCondCfg_step hchar.step]; exact hen) (by simp [ht, hlong])

end

end Sys2Proof.Machine

/-! HALF-CYCLES AND THE BASELINE (03 R141–R145, R166, R172–R176): what an update of the lamp value and the envelope leave of
the half-cycles, the events, and the statement. -/

namespace Sys2Proof.Machine

/-! ## What stays of the half-cycles -/

/-- The half-cycles, the lamp value and ACRANGE stay. -/
structure HalfKept (x y : Slice) : Prop where
  half : y.lamp.half = x.lamp.half
  value : y.lamp.value = x.lamp.value
  acrange : y.flags[11] = x.flags[11]

theorem HalfKept.refl (x : Slice) : HalfKept x x := ⟨rfl, rfl, rfl⟩

theorem HalfKept.trans {x y z : Slice} (h : HalfKept x y) (h' : HalfKept y z) : HalfKept x z :=
  ⟨h'.half.trans h.half, h'.value.trans h.value, h'.acrange.trans h.acrange⟩

section
variable (c : Ch) (s : State)

theorem halfKept_onSlice {f : Slice → Slice} (hf : ∀ x, HalfKept x (f x)) : HalfKept (s.slice c) ((onSlice c f s).slice c) := by
  rw [slice_onSlice_same]; exact hf _

theorem halfKept_onLamp {f : Lamp → Lamp} (hhalf : ∀ l, (f l).half = l.half) (hvalue : ∀ l, (f l).value = l.value) :
    HalfKept (s.slice c) ((onLamp c f s).slice c) := halfKept_onSlice c s fun _ => ⟨hhalf _, hvalue _, rfl⟩

theorem halfKept_foldl {α : Type} {f : State → α → State} (hf : ∀ s a, HalfKept (s.slice c) ((f s a).slice c)) (l : List α) :
    HalfKept (s.slice c) ((l.foldl f s).slice c) := by
  induction l generalizing s with
  | nil => exact .refl _
  | cons a l ih => exact (hf s a).trans (ih _)

theorem halfKept_takeLimits : HalfKept (s.slice c) ((takeLimits c s).slice c) := by
  refine HalfKept.trans ?_ (halfKept_onSlice c _ fun x => ⟨rfl, rfl, ?_⟩)
  · exact halfKept_onLamp c s (fun _ => rfl) fun _ => rfl
  · exact upd_other x.flags 7 11 _ (by decide)

theorem halfKept_judgeLamp (dt at_ : Nat) : HalfKept (s.slice c) ((judgeLamp c dt at_ s).slice c) := by
  unfold judgeLamp
  split
  · exact .refl _
  · have hhold : HalfKept (s.slice c) ((holdOff c s).slice c) := halfKept_onSlice c s fun _ => ⟨rfl, rfl, rfl⟩
    have hjudge : ∀ (u : State) (p : Cond × Bool), HalfKept (u.slice c) ((judgeCond c p.1 p.2 dt u).slice c) := fun u p =>
      halfKept_onSlice c u fun _ => ⟨rfl, rfl, rfl⟩
    exact (hhold.trans (halfKept_foldl c _ hjudge _)).trans (halfKept_onLamp c _ (fun _ => rfl) fun _ => rfl)

theorem halfKept_lampUpdate (b : Bool) (dt at_ : Nat) : HalfKept (s.slice c) ((lampUpdate c b dt at_ s).slice c) := by
  have hlimits : HalfKept (s.slice c) ((takeLimits c (onLamp c (fun l => { l with fresh := b }) s)).slice c) :=
    HalfKept.trans (halfKept_onLamp c s (f := fun l => { l with fresh := b }) (fun _ => rfl) fun _ => rfl)
      (halfKept_takeLimits ..)
  unfold lampUpdate
  dsimp only
  split
  · exact hlimits.trans (halfKept_judgeLamp ..)
  · exact hlimits

theorem halfKept_wireStep {f : Slice → Slice} (hf : HalfKept (s.slice c) (f (s.slice c))) :
    HalfKept (s.slice c) ((wireStep c f s).slice c) := by
  rw [wireStep_wired]
  exact hf.trans ⟨rfl, rfl, upd_other (f (s.slice c)).flags 10 11 _ (by decide)⟩

/-- The envelope moves the TRIPLO comparator and the window alone (03 R166–R168). -/
theorem envelope_kept (peak : Rat) (ended : Tick) :
    SliceStep c s (envelope c peak ended s) ∧ HalfKept (s.slice c) ((envelope c peak ended s).slice c) := by
  unfold envelope
  dsimp only
  split
  · refine ⟨sliceStep_wireStep .., halfKept_wireStep c s ?_⟩
    rw [contribute_eq]
    exact ⟨rfl, rfl, rfl⟩
  · exact ⟨.refl c s, .refl _⟩

end

/-! ## The end of a half-cycle -/

/-- The usable codes of a half-cycle that ended at a time (03 R141, R142). -/
def usableCodes (h : HalfCycle) (ended : Tick) : List Rat :=
  (h.codes.filter fun x => decide (x.1 ≤ ended) && x.2.2).map fun x => x.2.1

/-- The lamp value of a half-cycle: the RMS of its usable codes, the old one where there is none (03 R141). -/
def halfValue (l : Lamp) (ended : Tick) : Option Rat :=
  if usableCodes l.half ended = [] then l.value
  else some (rmsOf (((usableCodes l.half ended).map fun q => q * q).sum) (usableCodes l.half ended).length)

/-- What the end of a half-cycle leaves: its value, the codes formed after it, and when the next began. -/
theorem endHalfValue_ended (c : Ch) (ended : Tick) (s : State) {y : Slice} (hy : y = (endHalfValue c ended s).slice c) :
    SliceStep c s (endHalfValue c ended s) ∧ y.flags[11] = (s.slice c).flags[11] ∧
    y.lamp.value = halfValue (s.slice c).lamp ended ∧ y.lamp.half = { (s.slice c).lamp.half with
      codes := (s.slice c).lamp.half.codes.filter fun x => decide (ended < x.1), began := some ended } := by
  obtain ⟨u, hu⟩ : ∃ u, u = onLamp c (fun l => { l with
    value := if usableCodes (s.slice c).lamp.half ended = [] then l.value
      else some (rmsOf (((usableCodes (s.slice c).lamp.half ended).map fun q => q * q).sum)
        (usableCodes (s.slice c).lamp.half ended).length)
    half := { l.half with codes := l.half.codes.filter fun x => decide (ended < x.1), began := some ended } }) s := ⟨_, rfl⟩
  have hrun : endHalfValue c ended s = lampUpdate c (decide (usableCodes (s.slice c).lamp.half ended ≠ []))
      (ended - (s.slice c).lamp.half.began.getD ended) ended u := by rw [hu]; rfl
  have hstep : SliceStep c s u := by rw [hu]; exact sliceStep_onLamp ..
  have hslice := congrArg (State.slice · c) hu
  rw [hrun] at hy ⊢
  have hkept := halfKept_lampUpdate c u (decide (usableCodes (s.slice c).lamp.half ended ≠ []))
    (ended - (s.slice c).lamp.half.began.getD ended) ended
  rw [← hy] at hkept
  dsimp only at hslice
  rw [slice_onLamp_same] at hslice
  refine ⟨hstep.trans (sliceStep_lampUpdate ..), hkept.acrange.trans ?_, hkept.value.trans ?_, hkept.half.trans ?_⟩
  · rw [hslice]
  · rw [hslice]; rfl
  · rw [hslice]

/-- A half-cycle that has ended, with its envelope. -/
theorem halfCycle_ended (c : Ch) (peak : Rat) (ended : Tick) (s : State) {w : State}
    (hw : w = envelope c peak ended (endHalfValue c ended s)) : SliceStep c s w ∧
    (w.slice c).flags[11] = (s.slice c).flags[11] ∧ (w.slice c).lamp.value = halfValue (s.slice c).lamp ended ∧
    (w.slice c).lamp.half = { (s.slice c).lamp.half with
      codes := (s.slice c).lamp.half.codes.filter fun x => decide (ended < x.1), began := some ended } := by
  obtain ⟨hstep, hflag, hvalue, hhalf⟩ := endHalfValue_ended c ended s rfl
  obtain ⟨hmore, hkept⟩ := envelope_kept c (endHalfValue c ended s) peak ended
  rw [hw]
  exact ⟨hstep.trans hmore, hkept.acrange.trans hflag, hkept.value.trans hvalue, hkept.half.trans hhalf⟩

/-! ## The tracking of the supply -/

/-- The half-cycle with a crossing tracked (03 R143, R144). -/
def tracked (at_ : Tick) (h : HalfCycle) : HalfCycle :=
  { h with
    crossings := (at_ :: h.crossings).take 4
    halfUs := match measuredHalf ((at_ :: h.crossings).take 4) with
      | some m => if inAcRange m then some m else h.halfUs
      | none => h.halfUs }

/-- Tracking leaves the lamp value; ACRANGE follows a half-period that was measured (03 R144). -/
theorem track_tracked (c : Ch) (at_ : Tick) (s : State) : SliceStep c s (track c at_ s) ∧
    ((track c at_ s).slice c).lamp = { (s.slice c).lamp with half := tracked at_ (s.slice c).lamp.half } ∧
    ∀ m : Rat, measuredHalf ((at_ :: (s.slice c).lamp.half.crossings).take 4) = some m →
      (((track c at_ s).slice c).flags[11]).live = !inAcRange m := by
  have hlamp : ((onLamp c (fun l => { l with half := { l.half with
      crossings := (at_ :: (s.slice c).lamp.half.crossings).take 4
      halfUs := match measuredHalf ((at_ :: (s.slice c).lamp.half.crossings).take 4) with
        | some m => if inAcRange m then some m else l.half.halfUs
        | none => l.half.halfUs } }) s).slice c).lamp =
      { (s.slice c).lamp with half := tracked at_ (s.slice c).lamp.half } := by
    rw [slice_onLamp_same]
    unfold tracked
    cases measuredHalf ((at_ :: (s.slice c).lamp.half.crossings).take 4) <;> rfl
  unfold track
  dsimp only
  split
  · next m hm =>
    rw [hm] at hlamp
    refine ⟨((sliceStep_onLamp ..).trans (sliceStep_onSlice ..)).trans (sliceStep_onChFlag ..), ?_, fun h hh => ?_⟩
    · rw [slice_onChFlag_same, slice_onSlice_same]
      exact hlamp
    · rw [slice_onChFlag_same]
      obtain rfl := Option.some.inj (hm.symm.trans hh)
      exact upd_flag_same _ 11 _
  · next hm =>
    rw [hm] at hlamp
    exact ⟨sliceStep_onLamp .., hlamp, fun h hh => by rw [hm] at hh; exact absurd hh (by simp)⟩

/-! ## The events -/

section
variable {s : State} {c : Ch}

section
variable {peak : Rat} (hac : (s.slice c).ac = true)
include hac

/-- A zero crossing ends a half-cycle (03 R141–R145). -/
theorem zeroCrossing_taken {at_ : Tick} (hruns : lampRuns s c = true) (hnow : at_ ≤ s.now)
    (hafter : (s.slice c).lamp.half.began.getD 0 ≤ at_) :
    zeroCrossing c at_ peak s = envelope c peak at_ (endHalfValue c at_ (track c at_ s)) :=
  if_pos (by simp [hruns, hac, hnow, hafter])

section
variable {t : Tick} (hbegan : (s.slice c).lamp.half.began = some t)
include hbegan

theorem halfCycleTimeout_due (hruns : lampRuns s c = true)
    (hdue : (t : Rat) + (s.slice c).lamp.trackedHalf * 5 / 4 ≤ (s.now : Rat)) : halfCycleTimeout c peak s =
    envelope c peak (t + (roundAway (s.slice c).lamp.trackedHalf).toNat)
      (endHalfValue c (t + (roundAway (s.slice c).lamp.trackedHalf).toNat) s) := by
  unfold halfCycleTimeout
  dsimp only
  rw [hbegan]
  exact if_pos (by simp [hruns, hac, hdue])

omit hac in
theorem halfCycleTimeout_early (hsoon : (s.now : Rat) < (t : Rat) + (s.slice c).lamp.trackedHalf * 5 / 4) :
    halfCycleTimeout c peak s = s := by
  unfold halfCycleTimeout
  dsimp only
  rw [hbegan]
  exact if_neg (by simp [not_le.2 hsoon])

end

end

theorem baselineUpdate_early (h : s.now < (s.slice c).lamp.second.opens + usSec) : baselineUpdate c s = s :=
  if_neg (by simp [Nat.not_le.2 h])

theorem baselineUpdate_due (hruns : lampRuns s c = true) (hchar : (s.sliceCfg c).char = .f)
    (hdue : (s.slice c).lamp.second.opens + usSec ≤ s.now) : baselineUpdate c s = onLamp c (fun l => { l with
      base := learnFrom (s.sliceCfg c) { (s.slice c).lamp.second with
        darkOrDim := (s.slice c).lamp.second.darkOrDim || darkOrDim s c } usSec l.base
      second := { opens := (s.slice c).lamp.second.opens + usSec, darkOrDim := darkOrDim s c } }) s :=
  if_pos (by simp [hruns, hchar, hdue])

end

/-! ## The statement -/

/-- Four crossings give the half-period (03 R143). -/
theorem measuredHalf_four {at_ a b d : Tick} {r cs : List Tick} (hcs : cs = a :: b :: d :: r) :
    measuredHalf ((at_ :: cs).take 4) = some (((at_ : Rat) - (d : Rat)) / 3) := by rw [hcs]; rfl

theorem zeroCrossing_acts {s : State} {c : Ch} {at_ : Tick} {peak : Rat} {l : Lamp} (hruns : lampRuns s c = true)
    (hl : l = (s.slice c).lamp) (hac : (s.slice c).ac = true) (hnow : at_ ≤ s.now) (hafter : l.half.began.getD 0 ≤ at_)
    {w : State} (hw : w = zeroCrossing c at_ peak s) : SliceStep c s w ∧ (w.slice c).lamp.half.began = some at_ ∧
    (w.slice c).lamp.half.codes = (l.half.codes.filter fun x => decide (at_ < x.1)) ∧
    (w.slice c).lamp.half.crossings = (at_ :: l.half.crossings).take 4 ∧ (w.slice c).lamp.value = halfValue l at_ ∧
    (∀ a b d : Tick, ∀ r : List Tick, l.half.crossings = a :: b :: d :: r → ∀ h : Rat, h = ((at_ : Rat) - (d : Rat)) / 3 →
      ((w.slice c).flags[11]).live = !(decide (1250 ≤ h) && decide (h ≤ 31250)) ∧
      (1250 ≤ h → h ≤ 31250 → (w.slice c).lamp.half.halfUs = some h)) := by
  subst hl
  rw [zeroCrossing_taken hac hruns hnow hafter] at hw
  obtain ⟨htrack, hlamp, hshown⟩ := track_tracked c at_ s
  generalize track c at_ s = u at htrack hlamp hshown hw
  obtain ⟨hstep, hflag, hvalue, hhalf⟩ := halfCycle_ended c peak at_ u hw
  rw [hlamp] at hvalue hhalf
  refine ⟨htrack.trans hstep, by rw [hhalf], by rw [hhalf]; rfl, by rw [hhalf]; rfl, hvalue, fun a b d r hcs h hh => ?_⟩
  have hm : measuredHalf ((at_ :: (s.slice c).lamp.half.crossings).take 4) = some h := by rw [hh]; exact measuredHalf_four hcs
  refine ⟨?_, fun hlow hhigh => ?_⟩
  · rw [hflag]; exact hshown h hm
  · rw [hhalf]
    unfold tracked
    rw [hm]
    exact if_pos (by simp [inAcRange, hlow, hhigh])

theorem halfCycleTimeout_acts {s : State} {c : Ch} {t e : Tick} {peak : Rat} {l : Lamp} (hruns : lampRuns s c = true)
    (hl : l = (s.slice c).lamp) (hac : (s.slice c).ac = true) (hbegan : l.half.began = some t)
    (he : e = t + (roundAway l.trackedHalf).toNat) (hdue : (t : Rat) + l.trackedHalf * 5 / 4 ≤ (s.now : Rat))
    {w : State} (hw : w = halfCycleTimeout c peak s) : SliceStep c s w ∧ (w.slice c).lamp.half.began = some e ∧
    (w.slice c).lamp.half.codes = (l.half.codes.filter fun x => decide (e < x.1)) ∧
    (w.slice c).lamp.half.crossings = l.half.crossings ∧ (w.slice c).lamp.value = halfValue l e := by
  subst hl
  rw [halfCycleTimeout_due hac hbegan hruns hdue, ← he] at hw
  obtain ⟨hstep, -, hvalue, hhalf⟩ := halfCycle_ended c peak e s hw
  exact ⟨hstep, by rw [hhalf], by rw [hhalf], by rw [hhalf], hvalue⟩

theorem baselineUpdate_acts {s : State} {c : Ch} {l : Lamp} (hruns : lampRuns s c = true) (hl : l = (s.slice c).lamp)
    (hchar : (s.sliceCfg c).char = .f) (hdue : l.second.opens + usSec ≤ s.now) {w : State} (hw : w = baselineUpdate c s) :
    SliceStep c s w ∧ (w.slice c).lamp.second.opens = l.second.opens + usSec ∧ (w.slice c).lamp.second.usable = 0 ∧
    ((s.sliceCfg c).learn ≠ .on ∨ l.second.usable = 0 ∨ darkOrDim s c = true → (w.slice c).lamp.base = l.base) ∧
    ((s.sliceCfg c).learn = .on → 0 < l.second.usable → l.second.darkOrDim = false → darkOrDim s c = false →
      2 * l.second.badCodes ≤ l.second.codes → l.base ≠ 0 → (w.slice c).lamp.base =
        l.base + (l.second.sum / (l.second.usable : Rat) - l.base) / 3600) := by
  subst hl
  rw [baselineUpdate_due hruns hchar hdue] at hw
  have hstep : SliceStep c s w := by rw [hw]; exact sliceStep_onLamp ..
  have hslice := congrArg (State.slice · c) hw
  dsimp only at hslice
  rw [slice_onLamp_same] at hslice
  rw [hslice]
  refine ⟨hstep, rfl, rfl, fun h => learnFrom_unlearnt ?_, fun hon husable hclear hnow hgood hbase => ?_⟩
  · rcases h with h | h | h
    · exact .inl h
    · exact .inr (.inl h)
    · exact .inr (.inr (.inr (.inl h)))
  · refine (learnFrom_learnt hon husable hclear hnow hgood).trans ((if_neg hbase).trans ?_)
    have hsecond : ((usSec : Nat) : Rat) / 1000000 = 1 := by norm_num [usSec]
    rw [hsecond, mul_one]

/-- What the windows and clocks of a lamp with a flashing character do. -/
theorem windows_act {s : State} {c : Ch} {x : Slice} {cfg : ChCfg} (hruns : flashRuns s c = true) (hx : x = s.slice c)
    (hcfg : cfg = s.sliceCfg c) {o : OnWindow} (ho : x.lamp.onWin = some o) (hdue : o.closes ≤ s.now) :
    DoesSo (.expectedOnWindowClose c) s fun w => SliceStep c s w ∧ (w.slice c).lamp.onWin = none ∧
      (0 < o.usable → o.darkHeld = true → (s.sliceCondCfg c .dark).en = true → (w.cond c .dark).raw = false) ∧
      (0 < o.usable → o.dimHeld = true → (s.sliceCondCfg c .dim).en = true → (w.cond c .dim).raw = false) ∧
      (cfg.learn ≠ .on ∨ o.usable = 0 ∨ o.darkOrDim = true ∨ darkOrDim s c = true ∨ o.codes < 2 * o.badCodes →
        (w.slice c).lamp.base = x.lamp.base) ∧
      (cfg.learn = .on → 0 < o.usable → o.darkOrDim = false → darkOrDim s c = false → 2 * o.badCodes ≤ o.codes →
        (w.slice c).lamp.base = if x.lamp.base = 0 then o.sum / (o.usable : Rat) else x.lamp.base +
          (o.sum / (o.usable : Rat) - x.lamp.base) * (((o.closes - o.opens : Nat) : Rat) / 1000000) / 3600) := by
  subst hx hcfg
  obtain ⟨hstep, hnone, hdark, hdim, hbase⟩ := expectedOnWindowClose_due ho hruns hdue
  refine doesSo_of rfl ⟨hstep, hnone, hdark, hdim, fun h => hbase.trans (learnFrom_unlearnt h),
    fun hon husable hclear hnow hgood => hbase.trans (learnFrom_learnt hon husable hclear hnow hgood)⟩

/-- Settles O46: the windows and clocks of a flashing lamp, then the half-cycles of an AC lamp and the second of a steady one. -/
theorem windowsProveLamps : Obligations.WindowsProveLamps := by
  unfold Obligations.WindowsProveLamps
  refine ⟨fun s c x cfg hruns hx hcfg => ⟨fun q hlock hopen hdue => ?_, fun q hearly => ?_, fun o ho => ⟨fun hdue => ?_, fun hearly => ?_⟩,
    fun a b hspan hlock hdue => ?_, fun o ho => ⟨fun hdue => ?_, fun hearly => ?_, fun t hlit => ⟨fun hfresh hdue hen => ?_,
      fun hearly => ?_⟩⟩, fun hfresh hlock => ?_, fun hpassed => ?_⟩,
    fun s c l us hruns hl hus => ⟨fun at_ peak hac hnow hafter => ?_, fun t e peak hac hbegan he => ⟨fun hdue => ?_, fun hearly => ?_⟩,
      fun hchar hdue => ?_, fun hearly => ?_⟩⟩
  · subst hx hcfg
    obtain ⟨hstep, hkept, hwin⟩ := expectedOnWindowOpen_due (q := q) hruns hlock hopen hdue
    exact doesSo_of rfl ⟨hstep, hkept, _, hwin, rfl, rfl, rfl, rfl⟩
  · subst hx hcfg
    exact does_of (congrArg finish (expectedOnWindowOpen_early hearly))
  · exact windows_act hruns hx hcfg ho hdue
  · subst hx
    exact does_of (congrArg finish (expectedOnWindowClose_early ho hearly))
  · subst hx
    exact does_of (congrArg finish (expectedOffWindowOpen_due hruns hspan hlock hdue))
  · subst hx
    exact doesSo_of rfl (expectedOffWindowClose_due ho hruns hdue)
  · subst hx
    exact does_of (congrArg finish (expectedOffWindowClose_early ho hearly))
  · subst hx
    exact doesSo_of (congrArg finish (stuckOnlateExpiry_due ho hlit hruns hfresh hdue)) ⟨sliceStep_setRaw .., setRaw_raw hen⟩
  · subst hx
    exact does_of (congrArg finish (stuckOnlateExpiry_early ho hlit hearly))
  · subst hx hcfg
    exact doesSo_of rfl (twoPeriodExpiry_due hruns hfresh hlock rfl rfl)
  · subst hx
    exact does_of (congrArg finish (twoPeriodExpiry_passed hpassed))
  · subst hus
    exact doesSo_of rfl (zeroCrossing_acts hruns hl hac hnow hafter rfl)
  · subst hus
    exact doesSo_of rfl (halfCycleTimeout_acts hruns hl hac hbegan he hdue rfl)
  · subst hl
    exact does_of (congrArg finish (halfCycleTimeout_early hbegan hearly))
  · exact doesSo_of rfl (baselineUpdate_acts hruns hl hchar hdue rfl)
  · subst hl
    exact does_of (congrArg finish (baselineUpdate_early hearly))

end Sys2Proof.Machine
